-- ==== Sys2Proof/Word.lean ====
section
/-! DEFINITION. The word types, sparse maps in one canonical form, and the plainest arithmetic on them. -/

namespace Sys2Proof

/-- Every register of the device is 64 bits wide (R571). -/
abbrev Word := BitVec 64
/-- One byte of a memory. -/
abbrev Byte := BitVec 8
/-- A completion status: a 16-bit word (R10). -/
abbrev Status := BitVec 16

/-- A sparse map: pairs in strictly rising key order. What an unlisted key reads as is given by a default
function at every use, and no listed pair equals that default, so equal maps are equal lists. -/
abbrev Map (α : Type) := List (Nat × α)

namespace Map

variable {α : Type}

/-- The value at a key: the listed one, or the default's. -/
def get (d : Nat → α) : Map α → Nat → α
  | [], k => d k
  | (j, v) :: m, k => if j = k then v else get d m k

/-- Insert or replace in key order, keeping every other pair. -/
def put : Map α → Nat → α → Map α
  | [], k, v => [(k, v)]
  | (j, w) :: m, k, v =>
    if k < j then (k, v) :: (j, w) :: m
    else if k = j then (k, v) :: m
    else (j, w) :: put m k v

/-- Remove a key. -/
def erase : Map α → Nat → Map α
  | [], _ => []
  | (j, w) :: m, k => if j = k then m else (j, w) :: erase m k

/-- Write a key in canonical form: writing what an unlisted key reads as removes the pair. -/
def set [DecidableEq α] (d : Nat → α) (m : Map α) (k : Nat) (v : α) : Map α :=
  if v = d k then erase m k else put m k v

/-- Every key is above `b` and keys rise strictly. -/
def rising : Nat → Map α → Bool
  | _, [] => true
  | b, (j, _) :: m => decide (b ≤ j) && rising (j + 1) m

/-- The canonical form: keys rise strictly and no pair equals the default. -/
def wf [DecidableEq α] (d : Nat → α) (m : Map α) : Bool :=
  rising 0 m && m.all (fun p => decide (p.2 ≠ d p.1))

/-- Apply a function to the value at one key. -/
def mod [DecidableEq α] (d : Nat → α) (m : Map α) (k : Nat) (f : α → α) : Map α :=
  set d m k (f (get d m k))

end Map

/-- Bits [hi:lo] of a word, as a number (R3). -/
def fld (w : Word) (hi lo : Nat) : Nat := (w.toNat >>> lo) % 2 ^ (hi + 1 - lo)

/-- Bit i of a word. -/
def bit (w : Word) (i : Nat) : Bool := w.getLsbD i

/-- A word whose bits [hi:lo] hold `v` and whose other bits are zero. -/
def place (hi lo v : Nat) : Word := BitVec.ofNat 64 ((v % 2 ^ (hi + 1 - lo)) <<< lo)

/-- Replace bits [hi:lo] of a word. -/
def setFld (w : Word) (hi lo v : Nat) : Word :=
  (w &&& ~~~(place hi lo (2 ^ 64 - 1))) ||| place hi lo v

/-- 1 for true, 0 for false. -/
def b2n (b : Bool) : Nat := if b then 1 else 0

/-- Ceiling of a quotient. -/
def cdiv (a b : Nat) : Nat := (a + b - 1) / b

/-- Addition that stops at a largest value. -/
def satAdd (top a b : Nat) : Nat := min top (a + b)

/-- A number read from bytes, least significant first (R3). -/
def leNat : List Byte → Nat
  | [] => 0
  | b :: bs => b.toNat + 256 * leNat bs

/-- The `n` low bytes of a number, least significant first (R3). -/
def leBytes : Nat → Nat → List Byte
  | 0, _ => []
  | n + 1, v => BitVec.ofNat 8 v :: leBytes n (v / 256)

/-- A two's-complement reading of the `n` low bits of a number. -/
def toSigned (n v : Nat) : Int :=
  if n = 0 then 0 else if (v % 2 ^ n) < 2 ^ (n - 1) then ((v % 2 ^ n : Nat) : Int) else ((v % 2 ^ n : Nat) : Int) - 2 ^ n

/-- The `n`-bit two's-complement code of an integer. -/
def ofSigned (n : Nat) (i : Int) : Nat := (i % (2 ^ n : Int)).toNat

/-- Bits [hi:lo] of a number. -/
def bits (v hi lo : Nat) : Nat := (v >>> lo) % 2 ^ (hi + 1 - lo)

/-- Replace the element of a list at an index; an index past the end changes nothing. -/
def listSet {α : Type} (l : List α) (i : Nat) (v : α) : List α := l.set i v

/-- Apply a function at one index of a list. -/
def listMod {α : Type} : List α → Nat → (α → α) → List α
  | [], _, _ => []
  | a :: l, 0, f => f a :: l
  | a :: l, i + 1, f => a :: listMod l i f

end Sys2Proof
end

