-- ==== Sys2Proof/Syntax.lean ====
section
/-! DEFINITION. The commands the block takes from outside: one constructor for each row of the spec's table of
operations and events, and the types of their operands. The table gives no operands; each command carries what its
rule needs and the state cannot supply. -/

namespace Sys2Proof

/-- The privilege of a requester (R84, R327). -/
inductive Priv where
  | task | kernel | tack
  deriving DecidableEq, Repr

/-- What a SECDED or ECC check found (R41, R290). -/
inductive Ecc where
  | clean | corrected | uncorrectable
  deriving DecidableEq, Repr

/-- What a router input found in a flit (R41, R50). -/
inductive Flit where
  | ok | ce | ue | ctrlParity
  deriving DecidableEq, Repr

/-- Format R of R77. -/
structure FmtR where
  (rd ra rb rc : BitVec 5)
  deriving DecidableEq, Repr

/-- Format I of R77. -/
structure FmtI where
  (rd ra : BitVec 5)
  imm : BitVec 16
  deriving DecidableEq, Repr

/-- Format S of R77. -/
structure FmtS where
  (rs ra : BitVec 5)
  imm : BitVec 16
  deriving DecidableEq, Repr

/-- Format B of R77. -/
structure FmtB where
  (ra rb : BitVec 5)
  off : BitVec 16
  deriving DecidableEq, Repr

/-- Format J of R77. -/
structure FmtJ where
  rd : BitVec 5
  off : BitVec 21
  deriving DecidableEq, Repr

/-- Format V of R77. -/
structure FmtV where
  (vd va vb : BitVec 5)
  pg : BitVec 3
  ew : BitVec 2
  deriving DecidableEq, Repr

/-- Format VM of R77. -/
structure FmtVM where
  (vd xa : BitVec 5)
  pg : BitVec 3
  ew : BitVec 2
  imm : BitVec 11
  deriving DecidableEq, Repr

/-- Format VMX of R77, with the six bits that must be zero. -/
structure FmtVMX where
  (vd xa xb : BitVec 5)
  pg : BitVec 3
  ew : BitVec 2
  top : BitVec 6
  deriving DecidableEq, Repr

/-- A memory module as its SPD declares it (R26, R284). -/
structure Dimm where
  /-- Base-2 logarithm of the capacity in bytes: 36, 37 or 38. -/
  capLog2 : Nat
  /-- True for a 12,800 MT/s module, false for 17,600 MT/s. -/
  slow : Bool
  /-- Inside the subset of R284. -/
  supported : Bool
  deriving DecidableEq, Repr

/-- What the comparison of a leaving array row found (R202 to R204). -/
inductive ArrFault where
  | none
  | residue
  | parity (col : Nat)
  | tileUe (bank entry : Nat)
  deriving DecidableEq, Repr

/-- One lane's figures for a 1 ms window (R323). -/
structure LaneSample where
  symerr : Nat
  eye : Nat
  lock : Bool
  deriving DecidableEq, Repr

/-- The result a barrier release carries (R362, R364). -/
structure XResult where
  (vand vor : BitVec 32)
  (nmiss low : Nat)
  status : Status
  deriving DecidableEq, Repr

/-- What a link packet carries besides the header fields of R327. -/
inductive PBody where
  | mem
  /-- Type 0x30 (R360). -/
  | arrival (slot rank : Nat) (key : Word) (vote : BitVec 32)
  /-- Type 0x31 (R362). -/
  | release (slot : Nat) (key : Word) (res : XResult)
  /-- Types 0x20 to 0x22 (R385). -/
  | comb (rid epoch block : Nat) (half : Bool) (dchk spdev : Nat) (spnan spinf bad : Bool)
  deriving DecidableEq, Repr

/-- A link packet (R327). -/
structure Packet where
  typ : Nat
  vc1 : Bool := false
  priv : Priv := .task
  hops : Nat := 0
  dst : Nat
  src : Nat
  len : Nat := 0
  addr : Nat := 0
  group : Nat := 0
  xfer : Nat := 0
  pkt : Nat := 0
  trk : Bool := false
  last : Bool := false
  tag : Nat := 0
  gen : Nat := 0
  status : Status := 0
  amop : Nat := 0
  sigaddr : Nat := 0
  sigval : Word := 0
  data : List Byte := []
  body : PBody := .mem
  deriving DecidableEq, Repr

/-- A link-control packet (R328, R329, R324). -/
inductive LctlMsg where
  | credits (req0 req1 rsp0 rsp1 : Nat)
  | ackLseq (n : Nat)
  | replay (n : Nat)
  | laneMap (lane : Nat)
  deriving DecidableEq, Repr

/-- What a received Ethernet frame holds (R479). -/
inductive FrameKind where
  | arp | neighbour | echo | icmpOther | halter | roce | tcp | other
  deriving DecidableEq, Repr

/-- A received Ethernet frame, as far as R479 to R481 classify it. -/
structure EthFrame where
  bytes : Nat
  /-- Number of 802.1Q tags. -/
  tags : Nat
  vid : Nat
  prio : Nat
  /-- Addressed to a management MAC. -/
  mgmt : Bool
  /-- IP options, extension headers or fragments present. -/
  ipExtra : Bool
  kind : FrameKind
  /-- Bytes of the receive buffer that RoCE frames fill once this frame is in. -/
  roceFill : Nat
  deriving DecidableEq, Repr

/-- A halter packet: the whole UDP payload, and the address it came to. -/
structure HalterPkt where
  bytes : List Byte
  /-- Destination is a management address (R485). -/
  mgmt : Bool
  /-- Source address and port, to which the reply goes (R482). -/
  src : Nat
  deriving DecidableEq, Repr

/-- What a bring-up step found (R508). -/
structure BootInfo where
  /-- Step 1: link at or above 370 V for 100 ms, rails, reference and PLLs good. -/
  railsOk : Bool := true
  /-- Step 2: the PUF seed reconstructs (R553). -/
  pufOk : Bool := true
  /-- Step 2: the standby tack room started. -/
  standbyOk : Bool := true
  /-- Step 3: every die is present and of its type. -/
  diesOk : Bool := true
  /-- Step 4: stalls that failed self-test. -/
  badStalls : List Nat := []
  /-- Step 4: stalls that pass with columns or rows bypassed, each with its STALL_ARR_MAP (R173). -/
  arrMaps : List (Nat × Word) := []
  /-- Step 4: stalls that pass with a bank in the repair bank, each with that bank (R163). -/
  tileBanks : List (Nat × Nat) := []
  /-- Step 4: nodes whose router is dead (R51). -/
  deadNodes : List Nat := []
  /-- Step 5: bays whose module failed training. -/
  badBays : List Nat := []
  /-- Milliseconds the step took. -/
  ms : Nat := 0
  deriving DecidableEq, Repr

/-- A failure that a checkpoint drain meets at one of its 64 KiB units: a read error, or a program failure on a loft channel
(R457). -/
structure DrainFail where
  unit : Nat
  chan : Option Nat := none
  deriving DecidableEq, Repr

/-- A unit that changes power state (R526). -/
inductive PwrUnit where
  | stall (ps : Nat)
  | yard (y : Nat)
  | device
  deriving DecidableEq, Repr

/-- A wake cause (R530). -/
inductive WakeCause where
  | doorbell | interrupt | post | access | remote | halter
  deriving DecidableEq, Repr

/-- An ageing monitor and its unit (R547). -/
inductive Monitor where
  | ring (yard : Nat)
  | eye (port lane : Nat)
  | hostEye (port : Nat)
  | dram (ch : Nat)
  | nand (ch : Nat)
  | cap
  deriving DecidableEq, Repr

/-- Where a control-state parity error was found (R537, R50). -/
inductive ParitySite where
  | queue (ps q : Nat)
  | slot (ps slot : Nat)
  | shed (n : Nat) (reqs : List Nat)
  | gate (n : Nat) (tags : List Nat)
  | comb (n : Nat) (rids : List Nat)
  | router (node : Nat)
  deriving DecidableEq, Repr

/-- The commands: one constructor for each row of the table of operations and events. -/
inductive Instr where
  /-- COOLANT_SAMPLE (R20): Every 1 ms the tack room samples supply and return temperature, flow and leak sensor, and applies the coolant table. -/
  | coolantSample (supply ret : Int) (flow : Nat) (wet : Bool)
  /-- COOL_STOP (R20): A stop condition held for its full time runs the stop sequence and leaves the package unpowered. -/
  | coolStop
  /-- COOL_CAP_LIFT (R21): A cap is lifted once its condition has been absent for 10 s without interruption. -/
  | coolCapLift
  /-- DIMM_SUPPLY_REMOVE (R23): The power stage removes the DIMM supply when a module passes 95 C or 600 s in self-refresh pass. -/
  | dimmSupplyRemove (over95 : Bool)
  /-- LATCH_OPEN (R30): A bay latch opening sets the bay EMPTY if it was released, and otherwise removes its supply, sets FAILED and reports BAY_LOCK_FAULT. -/
  | latchOpen (bay : Nat)
  /-- LATCH_CLOSE (R31): A bay latch closing starts ADMITTING, or reports DIMM_NOT_PRESENT, DIMM_SPEED or DIMM_CAPACITY. -/
  | latchClose (bay : Nat) (dimm : Option Dimm)
  /-- ADMIT_DONE (R31): ADMITTING ends with the bay in SPARE, or in EMPTY with DIMM_TRAIN_FAIL. -/
  | admitDone (bay : Nat) (ok : Bool)
  /-- MIG_UNIT_COPY (R295): The migration copies one 4 KiB unit as raw codewords and advances the copy pointer. -/
  | migUnitCopy (shed : Nat)
  /-- MIGRATION_DONE (R295): When the pointer reaches Cc, the shed remaps the logical channel to the destination, which becomes ACTIVE, and the source becomes RELEASED. -/
  | migrationDone (shed : Nat)
  /-- NET_INJECT (R53): A request is injected, is looked up in the detour entries, and is routed direct, through a VIA node, or refused. -/
  | netInject (req : Nat)
  /-- NET_HOP (R41): A packet arrives at a router input, is SECDED-checked and is forwarded under wormhole and credit rules. -/
  | netHop (req : Nat) (flit : Flit)
  /-- NET_DELIVER (R50): A packet reaches its destination port and is delivered, or is refused with NET_DEST_FENCED or discarded. -/
  | netDeliver (req : Nat)
  /-- NET_BAD_TAIL (R49): An injection with no new flit for 64 NCLK is ended with a bad tail, and NET_ERR.BAD_TAIL is set. -/
  | netBadTail (req : Nat)
  /-- NET_KEEPALIVE (R51): An idle link sends a keep-alive flit every 512 NCLK. -/
  | netKeepalive (node dir : Nat)
  /-- NET_LINK_TIMEOUT (R51): A receiver that sees no flit for 4,096 NCLK sets NET_ERR.LINK_TIMEOUT and reports the router. -/
  | netLinkTimeout (node dir : Nat)
  /-- ROUTER_MARK_DEAD (R51): The tack room marks a reported router dead and sets PORT_OFF in its neighbours, or reports NET_DEAD_LIMIT. -/
  | routerMarkDead (node : Nat)
  /-- DETOUR_INSTALL (R52): The tack room installs detour entries in every router and triggers the sweep. -/
  | detourInstall
  /-- NET_SWEEP (R52): A write of NET_NODE_CTL.SWEEP completes outstanding requests that cross the dead node with NET_NODE_DEAD. -/
  | netSweep (priv : Priv) (gi : Nat) (v : Word)
  /-- NET_FENCE (R49): A write of NET_NODE_CTL.FENCE requests that the node's groom port and stall-port share close. -/
  | netFence (priv : Priv) (gi : Nat) (v : Word)
  /-- NET_FENCE_BOUNDARY (R49): The fence takes effect at the next packet boundary, and FENCED is set. -/
  | netFenceBoundary (gi : Nat)
  /-- NET_ERR_CNT_READ (R56): A read of NET_ERR_CNT returns the corrected flit error count and clears it. -/
  | netErrCntRead (priv : Priv) (gi : Nat)
  /-- ADD (R79): Scalar add. -/
  | add (gi : Nat) (f : FmtR)
  /-- SUB (R79): Scalar subtract. -/
  | sub (gi : Nat) (f : FmtR)
  /-- AND (R79): Scalar bitwise AND. -/
  | and (gi : Nat) (f : FmtR)
  /-- OR (R79): Scalar bitwise OR. -/
  | or (gi : Nat) (f : FmtR)
  /-- XOR (R79): Scalar bitwise XOR. -/
  | xor (gi : Nat) (f : FmtR)
  /-- SLL (R79): Scalar shift left logical. -/
  | sll (gi : Nat) (f : FmtR)
  /-- SRL (R79): Scalar shift right logical. -/
  | srl (gi : Nat) (f : FmtR)
  /-- SRA (R79): Scalar shift right arithmetic. -/
  | sra (gi : Nat) (f : FmtR)
  /-- SLT (R79): Signed set-less-than. -/
  | slt (gi : Nat) (f : FmtR)
  /-- SLTU (R79): Unsigned set-less-than. -/
  | sltu (gi : Nat) (f : FmtR)
  /-- MIN (R79): Signed minimum. -/
  | min (gi : Nat) (f : FmtR)
  /-- MAX (R79): Signed maximum. -/
  | max (gi : Nat) (f : FmtR)
  /-- MINU (R79): Unsigned minimum. -/
  | minu (gi : Nat) (f : FmtR)
  /-- MAXU (R79): Unsigned maximum. -/
  | maxu (gi : Nat) (f : FmtR)
  /-- CLZ (R79): Count leading zeros. -/
  | clz (gi : Nat) (f : FmtR)
  /-- POPC (R79): Count set bits. -/
  | popc (gi : Nat) (f : FmtR)
  /-- MUL (R79): Low 64 bits of a product. -/
  | mul (gi : Nat) (f : FmtR)
  /-- MULH (R79): High 64 bits of a signed product. -/
  | mulh (gi : Nat) (f : FmtR)
  /-- MULHU (R79): High 64 bits of an unsigned product. -/
  | mulhu (gi : Nat) (f : FmtR)
  /-- DIV (R79): Signed truncating divide, without a trap. -/
  | div (gi : Nat) (f : FmtR)
  /-- DIVU (R79): Unsigned divide. -/
  | divu (gi : Nat) (f : FmtR)
  /-- REM (R79): Signed remainder. -/
  | rem (gi : Nat) (f : FmtR)
  /-- REMU (R79): Unsigned remainder. -/
  | remu (gi : Nat) (f : FmtR)
  /-- ADDI (R79): Add immediate. -/
  | addi (gi : Nat) (f : FmtI)
  /-- ANDI (R79): AND immediate. -/
  | andi (gi : Nat) (f : FmtI)
  /-- ORI (R79): OR immediate. -/
  | ori (gi : Nat) (f : FmtI)
  /-- XORI (R79): XOR immediate. -/
  | xori (gi : Nat) (f : FmtI)
  /-- SHIFTI (R79): Immediate shift, SLL, SRL or SRA by field. -/
  | shifti (gi : Nat) (f : FmtI)
  /-- LUI (R79): Load upper immediate. -/
  | lui (gi : Nat) (f : FmtI)
  /-- SHORI (R79): Shift the register left by 16 and OR an immediate. -/
  | shori (gi : Nat) (f : FmtI)
  /-- LDB (R72): Sign-extended 1-byte load. -/
  | ldb (gi : Nat) (f : FmtI)
  /-- LDH (R72): Sign-extended 2-byte load. -/
  | ldh (gi : Nat) (f : FmtI)
  /-- LDW (R72): Sign-extended 4-byte load. -/
  | ldw (gi : Nat) (f : FmtI)
  /-- LDD (R72): 8-byte load. -/
  | ldd (gi : Nat) (f : FmtI)
  /-- LDBU (R72): Zero-extended 1-byte load. -/
  | ldbu (gi : Nat) (f : FmtI)
  /-- LDHU (R72): Zero-extended 2-byte load. -/
  | ldhu (gi : Nat) (f : FmtI)
  /-- LDWU (R72): Zero-extended 4-byte load. -/
  | ldwu (gi : Nat) (f : FmtI)
  /-- STB (R73): 1-byte store. -/
  | stb (gi : Nat) (f : FmtS)
  /-- STH (R73): 2-byte store. -/
  | sth (gi : Nat) (f : FmtS)
  /-- STW (R73): 4-byte store. -/
  | stw (gi : Nat) (f : FmtS)
  /-- STD (R73): 8-byte store. -/
  | std (gi : Nat) (f : FmtS)
  /-- AMOADD_W (R75): 32-bit atomic add at the endpoint. -/
  | amoaddW (gi : Nat) (f : FmtR)
  /-- AMOADD_D (R75): 64-bit atomic add at the endpoint. -/
  | amoaddD (gi : Nat) (f : FmtR)
  /-- AMOSWAP_W (R75): 32-bit atomic swap. -/
  | amoswapW (gi : Nat) (f : FmtR)
  /-- AMOSWAP_D (R75): 64-bit atomic swap. -/
  | amoswapD (gi : Nat) (f : FmtR)
  /-- AMOCAS_W (R75): 32-bit atomic compare and swap. -/
  | amocasW (gi : Nat) (f : FmtR)
  /-- AMOCAS_D (R75): 64-bit atomic compare and swap. -/
  | amocasD (gi : Nat) (f : FmtR)
  /-- BEQ (R79): Branch if equal. -/
  | beq (gi : Nat) (f : FmtB)
  /-- BNE (R79): Branch if not equal. -/
  | bne (gi : Nat) (f : FmtB)
  /-- BLT (R79): Branch if less, signed. -/
  | blt (gi : Nat) (f : FmtB)
  /-- BGE (R79): Branch if greater or equal, signed. -/
  | bge (gi : Nat) (f : FmtB)
  /-- BLTU (R79): Branch if less, unsigned. -/
  | bltu (gi : Nat) (f : FmtB)
  /-- BGEU (R79): Branch if greater or equal, unsigned. -/
  | bgeu (gi : Nat) (f : FmtB)
  /-- JAL (R79): Jump and link. -/
  | jal (gi : Nat) (f : FmtJ)
  /-- JALR (R79): Jump and link to a register target. -/
  | jalr (gi : Nat) (f : FmtI)
  /-- VADD (R79): Vector integer add. -/
  | vadd (gi : Nat) (f : FmtV)
  /-- VSUB (R79): Vector integer subtract. -/
  | vsub (gi : Nat) (f : FmtV)
  /-- VMUL (R79): Vector integer multiply. -/
  | vmul (gi : Nat) (f : FmtV)
  /-- VMULH (R79): Vector signed multiply, high half. -/
  | vmulh (gi : Nat) (f : FmtV)
  /-- VMULHU (R79): Vector unsigned multiply, high half. -/
  | vmulhu (gi : Nat) (f : FmtV)
  /-- VMIN (R79): Vector signed minimum. -/
  | vmin (gi : Nat) (f : FmtV)
  /-- VMAX (R79): Vector signed maximum. -/
  | vmax (gi : Nat) (f : FmtV)
  /-- VMINU (R79): Vector unsigned minimum. -/
  | vminu (gi : Nat) (f : FmtV)
  /-- VMAXU (R79): Vector unsigned maximum. -/
  | vmaxu (gi : Nat) (f : FmtV)
  /-- VAND (R79): Vector bitwise AND. -/
  | vand (gi : Nat) (f : FmtV)
  /-- VOR (R79): Vector bitwise OR. -/
  | vor (gi : Nat) (f : FmtV)
  /-- VXOR (R79): Vector bitwise XOR. -/
  | vxor (gi : Nat) (f : FmtV)
  /-- VSLL (R79): Vector shift left logical. -/
  | vsll (gi : Nat) (f : FmtV)
  /-- VSRL (R79): Vector shift right logical. -/
  | vsrl (gi : Nat) (f : FmtV)
  /-- VSRA (R79): Vector shift right arithmetic. -/
  | vsra (gi : Nat) (f : FmtV)
  /-- VSADD (R79): Vector saturating signed add. -/
  | vsadd (gi : Nat) (f : FmtV)
  /-- VSADDU (R79): Vector saturating unsigned add. -/
  | vsaddu (gi : Nat) (f : FmtV)
  /-- VSEL (R79): Vector select by predicate. -/
  | vsel (gi : Nat) (f : FmtV)
  /-- VMAC (R79): Vector integer multiply-accumulate. -/
  | vmac (gi : Nat) (f : FmtV)
  /-- VFADD (R79): Vector float add. -/
  | vfadd (gi : Nat) (f : FmtV)
  /-- VFSUB (R79): Vector float subtract. -/
  | vfsub (gi : Nat) (f : FmtV)
  /-- VFMUL (R79): Vector float multiply. -/
  | vfmul (gi : Nat) (f : FmtV)
  /-- VFMA (R79): Vector fused multiply-add. -/
  | vfma (gi : Nat) (f : FmtV)
  /-- VFNMA (R79): Vector fused negative multiply-add. -/
  | vfnma (gi : Nat) (f : FmtV)
  /-- VFMAWL (R79): Widening FMA into FP32 over the lower source lanes. -/
  | vfmawl (gi : Nat) (f : FmtV)
  /-- VFMAWH (R79): Widening FMA into FP32 over the upper source lanes. -/
  | vfmawh (gi : Nat) (f : FmtV)
  /-- VFDIV (R79): Vector correctly rounded divide. -/
  | vfdiv (gi : Nat) (f : FmtV)
  /-- VFSQRT (R79): Vector correctly rounded square root. -/
  | vfsqrt (gi : Nat) (f : FmtV)
  /-- VFMIN (R79): Vector float minimum. -/
  | vfmin (gi : Nat) (f : FmtV)
  /-- VFMAX (R79): Vector float maximum. -/
  | vfmax (gi : Nat) (f : FmtV)
  /-- VFABS (R79): Vector float absolute value. -/
  | vfabs (gi : Nat) (f : FmtV)
  /-- VFNEG (R79): Vector float negate. -/
  | vfneg (gi : Nat) (f : FmtV)
  /-- VFRCPE (R79): Reciprocal estimate. -/
  | vfrcpe (gi : Nat) (f : FmtV)
  /-- VFRSQE (R79): Reciprocal square root estimate. -/
  | vfrsqe (gi : Nat) (f : FmtV)
  /-- VFEXP2 (R79): Power-of-two estimate. -/
  | vfexp2 (gi : Nat) (f : FmtV)
  /-- VFLOG2 (R79): Base-2 logarithm estimate. -/
  | vflog2 (gi : Nat) (f : FmtV)
  /-- VCVT (R80): Vector format conversion. -/
  | vcvt (gi : Nat) (f : FmtV)
  /-- VCVTH (R80): Vector conversion from the upper half of the source. -/
  | vcvth (gi : Nat) (f : FmtV)
  /-- VFCMPEQ (R79): Float compare equal into a predicate. -/
  | vfcmpeq (gi : Nat) (f : FmtV)
  /-- VFCMPLT (R79): Float compare less-than into a predicate. -/
  | vfcmplt (gi : Nat) (f : FmtV)
  /-- VFCMPLE (R79): Float compare less-or-equal into a predicate. -/
  | vfcmple (gi : Nat) (f : FmtV)
  /-- VFCMPUN (R79): Float compare unordered into a predicate. -/
  | vfcmpun (gi : Nat) (f : FmtV)
  /-- VLD (R79): 64-byte vector load. -/
  | vld (gi : Nat) (f : FmtVM)
  /-- VST (R79): 64-byte vector store. -/
  | vst (gi : Nat) (f : FmtVM)
  /-- VLDS (R79): Strided vector load. -/
  | vlds (gi : Nat) (f : FmtVMX)
  /-- VSTS (R79): Strided vector store. -/
  | vsts (gi : Nat) (f : FmtVMX)
  /-- VGTH (R72): Vector gather load. -/
  | vgth (gi : Nat) (f : FmtVMX)
  /-- VSCT (R73): Vector scatter store, in ascending lane order. -/
  | vsct (gi : Nat) (f : FmtVMX)
  /-- VCMPEQ (R79): Integer compare equal into a predicate. -/
  | vcmpeq (gi : Nat) (f : FmtV)
  /-- VCMPLT (R79): Integer signed less-than into a predicate. -/
  | vcmplt (gi : Nat) (f : FmtV)
  /-- VCMPLTU (R79): Integer unsigned less-than into a predicate. -/
  | vcmpltu (gi : Nat) (f : FmtV)
  /-- VCMPLE (R79): Integer less-or-equal into a predicate. -/
  | vcmple (gi : Nat) (f : FmtV)
  /-- PAND (R79): Predicate AND. -/
  | pand (gi : Nat) (f : FmtV)
  /-- POR (R79): Predicate OR. -/
  | por (gi : Nat) (f : FmtV)
  /-- PXOR (R79): Predicate XOR. -/
  | pxor (gi : Nat) (f : FmtV)
  /-- PANDN (R79): Predicate AND-NOT. -/
  | pandn (gi : Nat) (f : FmtV)
  /-- PFROMX (R79): Move a scalar register to a predicate. -/
  | pfromx (gi : Nat) (f : FmtV)
  /-- PTOX (R79): Move a predicate to a scalar register. -/
  | ptox (gi : Nat) (f : FmtV)
  /-- PCNT (R79): Count the active elements of a predicate. -/
  | pcnt (gi : Nat) (f : FmtV)
  /-- PSETN (R79): Set the first n elements of a predicate active. -/
  | psetn (gi : Nat) (f : FmtV)
  /-- VBCAST (R79): Broadcast a scalar to the active lanes. -/
  | vbcast (gi : Nat) (f : FmtV)
  /-- VEXT (R79): Extract a lane to a scalar. -/
  | vext (gi : Nat) (f : FmtV)
  /-- VINS (R79): Insert a scalar into a lane. -/
  | vins (gi : Nat) (f : FmtV)
  /-- VPERM (R79): Vector permute. -/
  | vperm (gi : Nat) (f : FmtV)
  /-- VSLIDEUP (R79): Slide lanes up. -/
  | vslideup (gi : Nat) (f : FmtV)
  /-- VSLIDEDN (R79): Slide lanes down. -/
  | vslidedn (gi : Nat) (f : FmtV)
  /-- VREDADD (R79): Integer add reduction. -/
  | vredadd (gi : Nat) (f : FmtV)
  /-- VREDMAX (R79): Integer maximum reduction. -/
  | vredmax (gi : Nat) (f : FmtV)
  /-- VREDMIN (R79): Integer minimum reduction. -/
  | vredmin (gi : Nat) (f : FmtV)
  /-- VFREDADD (R81): Float add reduction in a fixed tree. -/
  | vfredadd (gi : Nat) (f : FmtV)
  /-- VFREDMAX (R81): Float maximum reduction. -/
  | vfredmax (gi : Nat) (f : FmtV)
  /-- VFREDMIN (R81): Float minimum reduction. -/
  | vfredmin (gi : Nat) (f : FmtV)
  /-- FENCE (R71): Retires when every earlier memory access of the groom has completed. -/
  | fence (gi : Nat) (f : FmtR)
  /-- IFENCE (R64): Discards the fetch window after earlier stores complete. -/
  | ifence (gi : Nat) (f : FmtR)
  /-- WFI (R86): Waits until an interrupt is pending. -/
  | wfi (gi : Nat) (f : FmtR)
  /-- WFI_WAKE (R86): A waiting WFI retires when an interrupt becomes pending. -/
  | wfiWake (gi : Nat)
  /-- ECALL (R84): Enters KERNEL from TASK, or makes a tack call at KERNEL. -/
  | ecall (gi : Nat) (f : FmtR)
  /-- BREAK (R84): Raises GROOM_BREAK. -/
  | brk (gi : Nat) (f : FmtR)
  /-- ERET (R85): Returns from exception entry. -/
  | eret (gi : Nat) (f : FmtR)
  /-- CSRR (R83): Reads a groom CSR. -/
  | csrr (gi : Nat) (f : FmtI)
  /-- CSRW (R83): Writes a groom CSR, serialising. -/
  | csrw (gi : Nat) (f : FmtI)
  /-- CSRS (R83): Sets bits of a groom CSR. -/
  | csrs (gi : Nat) (f : FmtI)
  /-- CSRC (R83): Clears bits of a groom CSR. -/
  | csrc (gi : Nat) (f : FmtI)
  /-- CMDQ (R93): Enqueues a command list to an engine queue of the groom's stall. -/
  | cmdq (gi : Nat) (f : FmtR)
  /-- CMDQ_ENQUEUE_AFTER_WAIT (R93): A CMDQ that waited on a full queue enqueues its list once a place frees. -/
  | cmdqEnqueueAfterWait (gi : Nat)
  /-- CWAIT (R94): Waits for a queue to complete a sequence number. -/
  | cwait (gi : Nat) (f : FmtR)
  /-- CWAIT_COMPLETE (R94): A waiting CWAIT retires with the list status once the sequence completes. -/
  | cwaitComplete (gi : Nat)
  /-- CWAIT_TIMEOUT (R94): A CWAIT that exceeds its timeout retires with GROOM_WAIT_TIMEOUT. -/
  | cwaitTimeout (gi : Nat)
  /-- CPOLL (R82): Reads the completed-sequence count of a queue. -/
  | cpoll (gi : Nat) (f : FmtR)
  /-- GROOM_LINE_FILL (R63): A fetch window line fill from scratch completes. -/
  | groomLineFill (gi line : Nat)
  /-- GROOM_LOAD_RESPONSE (R72): A load or AMO response arrives, writes its register, or marks a precise fault. -/
  | groomLoadResponse (gi req : Nat)
  /-- GROOM_STORE_COMPLETE (R73): A store completes and frees its slot; a non-zero status raises an asynchronous store error. -/
  | groomStoreComplete (gi req : Nat)
  /-- EXCEPTION_ENTRY (R84): At a retirement boundary the groom enters an exception for a fault, a store error, ECALL, BREAK or an accepted interrupt. -/
  | exceptionEntry (gi : Nat) (und : Option (BitVec 32))
  /-- TACK_CALL_ANSWER (R92): The tack room answers a tack call, writing X1 and X2, and the ECALL retires. -/
  | tackCallAnswer (gi : Nat)
  /-- TACK_CALL_TIMEOUT (R92): A tack call unanswered for 1 ms retires with GROOM_TCALL_TIMEOUT. -/
  | tackCallTimeout (gi : Nat)
  /-- CFG_READ (R520): The tack call copies a configuration store record into scratch. -/
  | cfgRead (gi : Nat)
  /-- PWR_READ (R520): The tack call returns PWR_STAT. -/
  | pwrRead (gi : Nat)
  /-- MEAS_EXTEND (R555): The tack call extends measurement register M4 to M7 with 32 bytes from scratch. -/
  | measExtend (gi : Nat)
  /-- RUNCTL_RUN (R95): A write of GROOM_RUNCTL.RUN starts a halted groom at START_PC in KERNEL. -/
  | runctlRun (priv : Priv) (gi : Nat) (v : Word)
  /-- RUNCTL_HALT (R95): A write of GROOM_RUNCTL.HALT requests a halt at the next retirement boundary. -/
  | runctlHalt (priv : Priv) (gi : Nat) (v : Word)
  /-- RUNCTL_RESET (R95): A write of GROOM_RUNCTL.RESET halts the groom and restores its reset state. -/
  | runctlReset (priv : Priv) (gi : Nat) (v : Word)
  /-- GROOM_HALT_TAKES_EFFECT (R95): The halt takes effect at a retirement boundary once stores complete, and HALTED is set. -/
  | groomHaltTakesEffect (gi : Nat)
  /-- GROOM_DBG_DATA_ACCESS (R96): An access to GROOM_DBG_DATA reads or writes the selected register word of a halted groom. -/
  | groomDbgDataAccess (priv : Priv) (gi : Nat) (w : Option Word)
  /-- PREDICTOR_FLUSH (R65): A write of GROOM_PREDCTL.FLUSH clears the predictor. -/
  | predictorFlush (priv : Priv) (gi : Nat)
  /-- GROOM_TASKID_WRITE (R91): A GROOM_TASKID write waits for earlier stores, then takes effect and clears the predictor. -/
  | groomTaskidWrite (priv : Priv) (gi : Nat) (v : Word)
  /-- LIST_START (R103): A list reaching the head of its queue has its header read and checked, and SEQ written, or is rejected. -/
  | listStart (ps q : Nat)
  /-- CMD_START (R117): A load, store or gather command whose envelope and descriptor have arrived is checked in the order of R117. -/
  | cmdStart (ps q : Nat)
  /-- NOP (R107): The command does nothing but its wait and its post. -/
  | nop (ps q : Nat)
  /-- LDTILE (R114): Loads rows from a stream into a tile register, with conversion and transposition. -/
  | ldtile (ps : Nat)
  /-- LDSCR (R114): Loads bytes from a stream into stall scratch. -/
  | ldscr (ps : Nat)
  /-- STTILE (R114): Stores tile register rows to a stream. -/
  | sttile (ps : Nat)
  /-- STSCR (R114): Stores scratch bytes to a stream. -/
  | stscr (ps : Nat)
  /-- GTILE (R115): Gathers listed blocks into a tile register. -/
  | gtile (ps : Nat)
  /-- GSCR (R115): Gathers listed blocks into scratch. -/
  | gscr (ps : Nat)
  /-- SCTILE (R115): Scatters tile register blocks to listed positions. -/
  | sctile (ps : Nat)
  /-- SCADD (R276): Adds tile register blocks exactly into an accumulation tensor. -/
  | scadd (ps : Nat)
  /-- SLOT_GRANT (R123): The slot pool grants a free slot to a requesting engine, which issues its next request. -/
  | slotGrant (ps : Nat) (want : List Nat) (ecc : Ecc)
  /-- ENG_REQUEST_COMPLETE (R119): An engine request completes; data lands or the status is held, and elements are consumed in order. -/
  | engRequestComplete (ps slot : Nat)
  /-- SLOT_WAIT_FLAG (R126): A slot waiting 2^22 NCLK is flagged once, setting SLOT_WAIT and counting STALL_BANKWAIT. -/
  | slotWaitFlag (ps slot : Nat)
  /-- QUEUE_PAUSE (R130): The PAUSE bit of STALL_QCTLq stops issue and consumption at the next boundary. -/
  | queuePause (priv : Priv) (ps q : Nat)
  /-- QUEUE_PAUSED (R130): The queue enters PAUSED once all its slots are released. -/
  | queuePaused (ps q : Nat)
  /-- QUEUE_RESUME (R130): The RESUME bit continues from PAUSED or FAULTED at STALL_QPOSq, or starts the next list from STOPPED. -/
  | queueResume (priv : Priv) (ps q : Nat)
  /-- QUEUE_ABORT (R130): The ABORT bit completes the head list with the fault status or ABORTED and stops the queue. -/
  | queueAbort (priv : Priv) (ps q : Nat)
  /-- QUEUE_FLUSH (R130): The FLUSH bit completes every queued list with ABORTED, and the queue becomes IDLE. -/
  | queueFlush (priv : Priv) (ps q : Nat)
  /-- DOORBELL_WRITE (R133): A write of STALL_DOORBELL appends a doorbell entry, or is refused with ENG_DOORBELL_FULL. -/
  | doorbellWrite (priv : Priv) (ps : Nat) (v : Word)
  /-- DOORBELL_MOVE (R134): The head doorbell entry moves into its engine queue once that queue has room. -/
  | doorbellMove (ps : Nat)
  /-- DBELL_BLOCK_TIMEOUT (R137): A head doorbell blocked for more than 1,024 NCLK asserts the DBELL source. -/
  | dbellBlockTimeout (ps : Nat)
  /-- SLOT_CFG_WRITE (R123): A write of STALL_SLOT_CFG sets the quotas, or is refused with ENG_SLOT_QUOTA. -/
  | slotCfgWrite (priv : Priv) (ps : Nat) (v : Word)
  /-- EV_WRITE (R108): A software write of an event counter, with same-ACLK posts added to the written value. -/
  | evWrite (priv : Priv) (ps e : Nat) (v : Word) (posts : Nat)
  /-- HELD_DROP_READ (R138): A read of STALL_HELD_DROP returns and clears the count. -/
  | heldDropRead (priv : Priv) (ps : Nat)
  /-- BANKWAIT_READ (R138): A read of STALL_BANKWAIT returns and clears the count. -/
  | bankwaitRead (priv : Priv) (ps : Nat)
  /-- TCFG (R144): Sets the shape of the registers in the mask and empties them. -/
  | tcfg (ps : Nat)
  /-- TREL (R146): Releases the registers in the mask to EMPTY, keeping their shape. -/
  | trel (ps : Nat)
  /-- TILE_DEBUG_READ (R141): A read of the tile debug view returns register contents, zero, or TILE_DATA_UE. -/
  | tileDebugRead (priv : Priv) (ps off len : Nat) (ecc : Ecc)
  /-- TILE_DEBUG_WRITE (R141): A write of the tile debug view sets row bytes and the written bit, or is refused. -/
  | tileDebugWrite (priv : Priv) (ps off : Nat) (data : List Byte)
  /-- COLLECTOR_FALLBACK (R161): A collector refused for 8 ACLK moves to the fall-back path and counts STALL_TILE_FB. -/
  | collectorFallback (ps coll : Nat)
  /-- TPROG_WRITE (R168): A write of STALL_TPROGt moves a row-progress record, or fails with TILE_BUSY. -/
  | tprogWrite (priv : Priv) (ps t : Nat) (v : Word)
  /-- TSHAPE_REC_READ (R153): A read of STALL_TSHAPE_REC returns and clears the last TILE_SHAPE record. -/
  | tshapeRecRead (priv : Priv) (ps : Nat)
  /-- TILE_CE_READ (R170): A read of STALL_TILE_CE returns and clears the count. -/
  | tileCeRead (priv : Priv) (ps : Nat)
  /-- TILE_FB_READ (R161): A read of STALL_TILE_FB returns and clears the count. -/
  | tileFbRead (priv : Priv) (ps : Nat)
  /-- MMA (R183): Output-stationary multiply-accumulate over one fold or several, with optional drain. -/
  | mma (ps : Nat)
  /-- ADRAIN (R193): Drains the current accumulators to tile registers. -/
  | adrain (ps : Nat)
  /-- WSLD (R194): Preloads weights into the latches. -/
  | wsld (ps : Nat)
  /-- WSMM (R196): Streams input rows through the preloaded weights. -/
  | wsmm (ps : Nat)
  /-- ARRAY_DRAIN_ROW_WRITE (R192): A drained or output row leaves the array, is residue-compared, and is written or fails the command. -/
  | arrayDrainRowWrite (ps : Nat) (fault : ArrFault)
  /-- ARRAY_CMD_COMPLETE (R189): An array command completes, clearing OWNERS bits and posting its event. -/
  | arrayCmdComplete (ps : Nat)
  /-- ARR_MAP_WRITE (R206): A write of STALL_ARR_MAP sets row and column bypass, or is refused. -/
  | arrMapWrite (priv : Priv) (ps : Nat) (v : Word)
  /-- ARR_RESCNT_READ (R206): A read of STALL_ARR_RESCNT returns and clears the count. -/
  | arrRescntRead (priv : Priv) (ps : Nat)
  /-- ARR_PARCNT_READ (R206): A read of STALL_ARR_PARCNT returns and clears the count. -/
  | arrParcntRead (priv : Priv) (ps : Nat)
  /-- SP_REC_READ (R258): A read of STALL_SP_REC returns and clears the last record failure. -/
  | spRecRead (priv : Priv) (ps : Nat)
  /-- SP_SKIPCNT_READ (R258): A read of STALL_SP_SKIPCNT returns and clears the count. -/
  | spSkipcntRead (priv : Priv) (ps : Nat)
  /-- GTH_REC_READ (R279): A read of STALL_GTH_REC returns and clears the last GTH_OOB record. -/
  | gthRecRead (priv : Priv) (ps : Nat)
  /-- GTH_COAL_READ (R279): A read of STALL_GTH_COAL returns and clears the count. -/
  | gthCoalRead (priv : Priv) (ps : Nat)
  /-- GTH_OOBCNT_READ (R279): A read of STALL_GTH_OOBCNT returns and clears the count. -/
  | gthOobcntRead (priv : Priv) (ps : Nat)
  /-- GTH_ADDREJ_READ (R279): A read of STALL_GTH_ADDREJ returns and clears the count. -/
  | gthAddrejRead (priv : Priv) (ps : Nat)
  /-- SCRATCH_ACCESS (R43): A request reaching stall scratch performs its read, write or AMO at the bank. -/
  | scratchAccess (req : Nat) (ue : Bool)
  /-- SHED_READ (R290): A main memory read at the shed delivers data, corrects it, or completes with MEM_UE. -/
  | shedRead (req : Nat) (ce ue : List Nat)
  /-- SHED_WRITE (R291): A main memory write at the shed, with read-merge-write for partial blocks. -/
  | shedWrite (req : Nat) (ce ue : List Nat) (retryFail : Bool)
  /-- SHED_AMO (R75): An AMO performed at the shed. -/
  | shedAmo (req : Nat) (ce ue : List Nat)
  /-- REFRESH (R292): Same-bank refresh at tREFI. -/
  | refresh (ch sub bank : Nat)
  /-- SCRUB_READ (R293): Patrol scrub reads a block and handles its errors. -/
  | scrubRead (ch co : Nat) (ecc : Ecc)
  /-- XLAT_WALK (R300): A translation miss sends a walk to a shed walker. -/
  | xlatWalk (req : Nat)
  /-- XLAT_WALK_COMPLETE (R302): A walk ends by installing a leaf with A and D set, or with a fault status. -/
  | xlatWalkComplete (req : Nat) (ue : Option Nat)
  /-- XINV_START (R301): A write of SHED_XINV starts an invalidation, or is refused. -/
  | xinvStart (priv : Priv) (shed : Nat) (v : Word)
  /-- XINV_COMPLETE (R301): The invalidation completes when every stall has dropped its entries, and BUSY clears. -/
  | xinvComplete
  /-- MIG_START (R295): The START bit of SHED_MIG_CTL starts a migration, or fails with MEM_MIG_STATE. -/
  | migStart (priv : Priv) (shed : Nat) (v : Word)
  /-- ELOG_INFO_READ (R310): A read of SHED_ELOG_INFO returns the oldest log entry and removes it. -/
  | elogInfoRead (priv : Priv) (shed : Nat)
  /-- CHCE_READ (R290): A read of SHED_CHCEi returns and clears the corrected count. -/
  | chceRead (priv : Priv) (shed i : Nat)
  /-- CHUE_READ (R310): A read of SHED_CHUEi returns and clears the uncorrectable count. -/
  | chueRead (priv : Priv) (shed i : Nat)
  /-- XLAT_MISS_READ (R311): A read of STALL_XLAT_MISS returns and clears the count. -/
  | xlatMissRead (priv : Priv) (ps : Nat)
  /-- LOFT_FB_READ (R311): A read of STALL_LOFT_FB returns and clears the count. -/
  | loftFbRead (priv : Priv) (ps : Nat)
  /-- PAGER_DEMAND_ALLOC (R306): The pager allocates zeroed frames for a MEM_DEMAND fault, or leaves it unserved. -/
  | pagerDemandAlloc (fault : Nat)
  /-- PAGER_RECALL (R309): The pager recalls an evicted page from the loft. -/
  | pagerRecall (fault : Nat)
  /-- PAGER_MOVE_COMPLETE (R303): The pager completes a MOVING page, and the access walks again. -/
  | pagerMoveComplete (fault : Nat)
  /-- PAGER_SERVICE_DONE (R304): Pager service completes, and the faulted queue or waiting groom access resumes. -/
  | pagerServiceDone (fault : Nat)
  /-- PAGER_EVICT (R308): The pager evicts a tenant's pages to the loft while USED exceeds HIGH. -/
  | pagerEvict (tenant : Nat)
  /-- AGER_PASS (R307): The periodic ager invalidates translations and ages every TIER 0 leaf. -/
  | agerPass
  /-- LOFT_READ (R314): A loft read request is served by a NAND page read with LDPC and retries. -/
  | loftRead (req : Nat)
  /-- LOFT_PAGE_READ_DONE (R314): A NAND page read completes and answers every request waiting on it. -/
  | loftPageReadDone (page : Nat) (ldpcFail : List Nat)
  /-- LJ_TAIL_WRITE (R315): A write of SHED_LJ_TAIL makes new loft job entries available to the sheds. -/
  | ljTailWrite (priv : Priv) (v : Word)
  /-- LOFT_WRITE (R316): The loft job writes units at the segment's write pointer. -/
  | loftWrite (job : Nat) (progFail : Option Nat)
  /-- LOFT_JOB_READ (R316): The loft job copies units to main memory. -/
  | loftJobRead (job : Nat)
  /-- LOFT_ERASE (R316): The loft job erases a segment. -/
  | loftErase (job : Nat)
  /-- LOFT_SEAL (R316): The loft job seals an OPEN segment. -/
  | loftSeal (job : Nat)
  /-- LOFT_JOB_DONE (R316): A loft job completes and writes DONE and STATUS into its entry. -/
  | loftJobDone (job : Nat)
  /-- LOFT_DEADLINE (R319): At the record's deadline, unlanded loft requests are replaced by ZERO, ALT or a held fault. -/
  | loftDeadline (ps q : Nat)
  /-- LANE_ERROR_WINDOW (R323): At the end of each 1 ms window, lane symbol errors are judged and failing lanes are acted on. -/
  | laneErrorWindow (port : Nat) (lanes : List LaneSample) (fecCe fecUe : Nat)
  /-- TRAINING_ATTEMPT_END (R326): A training attempt ends with the port UP or DEGRADED, or the next attempt, DOWN or FAILED. -/
  | trainingAttemptEnd (port : Nat) (good : BitVec 9)
  /-- LINK_ENABLE (R326): A write of LINK_CTL.EN disables the port or starts a new training. -/
  | linkEnable (priv : Priv) (port : Nat) (en : Bool)
  /-- LINK_TRAIN (R326): The TRAIN bit of LINK_CTL starts a training attempt from DOWN. -/
  | linkTrain (priv : Priv) (port : Nat)
  /-- LINK_SPARE (R324): The SPARE bit of LINK_CTL spares lane LANE now. -/
  | linkSpare (priv : Priv) (port lane : Nat)
  /-- LINK_PACKET_RECEIVE (R329): A link packet is received, CRC- and LSEQ-checked, then accepted or discarded with a replay request. -/
  | linkPacketReceive (port : Nat) (pkt : Packet) (lseq : Nat) (crcOk : Bool)
  /-- LCTL (R329): A link-control packet returns credits, acknowledges LSEQs, requests replay or carries a lane map. -/
  | lctl (port : Nat) (msg : LctlMsg)
  /-- LCTL_CREDIT_RETURN (R329): The receiver returns credits every 64 ns or at 256 accumulated credits. -/
  | lctlCreditReturn (port : Nat)
  /-- LINK_REPLAY_RESEND (R329): The transmitter resends from the replay buffer in LSEQ order. -/
  | linkReplayResend (port : Nat)
  /-- GATE_ROUTE (R333): A gate looks a packet up and forwards it, or answers LINK_NO_ROUTE or LINK_TTL. -/
  | gateRoute (gate : Nat)
  /-- RD (R335): A remote read request is checked at the target window and performed. -/
  | rd (gate : Nat)
  /-- WR (R335): A remote write request is checked and performed, with transfer tracking and signal. -/
  | wr (gate : Nat)
  /-- AMO (R335): A remote AMO request is checked and performed. -/
  | amo (gate : Nat)
  /-- RD_RSP (R337): A read response removes its tracker entry and completes the request. -/
  | rdRsp (gate : Nat)
  /-- ACK (R337): An acknowledgement removes its tracker entry and completes the write or AMO. -/
  | ack (gate : Nat)
  /-- NAK_RNR (R336): A not-ready answer holds the transfer's unacknowledged packets for probing. -/
  | nakRnr (gate : Nat)
  /-- RNR_PROBE (R336): After RNR_WAIT, the source resends the lowest held packet as a probe. -/
  | rnrProbe (gate tag : Nat)
  /-- TRACKER_TIMEOUT (R337): A tracker entry reaching 2^RTO_LOG2 NCLK completes with LINK_TIMEOUT or LINK_NOT_READY. -/
  | trackerTimeout (gate tag : Nat)
  /-- XFER_EXPIRE (R341): A transfer entry whose LAST has not arrived in time is freed, and XT_EXPIRE is set. -/
  | xferExpire (gate idx : Nat)
  /-- ROUTE_ENTRY_ACCESS (R332): An access to GATE_RT_DATA reads or writes the route entry at INDEX, with auto-increment. -/
  | routeEntryAccess (priv : Priv) (gate : Nat) (w : Option Word)
  /-- RWIN_CTL_WRITE (R346): A write of GATE_RWINk_CTL sets window rights, and is refused with BAD_PARAM for an illegal region. -/
  | rwinCtlWrite (priv : Priv) (gate k : Nat) (v : Word)
  /-- MC_REC_READ (R346): A read of GATE_MC_REC returns and clears the last partial multicast. -/
  | mcRecRead (priv : Priv) (n : Nat)
  /-- TMO_CNT_READ (R346): A read of GATE_TMO_CNT returns and clears the count. -/
  | tmoCntRead (priv : Priv) (n : Nat)
  /-- RNR_CNT_READ (R346): A read of GATE_RNR_CNT returns and clears the count. -/
  | rnrCntRead (priv : Priv) (n : Nat)
  /-- LINK_REPLAY_READ (R346): A read of LINK_REPLAY returns and clears the count. -/
  | linkReplayRead (priv : Priv) (n : Nat)
  /-- FEC_CE_READ (R346): A read of LINK_FEC_CE returns and clears the count. -/
  | fecCeRead (priv : Priv) (n : Nat)
  /-- FEC_UE_READ (R346): A read of LINK_FEC_UE returns and clears the count. -/
  | fecUeRead (priv : Priv) (n : Nat)
  /-- BEACON_SEND (R513): An UP or DEGRADED port sends a BEACON every 1 ms. -/
  | beaconSend (port : Nat)
  /-- BEACON (R513): A received beacon sets PEER and PEER_VALID, or is discarded as loopback. -/
  | beacon (port : Nat) (serial : Word) (devid : BitVec 14) (idv : Bool)
  /-- PEER_TIMEOUT (R513): No valid beacon for 4 ms clears PEER_VALID. -/
  | peerTimeout (port : Nat)
  /-- SPOST (R351): Adds VAL to a TOKEN or SEM. -/
  | spost (ps : Nat)
  /-- SWAIT (R351): Waits on a TOKEN value or takes units from a SEM. -/
  | swait (ps : Nat)
  /-- LACQ (R356): Waits for and takes a lock. -/
  | lacq (ps : Nat)
  /-- LREL (R358): Releases a lock, optionally marking it repaired. -/
  | lrel (ps : Nat)
  /-- BARRIVE (R359): Arrives at a device barrier and waits for its generation to advance. -/
  | barrive (ps : Nat)
  /-- XBARRIVE (R360): Sends an arrival to a cross-device barrier master and waits for the release. -/
  | xbarrive (ps : Nat)
  /-- SREAD (R351): Writes an object's state to RESULT. -/
  | sread (ps : Nat)
  /-- SYNC_REQUEST_ARRIVE (R350): A sync command arrives at the owning stall and is granted, queued as a waiter, or failed. -/
  | syncRequestArrive (ps : Nat)
  /-- SYNC_ANSWER_ARRIVE (R350): The owner's answer returns to the issuing sync unit, completing the command. -/
  | syncAnswerArrive (ps : Nat)
  /-- SYNC_WAIT_TIMEOUT (R354): A waiting sync command reaching TMO withdraws its waiter. -/
  | syncWaitTimeout (ps : Nat)
  /-- SYNC_WAIT_RETRY (R349): A wait refused for lack of waiter entries is retried after 256 NCLK. -/
  | syncWaitRetry (ps : Nat)
  /-- SYNC_WITHDRAW_ARRIVE (R355): A PAUSE or ABORT withdrawal takes effect at the owning stall. -/
  | syncWithdrawArrive (ps : Nat)
  /-- SYNC_TASKEND_WRITE (R357): A write of SYNC_TASKEND makes the named task's locks ABANDONED. -/
  | syncTaskendWrite (priv : Priv) (v : Word)
  /-- SYNC_OBJ_WRITE (R366): A write of STALL_SYNC_OBJ sets the selected object, or is refused with SYNC_BUSY. -/
  | syncObjWrite (priv : Priv) (ps : Nat) (v : Word)
  /-- XBAR_CFG_WRITE (R367): A write of a cross-device barrier slot register, refused with SYNC_BUSY or BAD_PARAM. -/
  | xbarCfgWrite (priv : Priv) (off : Nat) (v : Word)
  /-- XBAR_ARRIVAL (R361): A master processes an arrival packet by its key and releases the key when all ranks have arrived. -/
  | xbarArrival (gate : Nat)
  /-- XBAR_RELEASE (R364): A member receives a release and completes its waiting XBARRIVE, or keeps it. -/
  | xbarRelease (gate : Nat)
  /-- XBAR_DEADLINE (R363): At the master deadline, the key is released with SYNC_BAR_MISSING. -/
  | xbarDeadline (slot : Nat)
  /-- DLD_SAMPLE (R365): Every 1,024 ACLK the deadlock detector samples each domain and may raise an alarm. -/
  | dldSample
  /-- SYNC_LOCK_READ (R367): A read of SYNC_LOCK returns and clears the last abandoned grant. -/
  | syncLockRead (priv : Priv)
  /-- COMB_RING_TAIL_WRITE (R380): A write of COMB_RING_TAIL makes new combiner ring entries available. -/
  | combRingTailWrite (priv : Priv) (v : Word)
  /-- COMB_OPEN (R381): The ring entry arms a reduction on all four combiners, or fails its checks. -/
  | combOpen
  /-- COMB_PUSH (R382): The ring entry sends one contribution, block by block, to the owners. -/
  | combPush
  /-- COMB_ABORT (R383): The ring entry ends an open reduction on this device only. -/
  | combAbort
  /-- DECIDE_LATE (R394): A DECIDE with LATE ends a HELD reduction as native late. -/
  | decideLate
  /-- DECIDE_DROP (R394): A DECIDE with DROP closes owned blocks with the packets counted. -/
  | decideDrop
  /-- DECIDE_EXTEND (R394): A DECIDE with EXTEND restarts both deadlines. -/
  | decideExtend
  /-- DIGEST (R451): The ring entry computes a SHA-256 digest of a buffer. -/
  | digest
  /-- PUSH_READ_COMPLETE (R382): A push read of a contribution block completes, and the block is sent or accumulated. -/
  | pushReadComplete (comb : Nat) (ue : Bool)
  /-- CONTRIB (R386): A contribution packet is accepted, refused or discarded, and is accumulated exactly. -/
  | contrib (gate : Nat) (ecc : Ecc)
  /-- RESULT (R391): A member writes the elements of a RESULT packet to RES, or records BAD. -/
  | result (gate : Nat)
  /-- RABORT (R395): A member ends the reduction as native late. -/
  | rabort (gate : Nat)
  /-- COMB_CONTRIB_DEADLINE (R393): At the contribution deadline, the reduction ends, drops, or enters HELD by mode. -/
  | combContribDeadline (rid : Nat)
  /-- COMB_RESULT_DEADLINE (R393): At the result deadline, missing blocks end the reduction or make it HELD. -/
  | combResultDeadline (rid : Nat)
  /-- REDUCTION_COMPLETE (R392): A reduction completes, its OPEN entry completes with its status, and the token is posted. -/
  | reductionComplete (rid : Nat)
  /-- ACC_CE_READ (R403): A read of COMB_ACC_CE returns and clears the count. -/
  | accCeRead (priv : Priv) (n : Nat)
  /-- NAK_CNT_READ (R403): A read of COMB_NAK_CNT returns and clears the count. -/
  | nakCntRead (priv : Priv) (n : Nat)
  /-- DISCARD_CNT_READ (R403): A read of COMB_DISCARD_CNT returns and clears the count. -/
  | discardCntRead (priv : Priv) (n : Nat)
  /-- DROP_CNT_READ (R403): A read of COMB_DROP_CNT returns and clears the count. -/
  | dropCntRead (priv : Priv) (n : Nat)
  /-- ELEM_CNT_READ (R403): A read of COMB_ELEM_CNT returns and clears the count. -/
  | elemCntRead (priv : Priv) (n : Nat)
  /-- PASS_SWITCH (R408): The pass interlock switches CUR once its conditions hold and releases the held lists. -/
  | passSwitch (ps : Nat)
  /-- PASS_FLIP (R409): The FLIP bit of STALL_TR_PASS requests a switch, or is refused. -/
  | passFlip (priv : Priv) (ps : Nat)
  /-- TR_STEP_WRITE (R430): A write of STALL_TR_STEP sets FOK, flushes every statistics triple, then completes. -/
  | trStepWrite (priv : Priv) (ps : Nat) (v : Word)
  /-- TR_STREAM_WRITE (R405): A write of STALL_TR_STREAM names the stream tasks, or is refused. -/
  | trStreamWrite (priv : Priv) (ps : Nat) (v : Word)
  /-- TR_PASS_WRITE (R433): A write of STALL_TR_PASS CUR and AUTO, refused with TRAIN_BUSY while in use. -/
  | trPassWrite (priv : Priv) (ps : Nat) (v : Word)
  /-- STATS_FLUSH (R429): A write of STALL_TR_FLUSH flushes every statistics triple. -/
  | statsFlush (priv : Priv) (ps : Nat)
  /-- STATS_FLUSH_COMPLETE (R429): A triple flush completes; a failure sets STATS_LOST. -/
  | statsFlushComplete (ps : Nat) (ue : Bool)
  /-- TR_TIED_READ (R425): A read of STALL_TR_TIED returns and clears the last TRAIN_TIED record. -/
  | trTiedRead (priv : Priv) (ps : Nat)
  /-- CMT_OPEN (R441): The OPEN command opens the step record, writes the journal and may start a drain. -/
  | cmtOpen (priv : Priv)
  /-- CMT_PREPARE (R440): The PREPARE command enters PREPARING. -/
  | cmtPrepare (priv : Priv)
  /-- CMT_ABORT (R440): The ABORT command sends a zero vote and enters VOTED. -/
  | cmtAbort (priv : Priv)
  /-- CMT_RESOLVE (R444): The RESOLVE command applies DEC to a controller in DOUBT. -/
  | cmtResolve (priv : Priv) (dec : Bool)
  /-- CMT_FINISH (R449): The FINISH command recovers from the journal. -/
  | cmtFinish (priv : Priv)
  /-- CMT_VOTE (R441): Once the PREPARING conditions hold, the controller journals and sends its vote. -/
  | cmtVote
  /-- CMT_FLIP_COMPLETE (R443): Flip writes finish, the journal gets FLIPPED and the controller enters COMMITTED. -/
  | cmtFlipComplete (ue : List Nat)
  /-- CMT_DOUBT (R444): A vote without a release for 2^TMO_LOG2 NCLK moves the controller to DOUBT. -/
  | cmtDoubt
  /-- CKPT_DRAIN_END (R454): A checkpoint drain ends complete with its manifest sealed, or incomplete with CKPT_FAIL. -/
  | ckptDrainEnd (fail : Option DrainFail)
  /-- SS_LOST_READ (R437): A read of COMB_SS_LOST returns and clears the count. -/
  | ssLostRead (priv : Priv)
  /-- ARB_DRAW (R465): A lottery arbiter draws a winner among the raised requesters. -/
  | arbDraw (kind inst : Nat) (raised : List (Nat × Nat))
  /-- ARB_WATCHDOG_BITE (R470): A grant held 2^20 cycles with others waiting is removed with ARB_WDOG. -/
  | arbWatchdogBite (kind inst : Nat) (req : Option Nat)
  /-- ARB_FREEZE (R469): A write of ARB_CTL.FREEZE stops or resumes new grants on the selected instance. -/
  | arbFreeze (priv : Priv) (v : Word)
  /-- ARB_SEED_WRITE (R476): A write of ARB_SEED loads every LFSR. -/
  | arbSeedWrite (priv : Priv) (v : Word)
  /-- WDOG_REC_READ (R476): A read of ARB_WDOG_REC returns and clears the last bite. -/
  | wdogRecRead (priv : Priv)
  /-- WDOG_CNT_READ (R476): A read of ARB_WDOG_CNT returns and clears the count. -/
  | wdogCntRead (priv : Priv)
  /-- INTC_DELIVERY_START (R472): The controller starts delivery of the highest-priority pending source to a chosen groom. -/
  | intcDeliveryStart
  /-- INTC_DELIVERY_ARRIVE (R474): A delivery reaches the groom and is accepted, setting DELIV, or refused. -/
  | intcDeliveryArrive (src : Nat)
  /-- INTC_EOI_WRITE (R474): A write of INTC_EOI clears DELIV of a source. -/
  | intcEoiWrite (priv : Priv) (v : Word)
  /-- SWI_SET (R477): A write of INTC_SWI_SET asserts software sources. -/
  | swiSet (priv : Priv) (v : Word)
  /-- SWI_CLR (R477): A write of INTC_SWI_CLR deasserts software sources. -/
  | swiClr (priv : Priv) (v : Word)
  /-- ETH_FRAME_RECEIVE (R479): A host port receives a frame and classifies or discards it, sending PFC pauses as needed. -/
  | ethFrameReceive (port : Nat) (frame : EthFrame)
  /-- HALTER_REQUEST (R490): A halter packet is checked, accepted and queued to the command processor, or answered. -/
  | halterRequest (port : Nat) (pkt : HalterPkt)
  /-- HALTER_SEQ_HOLD_EXPIRE (R488): A held out-of-order request is discarded after 100 ms. -/
  | halterSeqHoldExpire (session seq : Nat)
  /-- SESSION_TIMEOUT (R487): A session without authenticated packets for 60 s ends. -/
  | sessionTimeout (session : Nat)
  /-- LONG_COMMAND_END (R489): A long halter command ends and sends its final reply. -/
  | longCommandEnd (session seq : Nat)
  /-- SESSION_OPEN (R485): Opens a session with a credential. -/
  | sessionOpen
  /-- SESSION_CLOSE (R487): Closes the session. -/
  | sessionClose
  /-- DEV_INFO (R493): Returns device identity and bring-up phase. -/
  | devInfo
  /-- CSR_READ (R493): Reads up to 128 CSRs. -/
  | csrRead
  /-- CSR_WRITE (R493): Writes one CSR. -/
  | csrWrite
  /-- MODE_SET (R500): Writes HOSTIF_MODE. -/
  | modeSet
  /-- SPARE_SET (R546): Spares a named unit. -/
  | spareSet
  /-- MEM_READ (R494): Reads memory in a task's address space. -/
  | memRead
  /-- MEM_WRITE (R494): Writes memory in a task's address space. -/
  | memWrite
  /-- BAY_RELEASE (R29): Requests release of a DIMM bay. -/
  | bayRelease
  /-- BAY_STATE (R35): Reports a bay's state. -/
  | bayState
  /-- CHAN_RECLAIM (R294): Maps a SPARE channel to a failed logical channel and zeroes it. -/
  | chanReclaim
  /-- MR_REG (R495): Registers a RoCE memory region. -/
  | mrReg
  /-- MR_DEREG (R494): Deregisters a memory region. -/
  | mrDereg
  /-- QP_CREATE (R495): Creates a RoCE queue pair. -/
  | qpCreate
  /-- QP_DESTROY (R494): Destroys a queue pair. -/
  | qpDestroy
  /-- DOORBELL (R498): Appends a doorbell entry to a stall. -/
  | doorbell
  /-- GROOM_RUN (R493): Starts a groom at START_PC. -/
  | groomRun
  /-- GROOM_HALT (R494): Halts or resets a groom. -/
  | groomHalt
  /-- QUEUE_CTL (R493): Writes a STALL_QCTLq bit. -/
  | queueCtl
  /-- TASK_END (R493): Writes SYNC_TASKEND. -/
  | taskEnd
  /-- NEIGH_READ (R493): Returns the state and peer of every port. -/
  | neighRead
  /-- DEVID_SET (R514): Writes GATE_DEVID and a DEVID store record. -/
  | devidSet
  /-- ROUTE_WRITE (R494): Writes route table entries. -/
  | routeWrite
  /-- RWIN_SET (R493): Sets a remote window. -/
  | rwinSet
  /-- XBAR_SET (R493): Sets a cross-device barrier slot. -/
  | xbarSet
  /-- PORT_CTL (R493): Trains, disables, enables or spares a link port. -/
  | portCtl
  /-- CMT_CMD (R493): Writes COMB_CMT_CTL. -/
  | cmtCmd
  /-- STEP_READ (R493): Reads a step status record. -/
  | stepRead
  /-- GROUP_RESTORE (R459): Restores the group state section of a checkpoint. -/
  | groupRestore
  /-- CKPT_READ (R493): Reads the checkpoint registers. -/
  | ckptRead
  /-- COOL_CLEAR (R22): Clears a coolant stop, or returns COOLANT_LIMIT. -/
  | coolClear
  /-- POWER_CAP (R494): Sets or removes a host power cap. -/
  | powerCap
  /-- PSTATE_SET (R531): Sets a power-state ceiling in host-assisted mode. -/
  | pstateSet
  /-- FW_STAGE (R550): Stages bytes of a firmware package. -/
  | fwStage
  /-- FW_ACTIVATE (R552): Checks and activates a staged package through a takeover. -/
  | fwActivate
  /-- ATTEST (R556): Builds and signs an attestation report. -/
  | attest
  /-- ATTEST_READ (R556): Reads the report or the device certificate. -/
  | attestRead
  /-- TELE_READ (R502): Returns a telemetry record of a class. -/
  | teleRead
  /-- EVT_SUBSCRIBE (R493): Sets the session's event subscription. -/
  | evtSubscribe
  /-- EVT_ACK (R501): Acknowledges events up to ESEQ. -/
  | evtAck
  /-- EVENT_RESEND (R501): An unacknowledged event is resent every 10 ms. -/
  | eventResend (session : Nat)
  /-- ROCE_RDMA_WRITE (R496): An RDMA WRITE is translated and written into a memory region. -/
  | roceRdmaWrite (port qpn rkey addr : Nat) (data : List Byte)
  /-- ROCE_WRITE_IMM (R497): An RDMA WRITE with immediate writes and then rings a doorbell. -/
  | roceWriteImm (port qpn rkey addr : Nat) (data : List Byte) (imm : BitVec 32)
  /-- ROCE_RDMA_READ (R496): An RDMA READ is served from a memory region. -/
  | roceRdmaRead (port qpn rkey addr len : Nat)
  /-- ROCE_SEND (R495): A SEND is answered with an invalid-request NAK. -/
  | roceSend (port qpn : Nat)
  /-- ROCE_CNP (R495): A received CNP halves the QP's rate. -/
  | roceCnp (port qpn : Nat)
  /-- ROCE_RATE_RECOVER (R495): A QP's rate recovers by 5% every 55 us. -/
  | roceRateRecover (port qpn : Nat)
  /-- AUTHFAIL_CNT_READ (R503): A read of HOSTIF_AUTHFAIL_CNT returns and clears the count. -/
  | authfailCntRead (priv : Priv)
  /-- RXDROP_CNT_READ (R503): A read of HOSTIF_RXDROP_CNT returns and clears the count. -/
  | rxdropCntRead (priv : Priv)
  /-- INLET_POWER_ON (R508): Inlet power starts bring-up at step 1. -/
  | inletPowerOn
  /-- BRINGUP_STEP_END (R508): A bring-up step ends, PHASE advances and the next step starts, or the device stays failed. -/
  | bringupStepEnd (info : BootInfo)
  /-- REF_LOSS (R507): A missing reference is flagged and runs the stop sequence, with CAUSE REF_LOSS. -/
  | refLoss
  /-- PLL_UNLOCK (R507): A PLL losing lock runs the stop sequence, with CAUSE PLL_UNLOCK. -/
  | pllUnlock (die : Nat)
  /-- DCLINK_SAMPLE (R521): Every 2 us the DC link is sampled, and SUPPLY_WARN or the stop sequence is applied. -/
  | dclinkSample (dv : Nat)
  /-- SUPPLY_OK (R521): After 10 ms above 370 V, the supply cap is lifted. -/
  | supplyOk
  /-- PACKAGE_RESET (R523): The stop sequence ends with a package reset, the cause and MEM_KEPT are recorded, and bring-up awaits the link. -/
  | packageReset (kept : Bool)
  /-- POWER_MEASURE (R524): Every 10 us package power is measured and DUTY is adjusted to the effective cap. -/
  | powerMeasure (pkg inlet : Nat)
  /-- PSTATE_ENTER (R529): An idle unit enters the deepest allowed power state. -/
  | pstateEnter (unit : PwrUnit)
  /-- PSTATE_PLANNED_WAKE (R529): A unit starts to wake at its next known event minus the wake time. -/
  | pstatePlannedWake (unit : PwrUnit)
  /-- PSTATE_WAKE (R530): A wake cause wakes a unit, counting UNPLANNED. -/
  | pstateWake (unit : PwrUnit) (cause : WakeCause)
  /-- PWR_NEXT_EXPIRE (R533): STALL_PWR_NEXT counts down to 0 and clears VALID. -/
  | pwrNextExpire (ps : Nat)
  /-- PS_CFG_WRITE (R532): A write of PWR_PS_CFG sets state limits, or is refused. -/
  | psCfgWrite (priv : Priv) (v : Word)
  /-- PWR_CAP_HOST_WRITE (R524): A write of PWR_CAP_HOST sets the host cap. -/
  | pwrCapHostWrite (priv : Priv) (v : Word)
  /-- ERROR_RECORD (R541): The active tack room takes an error record, logs it and triages it. -/
  | errorRecord
  /-- TACK_HEARTBEAT (R542): The primary sends a heartbeat to the standby every 20 us; three misses declare it failed. -/
  | tackHeartbeat (arrived lockstep : Bool)
  /-- TACK_TAKEOVER (R542): The standby tack room takes over within 50 ms. -/
  | tackTakeover
  /-- TACK_TAKEOVER_REQUEST (R557): The TAKEOVER bit of TACK_CTL starts a takeover, or is refused. -/
  | tackTakeoverRequest (priv : Priv)
  /-- COLUMN_SPARE (R543): The ARRAY queue is paused, a column is bypassed in STALL_ARR_MAP, and the queue resumes. -/
  | columnSpare (ps col : Nat)
  /-- BANK_SPARE (R543): Queues are paused, a bank is copied to the repair bank, and the queues resume. -/
  | bankSpare (ps bank : Nat)
  /-- STALL_SPARE_MOVE (R544): Live sparing copies a stall's state to a spare and remaps its LS. -/
  | stallSpareMove (ps : Nat) (scanParity : Bool)
  /-- ARRAY_SELF_TEST (R541): After a second residue error, the stall's array is tested and columns or the stall are spared. -/
  | arraySelfTest (ps : Nat) (failing : List Nat)
  /-- AGE_SAMPLE (R547): Each ageing monitor is sampled once per hour. -/
  | ageSample (mon : Monitor) (value : Nat)
  /-- AGE_PREDICT (R548): Once a day, end of life is predicted and SPARE_NEEDED is raised or a spare is used. -/
  | agePredict (mon : Monitor)
  /-- FW_START_TIMEOUT (R552): A standby not ready in 5 s restarts its image, and FW_ACTIVATE fails with RAS_FW_START. -/
  | fwStartTimeout
  /-- ELOG_POP (R557): A write of TACK_ELOG_POP removes the oldest log record. -/
  | elogPop (priv : Priv)
  /-- PERF_ENABLE (R559): A write of STALL_PERF_CTL.EN starts or stops all counters in the next ACLK. -/
  | perfEnable (priv : Priv) (ps : Nat) (v : Word)
  /-- PERF_ZERO (R562): The ZERO bit of STALL_PERF_CTL clears all counters and OVF. -/
  | perfZero (priv : Priv) (ps : Nat)
  /-- PERF_CFG_WRITE (R569): A write of STALL_PERF_CFGn, refused with PERF_EVENT or PERF_FILTER. -/
  | perfCfgWrite (priv : Priv) (ps n : Nat) (v : Word)
  /-- PERF_COUNTER_WRAP (R561): A programmable counter wraps, chaining its carry or setting OVF. -/
  | perfCounterWrap (ps n : Nat)
  /-- REGISTER_WRITE (R5): A write to a register that has no row of its own, with its access-type and privilege checks. -/
  | registerWrite (priv : Priv) (addr len : Nat) (v : Word)
  /-- CTRL_PARITY_ERROR (R537): A control-state parity error in a stall, shed, gate, combiner or router is detected and completes the owning command or requests with RAS_CTRL_PARITY, or reports the router. -/
  | ctrlParityError (site : ParitySite)
  /-- LANE_LOSS_OF_LOCK (R325): A link lane loses lock, is marked failing, and is spared, or the port is retrained, or put in DOWN when two lanes lose lock within 1 us. -/
  | laneLossOfLock (port lane : Nat) (second : Option Nat)
  /-- LINK_SIGNAL_DETECT (R512): A listening port in TRAINING sees light from its peer and starts its training attempts. -/
  | linkSignalDetect (port : Nat)
  /-- HOST_MODULE_INSERT (R25): A QSFP112 module is inserted in a host cage, is read over CMIS, and is brought up or held in low-power mode and reported unsupported. -/
  | hostModuleInsert (port pmd watts : Nat)
  /-- HOST_PORT_LINK_CHANGE (R503): A host Ethernet port's link goes down, trains or comes up, and HOSTIF_PORTn.STATE and PMD change. -/
  | hostPortLinkChange (port state : Nat)
  /-- DIGEST_COMPLETE (R451): A DIGEST ring entry finishes reading its LEN bytes, writes the digest to OUT or its read fault status, and writes STATUS and DONE. -/
  | digestComplete (idx : Nat) (ue : Bool)
  /-- TACK_RESTART_END (R542): A restarting tack room passes its restart, reports ready and becomes the mirrored standby, or fails its restart and counts toward staying off. -/
  | tackRestartEnd (ok : Bool)
  deriving DecidableEq, Repr

end Sys2Proof
end

