-- ==== Sys2Proof/WellFormed.lean ====
section
/-! DEFINITION. Which commands are well formed: every operand names a part that the device has. -/

namespace Sys2Proof

/-- A groom context or node, PS × 16 + g (R9, R36). -/
def okGroom (gi : Nat) : Bool := decide (gi < 4608)
/-- A physical stall (R9). -/
def okStall (ps : Nat) : Bool := decide (ps < 288)
/-- An engine queue (R100). -/
def okQueue (q : Nat) : Bool := decide (q < 5)
/-- A DIMM bay and its channel (R28). -/
def okBay (ch : Nat) : Bool := decide (ch < 136)
/-- One of four sheds, gates or combiners (R4). -/
def okQuad (n : Nat) : Bool := decide (n < 4)
/-- A mesh direction: 0 N, 1 E, 2 S, 3 W (R56). -/
def okDir (d : Nat) : Bool := decide (d < 4)
/-- An event counter (R108). -/
def okEv (e : Nat) : Bool := decide (e < 32)
/-- A tile register (R140). -/
def okTile (t : Nat) : Bool := decide (t < 16)
/-- A lane of a link port (R24). -/
def okLane (l : Nat) : Bool := decide (l < 9)
/-- A tile register bank: 64 and a spare (R163). -/
def okBank (b : Nat) : Bool := decide (b < 64)
/-- A physical array column (R205). -/
def okCol (c : Nat) : Bool := decide (c < 516)
/-- A collector of a stall. -/
def okColl (c : Nat) : Bool := decide (c < 6)
/-- A die with a PLL: four yards, four sheds, four gates (R519). -/
def okDie (d : Nat) : Bool := decide (d < 12)
/-- A remote window (R335). -/
def okWin (k : Nat) : Bool := decide (k < 64)
/-- A link port (R4). -/
def okLink (p : Nat) : Bool := decide (p < 32)
/-- A host port (R25). -/
def okHport (p : Nat) : Bool := decide (p < 2)
/-- A request slot (R123). -/
def okSlot (n : Nat) : Bool := decide (n < 48)
/-- A barrier slot (R361). -/
def okXbar (n : Nat) : Bool := decide (n < 16)
/-- A performance counter (R559). -/
def okCounter (n : Nat) : Bool := decide (n < 8)
/-- A channel of a shed (R310). -/
def okChanIx (i : Nat) : Bool := decide (i < 34)
/-- An interrupt source (R471). -/
def okSource (n : Nat) : Bool := decide (n < 1152)
/-- An arbiter kind (R465). -/
def okArb (k : Nat) : Bool := decide (k < 3)
/-- A DRAM bank of a subchannel. -/
def okDramBank (b : Nat) : Bool := decide (b < 32)
/-- A tracker tag (R337). -/
def okTag (t : Nat) : Bool := decide (t < 65536)
/-- A reduction ID (R377). -/
def okRid (r : Nat) : Bool := decide (r < 65536)
/-- A tenant (R298). -/
def okTenant (t : Nat) : Bool := decide (t < 65536)
/-- A 64-byte line of stall scratch (R63). -/
def okLine (n : Nat) : Bool := decide (n < 65536)
/-- One window's figures for the nine lanes of a port (R323). -/
def okLanes (l : List LaneSample) : Bool := decide (l.length ≤ 9)
/-- A unit with a power state (R526). -/
def okUnit : PwrUnit → Bool
  | .stall ps => okStall ps
  | .yard y => okQuad y
  | .device => true
/-- A packet's fields fit their widths (R327). -/
def okPacket (p : Packet) : Bool :=
  decide (p.typ < 256) && decide (p.hops < 32) && decide (p.dst < 16384) && decide (p.src < 16384) &&
  decide (p.data.length ≤ 4096)
/-- A monitor names a unit that the device has (R547). -/
def okMonitor : Monitor → Bool
  | .ring y => okQuad y
  | .eye p l => okLink p && okLane l
  | .hostEye p => okHport p
  | .dram ch => okBay ch
  | .nand ch => decide (ch < 16)
  | .cap => true
/-- A parity site names a unit that the device has (R537). -/
def okSite : ParitySite → Bool
  | .queue ps q => okStall ps && okQueue q
  | .slot ps n => okStall ps && okSlot n
  | .shed n _ => okQuad n
  | .gate n _ => okQuad n
  | .comb n _ => okQuad n
  | .router n => okGroom n

/-- A command's operands name parts that the device has. -/
def Instr.wf : Instr → Bool
  | .coolantSample _ _ _ _ => true
  | .coolStop => true
  | .coolCapLift => true
  | .dimmSupplyRemove _ => true
  | .latchOpen bay => okBay bay
  | .latchClose bay _ => okBay bay
  | .admitDone bay _ => okBay bay
  | .migUnitCopy shed => okQuad shed
  | .migrationDone shed => okQuad shed
  | .netInject _ => true
  | .netHop _ _ => true
  | .netDeliver _ => true
  | .netBadTail _ => true
  | .netKeepalive node dir => okGroom node && okDir dir
  | .netLinkTimeout node dir => okGroom node && okDir dir
  | .routerMarkDead node => okGroom node
  | .detourInstall => true
  | .netSweep _ gi _ => okGroom gi
  | .netFence _ gi _ => okGroom gi
  | .netFenceBoundary gi => okGroom gi
  | .netErrCntRead _ gi => okGroom gi
  | .add gi _ => okGroom gi
  | .sub gi _ => okGroom gi
  | .and gi _ => okGroom gi
  | .or gi _ => okGroom gi
  | .xor gi _ => okGroom gi
  | .sll gi _ => okGroom gi
  | .srl gi _ => okGroom gi
  | .sra gi _ => okGroom gi
  | .slt gi _ => okGroom gi
  | .sltu gi _ => okGroom gi
  | .min gi _ => okGroom gi
  | .max gi _ => okGroom gi
  | .minu gi _ => okGroom gi
  | .maxu gi _ => okGroom gi
  | .clz gi _ => okGroom gi
  | .popc gi _ => okGroom gi
  | .mul gi _ => okGroom gi
  | .mulh gi _ => okGroom gi
  | .mulhu gi _ => okGroom gi
  | .div gi _ => okGroom gi
  | .divu gi _ => okGroom gi
  | .rem gi _ => okGroom gi
  | .remu gi _ => okGroom gi
  | .addi gi _ => okGroom gi
  | .andi gi _ => okGroom gi
  | .ori gi _ => okGroom gi
  | .xori gi _ => okGroom gi
  | .shifti gi _ => okGroom gi
  | .lui gi _ => okGroom gi
  | .shori gi _ => okGroom gi
  | .ldb gi _ => okGroom gi
  | .ldh gi _ => okGroom gi
  | .ldw gi _ => okGroom gi
  | .ldd gi _ => okGroom gi
  | .ldbu gi _ => okGroom gi
  | .ldhu gi _ => okGroom gi
  | .ldwu gi _ => okGroom gi
  | .stb gi _ => okGroom gi
  | .sth gi _ => okGroom gi
  | .stw gi _ => okGroom gi
  | .std gi _ => okGroom gi
  | .amoaddW gi _ => okGroom gi
  | .amoaddD gi _ => okGroom gi
  | .amoswapW gi _ => okGroom gi
  | .amoswapD gi _ => okGroom gi
  | .amocasW gi _ => okGroom gi
  | .amocasD gi _ => okGroom gi
  | .beq gi _ => okGroom gi
  | .bne gi _ => okGroom gi
  | .blt gi _ => okGroom gi
  | .bge gi _ => okGroom gi
  | .bltu gi _ => okGroom gi
  | .bgeu gi _ => okGroom gi
  | .jal gi _ => okGroom gi
  | .jalr gi _ => okGroom gi
  | .vadd gi _ => okGroom gi
  | .vsub gi _ => okGroom gi
  | .vmul gi _ => okGroom gi
  | .vmulh gi _ => okGroom gi
  | .vmulhu gi _ => okGroom gi
  | .vmin gi _ => okGroom gi
  | .vmax gi _ => okGroom gi
  | .vminu gi _ => okGroom gi
  | .vmaxu gi _ => okGroom gi
  | .vand gi _ => okGroom gi
  | .vor gi _ => okGroom gi
  | .vxor gi _ => okGroom gi
  | .vsll gi _ => okGroom gi
  | .vsrl gi _ => okGroom gi
  | .vsra gi _ => okGroom gi
  | .vsadd gi _ => okGroom gi
  | .vsaddu gi _ => okGroom gi
  | .vsel gi _ => okGroom gi
  | .vmac gi _ => okGroom gi
  | .vfadd gi _ => okGroom gi
  | .vfsub gi _ => okGroom gi
  | .vfmul gi _ => okGroom gi
  | .vfma gi _ => okGroom gi
  | .vfnma gi _ => okGroom gi
  | .vfmawl gi _ => okGroom gi
  | .vfmawh gi _ => okGroom gi
  | .vfdiv gi _ => okGroom gi
  | .vfsqrt gi _ => okGroom gi
  | .vfmin gi _ => okGroom gi
  | .vfmax gi _ => okGroom gi
  | .vfabs gi _ => okGroom gi
  | .vfneg gi _ => okGroom gi
  | .vfrcpe gi _ => okGroom gi
  | .vfrsqe gi _ => okGroom gi
  | .vfexp2 gi _ => okGroom gi
  | .vflog2 gi _ => okGroom gi
  | .vcvt gi _ => okGroom gi
  | .vcvth gi _ => okGroom gi
  | .vfcmpeq gi _ => okGroom gi
  | .vfcmplt gi _ => okGroom gi
  | .vfcmple gi _ => okGroom gi
  | .vfcmpun gi _ => okGroom gi
  | .vld gi _ => okGroom gi
  | .vst gi _ => okGroom gi
  | .vlds gi _ => okGroom gi
  | .vsts gi _ => okGroom gi
  | .vgth gi _ => okGroom gi
  | .vsct gi _ => okGroom gi
  | .vcmpeq gi _ => okGroom gi
  | .vcmplt gi _ => okGroom gi
  | .vcmpltu gi _ => okGroom gi
  | .vcmple gi _ => okGroom gi
  | .pand gi _ => okGroom gi
  | .por gi _ => okGroom gi
  | .pxor gi _ => okGroom gi
  | .pandn gi _ => okGroom gi
  | .pfromx gi _ => okGroom gi
  | .ptox gi _ => okGroom gi
  | .pcnt gi _ => okGroom gi
  | .psetn gi _ => okGroom gi
  | .vbcast gi _ => okGroom gi
  | .vext gi _ => okGroom gi
  | .vins gi _ => okGroom gi
  | .vperm gi _ => okGroom gi
  | .vslideup gi _ => okGroom gi
  | .vslidedn gi _ => okGroom gi
  | .vredadd gi _ => okGroom gi
  | .vredmax gi _ => okGroom gi
  | .vredmin gi _ => okGroom gi
  | .vfredadd gi _ => okGroom gi
  | .vfredmax gi _ => okGroom gi
  | .vfredmin gi _ => okGroom gi
  | .fence gi _ => okGroom gi
  | .ifence gi _ => okGroom gi
  | .wfi gi _ => okGroom gi
  | .wfiWake gi => okGroom gi
  | .ecall gi _ => okGroom gi
  | .brk gi _ => okGroom gi
  | .eret gi _ => okGroom gi
  | .csrr gi _ => okGroom gi
  | .csrw gi _ => okGroom gi
  | .csrs gi _ => okGroom gi
  | .csrc gi _ => okGroom gi
  | .cmdq gi _ => okGroom gi
  | .cmdqEnqueueAfterWait gi => okGroom gi
  | .cwait gi _ => okGroom gi
  | .cwaitComplete gi => okGroom gi
  | .cwaitTimeout gi => okGroom gi
  | .cpoll gi _ => okGroom gi
  | .groomLineFill gi line => okGroom gi && okLine line
  | .groomLoadResponse gi _ => okGroom gi
  | .groomStoreComplete gi _ => okGroom gi
  | .exceptionEntry gi _ => okGroom gi
  | .tackCallAnswer gi => okGroom gi
  | .tackCallTimeout gi => okGroom gi
  | .cfgRead gi => okGroom gi
  | .pwrRead gi => okGroom gi
  | .measExtend gi => okGroom gi
  | .runctlRun _ gi _ => okGroom gi
  | .runctlHalt _ gi _ => okGroom gi
  | .runctlReset _ gi _ => okGroom gi
  | .groomHaltTakesEffect gi => okGroom gi
  | .groomDbgDataAccess _ gi _ => okGroom gi
  | .predictorFlush _ gi => okGroom gi
  | .groomTaskidWrite _ gi _ => okGroom gi
  | .listStart ps q => okStall ps && okQueue q
  | .cmdStart ps q => okStall ps && okQueue q
  | .nop ps q => okStall ps && okQueue q
  | .ldtile ps => okStall ps
  | .ldscr ps => okStall ps
  | .sttile ps => okStall ps
  | .stscr ps => okStall ps
  | .gtile ps => okStall ps
  | .gscr ps => okStall ps
  | .sctile ps => okStall ps
  | .scadd ps => okStall ps
  | .slotGrant ps _ _ => okStall ps
  | .engRequestComplete ps slot => okStall ps && okSlot slot
  | .slotWaitFlag ps slot => okStall ps && okSlot slot
  | .queuePause _ ps q => okStall ps && okQueue q
  | .queuePaused ps q => okStall ps && okQueue q
  | .queueResume _ ps q => okStall ps && okQueue q
  | .queueAbort _ ps q => okStall ps && okQueue q
  | .queueFlush _ ps q => okStall ps && okQueue q
  | .doorbellWrite _ ps _ => okStall ps
  | .doorbellMove ps => okStall ps
  | .dbellBlockTimeout ps => okStall ps
  | .slotCfgWrite _ ps _ => okStall ps
  | .evWrite _ ps e _ _ => okStall ps && okEv e
  | .heldDropRead _ ps => okStall ps
  | .bankwaitRead _ ps => okStall ps
  | .tcfg ps => okStall ps
  | .trel ps => okStall ps
  | .tileDebugRead _ ps _ _ _ => okStall ps
  | .tileDebugWrite _ ps _ _ => okStall ps
  | .collectorFallback ps coll => okStall ps && okColl coll
  | .tprogWrite _ ps t _ => okStall ps && okTile t
  | .tshapeRecRead _ ps => okStall ps
  | .tileCeRead _ ps => okStall ps
  | .tileFbRead _ ps => okStall ps
  | .mma ps => okStall ps
  | .adrain ps => okStall ps
  | .wsld ps => okStall ps
  | .wsmm ps => okStall ps
  | .arrayDrainRowWrite ps _ => okStall ps
  | .arrayCmdComplete ps => okStall ps
  | .arrMapWrite _ ps _ => okStall ps
  | .arrRescntRead _ ps => okStall ps
  | .arrParcntRead _ ps => okStall ps
  | .spRecRead _ ps => okStall ps
  | .spSkipcntRead _ ps => okStall ps
  | .gthRecRead _ ps => okStall ps
  | .gthCoalRead _ ps => okStall ps
  | .gthOobcntRead _ ps => okStall ps
  | .gthAddrejRead _ ps => okStall ps
  | .scratchAccess _ _ => true
  | .shedRead _ _ _ => true
  | .shedWrite _ _ _ _ => true
  | .shedAmo _ _ _ => true
  | .refresh ch _ bank => okBay ch && okDramBank bank
  | .scrubRead ch _ _ => okBay ch
  | .xlatWalk _ => true
  | .xlatWalkComplete _ _ => true
  | .xinvStart _ shed _ => okQuad shed
  | .xinvComplete => true
  | .migStart _ shed _ => okQuad shed
  | .elogInfoRead _ shed => okQuad shed
  | .chceRead _ shed i => okQuad shed && okChanIx i
  | .chueRead _ shed i => okQuad shed && okChanIx i
  | .xlatMissRead _ ps => okStall ps
  | .loftFbRead _ ps => okStall ps
  | .pagerDemandAlloc _ => true
  | .pagerRecall _ => true
  | .pagerMoveComplete _ => true
  | .pagerServiceDone _ => true
  | .pagerEvict tenant => okTenant tenant
  | .agerPass => true
  | .loftRead _ => true
  | .loftPageReadDone _ _ => true
  | .ljTailWrite _ _ => true
  | .loftWrite _ _ => true
  | .loftJobRead _ => true
  | .loftErase _ => true
  | .loftSeal _ => true
  | .loftJobDone _ => true
  | .loftDeadline ps q => okStall ps && okQueue q
  | .laneErrorWindow port lanes _ _ => okLink port && okLanes lanes
  | .trainingAttemptEnd port _ => okLink port
  | .linkEnable _ port _ => okLink port
  | .linkTrain _ port => okLink port
  | .linkSpare _ port lane => okLink port && okLane lane
  | .linkPacketReceive port pkt _ _ => okLink port && okPacket pkt
  | .lctl port _ => okLink port
  | .lctlCreditReturn port => okLink port
  | .linkReplayResend port => okLink port
  | .gateRoute gate => okQuad gate
  | .rd gate => okQuad gate
  | .wr gate => okQuad gate
  | .amo gate => okQuad gate
  | .rdRsp gate => okQuad gate
  | .ack gate => okQuad gate
  | .nakRnr gate => okQuad gate
  | .rnrProbe gate tag => okQuad gate && okTag tag
  | .trackerTimeout gate tag => okQuad gate && okTag tag
  | .xferExpire gate _ => okQuad gate
  | .routeEntryAccess _ gate _ => okQuad gate
  | .rwinCtlWrite _ gate k _ => okQuad gate && okWin k
  | .mcRecRead _ n => okQuad n
  | .tmoCntRead _ n => okQuad n
  | .rnrCntRead _ n => okQuad n
  | .linkReplayRead _ n => okLink n
  | .fecCeRead _ n => okLink n
  | .fecUeRead _ n => okLink n
  | .beaconSend port => okLink port
  | .beacon port _ _ _ => okLink port
  | .peerTimeout port => okLink port
  | .spost ps => okStall ps
  | .swait ps => okStall ps
  | .lacq ps => okStall ps
  | .lrel ps => okStall ps
  | .barrive ps => okStall ps
  | .xbarrive ps => okStall ps
  | .sread ps => okStall ps
  | .syncRequestArrive ps => okStall ps
  | .syncAnswerArrive ps => okStall ps
  | .syncWaitTimeout ps => okStall ps
  | .syncWaitRetry ps => okStall ps
  | .syncWithdrawArrive ps => okStall ps
  | .syncTaskendWrite _ _ => true
  | .syncObjWrite _ ps _ => okStall ps
  | .xbarCfgWrite _ _ _ => true
  | .xbarArrival gate => okQuad gate
  | .xbarRelease gate => okQuad gate
  | .xbarDeadline slot => okXbar slot
  | .dldSample => true
  | .syncLockRead _ => true
  | .combRingTailWrite _ _ => true
  | .combOpen => true
  | .combPush => true
  | .combAbort => true
  | .decideLate => true
  | .decideDrop => true
  | .decideExtend => true
  | .digest => true
  | .pushReadComplete comb _ => okQuad comb
  | .contrib gate _ => okQuad gate
  | .result gate => okQuad gate
  | .rabort gate => okQuad gate
  | .combContribDeadline rid => okRid rid
  | .combResultDeadline rid => okRid rid
  | .reductionComplete rid => okRid rid
  | .accCeRead _ n => okQuad n
  | .nakCntRead _ n => okQuad n
  | .discardCntRead _ n => okQuad n
  | .dropCntRead _ n => okQuad n
  | .elemCntRead _ n => okQuad n
  | .passSwitch ps => okStall ps
  | .passFlip _ ps => okStall ps
  | .trStepWrite _ ps _ => okStall ps
  | .trStreamWrite _ ps _ => okStall ps
  | .trPassWrite _ ps _ => okStall ps
  | .statsFlush _ ps => okStall ps
  | .statsFlushComplete ps _ => okStall ps
  | .trTiedRead _ ps => okStall ps
  | .cmtOpen _ => true
  | .cmtPrepare _ => true
  | .cmtAbort _ => true
  | .cmtResolve _ _ => true
  | .cmtFinish _ => true
  | .cmtVote => true
  | .cmtFlipComplete _ => true
  | .cmtDoubt => true
  | .ckptDrainEnd _ => true
  | .ssLostRead _ => true
  | .arbDraw kind _ _ => okArb kind
  | .arbWatchdogBite kind _ _ => okArb kind
  | .arbFreeze _ _ => true
  | .arbSeedWrite _ _ => true
  | .wdogRecRead _ => true
  | .wdogCntRead _ => true
  | .intcDeliveryStart => true
  | .intcDeliveryArrive src => okSource src
  | .intcEoiWrite _ _ => true
  | .swiSet _ _ => true
  | .swiClr _ _ => true
  | .ethFrameReceive port _ => okHport port
  | .halterRequest port _ => okHport port
  | .halterSeqHoldExpire _ _ => true
  | .sessionTimeout _ => true
  | .longCommandEnd _ _ => true
  | .sessionOpen => true
  | .sessionClose => true
  | .devInfo => true
  | .csrRead => true
  | .csrWrite => true
  | .modeSet => true
  | .spareSet => true
  | .memRead => true
  | .memWrite => true
  | .bayRelease => true
  | .bayState => true
  | .chanReclaim => true
  | .mrReg => true
  | .mrDereg => true
  | .qpCreate => true
  | .qpDestroy => true
  | .doorbell => true
  | .groomRun => true
  | .groomHalt => true
  | .queueCtl => true
  | .taskEnd => true
  | .neighRead => true
  | .devidSet => true
  | .routeWrite => true
  | .rwinSet => true
  | .xbarSet => true
  | .portCtl => true
  | .cmtCmd => true
  | .stepRead => true
  | .groupRestore => true
  | .ckptRead => true
  | .coolClear => true
  | .powerCap => true
  | .pstateSet => true
  | .fwStage => true
  | .fwActivate => true
  | .attest => true
  | .attestRead => true
  | .teleRead => true
  | .evtSubscribe => true
  | .evtAck => true
  | .eventResend _ => true
  | .roceRdmaWrite port _ _ _ _ => okHport port
  | .roceWriteImm port _ _ _ _ _ => okHport port
  | .roceRdmaRead port _ _ _ _ => okHport port
  | .roceSend port _ => okHport port
  | .roceCnp port _ => okHport port
  | .roceRateRecover port _ => okHport port
  | .authfailCntRead _ => true
  | .rxdropCntRead _ => true
  | .inletPowerOn => true
  | .bringupStepEnd _ => true
  | .refLoss => true
  | .pllUnlock die => okDie die
  | .dclinkSample _ => true
  | .supplyOk => true
  | .packageReset _ => true
  | .powerMeasure _ _ => true
  | .pstateEnter unit => okUnit unit
  | .pstatePlannedWake unit => okUnit unit
  | .pstateWake unit _ => okUnit unit
  | .pwrNextExpire ps => okStall ps
  | .psCfgWrite _ _ => true
  | .pwrCapHostWrite _ _ => true
  | .errorRecord => true
  | .tackHeartbeat _ _ => true
  | .tackTakeover => true
  | .tackTakeoverRequest _ => true
  | .columnSpare ps col => okStall ps && okCol col
  | .bankSpare ps bank => okStall ps && okBank bank
  | .stallSpareMove ps _ => okStall ps
  | .arraySelfTest ps _ => okStall ps
  | .ageSample mon _ => okMonitor mon
  | .agePredict mon => okMonitor mon
  | .fwStartTimeout => true
  | .elogPop _ => true
  | .perfEnable _ ps _ => okStall ps
  | .perfZero _ ps => okStall ps
  | .perfCfgWrite _ ps n _ => okStall ps && okCounter n
  | .perfCounterWrap ps n => okStall ps && okCounter n
  | .registerWrite _ _ _ _ => true
  | .ctrlParityError site => okSite site
  | .laneLossOfLock port lane _ => okLink port && okLane lane
  | .linkSignalDetect port => okLink port
  | .hostModuleInsert port _ _ => okHport port
  | .hostPortLinkChange port _ => okHport port
  | .digestComplete _ _ => true
  | .tackRestartEnd _ => true

end Sys2Proof
end

