-- ==== Sys2Proof/Config.lean ====
section
/-! DEFINITION. The free values: what the spec leaves open, as constants without a body. -/

namespace Sys2Proof.Config

/-- A fresh 64-bit value, by a counter of the state (DESIGN CHOICE, log 59). -/
opaque freeWord : Nat → Word

/-- The estimates VFRCPE, VFRSQE, VFEXP2, VFLOG2: the spec bounds their error and gives no bits (R79). Arguments: the
operation 0 to 3, the format code and the operand (DESIGN CHOICE, log 13). -/
opaque estimate : Nat → Nat → Nat → Nat

/-- UF and NX of an estimate (R82 names the flags; none is stated for an estimate) (DESIGN CHOICE, log 13). -/
opaque estimateFlags : Nat → Nat → Nat → Nat

/-- Whether a result counts as tiny before or after rounding: IEEE 754 leaves it to the implementation (R212) (DEDUCED, log 11). -/
opaque tinyBefore : Bool

/-- Whether 0 × ∞ + NaN sets NV: IEEE 754 leaves it to the implementation (R212) (DEDUCED, log 11). -/
opaque fmaNanInvalid : Bool

/-- Flags of a VCVT that turns an infinity into the largest finite FP8 or FP4 value (R80, R210) (DESIGN CHOICE, log 13). -/
opaque satInfFlags : Nat → Nat

/-- An integer conversion of VCVT to a narrower integer that cannot hold the value (R80 states none): the result and
whether it counts as saturated. Arguments: source code, destination code, source bits (DESIGN CHOICE, log 13). -/
opaque intNarrow : Nat → Nat → Nat → Nat × Bool

/-- VEXT with a lane number outside the register (R79): the value read (DESIGN CHOICE, log 12). -/
opaque vextOut : Nat → Word → Word

/-- VREDMAX (0) and VREDMIN (1) with no active lane (R79): the value written, by element width code (DESIGN CHOICE, log 13). -/
opaque emptyRed : Nat → Nat → Nat

/-- The FP32 value the derivative unit takes for e^(-y) (R416): error bounded, bits open (DESIGN CHOICE, log 13). -/
opaque expNeg : Nat → Nat

/-- Whether a signature verifies: scheme, key and message are outside the model (R508, R551) (DESIGN CHOICE, log 58). -/
opaque sigVerifies : List Byte → Bool

/-- A signature under the identity key with a context string (R554, R556) (DESIGN CHOICE, log 58). -/
opaque sign : List Byte → List Byte

/-- The identity public key (R553) (DESIGN CHOICE, log 58). -/
opaque identityKey : List Byte

/-- The device certificate (R553) (DESIGN CHOICE, log 58). -/
opaque certificate : List Byte

/-- SERIAL (R493) (DESIGN CHOICE, log 58). -/
opaque serial : Word

/-- Boot ROM version (R555) (DESIGN CHOICE, log 58). -/
opaque romVersion : List Byte

/-- The communication group that a request of an instruction or command carries (R327 names the field and no source), by task
and tenant (DESIGN CHOICE, log 35). -/
opaque requestGroup : Nat → Nat → Nat

/-- The 128-bit DNONCE and the session ID the device chooses, by a counter (R485) (DESIGN CHOICE, log 58). -/
opaque dnonce : Nat → List Byte

/-- The data plane's key for a memory region (R493, MR_REG), by index (DESIGN CHOICE, log 49). -/
opaque rkeyHigh : Nat → Nat

/-- The version of a firmware image (R493): no rule says where an image holds it (DESIGN CHOICE, log 50). -/
opaque fwVersion : List Byte → Nat

end Sys2Proof.Config
end

