-- ==== Sys2Proof/Machine/Float.lean ====
section
/-! DEFINITION. Exact values of the number formats, rounding in four modes, and IEEE 754 arithmetic with flags
(R208 to R216, R80 to R82). -/

namespace Sys2Proof.Machine

/-- An exact value: NaN, an infinity, or ±m × 2^e. -/
inductive Num where
  | nan
  | inf (neg : Bool)
  | fin (neg : Bool) (m : Nat) (e : Int)
  deriving DecidableEq, Repr

/-- A float format (R208): exponent bits, fraction bits, and which codes are special: 0 as IEEE 754, 1 NaN only in
the all-ones code (E4M3), 2 none (E2M1). -/
structure FFmt where
  eb : Nat
  fb : Nat
  kind : Nat
  deriving DecidableEq, Repr

def fp64 : FFmt := ⟨11, 52, 0⟩
def fp32 : FFmt := ⟨8, 23, 0⟩
def bf16 : FFmt := ⟨8, 7, 0⟩
def fp16 : FFmt := ⟨5, 10, 0⟩
def e5m2 : FFmt := ⟨5, 2, 0⟩
def e4m3 : FFmt := ⟨4, 3, 1⟩
def e2m1 : FFmt := ⟨2, 1, 2⟩

def FFmt.width (f : FFmt) : Nat := 1 + f.eb + f.fb
def FFmt.bias (f : FFmt) : Int := 2 ^ (f.eb - 1) - 1
/-- Exponent of the least significant bit of a subnormal. -/
def FFmt.qmin (f : FFmt) : Int := 1 - f.bias - f.fb
/-- The canonical NaN (R209); a format without NaN has none. -/
def FFmt.nanCode (f : FFmt) : Nat :=
  match f.kind with
  | 0 => (2 ^ f.eb - 1) * 2 ^ f.fb + 2 ^ (f.fb - 1)
  | 1 => 2 ^ (f.eb + f.fb) - 1
  | _ => 0
/-- The largest finite magnitude's code (R208). -/
def FFmt.maxCode (f : FFmt) : Nat :=
  match f.kind with
  | 0 => (2 ^ f.eb - 1) * 2 ^ f.fb - 1
  | 1 => 2 ^ (f.eb + f.fb) - 2
  | _ => 2 ^ (f.eb + f.fb) - 1

/-- The value of a code (R208). -/
def FFmt.decode (f : FFmt) (c : Nat) : Num :=
  let neg := decide (c / 2 ^ (f.eb + f.fb) % 2 = 1)
  let x := c / 2 ^ f.fb % 2 ^ f.eb
  let t := c % 2 ^ f.fb
  if f.kind = 0 ∧ x = 2 ^ f.eb - 1 then (if t = 0 then .inf neg else .nan)
  else if f.kind = 1 ∧ c % 2 ^ (f.eb + f.fb) = 2 ^ (f.eb + f.fb) - 1 then .nan
  else if x = 0 then .fin neg t f.qmin
  else .fin neg (t + 2 ^ f.fb) (x - f.bias - f.fb)

/-- Rounding modes of GROOM_FPCTL.RM: 0 nearest-even, 1 toward zero, 2 toward −∞, 3 toward +∞. -/
def roundUp (rm : Nat) (neg : Bool) (q rem half : Nat) : Bool :=
  match rm with
  | 0 => decide (half < 2 * rem) || (decide (2 * rem = half) && decide (q % 2 = 1))
  | 1 => false
  | 2 => neg && decide (rem ≠ 0)
  | _ => !neg && decide (rem ≠ 0)

/-- m × 2^e as an integer multiple of 2^q, rounded, and whether it was exact. -/
def roundAt (rm : Nat) (neg : Bool) (m : Nat) (e q : Int) : Nat × Bool :=
  if q ≤ e then (m * 2 ^ (e - q).toNat, true)
  else
    let d := 2 ^ (q - e).toNat
    let t := m / d
    let r := m % d
    (t + b2n (roundUp rm neg t r d), decide (r = 0))

/-- Base-2 logarithm, rounded down, of a positive number. -/
def ilog2 (m : Nat) : Nat := Nat.log2 m

/-- Round ±m × 2^e (m > 0) to `fb` fraction bits with subnormals below exponent `qmin`: the multiple and its exponent,
whether exact, and whether the rounded value with unbounded exponent is below the normal range. -/
def roundTo (f : FFmt) (rm : Nat) (neg : Bool) (m : Nat) (e : Int) : Nat × Int × Bool × Bool × Bool :=
  let top : Int := (ilog2 m : Int) + e
  let qn := top - f.fb
  let q := max qn f.qmin
  let (t, ex) := roundAt rm neg m e q
  let (t', q') := if t = 2 ^ (f.fb + 1) then (2 ^ f.fb, q + 1) else (t, q)
  let (u, _) := roundAt rm neg m e qn
  let before := decide (qn < f.qmin)
  let after := decide ((if u = 2 ^ (f.fb + 1) then qn + 1 else qn) < f.qmin)
  (t', q', ex, before, after)

/-- The code of sign and rounded magnitude t × 2^q, t below 2^(fb+1); none when it is above every finite code. -/
def FFmt.encodeFin (f : FFmt) (t : Nat) (q : Int) : Option Nat :=
  let c : Nat := if t < 2 ^ f.fb then t else ((q - f.qmin).toNat + 1) * 2 ^ f.fb + (t - 2 ^ f.fb)
  if c ≤ f.maxCode then some c else none

def FFmt.sign (f : FFmt) (neg : Bool) : Nat := if neg then 2 ^ (f.eb + f.fb) else 0
def FFmt.infCode (f : FFmt) : Nat := (2 ^ f.eb - 1) * 2 ^ f.fb

/-- Flag bits: NV, DZ, OF, UF, NX in bits 4 to 0. -/
def fNV : Nat := 16
def fDZ : Nat := 8
def fOF : Nat := 4
def fUF : Nat := 2
def fNX : Nat := 1

/-- Round a value to a format as IEEE 754 directs (R82, R212), with flags; `ftz` flushes a subnormal result. -/
def ieeeRound (f : FFmt) (rm : Nat) (ftz : Bool) : Num → Nat × Nat
  | .nan => (f.nanCode, 0)
  | .inf n => (f.sign n + f.infCode, 0)
  | .fin n 0 _ => (f.sign n, 0)
  | .fin n (m + 1) e =>
    let (t, q, ex, before, after) := roundTo f rm n (m + 1) e
    match f.encodeFin t q with
    | none =>
      let big := rm = 0 ∨ (rm = 2 ∧ n) ∨ (rm = 3 ∧ !n)
      (f.sign n + (if big then f.infCode else f.maxCode), fOF + fNX)
    | some c =>
      let tiny := if Config.tinyBefore then before else after
      if ftz ∧ c < 2 ^ f.fb ∧ c ≠ 0 then (f.sign n, fUF + b2n (!ex))
      else (f.sign n + c, (if tiny && !ex then fUF else 0) + b2n (!ex))

/-- What the narrowing of R210 did. -/
inductive Narrow where
  | kept | saturated | nanToZero | flushed
  deriving DecidableEq, Repr

/-- Round to nearest-even and saturate as R210 states; the second part is whether the value changed. -/
def satRound (f : FFmt) : Num → Nat × Narrow × Bool
  | .nan => if f.kind = 2 then (0, .nanToZero, true) else (f.nanCode, .kept, false)
  | .inf n => if f.kind = 0 then (f.sign n + f.infCode, .kept, false) else (f.sign n + f.maxCode, .saturated, true)
  | .fin n 0 _ => (f.sign n, .kept, false)
  | .fin n (m + 1) e =>
    let (t, q, ex, _, _) := roundTo f 0 n (m + 1) e
    match f.encodeFin t q with
    | none => (f.sign n + f.maxCode, .saturated, true)
    | some c => (f.sign n + c, if c = 0 then .flushed else .kept, !ex)

/-- A signed integer multiple of 2^e. -/
def Num.ofInt (i : Int) (e : Int) (zeroNeg : Bool) : Num :=
  if i = 0 then .fin zeroNeg 0 e else .fin (decide (i < 0)) i.natAbs e

/-- The signed significand of a finite value at exponent `q` not above its own. -/
def sigAt (neg : Bool) (m : Nat) (e q : Int) : Int :=
  let v : Int := (m * 2 ^ (e - q).toNat : Nat)
  if neg then -v else v

def Num.isNaN : Num → Bool
  | .nan => true
  | _ => false
def Num.isInf : Num → Bool
  | .inf _ => true
  | _ => false
def Num.isZero : Num → Bool
  | .fin _ 0 _ => true
  | _ => false
def Num.neg : Num → Num
  | .nan => .nan
  | .inf n => .inf (!n)
  | .fin n m e => .fin (!n) m e
def Num.signBit : Num → Bool
  | .nan => false
  | .inf n => n
  | .fin n _ _ => n

/-- The exact sum, and whether it is invalid (∞ − ∞). A zero sum of values of different sign is −0 only when
rounding toward −∞ (IEEE 754). -/
def Num.add (rm : Nat) : Num → Num → Num × Bool
  | .nan, _ => (.nan, false)
  | _, .nan => (.nan, false)
  | .inf a, .inf b => if a = b then (.inf a, false) else (.nan, true)
  | .inf a, .fin _ _ _ => (.inf a, false)
  | .fin _ _ _, .inf b => (.inf b, false)
  | .fin na ma ea, .fin nb mb eb =>
    let q := min ea eb
    let z := if ma = 0 ∧ mb = 0 ∧ na = nb then na else decide (rm = 2)
    (Num.ofInt (sigAt na ma ea q + sigAt nb mb eb q) q z, false)

/-- The exact product, and whether it is invalid (0 × ∞). -/
def Num.mul : Num → Num → Num × Bool
  | .nan, _ => (.nan, false)
  | _, .nan => (.nan, false)
  | .inf a, .inf b => (.inf (a ^^ b), false)
  | .inf a, .fin b m _ => if m = 0 then (.nan, true) else (.inf (a ^^ b), false)
  | .fin a m _, .inf b => if m = 0 then (.nan, true) else (.inf (a ^^ b), false)
  | .fin na ma ea, .fin nb mb eb => (.fin (na ^^ nb) (ma * mb) (ea + eb), false)

/-- A quotient with enough bits and a sticky bit to round once to any format here, with NV and DZ. -/
def Num.div : Num → Num → Num × Nat
  | .nan, _ => (.nan, 0)
  | _, .nan => (.nan, 0)
  | .inf _, .inf _ => (.nan, fNV)
  | .inf a, .fin b _ _ => (.inf (a ^^ b), 0)
  | .fin a _ e, .inf b => (.fin (a ^^ b) 0 e, 0)
  | .fin na ma ea, .fin nb mb eb =>
    if mb = 0 then (if ma = 0 then (.nan, fNV) else (.inf (na ^^ nb), fDZ))
    else
      let k := 60 + ilog2 mb
      let n := ma * 2 ^ k
      (.fin (na ^^ nb) (2 * (n / mb) + b2n (decide (n % mb ≠ 0))) (ea - eb - k - 1), 0)

/-- Integer square root, one bit at a time from bit `b` down. -/
def isqrt (n : Nat) : Nat → Nat → Nat
  | 0, r => r
  | b + 1, r => isqrt n b (if (r + 2 ^ b) * (r + 2 ^ b) ≤ n then r + 2 ^ b else r)

/-- A square root with enough bits and a sticky bit to round once. -/
def Num.sqrt : Num → Num × Nat
  | .nan => (.nan, 0)
  | .inf n => if n then (.nan, fNV) else (.inf false, 0)
  | .fin n m e =>
    if m = 0 then (.fin n 0 e, 0)
    else if n then (.nan, fNV)
    else
      let k := 120 + (e % 2).toNat
      let x := m * 2 ^ k
      let r := isqrt x (ilog2 x / 2 + 1) 0
      (.fin false (2 * r + b2n (decide (r * r ≠ x))) ((e - k) / 2 - 1), 0)

/-- Order of two values that are not NaN, with −0 equal to +0. -/
def Num.lt : Num → Num → Bool
  | .nan, _ => false
  | _, .nan => false
  | .inf a, .inf b => a && !b
  | .inf a, .fin _ _ _ => a
  | .fin _ _ _, .inf b => !b
  | .fin na ma ea, .fin nb mb eb =>
    let q := min ea eb
    decide (sigAt na ma ea q < sigAt nb mb eb q)
def Num.eq (a b : Num) : Bool := !a.isNaN && !b.isNaN && !Num.lt a b && !Num.lt b a

/-- Minimum of two values; a NaN yields the other operand (VFMIN), and −0 is below +0. -/
def Num.min2 (a b : Num) : Num :=
  if a.isNaN then b else if b.isNaN then a
  else if Num.lt a b then a else if Num.lt b a then b
  else if a.signBit then a else b
def Num.max2 (a b : Num) : Num :=
  if a.isNaN then b else if b.isNaN then a
  else if Num.lt a b then b else if Num.lt b a then a
  else if a.signBit then b else a

/-- Subnormal inputs read as zero of the same sign under FTZ (R82). -/
def FFmt.read (f : FFmt) (ftz : Bool) (c : Nat) : Num :=
  if ftz ∧ c / 2 ^ f.fb % 2 ^ f.eb = 0 then .fin (decide (c / 2 ^ (f.eb + f.fb) % 2 = 1)) 0 f.qmin
  else f.decode c

/-- The integer part of a value by a rounding mode, and whether exact. -/
def Num.toInt (rm : Nat) (n : Bool) (m : Nat) (e : Int) : Int × Bool :=
  let (t, ex) := roundAt rm n m e 0
  (if n then -(t : Int) else t, ex)

/-! ### Estimates (R79): a bound on the error and no bits -/

/-- Value of a finite number as a multiple of 2^-64, rounded down in magnitude. -/
def fix64 (m : Nat) (e : Int) : Nat := if 0 ≤ e + 64 then m * 2 ^ (e + 64).toNat else m / 2 ^ (-(e + 64)).toNat

/-- 2^(x/2^64) for x below 2^64, as a multiple of 2^-100: the product of the square roots that its bits select. -/
def exp2Frac : Nat → Nat → Nat → Nat → Nat
  | 0, _, _, acc => acc
  | b + 1, x, root, acc =>
    let r := isqrt (root * 2 ^ 100) 102 0
    exp2Frac b x r (if x / 2 ^ b % 2 = 1 then acc * r / 2 ^ 100 else acc)

/-- log2 of x/2^100 in [1, 2), as a multiple of 2^-n, by repeated squaring. -/
def log2Frac : Nat → Nat → Nat → Nat
  | 0, _, acc => acc
  | b + 1, x, acc =>
    let y := x * x / 2 ^ 100
    if 2 ^ 101 ≤ y then log2Frac b (y / 2) (2 * acc + 1) else log2Frac b y (2 * acc)

/-- The function an estimate approximates: 0 1/x, 1 1/√x, 2 2^x, 3 log2 x, to well below any bound here. -/
def estimateRef (op : Nat) : Num → Num × Nat
  | .nan => (.nan, 0)
  | .inf n =>
    match op with
    | 0 => (.fin n 0 0, 0)
    | 1 => if n then (.nan, fNV) else (.fin false 0 0, 0)
    | 2 => if n then (.fin false 0 0, 0) else (.inf false, 0)
    | _ => if n then (.nan, fNV) else (.inf false, 0)
  | .fin n m e =>
    match op with
    | 0 => Num.div (.fin false 1 0) (.fin n m e)
    | 1 =>
      if m = 0 then (.inf n, fDZ)
      else if n then (.nan, fNV)
      else Num.div (.fin false 1 0) (Num.sqrt (.fin false m e)).1
    | 2 =>
      if (ilog2 m : Int) + e ≥ 12 ∧ m ≠ 0 then (.fin false 1 (if n then -5000 else 5000), 0)
      else
        let k := fix64 m e
        let i : Int := if n then -(cdiv k (2 ^ 64) : Nat) else (k / 2 ^ 64 : Nat)
        let fr : Nat := if n then (cdiv k (2 ^ 64) * 2 ^ 64 - k) else k % 2 ^ 64
        (.fin false (exp2Frac 64 fr (2 ^ 101) (2 ^ 100)) (i - 100), 0)
    | _ =>
      if m = 0 then (.inf true, fDZ)
      else if n then (.nan, fNV)
      else
        let top : Int := (ilog2 m : Int) + e
        let x := if ilog2 m ≤ 100 then m * 2 ^ (100 - ilog2 m) else m / 2 ^ (ilog2 m - 100)
        let v : Int := top * 2 ^ 64 + log2Frac 64 x 0
        (Num.ofInt v (-64) false, 0)

/-- Whether a code lies within the error that R79 allows: relative 2^-12 in FP32, one unit in the last place in BF16
and FP16; FP64 has no stated bound. -/
def estimateOk (f : FFmt) (ref : Num) (c : Nat) : Bool :=
  match ref, f.decode c with
  | .fin rn rm re, .fin cn cm ce =>
    let q := min re ce
    let a := sigAt rn rm re q
    let d := (sigAt cn cm ce q - a).natAbs
    if f.fb = 23 then decide (d * 2 ^ 12 < a.natAbs)
    else
      let ulp : Int := (max (re + ilog2 rm - f.fb) f.qmin)
      if ulp ≥ q then decide (d ≤ 2 ^ (ulp - q).toNat) else decide (d = 0)
  | _, _ => false

/-- An estimate: exact special values as IEEE 754 gives them; otherwise a free value inside the bound. A reference that
is exactly zero, or not finite in the format, has only its rounded value; FP64 has no bound (DESIGN CHOICE, log 13). -/
def estimate (op : Nat) (f : FFmt) (fmt : Nat) (ftz : Bool) (c : Nat) : Nat × Nat :=
  let x := f.read ftz c
  let (ref, fl) := estimateRef op x
  let (rc, rfg) := ieeeRound f 0 ftz ref
  match ref with
  | .fin _ 0 _ => (rc, fl)
  | .fin _ _ _ =>
    if rfg / fOF % 2 = 1 then (rc, rfg)
    else
      let cand := Config.estimate op fmt c % 2 ^ f.width
      let ok := f.fb = 52 ∨ estimateOk f ref cand
      (if ok then cand else rc, Config.estimateFlags op fmt c % 4)
  | _ => (rc, fl)

end Sys2Proof.Machine
end

