-- ==== Sys2Proof/Machine/Regs.lean ====
section
/-! DEFINITION. The register tables of the spec as data: for each register its offset, repeat, reset value and the
bits of each access type (R5). Bits in none of them are reserved and read zero (R8). -/

namespace Sys2Proof.Machine

/-- One row of a register table: `cnt` registers from `off`, `stride` apart; masks of the access types of R5. -/
structure RegKind where
  off : Nat
  stride : Nat
  cnt : Nat
  reset : Nat
  ro : Nat
  rw : Nat
  w1c : Nat
  w1s : Nat
  rc : Nat
  wo : Nat
  deriving DecidableEq, Repr

/-- Registers of block NET (R56). -/
def netRegs : List RegKind := [
  ⟨0x0, 0x8, 1, 0x0, 0xF1FF7F3F, 0x0, 0x0, 0x0, 0x0, 0x0⟩,  -- NET_NODE_ID
  ⟨0x8, 0x8, 1, 0x1, 0x0, 0x7F3F00F3, 0x0, 0x0, 0x0, 0x100⟩,  -- NET_NODE_CTL
  ⟨0x10, 0x8, 1, 0x3, 0xF3, 0x0, 0x0, 0x0, 0x0, 0x0⟩,  -- NET_NODE_STATUS
  ⟨0x18, 0x8, 1, 0x0, 0x0, 0x0, 0x1F, 0x0, 0x0, 0x0⟩,  -- NET_ERR
  ⟨0x20, 0x8, 1, 0x0, 0x0, 0x0, 0x0, 0x0, 0xFFFF, 0x0⟩,  -- NET_ERR_CNT
  ⟨0x100, 0x8, 24, 0x0, 0x0, 0xE000FF7F7F7F3F3F, 0x0, 0x0, 0x0, 0x0⟩  -- NET_DETOUR
  ]

/-- Registers of block GROOM (R97), part 1. -/
def groomRegs0 : List RegKind := [
  ⟨0x0, 0x8, 1, 0x11, 0x1B, 0x24, 0x0, 0x0, 0x0, 0x0⟩,  -- GROOM_STATUS
  ⟨0x8, 0x8, 1, 0x1, 0x0, 0xF, 0x0, 0x0, 0x0, 0x0⟩,  -- GROOM_ESTATUS
  ⟨0x10, 0x8, 1, 0x0, 0x0, 0x3FFFFC, 0x0, 0x0, 0x0, 0x0⟩,  -- GROOM_EPC
  ⟨0x18, 0x8, 1, 0x0, 0x0, 0x7FFFF, 0x0, 0x0, 0x0, 0x0⟩,  -- GROOM_ECAUSE
  ⟨0x20, 0x8, 1, 0x0, 0x0, 0xFFFFFFFFFFFFFFFF, 0x0, 0x0, 0x0, 0x0⟩,  -- GROOM_EVAL
  ⟨0x28, 0x8, 1, 0x0, 0x0, 0x3FFE00, 0x0, 0x0, 0x0, 0x0⟩,  -- GROOM_KVBASE
  ⟨0x30, 0x8, 1, 0x0, 0x0, 0xFFFFFFFFFFFFFFFF, 0x0, 0x0, 0x0, 0x0⟩,  -- GROOM_KSCRATCH0
  ⟨0x38, 0x8, 1, 0x0, 0x0, 0xFFFFFFFFFFFFFFFF, 0x0, 0x0, 0x0, 0x0⟩,  -- GROOM_KSCRATCH1
  ⟨0x40, 0x8, 1, 0x0, 0x0, 0xFFFFFFFF, 0x0, 0x0, 0x0, 0x0⟩,  -- GROOM_TASKID
  ⟨0x48, 0x8, 1, 0x0, 0x0, 0x3FFFFC, 0x0, 0x0, 0x0, 0x0⟩,  -- GROOM_FETCH_LO
  ⟨0x50, 0x8, 1, 0x0, 0x0, 0x3FFFFC, 0x0, 0x0, 0x0, 0x0⟩,  -- GROOM_FETCH_HI
  ⟨0x58, 0x8, 1, 0x0, 0x0, 0x1FFFFFFFFFFFF, 0x0, 0x0, 0x0, 0x0⟩,  -- GROOM_DWIN_LO
  ⟨0x60, 0x8, 1, 0x0, 0x0, 0x1FFFFFFFFFFFF, 0x0, 0x0, 0x0, 0x0⟩,  -- GROOM_DWIN_HI
  ⟨0x68, 0x8, 1, 0x0, 0x0, 0x1F0F, 0x0, 0x0, 0x0, 0x0⟩,  -- GROOM_FPCTL
  ⟨0x70, 0x8, 1, 0x0, 0x0, 0x1, 0x0, 0x0, 0x0, 0x2⟩,  -- GROOM_PREDCTL
  ⟨0x78, 0x8, 1, 0x0, 0x0, 0xF, 0x0, 0x0, 0x0, 0x0⟩,  -- GROOM_PRIO
  ⟨0x80, 0x8, 1, 0x0, 0x3FFF1FFFFF, 0x0, 0x0, 0x0, 0x0, 0x0⟩,  -- GROOM_SELF
  ⟨0x88, 0x8, 1, 0x0, 0xFFFFFFFFFFFFFFFF, 0x0, 0x0, 0x0, 0x0, 0x0⟩,  -- GROOM_CYCLE
  ⟨0x90, 0x8, 1, 0x0, 0xFFFFFFFFFFFFFFFF, 0x0, 0x0, 0x0, 0x0, 0x0⟩,  -- GROOM_INSTRET
  ⟨0x98, 0x8, 1, 0x0, 0x0, 0x3FFFFC, 0x0, 0x0, 0x0, 0x7000000000000000⟩  -- GROOM_RUNCTL
  ]

/-- Registers of block GROOM (R97), part 2. -/
def groomRegs1 : List RegKind := [
  ⟨0xA0, 0x8, 1, 0x0, 0x0, 0x3FF, 0x0, 0x0, 0x0, 0x0⟩,  -- GROOM_DBG_SEL
  ⟨0xA8, 0x8, 1, 0x0, 0x0, 0xFFFFFFFFFFFFFFFF, 0x0, 0x0, 0x0, 0x0⟩  -- GROOM_DBG_DATA
  ]

/-- Registers of block GROOM. -/
def groomRegs : List RegKind := groomRegs0 ++ groomRegs1

/-- Registers of block STALL (R138, R171, R206, R231, R258, R279, R311, R367, R433, R533, R568), part 1. -/
def stallRegs0 : List RegKind := [
  ⟨0x0, 0x40, 5, 0x0, 0x3FF7, 0x0, 0x0, 0x0, 0x0, 0x0⟩,  -- STALL_QSTAT
  ⟨0x8, 0x40, 5, 0x0, 0xFFFFFFFFFFFFFFFF, 0x0, 0x0, 0x0, 0x0, 0x0⟩,  -- STALL_QISSUED
  ⟨0x10, 0x40, 5, 0x0, 0xFFFFFFFFFFFFFFFF, 0x0, 0x0, 0x0, 0x0, 0x0⟩,  -- STALL_QDONE
  ⟨0x18, 0x40, 5, 0x0, 0x0, 0x0, 0x0, 0x0, 0x0, 0xF⟩,  -- STALL_QCTL
  ⟨0x20, 0x40, 5, 0x0, 0xFFFFFFFF0000FFFF, 0x0, 0x0, 0x0, 0x0, 0x0⟩,  -- STALL_QPOS
  ⟨0x28, 0x40, 5, 0x0, 0xFFFFFFFF, 0x0, 0x0, 0x0, 0x0, 0x0⟩,  -- STALL_QFAULT
  ⟨0x30, 0x40, 5, 0x0, 0xFFFFFFFFFFFFFFFF, 0x0, 0x0, 0x0, 0x0, 0x0⟩,  -- STALL_QFADDR
  ⟨0x200, 0x8, 1, 0x80808, 0x0, 0x3F3F3F, 0x0, 0x0, 0x0, 0x0⟩,  -- STALL_SLOT_CFG
  ⟨0x208, 0x8, 1, 0x30, 0x3F3F3F3F, 0x0, 0x0, 0x0, 0x0, 0x0⟩,  -- STALL_SLOT_STAT
  ⟨0x210, 0x8, 1, 0x2, 0x0, 0x3, 0x0, 0x0, 0x0, 0x0⟩,  -- STALL_RUNAHEAD
  ⟨0x218, 0x8, 1, 0x0, 0x0, 0x0, 0x3, 0x0, 0x0, 0x0⟩,  -- STALL_ENG_ERR
  ⟨0x220, 0x8, 1, 0x0, 0x0, 0x0, 0x0, 0x0, 0xFFFFFFFF, 0x0⟩,  -- STALL_HELD_DROP
  ⟨0x228, 0x8, 1, 0x0, 0x0, 0x0, 0x0, 0x0, 0xFFFFFFFF, 0x0⟩,  -- STALL_BANKWAIT
  ⟨0x230, 0x8, 1, 0x0, 0xFDFFFFFFFFFFFF, 0x0, 0x0, 0x0, 0x0, 0x0⟩,  -- STALL_SLOT_WAITADDR
  ⟨0x240, 0x8, 1, 0x0, 0x0, 0x0, 0x0, 0x0, 0x0, 0xFFFFFFFF173FFFFF⟩,  -- STALL_DOORBELL
  ⟨0x248, 0x8, 1, 0x0, 0x13F, 0x0, 0x0, 0x0, 0x0, 0x0⟩,  -- STALL_DB_STAT
  ⟨0x300, 0x8, 32, 0x0, 0x0, 0xFFFF, 0x0, 0x0, 0x0, 0x0⟩,  -- STALL_EV
  ⟨0x1000, 0x20, 16, 0x0, 0x1FF7FFFF03, 0x0, 0x0, 0x0, 0x0, 0x0⟩,  -- STALL_TSTAT
  ⟨0x1008, 0x20, 16, 0x0, 0x0, 0x7F00FFFF0F, 0x0, 0x0, 0x0, 0x0⟩,  -- STALL_TPROG
  ⟨0x1010, 0x20, 16, 0x0, 0xFFFFFFFFFFFFFFFF, 0x0, 0x0, 0x0, 0x0, 0x0⟩  -- STALL_TMASKLO
  ]

/-- Registers of block STALL (R138, R171, R206, R231, R258, R279, R311, R367, R433, R533, R568), part 2. -/
def stallRegs1 : List RegKind := [
  ⟨0x1018, 0x20, 16, 0x0, 0xFFFFFFFFFFFFFFFF, 0x0, 0x0, 0x0, 0x0, 0x0⟩,  -- STALL_TMASKHI
  ⟨0x1200, 0x8, 1, 0x0, 0x0, 0x0, 0x0, 0x0, 0xC07FFFFF7FFFFF7F, 0x0⟩,  -- STALL_TSHAPE_REC
  ⟨0x1208, 0x8, 1, 0x0, 0x1FF7F00, 0x0, 0x1, 0x0, 0x0, 0x0⟩,  -- STALL_TILE_ERR
  ⟨0x1210, 0x8, 1, 0x0, 0x0, 0x0, 0x0, 0x0, 0xFFFFFFFF, 0x0⟩,  -- STALL_TILE_CE
  ⟨0x1218, 0x8, 1, 0x0, 0x0, 0x0, 0x0, 0x0, 0xFFFFFFFF, 0x0⟩,  -- STALL_TILE_FB
  ⟨0x1220, 0x8, 1, 0x0, 0x7F, 0x0, 0x0, 0x0, 0x0, 0x0⟩,  -- STALL_TILE_BANKMAP
  ⟨0x1400, 0x8, 1, 0x0, 0x77, 0x0, 0x0, 0x0, 0x0, 0x0⟩,  -- STALL_ARR_STAT
  ⟨0x1408, 0x8, 1, 0x0, 0xFFFFFFFFFFFFFFFF, 0x0, 0x0, 0x0, 0x0, 0x0⟩,  -- STALL_ARR_VROWLO
  ⟨0x1410, 0x8, 1, 0x0, 0xFFFFFFFFFFFFFFFF, 0x0, 0x0, 0x0, 0x0, 0x0⟩,  -- STALL_ARR_VROWHI
  ⟨0x1418, 0x8, 1, 0x0, 0x0, 0x1, 0x0, 0x0, 0x0, 0x0⟩,  -- STALL_ARR_CTL
  ⟨0x1420, 0x8, 1, 0x0, 0x0, 0x1FF01FF07FF07FF, 0x0, 0x0, 0x0, 0x0⟩,  -- STALL_ARR_MAP
  ⟨0x1428, 0x8, 1, 0x0, 0x7FFFFF03FF7F00, 0x0, 0x3, 0x0, 0x0, 0x0⟩,  -- STALL_ARR_ERR
  ⟨0x1430, 0x8, 1, 0x0, 0x0, 0x0, 0x0, 0x0, 0xFFFFFFFF, 0x0⟩,  -- STALL_ARR_RESCNT
  ⟨0x1438, 0x8, 1, 0x0, 0x0, 0x0, 0x0, 0x0, 0xFFFFFFFF, 0x0⟩,  -- STALL_ARR_PARCNT
  ⟨0x1500, 0x8, 1, 0x0, 0x0, 0x0, 0x1F, 0x0, 0x0, 0x0⟩,  -- STALL_NUM_FLAGS
  ⟨0x1600, 0x8, 1, 0x0, 0x0, 0x0, 0x0, 0x0, 0xC000FFFF7F3FFFFF, 0x0⟩,  -- STALL_SP_REC
  ⟨0x1608, 0x8, 1, 0x0, 0x0, 0x0, 0x0, 0x0, 0xFFFFFFFF, 0x0⟩,  -- STALL_SP_SKIPCNT
  ⟨0x1700, 0x8, 1, 0x0, 0x0, 0x0, 0x0, 0x0, 0xC000FFFFFFFFFFFF, 0x0⟩,  -- STALL_GTH_REC
  ⟨0x1708, 0x8, 1, 0x0, 0xFFFFFFFFFFFFFFFF, 0x0, 0x0, 0x0, 0x0, 0x0⟩,  -- STALL_GTH_COORD
  ⟨0x1710, 0x8, 1, 0x0, 0x0, 0x0, 0x0, 0x0, 0xFFFFFFFF, 0x0⟩  -- STALL_GTH_COAL
  ]

/-- Registers of block STALL (R138, R171, R206, R231, R258, R279, R311, R367, R433, R533, R568), part 3. -/
def stallRegs2 : List RegKind := [
  ⟨0x1718, 0x8, 1, 0x0, 0x0, 0x0, 0x0, 0x0, 0xFFFFFFFF, 0x0⟩,  -- STALL_GTH_OOBCNT
  ⟨0x1720, 0x8, 1, 0x0, 0x0, 0x0, 0x0, 0x0, 0xFFFFFFFF, 0x0⟩,  -- STALL_GTH_ADDREJ
  ⟨0x1800, 0x8, 1, 0x0, 0x0, 0x0, 0x0, 0x0, 0xFFFFFFFF, 0x0⟩,  -- STALL_XLAT_MISS
  ⟨0x1808, 0x8, 1, 0x0, 0x0, 0x0, 0x0, 0x0, 0xFFFFFFFF, 0x0⟩,  -- STALL_LOFT_FB
  ⟨0x1900, 0x8, 1, 0x0, 0x0, 0x7F, 0x0, 0x0, 0x0, 0x0⟩,  -- STALL_SYNC_SEL
  ⟨0x1908, 0x8, 1, 0x0, 0xFF00, 0xFFFFFFFFFFFF001F, 0x0, 0x0, 0x0, 0x0⟩,  -- STALL_SYNC_OBJ
  ⟨0x1910, 0x8, 1, 0x0, 0x0, 0xFFFF, 0x0, 0x0, 0x0, 0x0⟩,  -- STALL_SYNC_OWN
  ⟨0x1918, 0x8, 1, 0x0, 0x0, 0x3F, 0x0, 0x0, 0x0, 0x0⟩,  -- STALL_SYNC_DOM
  ⟨0x1920, 0x8, 1, 0x0, 0xFFFF01FF, 0x0, 0x0, 0x0, 0x0, 0x0⟩,  -- STALL_SYNC_STAT
  ⟨0x1A00, 0x8, 1, 0x2, 0xFFFFFFFF00001F18, 0x3, 0x0, 0x0, 0x0, 0x4⟩,  -- STALL_TR_PASS
  ⟨0x1A08, 0x8, 1, 0x0, 0x0, 0x8000FFFFFFFFFFFF, 0x0, 0x0, 0x0, 0x0⟩,  -- STALL_TR_STREAM
  ⟨0x1A10, 0x8, 1, 0x0, 0x0, 0xFFFFFFFFFFFFFFFF, 0x0, 0x0, 0x0, 0x0⟩,  -- STALL_TR_STEP
  ⟨0x1A18, 0x8, 1, 0x0, 0x0, 0xFFFF1FFFFFFFF000, 0x0, 0x0, 0x0, 0x0⟩,  -- STALL_TR_WTAB
  ⟨0x1A20, 0x8, 1, 0x0, 0x0, 0x1FFFFFFFF001, 0x0, 0x0, 0x0, 0x0⟩,  -- STALL_TR_STATS
  ⟨0x1A28, 0x8, 1, 0x0, 0x0, 0x3F, 0x0, 0x0, 0x0, 0x0⟩,  -- STALL_TR_LGRP
  ⟨0x1A30, 0x8, 1, 0x0, 0x0, 0x0, 0x0, 0x0, 0x0, 0x1⟩,  -- STALL_TR_FLUSH
  ⟨0x1A38, 0x8, 1, 0x0, 0x0, 0x0, 0x1, 0x0, 0x0, 0x0⟩,  -- STALL_TR_ERR
  ⟨0x1A40, 0x8, 1, 0x0, 0x0, 0x0, 0x0, 0x0, 0xC007FFFFFFFFFFFF, 0x0⟩,  -- STALL_TR_TIED
  ⟨0x1B00, 0x8, 1, 0x0, 0x0, 0x800000FFFFFFFFFF, 0x0, 0x0, 0x0, 0x0⟩,  -- STALL_PWR_NEXT
  ⟨0x1B08, 0x8, 1, 0x0, 0xFFFFFFFF0707, 0x0, 0x0, 0x0, 0x0, 0x0⟩  -- STALL_PWR_STAT
  ]

/-- Registers of block STALL (R138, R171, R206, R231, R258, R279, R311, R367, R433, R533, R568), part 4. -/
def stallRegs3 : List RegKind := [
  ⟨0x1C00, 0x8, 1, 0x0, 0x0, 0x3, 0x0, 0x0, 0x0, 0x4⟩,  -- STALL_PERF_CTL
  ⟨0x1C08, 0x8, 1, 0x0, 0x0, 0xFFFFFFFFFFFFFFFF, 0x0, 0x0, 0x0, 0x0⟩,  -- STALL_PERF_FIX0
  ⟨0x1C10, 0x8, 1, 0x0, 0x0, 0xFFFFFFFFFFFFFFFF, 0x0, 0x0, 0x0, 0x0⟩,  -- STALL_PERF_FIX1
  ⟨0x1C18, 0x8, 1, 0x0, 0x0, 0x0, 0xFF, 0x0, 0x0, 0x0⟩,  -- STALL_PERF_OVF
  ⟨0x1C20, 0x8, 1, 0x0, 0x0, 0xFFFFFFFFFFFFFFFF, 0x0, 0x0, 0x0, 0x0⟩,  -- STALL_PERF_ALO
  ⟨0x1C28, 0x8, 1, 0x0, 0x0, 0xFFFFFFFFFFFFFFFF, 0x0, 0x0, 0x0, 0x0⟩,  -- STALL_PERF_AHI
  ⟨0x1C40, 0x10, 8, 0xFFFF0E00, 0x0, 0xFFFF1FFF, 0x0, 0x0, 0x0, 0x0⟩,  -- STALL_PERF_CFG
  ⟨0x1C48, 0x10, 8, 0x0, 0x0, 0xFFFFFFFFFFFF, 0x0, 0x0, 0x0, 0x0⟩  -- STALL_PERF_CNT
  ]

/-- Registers of block STALL. -/
def stallRegs : List RegKind := stallRegs0 ++ stallRegs1 ++ stallRegs2 ++ stallRegs3

/-- Registers of block SHED (R310, R316). -/
def shedRegs : List RegKind := [
  ⟨0x0, 0x8, 1, 0x0, 0x331, 0x0, 0x0, 0x0, 0x0, 0x0⟩,  -- SHED_CFG
  ⟨0x8, 0x8, 1, 0x0, 0x0, 0x1FFFFFF00001, 0x0, 0x0, 0x0, 0x0⟩,  -- SHED_AST_BASE
  ⟨0x10, 0x8, 1, 0x0, 0x0, 0x1FFFFFE00000, 0x0, 0x0, 0x0, 0x0⟩,  -- SHED_TT_BASE
  ⟨0x18, 0x8, 1, 0x0, 0x0, 0x1FFFFFFFF0000, 0x0, 0x0, 0x0, 0x0⟩,  -- SHED_XINV_VA
  ⟨0x20, 0x8, 1, 0x0, 0x0, 0x0, 0x0, 0x0, 0x0, 0xFFFFFFFFFFFF0003⟩,  -- SHED_XINV
  ⟨0x28, 0x8, 1, 0x0, 0x1, 0x0, 0x0, 0x0, 0x0, 0x0⟩,  -- SHED_XINV_STAT
  ⟨0x30, 0x8, 1, 0x802, 0x0, 0x7FFF, 0x0, 0x0, 0x0, 0x0⟩,  -- SHED_AGE_CTL
  ⟨0x38, 0x8, 1, 0x18, 0x0, 0xFF, 0x0, 0x0, 0x0, 0x0⟩,  -- SHED_SCRUB_CTL
  ⟨0x40, 0x8, 1, 0x0, 0x0, 0x3F3F, 0x0, 0x0, 0x0, 0x10000⟩,  -- SHED_MIG_CTL
  ⟨0x48, 0x8, 1, 0x0, 0xFFFF3FFFFFF1, 0x0, 0x0, 0x0, 0x0, 0x0⟩,  -- SHED_MIG_STAT
  ⟨0x50, 0x8, 1, 0x0, 0xFFFFFFFFFFFFFFFF, 0x0, 0x0, 0x0, 0x0, 0x0⟩,  -- SHED_ELOG_ADDR
  ⟨0x58, 0x8, 1, 0x0, 0x0, 0x0, 0x0, 0x0, 0xFFFF833FFFFF, 0x0⟩,  -- SHED_ELOG_INFO
  ⟨0x100, 0x18, 34, 0x0, 0x1F07, 0x0, 0x0, 0x0, 0x0, 0x0⟩,  -- SHED_CHSTAT
  ⟨0x108, 0x18, 34, 0x0, 0x0, 0x0, 0x0, 0x0, 0xFFFFFFFF, 0x0⟩,  -- SHED_CHCE
  ⟨0x110, 0x18, 34, 0x0, 0x0, 0x0, 0x0, 0x0, 0xFFFFFFFF, 0x0⟩,  -- SHED_CHUE
  ⟨0x500, 0x8, 4, 0x0, 0xFFFF0003, 0x0, 0x0, 0x0, 0x0, 0x0⟩,  -- SHED_LOFT_STAT
  ⟨0x600, 0x8, 1, 0x0, 0x0, 0x1FFFFFFFF000, 0x0, 0x0, 0x0, 0x0⟩,  -- SHED_LJ_BASE
  ⟨0x608, 0x8, 1, 0x0, 0x0, 0x1FFF, 0x0, 0x0, 0x0, 0x0⟩,  -- SHED_LJ_SIZE
  ⟨0x610, 0x8, 1, 0x0, 0x0, 0xFFFFFFFF, 0x0, 0x0, 0x0, 0x0⟩,  -- SHED_LJ_TAIL
  ⟨0x618, 0x8, 1, 0x0, 0xFFFFFFFF, 0x0, 0x0, 0x0, 0x0, 0x0⟩  -- SHED_LJ_HEAD
  ]

/-- Registers of block GATE (R346). -/
def gateRegs : List RegKind := [
  ⟨0x0, 0x8, 1, 0x0, 0x0, 0xBFFF, 0x0, 0x0, 0x0, 0x0⟩,  -- GATE_DEVID
  ⟨0x8, 0x8, 1, 0x14001810, 0x0, 0xFF00FF1F, 0x0, 0x0, 0x0, 0x0⟩,  -- GATE_CFG
  ⟨0x10, 0x8, 1, 0x0, 0x0, 0x80003FFF, 0x0, 0x0, 0x0, 0x0⟩,  -- GATE_RT_IDX
  ⟨0x18, 0x8, 1, 0x0, 0x0, 0xFFFFFFFF, 0x0, 0x0, 0x0, 0x0⟩,  -- GATE_RT_DATA
  ⟨0x20, 0x8, 1, 0x0, 0x7FF3FFF3FFF, 0x0, 0x0, 0x0, 0x0, 0x0⟩,  -- GATE_STAT
  ⟨0x28, 0x8, 1, 0x0, 0x0, 0x0, 0x7, 0x0, 0x0, 0x0⟩,  -- GATE_ERR
  ⟨0x30, 0x8, 1, 0x0, 0x0, 0x0, 0x0, 0x0, 0xC0000000007F3FFF, 0x0⟩,  -- GATE_MC_REC
  ⟨0x38, 0x8, 1, 0x0, 0x0, 0x0, 0x0, 0x0, 0xFFFFFFFF, 0x0⟩,  -- GATE_TMO_CNT
  ⟨0x40, 0x8, 1, 0x0, 0x0, 0x0, 0x0, 0x0, 0xFFFFFFFF, 0x0⟩,  -- GATE_RNR_CNT
  ⟨0x100, 0x18, 64, 0x0, 0x0, 0x1FFFFFFFF0000, 0x0, 0x0, 0x0, 0x0⟩,  -- GATE_RWIN_BASE
  ⟨0x108, 0x18, 64, 0x0, 0x0, 0x1FFFFFFFF, 0x0, 0x0, 0x0, 0x0⟩,  -- GATE_RWIN_LEN
  ⟨0x110, 0x18, 64, 0x0, 0x0, 0x800FFFFFFFFFFFFF, 0x0, 0x0, 0x0, 0x0⟩  -- GATE_RWIN_CTL
  ]

/-- Registers of block LINK (R346). -/
def linkRegs : List RegKind := [
  ⟨0x0, 0x8, 1, 0x1, 0xBFFF11FF0F07, 0x0, 0x0, 0x0, 0x0, 0x0⟩,  -- LINK_STAT
  ⟨0x8, 0x8, 1, 0x1, 0x0, 0xF1, 0x0, 0x0, 0x0, 0x6⟩,  -- LINK_CTL
  ⟨0x10, 0x8, 1, 0x5, 0x0, 0xF, 0x0, 0x0, 0x0, 0x0⟩,  -- LINK_LANE_CTL
  ⟨0x18, 0x8, 1, 0x0, 0x0, 0x0, 0x7F, 0x0, 0x0, 0x0⟩,  -- LINK_ERR
  ⟨0x20, 0x8, 1, 0x0, 0x0, 0x0, 0x0, 0x0, 0xFFFFFFFF, 0x0⟩,  -- LINK_REPLAY
  ⟨0x28, 0x8, 1, 0x0, 0x0, 0x0, 0x0, 0x0, 0xFFFFFFFF, 0x0⟩,  -- LINK_FEC_CE
  ⟨0x30, 0x8, 1, 0x0, 0x0, 0x0, 0x0, 0x0, 0xFFFFFFFF, 0x0⟩,  -- LINK_FEC_UE
  ⟨0x38, 0x8, 1, 0x0, 0x1FFF1FFF1FFF1FFF, 0x0, 0x0, 0x0, 0x0, 0x0⟩,  -- LINK_CREDIT
  ⟨0x40, 0x8, 9, 0x0, 0x3FFFFFFFF, 0x0, 0x0, 0x0, 0x0, 0x0⟩  -- LINK_LANE
  ]

/-- Registers of block SYNC (R367). -/
def syncRegs : List RegKind := [
  ⟨0x0, 0x8, 1, 0x0, 0x0, 0x0, 0x0, 0x0, 0xE000FFFFFFFF7FFF, 0x0⟩,  -- SYNC_LOCK
  ⟨0x8, 0x8, 1, 0x0, 0x0, 0x0, 0x0, 0x0, 0x0, 0xFFFF⟩,  -- SYNC_TASKEND
  ⟨0x10, 0x8, 1, 0x0, 0x0, 0x3F, 0x0, 0x0, 0x0, 0x0⟩,  -- SYNC_DLD_SEL
  ⟨0x18, 0x8, 1, 0x1000, 0x0, 0xFFFFFFFF, 0x0, 0x0, 0x0, 0x0⟩,  -- SYNC_DLD_LIMIT
  ⟨0x20, 0x8, 1, 0x0, 0x0, 0x0, 0xFFFFFFFFFFFFFFFE, 0x0, 0x0, 0x0⟩,  -- SYNC_DLD_ALARM
  ⟨0x100, 0x20, 16, 0x0, 0x20000, 0xFFFFFFFF00013FFF, 0x0, 0x0, 0x0, 0x0⟩,  -- SYNC_XBAR_CFG
  ⟨0x108, 0x20, 16, 0x0, 0x0, 0xFF3FFF7FFF, 0x0, 0x0, 0x0, 0x0⟩,  -- SYNC_XBAR_CFG2
  ⟨0x110, 0x20, 16, 0x0, 0x0, 0xFFFFFFFFFFFFFFFF, 0x0, 0x0, 0x0, 0x0⟩,  -- SYNC_XBAR_KEY
  ⟨0x118, 0x20, 16, 0x0, 0xFFFF7FFF7FFF, 0x0, 0x0, 0x0, 0x0, 0x0⟩  -- SYNC_XBAR_STAT
  ]

/-- Registers of block COMB (R403, R461), part 1. -/
def combRegs0 : List RegKind := [
  ⟨0x0, 0x8, 1, 0x0, 0x1F03FF, 0x0, 0x0, 0x0, 0x0, 0x0⟩,  -- COMB_STAT
  ⟨0x8, 0x8, 1, 0x0, 0x0, 0x0, 0x1F, 0x0, 0x0, 0x0⟩,  -- COMB_ERR
  ⟨0x10, 0x8, 1, 0x0, 0x0, 0x0, 0x0, 0x0, 0xFFFFFFFF, 0x0⟩,  -- COMB_ACC_CE
  ⟨0x18, 0x8, 1, 0x0, 0x0, 0x0, 0x0, 0x0, 0xFFFFFFFF, 0x0⟩,  -- COMB_NAK_CNT
  ⟨0x20, 0x8, 1, 0x0, 0x0, 0x0, 0x0, 0x0, 0xFFFFFFFF, 0x0⟩,  -- COMB_DISCARD_CNT
  ⟨0x28, 0x8, 1, 0x0, 0x0, 0x0, 0x0, 0x0, 0xFFFFFFFF, 0x0⟩,  -- COMB_DROP_CNT
  ⟨0x30, 0x8, 1, 0x0, 0x0, 0x0, 0x0, 0x0, 0xFFFFFFFFFFFF, 0x0⟩,  -- COMB_ELEM_CNT
  ⟨0x100, 0x8, 1, 0x0, 0x0, 0x1FFFFFFFF000, 0x0, 0x0, 0x0, 0x0⟩,  -- COMB_RING_BASE
  ⟨0x108, 0x8, 1, 0x0, 0x0, 0x1FFF, 0x0, 0x0, 0x0, 0x0⟩,  -- COMB_RING_SIZE
  ⟨0x110, 0x8, 1, 0x0, 0x0, 0xFFFFFFFF, 0x0, 0x0, 0x0, 0x0⟩,  -- COMB_RING_TAIL
  ⟨0x118, 0x8, 1, 0x0, 0xFFFFFFFF, 0x0, 0x0, 0x0, 0x0, 0x0⟩,  -- COMB_RING_HEAD
  ⟨0x200, 0x8, 16, 0x0, 0xFFFFFFFF07FFFFFF, 0x0, 0x0, 0x0, 0x0, 0x0⟩,  -- COMB_RED
  ⟨0x400, 0x8, 1, 0x0, 0x0, 0x0, 0x0, 0x0, 0x0, 0x107⟩,  -- COMB_CMT_CTL
  ⟨0x408, 0x8, 1, 0x0, 0x0, 0xFFFFFFFFFFFFFFFF, 0x0, 0x0, 0x0, 0x0⟩,  -- COMB_CMT_STEP
  ⟨0x410, 0x8, 1, 0x0, 0x0, 0xFFFFFFFFFFFFFFFF, 0x0, 0x0, 0x0, 0x0⟩,  -- COMB_CMT_KEY
  ⟨0x418, 0x8, 1, 0x20000000, 0x0, 0xFFFFFF3F, 0x0, 0x0, 0x0, 0x0⟩,  -- COMB_CMT_CFG
  ⟨0x420, 0x8, 1, 0x0, 0xFFFF0037, 0x0, 0x0, 0x0, 0x0, 0x0⟩,  -- COMB_CMT_STAT
  ⟨0x428, 0x8, 1, 0x0, 0xFFFFFFFFFFFFFFFF, 0x0, 0x0, 0x0, 0x0, 0x0⟩,  -- COMB_CMT_RES0
  ⟨0x430, 0x8, 1, 0x0, 0xFFFFFFFFFFFFFFFF, 0x0, 0x0, 0x0, 0x0, 0x0⟩,  -- COMB_CMT_RES1
  ⟨0x438, 0x8, 1, 0x0, 0x0, 0xFFFF1FFFFFFFF000, 0x0, 0x0, 0x0, 0x0⟩  -- COMB_CMT_WTAB
  ]

/-- Registers of block COMB (R403, R461), part 2. -/
def combRegs1 : List RegKind := [
  ⟨0x440, 0x8, 1, 0x0, 0x0, 0x1FFFFFFFFFC0, 0x0, 0x0, 0x0, 0x0⟩,  -- COMB_CMT_JRNL
  ⟨0x448, 0x8, 1, 0x0, 0x0, 0xBFFF, 0x0, 0x0, 0x0, 0x0⟩,  -- COMB_CMT_REPL
  ⟨0x450, 0x8, 1, 0x0, 0x0, 0x0, 0xF, 0x0, 0x0, 0x0⟩,  -- COMB_CMT_EVT
  ⟨0x458, 0x8, 1, 0x0, 0x0, 0xFFFF0000FFFFFF01, 0x0, 0x0, 0x0, 0x0⟩,  -- COMB_CK_CFG
  ⟨0x460, 0x8, 1, 0x0, 0x0, 0xFFFFFFFFFFFF, 0x0, 0x0, 0x0, 0x0⟩,  -- COMB_CK_LA
  ⟨0x468, 0x8, 1, 0x0, 0x0, 0x1F1FFFFFFF0000, 0x0, 0x0, 0x0, 0x0⟩,  -- COMB_CK_SW
  ⟨0x470, 0x8, 1, 0x0, 0xFFFF0003, 0x0, 0x0, 0x0, 0x0, 0x0⟩,  -- COMB_CK_STAT
  ⟨0x478, 0x8, 1, 0x0, 0xFFFFFFFFFFFF, 0x0, 0x0, 0x0, 0x0, 0x0⟩,  -- COMB_CK_LAST
  ⟨0x480, 0x8, 1, 0x0, 0xFFFFFFFFFFFFFF, 0x0, 0x0, 0x0, 0x0, 0x0⟩,  -- COMB_CK_LSTEP
  ⟨0x500, 0x10, 4, 0x0, 0xFFFFFFFFFFFFFFFF, 0x0, 0x0, 0x0, 0x0, 0x0⟩,  -- COMB_SS_A
  ⟨0x508, 0x10, 4, 0x3FFF0000, 0x3FFF00FF, 0x0, 0x0, 0x0, 0x0, 0x0⟩,  -- COMB_SS_B
  ⟨0x540, 0x8, 1, 0x0, 0x0, 0x0, 0x0, 0x0, 0xFFFFFFFF, 0x0⟩  -- COMB_SS_LOST
  ]

/-- Registers of block COMB. -/
def combRegs : List RegKind := combRegs0 ++ combRegs1

/-- Registers of block ARB (R476). -/
def arbRegs : List RegKind := [
  ⟨0x0, 0x8, 1, 0x0, 0x0, 0x807FFF03, 0x0, 0x0, 0x0, 0x0⟩,  -- ARB_CTL
  ⟨0x8, 0x8, 1, 0x0, 0x3F0707, 0x0, 0x0, 0x0, 0x0, 0x0⟩,  -- ARB_STAT
  ⟨0x10, 0x8, 1, 0x4020084020202040, 0x0, 0xFFFFFFFFFFFFFFFF, 0x0, 0x0, 0x0, 0x0⟩,  -- ARB_TKT_CHAN
  ⟨0x18, 0x8, 1, 0x4000002040404040, 0x0, 0xFFFFFFFFFFFFFFFF, 0x0, 0x0, 0x0, 0x0⟩,  -- ARB_TKT_LINK
  ⟨0x20, 0x8, 1, 0x4000000000404040, 0x0, 0xFFFFFFFFFFFFFFFF, 0x0, 0x0, 0x0, 0x0⟩,  -- ARB_TKT_SCR
  ⟨0x28, 0x8, 1, 0x5A5A0001, 0x0, 0xFFFFFFFF, 0x0, 0x0, 0x0, 0x0⟩,  -- ARB_SEED
  ⟨0x30, 0x8, 1, 0x0, 0x0, 0x0, 0x1, 0x0, 0x0, 0x0⟩,  -- ARB_ERR
  ⟨0x38, 0x8, 1, 0x0, 0x0, 0x0, 0x0, 0x0, 0xC000003F077FFF03, 0x0⟩,  -- ARB_WDOG_REC
  ⟨0x40, 0x8, 1, 0x0, 0x0, 0x0, 0x0, 0x0, 0xFFFFFFFF, 0x0⟩  -- ARB_WDOG_CNT
  ]

/-- Registers of block INTC (R477). -/
def intcRegs : List RegKind := [
  ⟨0x0, 0x8, 1, 0x0, 0x0, 0x0, 0x0, 0x0, 0x0, 0x7FF⟩,  -- INTC_EOI
  ⟨0x8, 0x8, 1, 0x0, 0x7FF, 0x0, 0x0, 0x0, 0x0, 0x0⟩,  -- INTC_STAT
  ⟨0x10, 0x8, 1, 0x0, 0x0, 0x0, 0x0, 0xFFFFFFFFFFFFFFFF, 0x0, 0x0⟩,  -- INTC_SWI_SET
  ⟨0x18, 0x8, 1, 0x0, 0x0, 0x0, 0xFFFFFFFFFFFFFFFF, 0x0, 0x0, 0x0⟩,  -- INTC_SWI_CLR
  ⟨0x1000, 0x8, 1152, 0x1, 0x6, 0xFFFFFFFF0F3FFFC1, 0x0, 0x0, 0x0, 0x0⟩  -- INTC_SRC
  ]

/-- Registers of block HOSTIF (R503). -/
def hostifRegs : List RegKind := [
  ⟨0x0, 0x8, 1, 0x0, 0x0, 0x7F, 0x0, 0x0, 0x0, 0x0⟩,  -- HOSTIF_MODE
  ⟨0x8, 0x8, 1, 0x0, 0x1F3, 0x0, 0x0, 0x0, 0x0, 0x0⟩,  -- HOSTIF_PORT0
  ⟨0x10, 0x8, 1, 0x0, 0x1F3, 0x0, 0x0, 0x0, 0x0, 0x0⟩,  -- HOSTIF_PORT1
  ⟨0x18, 0x8, 1, 0x0, 0x0, 0x770FFF0FFF, 0x0, 0x0, 0x0, 0x0⟩,  -- HOSTIF_VLAN
  ⟨0x20, 0x8, 1, 0x0, 0x1FF0F7F, 0x0, 0x0, 0x0, 0x0, 0x0⟩,  -- HOSTIF_SESS
  ⟨0x28, 0x8, 1, 0x0, 0x0, 0x0, 0x3, 0x0, 0x0, 0x0⟩,  -- HOSTIF_ERR
  ⟨0x30, 0x8, 1, 0x0, 0x0, 0x0, 0x0, 0x0, 0xFFFFFFFF, 0x0⟩,  -- HOSTIF_AUTHFAIL_CNT
  ⟨0x38, 0x8, 1, 0x0, 0x0, 0x0, 0x0, 0x0, 0xFFFFFFFF, 0x0⟩  -- HOSTIF_RXDROP_CNT
  ]

/-- Registers of block PWR (R532). -/
def pwrRegs : List RegKind := [
  ⟨0x0, 0x8, 1, 0x0, 0x7F07FFFFFFFFFFFF, 0x0, 0x0, 0x0, 0x0, 0x0⟩,  -- PWR_STAT
  ⟨0x8, 0x8, 1, 0x0, 0x0, 0x0, 0xF, 0x0, 0x0, 0x0⟩,  -- PWR_EVT
  ⟨0x10, 0x8, 1, 0x0, 0xFFFF001F, 0x0, 0x0, 0x0, 0x0, 0x0⟩,  -- PWR_RESET
  ⟨0x18, 0x8, 1, 0x0, 0x0, 0xFFFF, 0x0, 0x0, 0x0, 0x0⟩,  -- PWR_CAP_HOST
  ⟨0x20, 0x8, 1, 0x23C098900401404, 0x0, 0xFFFFFFFFFFFFFF07, 0x0, 0x0, 0x0, 0x0⟩,  -- PWR_PS_CFG
  ⟨0x28, 0x8, 1, 0x0, 0x10F01FF01FF, 0x0, 0x0, 0x0, 0x0, 0x0⟩,  -- PWR_PS_STAT
  ⟨0x30, 0x8, 1, 0x0, 0x7FFF, 0x0, 0x0, 0x0, 0x0, 0x0⟩,  -- PWR_CLK_STAT
  ⟨0x38, 0x8, 1, 0x0, 0xFFFFFFFFFFFF00F3, 0x0, 0x0, 0x0, 0x0, 0x0⟩,  -- PWR_STORE_STAT
  ⟨0x40, 0x8, 1, 0x0, 0xFFFFFFFFFFFF00FF, 0x0, 0x0, 0x0, 0x0, 0x0⟩  -- PWR_BOOT
  ]

/-- Registers of block TACK (R557). -/
def tackRegs : List RegKind := [
  ⟨0x0, 0x8, 1, 0x0, 0xFFFF0007, 0x0, 0x0, 0x0, 0x0, 0x0⟩,  -- TACK_STAT
  ⟨0x8, 0x8, 1, 0x0, 0x0, 0x0, 0x0, 0x0, 0x0, 0x1⟩,  -- TACK_CTL
  ⟨0x10, 0x8, 1, 0x0, 0xFFFF000007FF, 0x0, 0x0, 0x0, 0x0, 0x0⟩,  -- TACK_ELOG_STAT
  ⟨0x18, 0x8, 1, 0x0, 0x0, 0x0, 0x0, 0x0, 0x0, 0x1⟩,  -- TACK_ELOG_POP
  ⟨0x20, 0x8, 4, 0x0, 0xFFFFFFFFFFFFFFFF, 0x0, 0x0, 0x0, 0x0, 0x0⟩,  -- TACK_ELOG
  ⟨0x40, 0x8, 1, 0x0, 0x3013FFF3F, 0x0, 0x0, 0x0, 0x0, 0x0⟩,  -- TACK_PADDOCK
  ⟨0x48, 0x8, 1, 0x1E, 0x0, 0xFFFF, 0x0, 0x0, 0x0, 0x0⟩,  -- TACK_AGE_CFG
  ⟨0x50, 0x8, 1, 0xFFFF, 0xFFFFFFFF00FFFFFF, 0x0, 0x0, 0x0, 0x0, 0x0⟩,  -- TACK_AGE_MIN
  ⟨0x58, 0x8, 1, 0x0, 0xFFFFFFFFFFFFFFFF, 0x0, 0x0, 0x0, 0x0, 0x0⟩,  -- TACK_FW
  ⟨0x100, 0x8, 32, 0x0, 0xFFFFFFFFFFFFFFFF, 0x0, 0x0, 0x0, 0x0, 0x0⟩  -- TACK_MEAS
  ]

/-- The row that lists an offset of a block, if any. -/
def findReg : List RegKind → Nat → Option RegKind
  | [], _ => none
  | r :: rs, o =>
    if r.off ≤ o ∧ (o - r.off) % r.stride = 0 ∧ (o - r.off) / r.stride < r.cnt then some r else findReg rs o

/-- The reset value of the register at an offset; zero where none is listed (R8). -/
def resetOf (rs : List RegKind) (o : Nat) : Word :=
  match findReg rs o with
  | some r => BitVec.ofNat 64 r.reset
  | none => 0

/-- The bits a register keeps as stored values. -/
def RegKind.kept (r : RegKind) : Word :=
  BitVec.ofNat 64 r.rw ||| BitVec.ofNat 64 r.w1c ||| BitVec.ofNat 64 r.w1s ||| BitVec.ofNat 64 r.rc

/-- What a write leaves stored, by the access types of R5. -/
def RegKind.afterWrite (r : RegKind) (old v : Word) : Word :=
  let rw := BitVec.ofNat 64 r.rw
  let base := (old &&& ~~~rw) ||| (v &&& rw)
  (base &&& ~~~(v &&& BitVec.ofNat 64 r.w1c)) ||| (v &&& BitVec.ofNat 64 r.w1s)

/-- What a read leaves stored: fields of type RC are cleared as a whole (R5, R571). -/
def RegKind.afterRead (r : RegKind) (old : Word) : Word := old &&& ~~~(BitVec.ofNat 64 r.rc)

end Sys2Proof.Machine
end

