-- ==== Sys2Proof/Machine/State.lean ====
section
/-! DEFINITION. The machine's state as plain data, its reset, and the reasons a command can stop. -/

namespace Sys2Proof.Machine

/-- A machine fault. The spec reports every condition as a status word, so no command ends the run;
the one constructor is kept for an access to an address that the model itself cannot place. -/
inductive Fault where
  /-- Raised by nothing in this model; safe, since a stop proves no false claim. -/
  | unreachable
  deriving DecidableEq, Repr

/-- Why a command has no meaning here. -/
inductive Refusal where
  /-- Raised by an arm of the dispatch that has no meaning yet; safe. -/
  | notModelled (mnemonic : String)
  deriving DecidableEq, Repr

/-- An atomic operation at an endpoint (R75, R327). -/
inductive AmoOp where
  | addW | addD | swapW | swapD | casW | casD
  deriving DecidableEq, Repr

/-- What a request does at its endpoint. -/
inductive MemOp where
  | read | write | amo (op : AmoOp)
  deriving DecidableEq, Repr

/-- The requester of a request (R43, R60, R123). -/
inductive Src where
  | groomLoad (gi seq : Nat)
  | groomStore (gi : Nat)
  | slot (ps slot : Nat)
  /-- A requester that has discarded the response (R47, R84). -/
  | gone
  deriving DecidableEq, Repr

/-- Where a request is on its way (R42, R47, R300) (DESIGN CHOICE, log 17). -/
inductive Phase where
  /-- At the requester, not yet in the mesh. -/
  | issued
  /-- A translation walk is outstanding for it. -/
  | walking
  /-- Its request packet is in the mesh. -/
  | mesh
  /-- At the unit that performs it. -/
  | endpoint
  /-- In the gate, tracked as a global request. -/
  | global
  /-- Held by the pager's service (R304). -/
  | paging
  /-- Its response packet is in the mesh. -/
  | back
  /-- Its response has reached the requester. -/
  | arrived
  /-- Its packet was discarded at a dead router or a fenced port (R50, R51). -/
  | lost
  deriving DecidableEq, Repr

/-- The transfer that a store request with a signal record belongs to (R339, R341, R343). -/
structure Sig where
  xfer : Nat
  pkt : Nat
  last : Bool
  sigaddr : Nat
  sigval : Nat
  /-- Device IDs: the one of the address, or the targets of a multicast. -/
  targets : List Nat
  mcast : Bool
  deriving DecidableEq, Repr

/-- One request in flight, from its issue to the use of its response (DESIGN CHOICE, log 17). -/
structure Req where
  src : Src
  priv : Priv
  task : Nat
  tenant : Nat
  /-- Address as issued: local, or global with bit 63 set (R281, R282). -/
  addr : Nat
  op : MemOp
  len : Nat
  /-- Write data, or AMO operand and compare value; after the access, the response data. -/
  data : List Byte := []
  /-- Captured TASK window of R76. -/
  dwinLo : Nat := 0
  dwinHi : Nat := 0
  phase : Phase := .issued
  /-- Translated address: physical, loft, or the address itself. -/
  pa : Nat := 0
  translated : Bool := false
  status : Status := 0
  /-- Nodes of the path, from the injection node (R42, R53). -/
  path : List Nat := []
  pos : Nat := 0
  /-- Index in the path of the VIA node, where the packet moves to VC1 (R53). -/
  via : Option Nat := none
  /-- NCLK at which it was issued (R126). -/
  at_ : Nat := 0
  flagged : Bool := false
  /-- Which part of its instruction or command it serves. -/
  part : Nat := 0
  /-- Byte lanes that it accesses, bit b for byte b; none for all (R70). -/
  mask : Option Nat := none
  /-- Order of injection of its requester's packets (R47). -/
  inj : Nat := 0
  sig : Option Sig := none
  deriving DecidableEq, Repr

/-- One register write that an unretired instruction holds (R59). -/
inductive RegW where
  | x (n : Nat) (v : Word)
  | v (n : Nat) (w : BitVec 512)
  | p (n : Nat) (w : Word)
  deriving DecidableEq, Repr

/-- What an unretired load or AMO does with its data. -/
inductive LoadDst where
  | x (n bytes : Nat) (signed : Bool)
  /-- A vector register, with its loaded byte lanes; `each` when every lane has an address of its own. -/
  | v (n : Nat) (mask : Word) (each : Bool)
  deriving DecidableEq, Repr

/-- A precise fault an unretired instruction carries (R84). -/
structure GFault where
  cls : Nat
  status : Status
  eval : Word
  epc : Nat
  /-- Byte lane whose access failed (R72). -/
  lane : Nat := 0
  deriving DecidableEq, Repr

/-- One store of an unretired instruction (R73). -/
structure StoreOp where
  addr : Nat
  data : List Byte
  mask : Option Nat := none
  /-- Byte lane of its first byte within a contiguous vector access. -/
  lane : Nat := 0
  deriving DecidableEq, Repr

/-- One entry of the 32-entry retire queue (R59). -/
structure RetEntry where
  seq : Nat
  pc : Nat
  writes : List RegW := []
  /-- Float flags the instruction sets at retirement: NV, DZ, OF, UF, NX in bits 4 to 0 (R82). -/
  flags : Nat := 0
  /-- A load or AMO in flight. -/
  dst : Option LoadDst := none
  /-- Requests still outstanding. -/
  left : Nat := 0
  /-- Bytes that have arrived, by lane position. -/
  got : Map Byte := []
  /-- Stores sent when it retires, in order (R73). -/
  stores : List StoreOp := []
  fault : Option GFault := none
  deriving DecidableEq, Repr

/-- What a groom waits for (R86, R92 to R94) (DESIGN CHOICE, log 5). -/
inductive GWait where
  | none
  | wfi
  | cmdq (rd q off : Nat)
  | cwait (rd q : Nat) (seq : Word) (tmo start : Nat)
  /-- A tack call: its start, and the answer once the tack room has one. -/
  | tcall (start : Nat) (answer : Option (Status × Option Word))
  /-- A write of GROOM_TASKID that waits for earlier stores (R91). -/
  | taskid (rd : Nat) (v : Word)
  deriving DecidableEq, Repr

/-- One groom context (R66, R97). -/
structure Groom where
  /-- X1 to X31, 64 bits (R66, R95: zero). -/
  x : Map Word := []
  /-- V0 to V31, 512 bits (R66, R95: zero). -/
  v : Map (BitVec 512) := []
  /-- P1 to P7, 64 bits (R66, R95: zero). -/
  p : Map Word := []
  /-- 22-bit scratch offset of the next instruction (R62). -/
  pc : Nat := 0
  /-- GROOM_STATUS.PRIV (R97). -/
  priv : Priv := .kernel
  ie : Bool := false
  exl : Bool := false
  halted : Bool := true
  vdirty : Bool := false
  /-- Registers of the groom page that hold plain values, by offset (R97). -/
  csr : Map Word := []
  /-- GROOM_INSTRET (R97). -/
  instret : Word := 0
  /-- Unretired instructions, oldest first (R59). -/
  rq : List RetEntry := []
  nextSeq : Nat := 0
  wait : GWait := .none
  /-- A halt requested and not yet taken (R87). -/
  haltReq : Bool := false
  /-- RESET was written and waits for that halt (R97). -/
  resetReq : Bool := false
  /-- Store errors not yet taken, oldest first: status and address (R73). -/
  asyncErr : List (Status × Nat) := []
  /-- Lines of the fetch window, most recently fetched first (R63). -/
  window : List Nat := []
  /-- Two-bit counters, 512 of them (R65). -/
  ctr : Map Nat := []
  /-- 16-entry target buffer: branch and target, most recent first (R65). -/
  btb : List (Nat × Nat) := []
  /-- 8-entry return stack (R65). -/
  ras : List Nat := []
  /-- Slot generation (R47, R52). -/
  gen : Nat := 0
  deriving DecidableEq, Repr

/-- Registers of one router node that hold plain values, and its live state (R56) (DESIGN CHOICE, log 2). -/
structure Node where
  csr : Map Word := []
  /-- Fence in effect at a packet boundary (NET_NODE_STATUS.FENCED). -/
  fenced : Bool := true
  linkDown : BitVec 4 := 0
  dead : Bool := false
  /-- Reported for a control-state parity error, flit errors or a neighbour's timeout (R51). -/
  reported : Bool := false
  /-- Uncorrectable flit errors seen lately, as 4 × NCLK + input N, E, S, W (R50). -/
  ueAt : List Nat := []
  /-- NCLK of the last flit seen on the inputs N, E, S, W (R51). -/
  seen : Map Nat := []
  deriving DecidableEq, Repr

/-- A command list in an engine queue, with what was captured when it was enqueued (R105, R427). -/
structure QList where
  off : Nat
  priv : Priv
  task : Nat
  tenant : Nat
  dwinLo : Nat := 0
  dwinHi : Nat := 0
  lgrp : Nat := 0
  seq : Nat
  deriving DecidableEq, Repr

/-- How one request's worth of a command stands (R119, R121, R123). -/
inductive PartSt where
  | todo
  /-- Its request holds a slot; 255 for the copies of a multicast write, which hold none (R343). -/
  | issued (slot : Nat)
  /-- Its data has come and waits with its slot for the command's event (R109). -/
  | waiting (slot : Nat)
  | landed
  /-- A non-zero status, held with its slot; 255 for one that holds none. -/
  | held (st : Status) (slot : Nat)
  deriving DecidableEq, Repr

/-- What a part of a command moves. -/
inductive PartKind where
  /-- Bytes of the main stream. -/
  | main
  /-- Bytes of the Y stream of a derivative record (R414). -/
  | y
  /-- Select bytes of a metadata record (R245). -/
  | sel
  /-- An alternate request of a loft record (R319). -/
  | alt
  /-- Elements delivered as +0 by a loft record (R319). -/
  | zero
  deriving DecidableEq, Repr

/-- One request's worth of a command, in stream or list order. -/
structure Part where
  kind : PartKind
  /-- Address in memory. -/
  addr : Nat
  len : Nat
  /-- Position in its stream, or scratch offset for selects. -/
  pos : Nat
  /-- Bytes of the main stream that it stands for. -/
  plen : Nat
  /-- First and last element group that consume it: row, transposed block, 1 KiB unit or list entry. -/
  grp : Nat
  last : Nat
  /-- Packet number within a signalled transfer (R341). -/
  pkt : Nat := 0
  st : PartSt := .todo
  deriving DecidableEq, Repr

/-- A stream descriptor with the windows of its view (R110, R264). -/
structure Stream where
  base : Nat := 0
  ebase : Nat := 0
  elen : Nat := 0
  n0 : Nat := 1
  n1 : Nat := 1
  n2 : Nat := 1
  n3 : Nat := 1
  s1 : Int := 0
  s2 : Int := 0
  s3 : Int := 0
  /-- LO and HI of each dimension, when a view record is present. -/
  win : Option (List (Nat × Nat)) := none
  /-- Bytes that one index of dimension 0 counts, and the PAD pattern. -/
  elem : Nat := 1
  pad : Nat := 0
  deriving DecidableEq, Repr

/-- The metadata of an LDTILE or STTILE (R242, R245). -/
structure MetaRec where
  b : Nat
  data : Nat
  rowBytes : Nat
  col0 : Nat
  msrc : Nat
  mstride : Int
  deriving DecidableEq, Repr

/-- A map that a command builds (R253): scratch offset, chunk limit, column axis, chunk size and positions per row. -/
structure BuildRec where
  mapAt : Nat
  chunks : Nat
  cols : Bool
  chunkLog2 : Nat
  kpr : Nat
  deriving DecidableEq, Repr

/-- A loft deadline record (R317): the format of the alternate object, or none for the stream's own. -/
structure LoftRec where
  action : Nat
  altFmt : Option Nat
  deadline : Nat
  altBase : Nat
  deriving DecidableEq, Repr

/-- A derivative record (R414). -/
structure DerivRec where
  func : Nat
  yfmt : Nat
  alpha : Nat
  y : Stream
  deriving DecidableEq, Repr

/-- One entry of a block-coordinate list, resolved (R270 to R275). -/
structure Ent where
  /-- The list's 8 bytes. -/
  raw : Nat
  /-- The entry whose request serves it; none for ZERO. -/
  lead : Option Nat
  /-- Resolved by ZERO or CLAMP. -/
  oob : Bool
  /-- Address of its block. -/
  addr : Nat
  deriving DecidableEq, Repr

/-- What a load, store or gather command was checked to do. -/
structure CmdArgs where
  op : Nat := 0
  str : Stream := {}
  treg : Nat := 0
  row0 : Nat := 0
  /-- Tile rows that it moves. -/
  rows : Nat := 0
  cols : Nat := 0
  /-- Memory format and register format (R142). -/
  mfmt : Nat := 0
  fmt : Nat := 0
  transp : Bool := false
  scr : Nat := 0
  sel : Option MetaRec := none
  /-- Rows of unoccupied chunks under APPLY, from 0 at ROW0. -/
  skip : List Nat := []
  build : Option BuildRec := none
  loft : Option LoftRec := none
  deriv : Option DerivRec := none
  sig : Option Sig := none
  ascale : Int := -32
  ents : List Ent := []
  /-- The list entry at which a command under FAULT fails (R273). -/
  oobAt : Option Nat := none
  deriving DecidableEq, Repr

/-- A started command of a load, store or gather queue. -/
structure CmdCtx where
  idx : Nat
  off : Nat
  lst : QList
  waitEn : Bool
  waitEv : Nat
  waitVal : Nat
  postEn : Bool
  postEv : Nat
  /-- The check of R117 that failed, reported once earlier commands are complete. -/
  fail : Option Status := none
  args : CmdArgs := {}
  parts : List Part := []
  /-- Bytes landed: by stream position, and from 2^33 the Y stream, from 2^34 the alternate object, from 2^35 the selects
  by scratch offset. -/
  buf : Map Byte := []
  /-- Element groups, and the next one to consume. -/
  groups : Nat := 0
  next : Nat := 0
  holdsRec : Bool := false
  /-- An SCADD contribution has been rejected (R277). -/
  rejected : Bool := false
  /-- Copies of a multicast not yet ended, and targets with a failed one (R343, R344). -/
  mcOut : Nat := 0
  mcFail : List Nat := []
  /-- NCLK at which its checks passed (R319). -/
  t0 : Nat := 0
  deriving DecidableEq, Repr

/-- State of an engine queue (R127). -/
inductive QState where
  | idle | running | waitEv | faulted | stopped | paused
  deriving DecidableEq, Repr

/-- One engine queue (R100, R127, R138). -/
structure Queue where
  state : QState := .idle
  /-- Lists queued, head first, at most 8. -/
  lists : List QList := []
  issued : Nat := 0
  done : Nat := 0
  cmdIdx : Nat := 0
  prog : Nat := 0
  fstatus : Status := 0
  fcmd : Nat := 0
  faddr : Nat := 0
  /-- The head list's header has been read: COUNT. -/
  count : Option Nat := none
  /-- Commands started, head first (R118). -/
  ctxs : List CmdCtx := []
  /-- PAUSE written and not yet reached (R130). -/
  pausing : Bool := false
  aborting : Bool := false
  /-- Status of the 16 most recently completed lists (R136). -/
  hist : List (Nat × Status) := []
  /-- The queue entered FAULTED in hardware mode (R500). -/
  hwFault : Bool := false
  deriving DecidableEq, Repr

/-- State of a tile register (R145). -/
inductive TState where
  | unconf | empty | defined
  deriving DecidableEq, Repr

/-- One tile register's shape, state and row-progress record (R145, R171). -/
structure TReg where
  state : TState := .unconf
  rows : Nat := 0
  cols : Nat := 0
  fmt : Nat := 0
  mask : BitVec 128 := 0
  pend : Bool := false
  pq : Nat := 0
  pcmd : Nat := 0
  pnext : Nat := 0
  deriving DecidableEq, Repr

/-- One row that a drain or a weight-stationary stream is to write (R192, R196). -/
structure DrainRow where
  /-- Row and fold as STALL_ARR_ERR names them. -/
  row : Nat
  fold : Nat
  /-- Destination register, row in it, and the values in accumulator form (FP64 codes under FP64S). -/
  dst : List (Nat × Nat × List Nat)
  deriving DecidableEq, Repr

/-- One fold's stream window, for the slot classes of R566. -/
structure FoldWin where
  start : Nat
  stop : Nat
  /-- Rows that the fold feeds. -/
  rows : Nat
  /-- Rows masked among them. -/
  masked : Nat
  /-- Product-step ACLK that are bubbles of skipped chunks. -/
  skips : Nat
  /-- ACLK between product steps; a weight-stationary window streams rows, of which `masked` are masked (R196). -/
  iv : Nat := 1
  ws : Bool := false
  deriving DecidableEq, Repr

/-- An array command in flight (R187). -/
structure ArrCmd where
  idx : Nat
  op : Nat
  lst : QList
  postEn : Bool
  postEv : Nat
  reads : List Nat
  writes : List Nat
  drains : List DrainRow := []
  /-- How rows are written (R180, R192, R216): OFMT, DADD, INT32 accumulators, FP64 values. -/
  ofmt : Nat := 0
  dadd : Bool := false
  int32 : Bool := false
  wide : Bool := false
  wins : List FoldWin := []
  /-- ACLK of passing the checks and of completion by R190 to R196 and R228. -/
  t0 : Nat := 0
  tEnd : Nat := 0
  deriving DecidableEq, Repr

/-- The array of a stall (R173 to R176, R206). -/
structure Arr where
  /-- Accumulator mode: false FP32, true INT32 (R175). -/
  int32 : Bool := false
  /-- Valid bits (R176). -/
  vrow : BitVec 128 := 0
  /-- Accumulators of a logical row, by column (R174). -/
  acc : Map (List Nat) := []
  /-- Weights held: inner dimension, columns, format (R195). -/
  held : Option (Nat × Nat × Nat) := none
  /-- The weights, as format codes: by column, in the order of the inner dimension. -/
  w : List (List Nat) := []
  inflight : List ArrCmd := []
  streamFree : Nat := 0
  gapEnd : Nat := 0
  /-- Row steps accumulated and not drained, by row (R257). -/
  fed : Map Nat := []
  /-- Array state lost in a stall move (R544). -/
  lost : Bool := false
  deriving DecidableEq, Repr

/-- One sync object (R348). -/
structure SyncObj where
  kind : Nat := 0
  abandoned : Bool := false
  held : Bool := false
  count : Nat := 0
  /-- 32-bit value: count; owner task and LS; or ARRIVED and GEN. -/
  value : Nat := 0
  tenant : Nat := 0
  deriving DecidableEq, Repr

/-- A waiter entry at an owning stall (R349). -/
structure Waiter where
  obj : Nat
  /-- Issuing physical stall. -/
  ps : Nat
  deriving DecidableEq, Repr

/-- How far a sync command has come (R350). -/
inductive SyncPh where
  | toOwner
  | waiting
  | retry
  | withdrawing
  | answer (st : Status) (w0 w1 : Word) (res : Bool)
  /-- An XBARRIVE waiting for its release. -/
  | atMaster
  deriving DecidableEq, Repr

/-- The command that a sync unit runs (R350, R352). -/
structure SyncCmd where
  idx : Nat
  lst : QList
  op : Nat
  index : Nat
  ls : Nat
  val : Nat
  result : Nat
  tmo : Nat
  key : Word
  vote : BitVec 32
  postEn : Bool
  postEv : Nat
  ph : SyncPh
  /-- NCLK at which its wait began. -/
  start : Nat
  /-- A PAUSE or ABORT withdrawal is on its way (R355). -/
  pausing : Bool := false
  aborting : Bool := false
  deriving DecidableEq, Repr

/-- A translation buffer entry (R300). -/
structure XEntry where
  task : Nat
  va : Nat
  /-- Base-2 logarithm of the page size. -/
  lg : Nat
  pa : Nat
  w : Bool
  k : Bool
  d : Bool
  deriving DecidableEq, Repr

/-- A statistics triple (R429). -/
structure Triple where
  half : Nat
  lgrp : Nat
  fmt : Nat
  nconv : Nat := 0
  novf : Nat := 0
  nflush : Nat := 0
  deriving DecidableEq, Repr

/-- Power states of R526. -/
inductive PState where
  | run | gated | sret | yret | deep
  deriving DecidableEq, Repr

/-- One physical stall. -/
structure Stall where
  /-- Stall CSRs that hold plain values, by offset (R138 and the chapters' register tables). -/
  csr : Map Word := []
  /-- 4 MiB of scratch, by offset; unwritten bytes read zero (R511). -/
  scratch : Map Byte := []
  /-- Scratch words with an uncorrectable error (R536). -/
  scratchUe : List Nat := []
  /-- 1 MiB of tile storage, by register × 65,536 + row × 512 + byte (R140). -/
  tile : Map Byte := []
  /-- 64-bit parts of tile storage with an uncorrectable error (R170). -/
  tileUe : List Nat := []
  tregs : Map TReg := []
  queues : Map Queue := []
  /-- Request slots in use: slot to queue code and request (R123). -/
  slots : List (Nat × Nat × Nat) := []
  /-- The LOAD, STORE, GATHER rotation of R123: the class granted last. -/
  slotTurn : Nat := 2
  slotGen : Nat := 0
  /-- Doorbell entries (R133). -/
  db : List Word := []
  /-- A head doorbell has been blocked for more than 1,024 NCLK (R137). -/
  dbell : Bool := false
  arr : Arr := {}
  objs : Map SyncObj := []
  waiters : List Waiter := []
  retries : Nat := 0
  sync : Option SyncCmd := none
  /-- Translation buffer, at most 512 entries, most recent first (R300). -/
  xbuf : List XEntry := []
  /-- Pages with a walk outstanding: task, page address, requests merged (R300). -/
  misses : List (Nat × Nat × List Nat) := []
  /-- SCADD adds performed at or beyond the head position, by list entry part (R572). -/
  addDone : List Nat := []
  triples : List Triple := []
  flushing : List Triple := []
  /-- The spared tile bank (R163). -/
  bank : Option Nat := none
  pstate : PState := .run
  ceiling : Nat := 0
  unplanned : Nat := 0
  /-- A command or list of the stall has completed since the last detector sample (R365). -/
  moved : Bool := false
  deriving DecidableEq, Repr

/-- Standing of a physical stall (R37). -/
inductive Health where
  | active | spare | failed
  deriving DecidableEq, Repr

/-- One DIMM bay and its channel (R28, R310). -/
structure Chan where
  /-- R310 code: 0 ACTIVE, 1 SPARE, 2 MIGRATING, 3 RELEASED, 4 EMPTY, 5 ADMITTING, 6 FAILED, 7 RECEIVING. -/
  state : Nat
  /-- Logical channel modulo 32. -/
  lc : Nat
  /-- Last code reported for the bay (BAY_STATE). -/
  last : Status := 0
  dimm : Option Dimm
  deriving DecidableEq, Repr

/-- A shed's migration (R295, R310). -/
structure Mig where
  active : Bool := false
  src : Nat := 0
  dst : Nat := 0
  units : Nat := 0
  end_ : Status := 0
  /-- Source and destination of further migrations, which wait for the copy pointer. -/
  queued : List (Nat × Nat) := []
  deriving DecidableEq, Repr

/-- An entry of a shed's error log (R310). -/
structure ElogEntry where
  status : Status
  chan : Nat
  loft : Bool
  scrub : Bool
  addr : Nat
  deriving DecidableEq, Repr

/-- One shed's log and migration. -/
structure Shed where
  mig : Mig := {}
  elog : List ElogEntry := []
  lost : Nat := 0
  deriving DecidableEq, Repr

/-- An invalidation in progress (R301). -/
structure Xinv where
  scope : Nat
  task : Nat
  va : Nat
  pages : Nat
  /-- Requests already translated that must complete first. -/
  waits : List Nat
  deriving DecidableEq, Repr

/-- The page that the pager is evicting, in MOVING while its invalidation runs (R308). -/
structure Evict where
  tenant : Nat
  /-- Address of its leaf and the leaf before step 1. -/
  at_ : Nat
  v : Nat
  lg : Nat
  deriving DecidableEq, Repr

/-- State of a loft segment (R313). -/
inductive SegSt where
  | erased | opn (wp : Nat) | sealed | retired
  deriving DecidableEq, Repr

/-- One loft channel (R316). -/
structure LoftChan where
  state : Nat := 0
  reserve : Nat := 9024
  deriving DecidableEq, Repr

/-- A loft job that the sheds have taken (R315). -/
structure LoftJob where
  idx : Nat
  op : Nat
  la : Nat
  pa : Nat
  units : Nat
  /-- Its result, once it has run. -/
  res : Option Status := none
  /-- DONE has been written. -/
  posted : Bool := false
  deriving DecidableEq, Repr

/-- A fault that the pager serves (R303, R304). -/
structure PFault where
  /-- A faulted queue (physical stall and code), or a waiting groom request. -/
  who : (Nat × Nat) ⊕ Nat
  va : Nat
  task : Nat
  tenant : Nat
  write : Bool
  status : Status
  /-- Served, and with which status: 0x0000 resumes. -/
  served : Option Status := none
  deriving DecidableEq, Repr

/-- What a tracked global request belongs to (R337). -/
inductive TrkOwner where
  | req (id : Nat)
  /-- One copy of a multicast write: the command's transfer, its packet and the target (R343). -/
  | copy (ps xfer pkt target : Nat)
  /-- An XBARRIVE arrival of a stall. -/
  | xbar (ps : Nat)
  /-- A vote of the commit controller. -/
  | vote
  /-- A release to a member. -/
  | release
  /-- A combiner packet: reduction, and the ring entry for a contribution. -/
  | comb (rid : Nat) (entry : Option Nat)
  /-- A host's MEM_READ or MEM_WRITE at a global address, by its number (R494). -/
  | host (id : Nat)
  deriving DecidableEq, Repr

/-- A tracker entry (R337). -/
structure Trk where
  owner : TrkOwner
  gen : Nat
  pkt : Packet
  at_ : Nat
  /-- Refused with NAK_RNR and held for probing (R336). -/
  held : Bool := false
  /-- NCLK of the last refusal of its transfer, and whether it is the probe on its way. -/
  heldAt : Nat := 0
  probed : Bool := false
  deriving DecidableEq, Repr

/-- An entry of the transfer table at a target (R341). -/
structure XferEnt where
  src : Nat
  xfer : Nat
  got : List Nat := []
  /-- The LAST packet, once it has been written: count and its packet. -/
  last : Option Packet := none
  at_ : Nat
  deriving DecidableEq, Repr

/-- One gate: packets waiting for their route or their unit, tracker, transfers (R331 to R343). -/
structure Gate where
  /-- Packets to be routed. -/
  inq : List Packet := []
  /-- Packets for this device. -/
  tgt : List Packet := []
  trk : Map (Option Trk) := []
  /-- Tracker generations by index. -/
  gens : Map Nat := []
  xfers : List XferEnt := []
  /-- Requests that wait for the pager's service, by the number of their fault (R304, R335). -/
  paged : List (Nat × Packet) := []
  /-- Requests of the device's own units that wait for a free tracker entry (R337). -/
  waitq : List (TrkOwner × Packet) := []
  deriving DecidableEq, Repr

/-- State of a link port (R322). -/
inductive PortSt where
  | disabled | training | up | degraded | down | failed
  deriving DecidableEq, Repr

/-- One lane's health (R346) (DESIGN CHOICE, log 61). -/
structure Lane where
  eye : Nat := 0
  symerr : Nat := 0
  lock : Bool := false
  failed : Bool := false
  deriving DecidableEq, Repr

/-- One link port (R322 to R329, R346) (DESIGN CHOICE, log 2). -/
structure Port where
  state : PortSt := .training
  good : BitVec 9 := 0
  spareUsed : Bool := false
  peer : Nat := 0
  peerValid : Bool := false
  lanes : Map Lane := []
  attempts : Nat := 0
  /-- Sees no light and keeps listening (R512). -/
  listening : Bool := false
  /-- Next LSEQ to send and next expected (R327, R329). -/
  txSeq : Nat := 0
  rxSeq : Nat := 0
  /-- Replay buffer in LSEQ order. -/
  replay : List (Nat × Packet) := []
  /-- A replay requested from this LSEQ, and how often in a row. -/
  want : Option Nat := none
  replays : Nat := 0
  /-- Free credits of REQ0, REQ1, RSP0, RSP1, and credits not yet returned. -/
  credit : List Nat := [0, 0, 0, 0]
  owe : List Nat := [0, 0, 0, 0]
  /-- Packets put on the wire by the last command, oldest first. -/
  wire : List Packet := []
  wireLctl : List LctlMsg := []
  beaconAt : Nat := 0
  lossAt : Option (Nat × Nat) := none
  deriving DecidableEq, Repr

/-- One arrival the master of a barrier slot holds (R361). -/
structure Arrival where
  rank : Nat
  dev : Nat
  vote : BitVec 32
  deriving DecidableEq, Repr

/-- One cross-device barrier slot: master and member state (R361 to R364). -/
structure Xbar where
  cur : List Arrival := []
  nxt : List Arrival := []
  firstAt : Option Nat := none
  /-- NCLK of the first arrival for K + 1. -/
  nextAt : Option Nat := none
  lastKey : Option Word := none
  lastRes : Option XResult := none
  lastStatus : Status := 0
  /-- A release kept for the next XBARRIVE with its key (R364). -/
  kept : Option (Word × XResult) := none
  deriving DecidableEq, Repr

/-- One 320-bit accumulator (R372). -/
structure Acc where
  a : Int := 0
  nan : Bool := false
  pinf : Bool := false
  ninf : Bool := false
  deriving DecidableEq, Repr

/-- How a block of a reduction stands at its owner (R386, R390). -/
inductive BlkSt where
  | opn | closedCount | closedDeadline
  deriving DecidableEq, Repr

/-- One owned block of an open reduction (R370, R396, R397). -/
structure Blk where
  st : BlkSt := .opn
  /-- Packets counted at each half. -/
  n0 : Nat := 0
  n1 : Nat := 0
  acc : Map Acc := []
  bad : Bool := false
  nanDev : Nat := 0x3FFF
  infDev : Nat := 0x3FFF
  slot : Bool := false
  deriving DecidableEq, Repr

/-- A ring entry in progress (R380). -/
structure RingJob where
  idx : Nat
  op : Nat
  rid : Nat
  epoch : Nat
  addr : Nat
  /-- PUSH: blocks still to read, and packets not yet acknowledged. -/
  blocks : List Nat := []
  unacked : Nat := 0
  status : Status := 0
  len : Nat := 0
  out : Nat := 0
  task : Nat := 0
  deriving DecidableEq, Repr

/-- State of a reduction (R403). -/
inductive RedSt where
  | opn | held | ending
  deriving DecidableEq, Repr

/-- An open reduction (R377, R381). -/
structure Red where
  rid : Nat
  epoch : Nat
  entry : Nat
  nelem : Nat
  fmt32 : Bool
  rfmt32 : Bool
  mean : Bool
  nanProp : Bool
  compat : Bool
  sexp : Int
  group : Nat
  ncontrib : Nat
  nmemb : Nat
  step : Nat
  rank : Nat
  window : Nat
  deadline : Nat
  members : List Nat
  res : Nat
  task : Nat
  tenant : Nat
  tok : Option (Nat × Nat)
  dchk : Nat
  state : RedSt := .opn
  blks : Map Blk := []
  /-- Blocks written locally or reported BAD. -/
  written : List Nat := []
  /-- Halves received of blocks whose result comes in two packets. -/
  half : List Nat := []
  anyBad : Bool := false
  late : Bool := false
  copies : Nat := 0
  /-- Which COMB_REDs shows it. -/
  slot : Nat := 0
  /-- NCLK of the next contribution deadline and of the next result deadline (R393, R394). -/
  contribAt : Nat
  resultAt : Nat
  /-- The contribution deadline has been applied. -/
  contribDone : Bool := false
  /-- A DECIDE with DROP has been applied (R394). -/
  dropped : Bool := false
  deriving DecidableEq, Repr

/-- States of the commit controller (R439). -/
inductive CmtSt where
  | idle | opn | preparing | voted | doubt | flipping | committed | aborted
  deriving DecidableEq, Repr

/-- The commit and checkpoint controller (R439 to R461). -/
structure Cmt where
  state : CmtSt := .idle
  dec : Bool := false
  next : Bool := false
  status : Status := 0
  res0 : Word := 0
  res1 : Word := 0
  votedAt : Nat := 0
  vote : BitVec 32 := 0
  /-- The flip completes one that a failure cut short: entries with CSTEP = STEP have been flipped (R449). -/
  finishing : Bool := false
  ckState : Nat := 0
  ckStatus : Status := 0
  ckStep : Nat := 0
  ckRetry : Bool := false
  ckLast : Nat := 0
  ckLstep : Nat := 0
  deriving DecidableEq, Repr

/-- One lottery arbiter (R465 to R470). -/
structure ArbInst where
  lfsr : BitVec 32
  /-- Current or parked owner: class and index. -/
  owner : Option (Nat × Nat) := none
  /-- The owner holds a grant. -/
  granted : Bool := false
  frozen : Bool := false
  wait : Nat := 0
  /-- A bitten owner whose request is ignored until lowered (R470). -/
  ignored : Option (Nat × Nat) := none
  deriving DecidableEq, Repr

/-- A halter command that has been accepted (R490, R491). -/
structure CpCmd where
  session : Nat
  seq : Nat
  opcode : Nat
  params : List Byte
  /-- NCLK at which it came. -/
  at_ : Nat := 0
  /-- Where its replies go, whether it came to a management address, and the whole packet. -/
  src : Nat := 0
  mgmt : Bool := false
  raw : List Byte := []
  deriving DecidableEq, Repr

/-- A long halter command in progress (R489). -/
structure LongCmd where
  cmd : CpCmd
  /-- Its final status and reply data, once it has ended. -/
  res : Option (Status × List Byte) := none
  deriving DecidableEq, Repr

/-- The global access of the command at the head of the command processor's queue (R331, R494). -/
structure HostAcc where
  id : Nat
  /-- Its status and data, once the response has come. -/
  res : Option (Status × List Byte) := none
  deriving DecidableEq, Repr

/-- A packet the device sends to a host (R489, R501). -/
structure HostMsg where
  dst : Nat
  bytes : List Byte
  deriving DecidableEq, Repr

/-- An event record (R501). -/
structure Event where
  code : Nat
  d0 : Word
  d1 : Word := 0
  d2 : Word := 0
  d3 : Word := 0
  deriving DecidableEq, Repr

/-- An open session (R485 to R489, R501). -/
structure Sess where
  mgmt : Bool
  key : List Byte
  src : Nat
  n : Nat := 0
  /-- Requests held until an earlier one arrives (R488). -/
  hold : List CpCmd := []
  /-- Replies by SEQ, latest first, 64 SEQ values (R489). -/
  cache : List (Nat × List Byte) := []
  mask : BitVec 32 := 0
  /-- Events queued and not acknowledged, oldest first, with ESEQ (R501). -/
  events : List (Nat × Event) := []
  eseq : Nat := 1
  lostCnt : Nat := 0
  hnonce : List Byte
  openAt : Nat
  firstReply : List Byte
  lastAt : Nat
  deriving DecidableEq, Repr

/-- A RoCE memory region (R495). -/
structure Mr where
  task : Nat
  tenant : Nat
  rights : Nat
  addr : Nat
  len : Nat
  deriving DecidableEq, Repr

/-- A RoCE queue pair (R495, R497). -/
structure Qp where
  port : Nat
  db : Nat
  task : Nat
  tenant : Nat
  pmtu : Nat
  dqpn : Nat
  spsn : Nat
  dpsn : Nat
  dgid : Nat
  /-- Sending rate in thousandths of the port rate. -/
  rate : Nat := 1000
  deriving DecidableEq, Repr

/-- What a host engine answers a RoCE operation with (R495 to R497). -/
inductive RoceAns where
  | ack (data : List Byte)
  | nakInvalid
  | nakAccess
  | rnr
  deriving DecidableEq, Repr

/-- One host port (R479, R503). -/
structure HPort where
  state : Nat := 0
  pmd : Nat := 0
  paused : Bool := false
  /-- The last frame answer or RoCE answer sent. -/
  ans : Option RoceAns := none
  echoes : Nat := 0
  deriving DecidableEq, Repr

/-- A record of the configuration store (R517). -/
structure StoreRec where
  typ : Nat
  bytes : List Byte
  /-- Its signature verifies under this device's identity key (R554). -/
  sigOk : Bool
  deriving DecidableEq, Repr

/-- One bank of the configuration store (R516 to R518). -/
structure Bank where
  /-- MAGIC, VER and CRC are correct. -/
  valid : Bool
  seq : Nat
  /-- The image signature verifies. -/
  sigOk : Bool
  svn : Nat
  fwver : Nat
  image : List Byte
  recs : List StoreRec
  deriving DecidableEq, Repr

/-- Power, clocks and bring-up (R20 to R23, R505 to R533) (DESIGN CHOICE, log 2). -/
structure Pwr where
  inlet : Bool := false
  phase : Nat := 0
  failStep : Nat := 0
  bootStatus : Status := 0
  tms : Nat := 0
  cause : Nat := 0
  memKept : Bool := false
  resets : Nat := 0
  refOk : Bool := true
  /-- PLLs of yards 0 to 3, sheds 0 to 3, gates 0 to 3. -/
  plls : BitVec 12 := 0xFFF
  dclink : Nat := 0
  pkgW : Nat := 0
  inletW : Nat := 0
  duty : Nat := 64
  tsup : Int := 0
  tret : Int := 0
  flow : Nat := 0
  wet : Bool := false
  /-- COOL_DEGRADED and COOL_WARN caps in force, and consecutive samples without their conditions (R20, R21). -/
  coolDeg : Bool := false
  coolWarn : Bool := false
  degAbsent : Nat := 0
  warnAbsent : Nat := 0
  /-- Consecutive samples with a stop condition: supply, return, flow, leak. -/
  stopSup : Nat := 0
  stopRet : Nat := 0
  stopFlow : Nat := 0
  stopLeak : Nat := 0
  /-- Held unpowered after COOL_STOP (R22). -/
  coolStopped : Bool := false
  supplyCap : Bool := false
  /-- Consecutive DC-link samples above 370 V (R521). -/
  stable : Nat := 0
  below320 : Bool := false
  /-- A stop sequence is running, with its cause (R522). -/
  stopping : Option Nat := none
  /-- DIMM self-refresh supply present (R23, R523). -/
  dimmSupply : Bool := true
  degradedMs : Nat := 0
  lastCap : Nat := 3900
  yret : BitVec 4 := 0
  deep : Bool := false
  deriving DecidableEq, Repr

/-- An error record (R540). -/
structure ErrRec where
  status : Status
  cls : Nat
  sev : Nat
  unit : Nat
  id : Nat
  addr : Nat := 0
  task : Nat := 0
  cycle : Nat := 0
  sub : Nat := 0
  action : Nat := 0
  deriving DecidableEq, Repr

/-- One monitored unit's daily means, latest first (R547). -/
structure AgeUnit where
  mon : Monitor
  /-- Age in ms at each daily mean, and the sum of that day's 24 samples; latest first, 90 of them. -/
  means : List (Nat × Nat) := []
  /-- Samples of the running day: count and sum. -/
  cnt : Nat := 0
  sum : Nat := 0
  /-- Sum of the first day. -/
  first : Nat := 0
  days : Nat := 0xFFFF
  margin : Nat := 1000
  /-- Milliseconds under COOL_DEGRADED that its age already counts (R547). -/
  extra : Nat := 0
  deriving DecidableEq, Repr

/-- A sparing that has been decided (R541, R543, R544, R546). -/
structure SpareJob where
  /-- 0 column, 1 stall, 2 tile bank, 3 array self-test. -/
  kind : Nat
  ps : Nat
  /-- Physical column or bank. -/
  sub : Nat := 0
  /-- Status of the detection behind it. -/
  status : Status := 0
  /-- SPARE_SET's session and SEQ. -/
  long : Option (Nat × Nat) := none
  started : Bool := false
  /-- Queues paused and grooms halted for it. -/
  paused : List Nat := []
  halted : List Nat := []
  deriving DecidableEq, Repr

/-- The two tack rooms and what they keep (R535 to R557). -/
structure Tack where
  /-- False: gate 0 active. -/
  active : Bool := false
  standbyOk : Bool := false
  takeover : Bool := false
  takeovers : Nat := 0
  missed : Nat := 0
  restartFails : Nat := 0
  /-- Aggregation buffer and log, oldest first. -/
  agg : List ErrRec := []
  log : List ErrRec := []
  lost : Nat := 0
  /-- Detections counted in 24-hour windows: kind, unit, sub, NCLK (R541). -/
  seen : List (Status × Nat × Nat × Nat) := []
  age : List AgeUnit := []
  /-- Corrected errors counted, by unit kind × 2^32 + ID (R541). -/
  corrected : Map Nat := []
  staged : Map Byte := []
  stagedLen : Nat := 0
  /-- An activation in progress: its long command. -/
  activating : Option (Nat × Nat) := none
  /-- Its stage: 1 the standby starts the image, 2 it takes over, 3 the former primary restarts. -/
  fwStage : Nat := 0
  /-- Sparings decided and not yet complete, oldest first. -/
  todo : List SpareJob := []
  /-- M0 to M7 as 256-bit numbers (R555). -/
  meas : Map (BitVec 256) := []
  report : List Byte := []
  fwver0 : Nat := 0
  fwver1 : Nat := 0
  svn : Nat := 0
  minsvn : Nat := 0
  /-- Spare-needed notices raised: unit kind, ID and days. -/
  needed : List (Nat × Nat × Nat) := []
  /-- The sled has been taken out of service (R15, R55). -/
  outOfService : Bool := false
  deriving DecidableEq, Repr

/-- The completion that the last register or debug access returned to its sender. -/
structure Resp where
  status : Status := 0
  data : Word := 0
  bytes : List Byte := []
  deriving DecidableEq, Repr

/-- A delivery that the interrupt controller has started (R472 to R474). -/
structure Deliv where
  src : Nat
  g : Nat
  t0 : Nat
  deriving DecidableEq, Repr

/-- Standing of a physical stall at shipment: stall row 8 of each yard is spare (R37) (DESIGN CHOICE, log 2). -/
def healthDflt (ps : Nat) : Health := if ps % 72 < 64 then .active else .spare

/-- The stall that holds an LS at shipment: active stalls in ascending PS order (R38) (DESIGN CHOICE, log 2). -/
def lsDflt (ls : Nat) : Nat := ls / 64 * 72 + ls % 64

/-- A bay and channel at shipment: populated, with two spares in each shed (R26, R28, R287) (DESIGN CHOICE, log 2). -/
def chanDflt (ch : Nat) : Chan :=
  { state := if ch % 34 < 32 then 0 else 1
    lc := if ch % 34 < 32 then ch % 34 else 0
    dimm := some { capLog2 := 38, slow := false, supported := true } }

/-- The LFSR of an arbiter instance after a load of the seed (R476). -/
def lfsrSeed (seed key : Nat) : BitVec 32 :=
  if (BitVec.ofNat 32 seed ^^^ BitVec.ofNat 32 key) = 0 then 1 else BitVec.ofNat 32 seed ^^^ BitVec.ofNat 32 key

/-- An arbiter instance at reset, by KIND × 2^16 + INST (R465, R476). -/
def arbDflt (key : Nat) : ArbInst := { lfsr := lfsrSeed 0x5A5A0001 key }

/-- A configuration store bank as the model ships it: every bank valid, bank 0 of each device the winner (DESIGN CHOICE, log 2). -/
def bankDflt (b : Nat) : Bank :=
  { valid := true, seq := if b % 2 = 0 then 2 else 1, sigOk := true, svn := 0, fwver := 0, image := [], recs := [] }

/-- The whole block. -/
structure State where
  /-- Commands waiting, first in, first out (the block's own queue, not the spec's). -/
  pending : List Instr := []
  /-- NCLK since device reset, which GROOM_CYCLE reads (R97). -/
  clk : Nat := 0
  /-- Counter from which each free value takes a fresh argument (the model's own). -/
  free : Nat := 0
  /-- What the last register or debug access returned to its sender. -/
  resp : Resp := {}
  /-- Physical stall of each LS (R9, R38). -/
  lsMap : Map Nat := []
  health : Map Health := []
  /-- Physical stalls 0 to 287. -/
  stalls : Map Stall := []
  /-- Groom contexts by PS × 16 + g. -/
  grooms : Map Groom := []
  /-- Router nodes by PS × 16 + g (R36, R40). -/
  nodes : Map Node := []
  /-- Main memory by physical address; unlisted bytes read zero after a cold start (R511). -/
  mem : Map Byte := []
  /-- 64-byte blocks that are uncorrectable (R290). -/
  memUe : List Nat := []
  /-- Requests in flight, by number. -/
  reqs : Map (Option Req) := []
  nextReq : Nat := 0
  /-- Next transfer number of attached signals (R341). -/
  nextXfer : Nat := 0
  /-- Device CSRs that hold plain values, by offset in device CSR space (R4). -/
  csr : Map Word := []
  /-- Bays and channels 0 to 135. -/
  chans : Map Chan := []
  /-- Every channel runs at 12,800 MT/s (R26, SHED_CFG.SPEED). -/
  slowMem : Bool := false
  /-- Base-2 logarithm of the channel capacity Cc (R285). -/
  capLog2 : Nat := 38
  sheds : Map Shed := []
  xinv : Option Xinv := none
  /-- Loft segments, data, channels, page reads in progress and jobs (R312 to R316). -/
  segs : Map SegSt := []
  loft : Map Byte := []
  loftChans : Map LoftChan := []
  pageReads : List (Nat × List Nat) := []
  jobs : List LoftJob := []
  ljHead : Nat := 0
  /-- Faults the pager serves, and tenants whose eviction has stopped (R304, R308). -/
  pfaults : List PFault := []
  evictStopped : List Nat := []
  /-- Steps 1 and 2 of R308 have begun for this page. -/
  evicting : Option Evict := none
  gates : Map Gate := []
  /-- Route table, one copy for the four gates, by destination (R332). -/
  routes : Map Word := []
  ports : Map Port := []
  xbars : Map Xbar := []
  /-- Deadlock detector counts and limits, by domain (R365, R367). -/
  dld : Map Nat := []
  dldLimit : Map Nat := []
  /-- Open reductions; epochs by RID of the last opened and of the last ended, plus 1 (R386). -/
  reds : List Red := []
  opened : Map Nat := []
  ended : Map Nat := []
  ring : List RingJob := []
  combHead : Nat := 0
  cmt : Cmt := {}
  arbs : Map ArbInst := []
  /-- Sources delivered and not re-armed, deliveries started, groom last chosen, software sources (R471 to R477). -/
  deliv : List Nat := []
  started : List Deliv := []
  lastG : Map Nat := []
  swi : Word := 0
  hports : Map HPort := []
  sess : Map (Option Sess) := []
  nextSess : Nat := 1
  cpq : List CpCmd := []
  /-- The global access that the command at its head waits for, and the number of the next one. -/
  hostAcc : Option HostAcc := none
  nextAcc : Nat := 0
  longs : List LongCmd := []
  /-- Packets sent to hosts by the last command. -/
  outbox : List HostMsg := []
  mrs : Map (Option Mr) := []
  qps : Map (Option Qp) := []
  pwr : Pwr := {}
  /-- Store banks: NOR0 banks 0 and 1, NOR1 banks 0 and 1 (R516). -/
  banks : Map Bank := []
  tack : Tack := {}
  deriving DecidableEq, Repr

/-- The block right after device reset, before bring-up: every register at its reset value, every groom halted, every
node fenced, no command waiting (DESIGN CHOICE, log 2). -/
def State.reset : State := {}

end Sys2Proof.Machine
end

