-- ==== Sys2Proof/Machine/Status.lean ====
section
/-! DEFINITION. The status codes of the chapters' status tables (R10 to R12). -/

namespace Sys2Proof.Machine.St

/-- Success (R10). -/
def ok : Status := 0x0000
/-- UNSUPPORTED: Opcode, option or encoding not supported by this part. -/
def unsupported : Status := 0x0001
/-- PRIVILEGE: Requester's privilege level below that required. -/
def privilege : Status := 0x0002
/-- BAD_PARAM: A parameter is outside its stated range. -/
def badParam : Status := 0x0003
/-- RESERVED_SET: A reserved field in a command, descriptor or packet is non-zero. -/
def reservedSet : Status := 0x0004
/-- ABORTED: Operation cancelled by software, the host, or a step abort. -/
def aborted : Status := 0x0005
/-- BAY_NOT_RELEASABLE: Release requested on a bay not in ACTIVE or SPARE. -/
def bayNotReleasable : Status := 0x0101
/-- BAY_NO_SPARE: Release requested with no SPARE channel in the shed. -/
def bayNoSpare : Status := 0x0102
/-- DIMM_SPEED: Inserted module rated below the current channel speed. -/
def dimmSpeed : Status := 0x0103
/-- DIMM_CAPACITY: Inserted module smaller than the configured channel capacity. -/
def dimmCapacity : Status := 0x0104
/-- DIMM_NOT_PRESENT: Latch closed on an empty bay. -/
def dimmNotPresent : Status := 0x0105
/-- DIMM_TRAIN_FAIL: Training or zero verification failed during ADMITTING. -/
def dimmTrainFail : Status := 0x0106
/-- BAY_LOCK_FAULT: Latch opened on a bay that was not released. -/
def bayLockFault : Status := 0x0107
/-- COOLANT_LIMIT: Stop clear requested while a coolant condition is outside the normal row. -/
def coolantLimit : Status := 0x0108
/-- NET_UNREACHABLE: Detour entry refuses the destination. -/
def netUnreachable : Status := 0x0201
/-- NET_NODE_DEAD: Destination dead, or the path crossed a node marked dead. -/
def netNodeDead : Status := 0x0202
/-- NET_DEST_FENCED: Destination port fenced. -/
def netDestFenced : Status := 0x0203
/-- NET_FLIT_UE: Uncorrectable flit error, or bad tail, in the request or its response. -/
def netFlitUe : Status := 0x0204
/-- NET_DEAD_LIMIT: A ninth dead router was reported. -/
def netDeadLimit : Status := 0x0205
/-- GROOM_ILLEGAL: Undefined encoding (R79). -/
def groomIllegal : Status := 0x0301
/-- GROOM_PRIV_INSTR: Instruction or CSR above the current privilege. -/
def groomPrivInstr : Status := 0x0302
/-- GROOM_MISALIGNED: Access alignment (R69). -/
def groomMisaligned : Status := 0x0303
/-- GROOM_FETCH_RANGE: TASK fetch outside the range. -/
def groomFetchRange : Status := 0x0304
/-- GROOM_ECALL: ECALL at TASK. -/
def groomEcall : Status := 0x0305
/-- GROOM_BREAK: BREAK executed. -/
def groomBreak : Status := 0x0306
/-- GROOM_DOUBLE_FAULT: Fault while EXL = 1. -/
def groomDoubleFault : Status := 0x0307
/-- GROOM_WAIT_TIMEOUT: CWAIT timeout. -/
def groomWaitTimeout : Status := 0x0308
/-- GROOM_NOT_HALTED: Register-page access that needs a halted groom. -/
def groomNotHalted : Status := 0x0309
/-- GROOM_TCALL_TIMEOUT: Tack call not answered in 1 ms. -/
def groomTcallTimeout : Status := 0x030A
/-- GROOM_SEQ_STALE: CWAIT on a sequence number not yet issued. -/
def groomSeqStale : Status := 0x030B
/-- GROOM_ALREADY_RUNNING: RUN written to a running groom. -/
def groomAlreadyRunning : Status := 0x030C
/-- ENG_BAD_OP: Opcode not defined for the queue's engine. -/
def engBadOp : Status := 0x0401
/-- ENG_LIST_FORMAT: List header invalid (R103). -/
def engListFormat : Status := 0x0402
/-- ENG_EXTENT: Stream outside its declared extent, or extent spans regions. -/
def engExtent : Status := 0x0403
/-- ENG_STREAM_LEN: Stream length does not match the command. -/
def engStreamLen : Status := 0x0404
/-- ENG_ALIGN: Base or stride not element-aligned. -/
def engAlign : Status := 0x0405
/-- ENG_STATUS_GONE: CWAIT on a list more than 16 completions old. -/
def engStatusGone : Status := 0x0406
/-- ENG_DOORBELL_FULL: Doorbell write with 32 entries queued. -/
def engDoorbellFull : Status := 0x0407
/-- ENG_SLOT_QUOTA: Quotas written with a sum above 48. -/
def engSlotQuota : Status := 0x0408
/-- ENG_QSTATE: Queue control not allowed in the current state. -/
def engQstate : Status := 0x0409
/-- TILE_SHAPE: Command does not fit the configured shape (R151). -/
def tileShape : Status := 0x0501
/-- TILE_CFG_INVALID: TCFG shape inconsistent (R144). -/
def tileCfgInvalid : Status := 0x0502
/-- TILE_UNCONF: Register has no shape. -/
def tileUnconf : Status := 0x0503
/-- TILE_EMPTY: Read of a register in EMPTY. -/
def tileEmpty : Status := 0x0504
/-- TILE_CONV: Conversion code, pair or transposition not supported. -/
def tileConv : Status := 0x0505
/-- TILE_BUSY: TCFG, TREL, record write or debug write on a register with a live command. -/
def tileBusy : Status := 0x0506
/-- TILE_DATA_UE: Uncorrectable tile data consumed. -/
def tileDataUe : Status := 0x0507
/-- ARRAY_RESIDUE: Check sums differ (R202). -/
def arrayResidue : Status := 0x0601
/-- ARRAY_PARITY: Parity error in a cell, lane or drain chain. -/
def arrayParity : Status := 0x0602
/-- ARRAY_GROUP: A register group extends past T15. -/
def arrayGroup : Status := 0x0603
/-- ARRAY_ALIAS: The C group shares a register with an input group. -/
def arrayAlias : Status := 0x0604
/-- ARRAY_FOLD: Multi-fold MMA with ACC = 1 or DRAIN = 0. -/
def arrayFold : Status := 0x0605
/-- ARRAY_ACCMODE: ACC = 1 against the other accumulator mode. -/
def arrayAccmode : Status := 0x0606
/-- ARRAY_NO_WEIGHTS: WSMM with no weights in the latches. -/
def arrayNoWeights : Status := 0x0607
/-- ARRAY_BUSY: STALL_ARR_MAP written while a command is in flight. -/
def arrayBusy : Status := 0x0608
/-- SP_META_MISSING: SPARSE ≠ 0 with SPMETA = 0. -/
def spMetaMissing : Status := 0x0801
/-- SP_RECORD: Metadata or skip record invalid (R244, R245, R250, R254). -/
def spRecord : Status := 0x0802
/-- SP_SKIP_CHUNK: Chunk not a multiple of p·sf (R249). -/
def spSkipChunk : Status := 0x0803
/-- GTH_OOB: Out-of-range entry under FAULT. -/
def gthOob : Status := 0x0901
/-- GTH_VIEW: View record invalid (R262, R268, R269). -/
def gthView : Status := 0x0902
/-- GTH_LAYOUT: Base, stride or CNT0 not a multiple of VB. -/
def gthLayout : Status := 0x0903
/-- GTH_ADD_FMT: SCADD source format not accepted. -/
def gthAddFmt : Status := 0x0904
/-- GTH_ADD_RANGE: SCADD contributions rejected (R277). -/
def gthAddRange : Status := 0x0905
/-- MEM_RANGE: Address outside every region, or beyond 128 × Cc. -/
def memRange : Status := 0x1001
/-- MEM_NOT_MAPPED: AST entry or a table entry invalid, or translation off at TASK. -/
def memNotMapped : Status := 0x1002
/-- MEM_PERM: Write to W = 0, or TASK access to K = 1. -/
def memPerm : Status := 0x1003
/-- MEM_BAD_PTE: Malformed entry (R299). -/
def memBadPte : Status := 0x1004
/-- MEM_EVICTED: Leaf TIER 1 in the main window. -/
def memEvicted : Status := 0x1005
/-- MEM_DEMAND: Leaf TIER 2. -/
def memDemand : Status := 0x1006
/-- MEM_MOVING: Leaf TIER 3. -/
def memMoving : Status := 0x1007
/-- MEM_QUOTA: Demand allocation over LIMIT, or no free frame. -/
def memQuota : Status := 0x1008
/-- MEM_WALK_UE: Uncorrectable error reading a table entry. -/
def memWalkUe : Status := 0x1009
/-- MEM_UE: Uncorrectable data, partial-write merge or failed channel. -/
def memUe : Status := 0x100A
/-- MEM_MIG_STATE: Migration refused or ended (R296, R310). -/
def memMigState : Status := 0x100B
/-- MEM_XINV_BUSY: Invalidation while another runs. -/
def memXinvBusy : Status := 0x100C
/-- LOFT_UE: NAND data uncorrectable, or loft channel failed. -/
def loftUe : Status := 0x1010
/-- LOFT_UNWRITTEN: Read of an unwritten unit. -/
def loftUnwritten : Status := 0x1011
/-- LOFT_DEADLINE: FAULT action at the deadline. -/
def loftDeadline : Status := 0x1012
/-- LOFT_RECORD: Loft record invalid (R318). -/
def loftRecord : Status := 0x1013
/-- LOFT_SEG_STATE: Job on a segment in the wrong state or at the wrong pointer. -/
def loftSegState : Status := 0x1014
/-- LOFT_RESERVE_OUT: No reserve block left for a failing block. -/
def loftReserveOut : Status := 0x1015
/-- LOFT_RING: Loft job entry malformed. -/
def loftRing : Status := 0x1016
/-- LINK_NO_ROUTE: No usable route, or device ID not assigned. -/
def linkNoRoute : Status := 0x1101
/-- LINK_TTL: HOPS exhausted before the destination. -/
def linkTtl : Status := 0x1102
/-- LINK_DOWN: Packet lost with a port that went DOWN. -/
def linkDown : Status := 0x1103
/-- LINK_TIMEOUT: No response within the tracker timeout. -/
def linkTimeout : Status := 0x1104
/-- LINK_REMOTE_PERM: No window, wrong group or missing right at the target. -/
def linkRemotePerm : Status := 0x1105
/-- LINK_NOT_READY: Target still not ready at the tracker timeout. -/
def linkNotReady : Status := 0x1106
/-- LINK_MCAST_PARTIAL: At least one multicast copy failed. -/
def linkMcastPartial : Status := 0x1107
/-- LINK_SIG_RECORD: Signal record invalid (R340). -/
def linkSigRecord : Status := 0x1108
/-- LINK_STATE: Port control not allowed in the current state. -/
def linkState : Status := 0x1109
/-- SYNC_KIND: Object FREE, wrong kind, or slot not enabled. -/
def syncKind : Status := 0x1201
/-- SYNC_TENANT: TASK list on another tenant's object or slot. -/
def syncTenant : Status := 0x1202
/-- SYNC_OVERFLOW: SEM post beyond 2^32 − 1. -/
def syncOverflow : Status := 0x1203
/-- SYNC_NOT_OWNER: LREL by a non-owner, or of a lock not held. -/
def syncNotOwner : Status := 0x1204
/-- SYNC_RELOCK: LACQ by the current owner. -/
def syncRelock : Status := 0x1205
/-- SYNC_ABANDONED: Abandoned lock granted. -/
def syncAbandoned : Status := 0x1206
/-- SYNC_WAIT_TIMEOUT: TMO reached. -/
def syncWaitTimeout : Status := 0x1207
/-- SYNC_BAR_MISSING: Master deadline passed without every rank. -/
def syncBarMissing : Status := 0x1208
/-- SYNC_KEY_STALE: Arrival key below K − 1. -/
def syncKeyStale : Status := 0x1209
/-- SYNC_KEY_AHEAD: Arrival key above K + 1. -/
def syncKeyAhead : Status := 0x120A
/-- SYNC_RANK_CLASH: Rank claimed by a second device. -/
def syncRankClash : Status := 0x120B
/-- SYNC_BUSY: Object or slot written while in use. -/
def syncBusy : Status := 0x120C
/-- COMB_LATE: A contribution or result deadline ended the reduction. -/
def combLate : Status := 0x1301
/-- COMB_CONTRIB_UE: A block was BAD (R397). -/
def combContribUe : Status := 0x1302
/-- COMB_DESC: Descriptor invalid at OPEN. -/
def combDesc : Status := 0x1303
/-- COMB_RID_BUSY: OPEN of a RID already open. -/
def combRidBusy : Status := 0x1304
/-- COMB_OPEN_LIMIT: 16 reductions open, or windows exceed 512 slots. -/
def combOpenLimit : Status := 0x1305
/-- COMB_NOT_OPEN: PUSH or ABORT for a RID and EPOCH not open. -/
def combNotOpen : Status := 0x1306
/-- COMB_EXTRA: Contribution for a block already closed by count. -/
def combExtra : Status := 0x1307
/-- COMB_DCHK: Group-wide fields differ between pusher and owner. -/
def combDchk : Status := 0x1308
/-- COMB_RING: Ring entry malformed. -/
def combRing : Status := 0x1309
/-- COMB_NOT_HELD: DECIDE on a reduction not in HELD. -/
def combNotHeld : Status := 0x130A
/-- TRAIN_TIED: Handle already registered by another UPID in this step and attempt. -/
def trainTied : Status := 0x1401
/-- TRAIN_UPD_RANGE: Update store outside the next copy of its handle. -/
def trainUpdRange : Status := 0x1402
/-- TRAIN_UPD_RECORD: Update record, handle or weight table entry invalid. -/
def trainUpdRecord : Status := 0x1403
/-- TRAIN_STREAM: Update record on a list not of stream U. -/
def trainStream : Status := 0x1404
/-- TRAIN_DER_RECORD: Derivative record or Y stream invalid (R415). -/
def trainDerRecord : Status := 0x1405
/-- TRAIN_BUSY: Stream or pass register written while in use, or FLIP while PEND = 1. -/
def trainBusy : Status := 0x1406
/-- TRAIN_PASS_ORDER: FLIP from B to F before a new step. -/
def trainPassOrder : Status := 0x1407
/-- CMT_STATE: Command or register write not allowed in the current state. -/
def cmtState : Status := 0x1501
/-- CMT_CONFIG: OPEN with incomplete configuration (R441). -/
def cmtConfig : Status := 0x1502
/-- CMT_ABORT: Round decided abort. -/
def cmtAbort : Status := 0x1503
/-- CMT_DOUBT: No release within the vote limit. -/
def cmtDoubt : Status := 0x1504
/-- CMT_FLIP_UE: A weight table entry read met an uncorrectable error during a flip. -/
def cmtFlipUe : Status := 0x1505
/-- CMT_ATTEMPTS: Abort of attempt 255 with repeat. -/
def cmtAttempts : Status := 0x1506
/-- CMT_CKPT_SPACE: Checkpoint reached a segment not ERASED. -/
def cmtCkptSpace : Status := 0x1507
/-- CMT_CKPT_FAULT: Drain read or loft write failed. -/
def cmtCkptFault : Status := 0x1508
/-- CMT_DIGEST: Copy digest differs from its replica or manifest. -/
def cmtDigest : Status := 0x1509
/-- CMT_NO_JOURNAL: FINISH found no valid journal. -/
def cmtNoJournal : Status := 0x150A
/-- ARB_WDOG: Transaction of an owner removed by the arbiter watchdog (R470). -/
def arbWdog : Status := 0x1601
/-- HALT_VERSION: VER not 0x01. -/
def haltVersion : Status := 0x1701
/-- HALT_LEN: Length inconsistent or PLEN above 1,408. -/
def haltLen : Status := 0x1702
/-- HALT_SESSION: Session unknown or closed. -/
def haltSession : Status := 0x1703
/-- HALT_AUTH: SESSION_OPEN refused (R485). -/
def haltAuth : Status := 0x1704
/-- HALT_SEQ: SEQ outside the window. -/
def haltSeq : Status := 0x1705
/-- HALT_BUSY: Command processor full. -/
def haltBusy : Status := 0x1706
/-- HALT_FAILOVER: Immediate command cut by takeover. -/
def haltFailover : Status := 0x1707
/-- HALT_MODE: Opcode of a function in hardware mode. -/
def haltMode : Status := 0x1708
/-- HALT_LIMIT: Session, memory region or QP limit reached. -/
def haltLimit : Status := 0x1709
/-- STUP_NO_IMAGE: No bank holds a verified image. -/
def stupNoImage : Status := 0x1801
/-- STUP_DIE_MISSING: A die absent or of the wrong type. -/
def stupDieMissing : Status := 0x1802
/-- STUP_STALLS: Fewer than 256 stalls passed self-test. -/
def stupStalls : Status := 0x1803
/-- STUP_CHANNELS: A shed has fewer than 32 good channels. -/
def stupChannels : Status := 0x1804
/-- STUP_NOT_READY: Halter opcode before PHASE 7. -/
def stupNotReady : Status := 0x1805
/-- PWR_STATE: PSTATE_SET invalid (R531). -/
def pwrState : Status := 0x1806
/-- STORE_NO_RECORD: CFG_READ names no record. -/
def storeNoRecord : Status := 0x1807
/-- RAS_SCRATCH_UE: Uncorrectable scratch word consumed. -/
def rasScratchUe : Status := 0x1901
/-- RAS_GROOM_CHECK: Groom residue or register parity check failed. -/
def rasGroomCheck : Status := 0x1902
/-- RAS_CTRL_PARITY: Control-state parity error. -/
def rasCtrlParity : Status := 0x1903
/-- RAS_ARRAY_LOST: Array state lost in a stall move. -/
def rasArrayLost : Status := 0x1904
/-- RAS_NO_SPARE: No spare left for the unit. -/
def rasNoSpare : Status := 0x1905
/-- RAS_FW_SIG: Image signature does not verify. -/
def rasFwSig : Status := 0x1906
/-- RAS_FW_ROLLBACK: SVN below MINSVN. -/
def rasFwRollback : Status := 0x1907
/-- RAS_FW_STAGE: Staged package inconsistent or beyond the buffer. -/
def rasFwStage : Status := 0x1908
/-- RAS_STORE_BUSY: Store update or activation already running. -/
def rasStoreBusy : Status := 0x1909
/-- RAS_STANDBY_DOWN: Operation needs a standby tack room. -/
def rasStandbyDown : Status := 0x190A
/-- RAS_FW_START: New image did not reach ready in 5 s. -/
def rasFwStart : Status := 0x190B
/-- RAS_SPARE_STATE: SPARE_SET on a unit not eligible (R546). -/
def rasSpareState : Status := 0x190C
/-- PERF_EVENT: EVENT not in the event table, or CHAIN on counter 0. -/
def perfEvent : Status := 0x2001
/-- PERF_FILTER: A filter set on an attribute the class lacks (R564), or ADDR_EN = 1 with STALL_PERF_ALO ≥ STALL_PERF_AHI. -/
def perfFilter : Status := 0x2002

end Sys2Proof.Machine.St
end

