-- ==== Sys2Proof/Machine/Ops.lean ====
section
/-! DEFINITION. The named operations over the state: its parts, byte memories, stored registers, counters, the posts
and reports that many commands make. -/

namespace Sys2Proof.Machine

/-- The outcome of a command that completes. -/
abbrev Out := Host.Outcome State Fault Refusal

/-- A defaulted plain map. -/
def zeroW : Nat → Word := fun _ => 0
def zeroB : Nat → Byte := fun _ => 0
def zeroN : Nat → Nat := fun _ => 0
def noneOf {α : Type} : Nat → Option α := fun _ => none

/-! ### Parts of the state -/

def State.stall (s : State) (ps : Nat) : Stall := Map.get (fun _ => {}) s.stalls ps
def State.setStall (s : State) (ps : Nat) (t : Stall) : State := { s with stalls := Map.set (fun _ => {}) s.stalls ps t }
def State.modStall (s : State) (ps : Nat) (f : Stall → Stall) : State := s.setStall ps (f (s.stall ps))
def State.groom (s : State) (gi : Nat) : Groom := Map.get (fun _ => {}) s.grooms gi
def State.setGroom (s : State) (gi : Nat) (g : Groom) : State := { s with grooms := Map.set (fun _ => {}) s.grooms gi g }
def State.modGroom (s : State) (gi : Nat) (f : Groom → Groom) : State := s.setGroom gi (f (s.groom gi))
def State.node (s : State) (i : Nat) : Node := Map.get (fun _ => {}) s.nodes i
def State.setNode (s : State) (i : Nat) (n : Node) : State := { s with nodes := Map.set (fun _ => {}) s.nodes i n }
def State.modNode (s : State) (i : Nat) (f : Node → Node) : State := s.setNode i (f (s.node i))
def State.chan (s : State) (ch : Nat) : Chan := Map.get chanDflt s.chans ch
def State.setChan (s : State) (ch : Nat) (c : Chan) : State := { s with chans := Map.set chanDflt s.chans ch c }
def State.shed (s : State) (n : Nat) : Shed := Map.get (fun _ => {}) s.sheds n
def State.setShed (s : State) (n : Nat) (d : Shed) : State := { s with sheds := Map.set (fun _ => {}) s.sheds n d }
def State.gate (s : State) (n : Nat) : Gate := Map.get (fun _ => {}) s.gates n
def State.setGate (s : State) (n : Nat) (d : Gate) : State := { s with gates := Map.set (fun _ => {}) s.gates n d }
def State.modGate (s : State) (n : Nat) (f : Gate → Gate) : State := s.setGate n (f (s.gate n))
def State.port (s : State) (p : Nat) : Port := Map.get (fun _ => {}) s.ports p
def State.setPort (s : State) (p : Nat) (d : Port) : State := { s with ports := Map.set (fun _ => {}) s.ports p d }
def State.modPort (s : State) (p : Nat) (f : Port → Port) : State := s.setPort p (f (s.port p))
def State.xbar (s : State) (b : Nat) : Xbar := Map.get (fun _ => {}) s.xbars b
def State.setXbar (s : State) (b : Nat) (d : Xbar) : State := { s with xbars := Map.set (fun _ => {}) s.xbars b d }
def State.hport (s : State) (p : Nat) : HPort := Map.get (fun _ => {}) s.hports p
def State.setHport (s : State) (p : Nat) (d : HPort) : State := { s with hports := Map.set (fun _ => {}) s.hports p d }
def State.session (s : State) (i : Nat) : Option Sess := Map.get noneOf s.sess i
def State.setSession (s : State) (i : Nat) (d : Option Sess) : State := { s with sess := Map.set noneOf s.sess i d }
def State.bank (s : State) (i : Nat) : Bank := Map.get bankDflt s.banks i
def State.setBank (s : State) (i : Nat) (b : Bank) : State := { s with banks := Map.set bankDflt s.banks i b }
def State.arb (s : State) (k : Nat) : ArbInst := Map.get arbDflt s.arbs k
def State.setArb (s : State) (k : Nat) (a : ArbInst) : State := { s with arbs := Map.set arbDflt s.arbs k a }
def State.seg (s : State) (i : Nat) : SegSt := Map.get (fun _ => .erased) s.segs i
def State.setSeg (s : State) (i : Nat) (d : SegSt) : State := { s with segs := Map.set (fun _ => .erased) s.segs i d }
def State.loftChan (s : State) (i : Nat) : LoftChan := Map.get (fun _ => {}) s.loftChans i
def State.setLoftChan (s : State) (i : Nat) (d : LoftChan) : State := { s with loftChans := Map.set (fun _ => {}) s.loftChans i d }
def State.req (s : State) (i : Nat) : Option Req := Map.get noneOf s.reqs i
def State.setReq (s : State) (i : Nat) (r : Option Req) : State := { s with reqs := Map.set noneOf s.reqs i r }
def State.healthOf (s : State) (ps : Nat) : Health := Map.get healthDflt s.health ps
def State.setHealth (s : State) (ps : Nat) (h : Health) : State := { s with health := Map.set healthDflt s.health ps h }
/-- The physical stall of an LS (R38). -/
def State.psOf (s : State) (ls : Nat) : Nat := Map.get lsDflt s.lsMap ls
def State.setLs (s : State) (ls ps : Nat) : State := { s with lsMap := Map.set lsDflt s.lsMap ls ps }
/-- The LS that a physical stall holds, if any. -/
def State.lsOf (s : State) (ps : Nat) : Option Nat := (List.range 256).find? (fun ls => s.psOf ls == ps)
/-- The LS of a stall as GROOM_SELF reads it; 0 for a stall that holds none. -/
def State.lsNum (s : State) (ps : Nat) : Nat := (s.lsOf ps).getD 0

def Stall.queue (t : Stall) (q : Nat) : Queue := Map.get (fun _ => {}) t.queues q
def Stall.setQueue (t : Stall) (q : Nat) (x : Queue) : Stall := { t with queues := Map.set (fun _ => {}) t.queues q x }
def Stall.treg (t : Stall) (i : Nat) : TReg := Map.get (fun _ => {}) t.tregs i
def Stall.setTreg (t : Stall) (i : Nat) (x : TReg) : Stall := { t with tregs := Map.set (fun _ => {}) t.tregs i x }
def Stall.obj (t : Stall) (i : Nat) : SyncObj := Map.get (fun _ => {}) t.objs i
def Stall.setObj (t : Stall) (i : Nat) (x : SyncObj) : Stall := { t with objs := Map.set (fun _ => {}) t.objs i x }
def State.queue (s : State) (ps q : Nat) : Queue := (s.stall ps).queue q
def State.setQueue (s : State) (ps q : Nat) (x : Queue) : State := s.modStall ps (fun t => t.setQueue q x)
def State.modQueue (s : State) (ps q : Nat) (f : Queue → Queue) : State := s.setQueue ps q (f (s.queue ps q))

/-! ### Byte memories -/

/-- `n` bytes from an address of a byte memory. -/
def readBytes (m : Map Byte) (a : Nat) : Nat → List Byte
  | 0 => []
  | n + 1 => Map.get zeroB m a :: readBytes m (a + 1) n

/-- Write bytes at an address of a byte memory. -/
def writeBytes (m : Map Byte) (a : Nat) : List Byte → Map Byte
  | [] => m
  | b :: bs => writeBytes (Map.set zeroB m a b) (a + 1) bs

/-- The canonical form of a byte memory: addresses strictly rising, and no listed byte equal to the zero that an unlisted
address reads as. -/
def Memory.wf (m : Map Byte) : Bool := Map.wf zeroB m

/-- A little-endian number of `n` bytes (R3). -/
def readLe (m : Map Byte) (a n : Nat) : Nat := leNat (readBytes m a n)
def writeLe (m : Map Byte) (a n v : Nat) : Map Byte := writeBytes m a (leBytes n v)

/-- Bytes of main memory by physical address. -/
def State.memRead (s : State) (a n : Nat) : List Byte := readBytes s.mem a n
def State.memLe (s : State) (a n : Nat) : Nat := readLe s.mem a n

/-- The 64-byte blocks that a range touches. -/
def blocksOf (a n : Nat) : List Nat :=
  if n = 0 then [] else (List.range ((a + n - 1) / 64 - a / 64 + 1)).map (· + a / 64)

/-- Write main memory; a block that is written whole is no longer uncorrectable (R290). -/
def State.memWrite (s : State) (a : Nat) (bs : List Byte) : State :=
  let whole := (blocksOf a bs.length).filter (fun b => a ≤ b * 64 ∧ b * 64 + 64 ≤ a + bs.length)
  { s with mem := writeBytes s.mem a bs, memUe := s.memUe.filter (fun b => !whole.contains b) }

def State.memWriteLe (s : State) (a n v : Nat) : State := s.memWrite a (leBytes n v)

def State.scrRead (s : State) (ps a n : Nat) : List Byte := readBytes (s.stall ps).scratch a n
def State.scrLe (s : State) (ps a n : Nat) : Nat := readLe (s.stall ps).scratch a n
/-- Write stall scratch; a 64-bit word written whole is good again (R536). -/
def State.scrWrite (s : State) (ps a : Nat) (bs : List Byte) : State :=
  s.modStall ps (fun t => { t with
    scratch := writeBytes t.scratch a bs
    scratchUe := t.scratchUe.filter (fun w => !(decide (a ≤ w * 8 ∧ w * 8 + 8 ≤ a + bs.length))) })
def State.scrWriteLe (s : State) (ps a n v : Nat) : State := s.scrWrite ps a (leBytes n v)

/-- Physical main memory spans 128 × Cc bytes (R285). -/
def State.memBytes (s : State) : Nat := 128 * 2 ^ s.capLog2

/-- Logical channel of a physical address (R286). -/
def spreadLc (pa : Nat) : Nat :=
  let c := pa / 4096
  (c % 128) ^^^ (c / 2 ^ 7 % 128) ^^^ (c / 2 ^ 14 % 128) ^^^ (c / 2 ^ 21 % 128) ^^^ (c / 2 ^ 28 % 32)

/-- Channel offset of a physical address (R286). -/
def spreadCo (pa : Nat) : Nat := (pa / 4096 / 128) * 4096 + pa % 4096

/-- The physical channel that serves a logical channel: ACTIVE, or MIGRATING as a source (R287, R295). -/
def State.chanOf (s : State) (lc : Nat) : Option Nat :=
  ((List.range 34).map (· + lc / 32 * 34)).find? (fun ch =>
    ((s.chan ch).state == 0 || (s.chan ch).state == 2) && (s.chan ch).lc == lc % 32)

/-! ### Stored registers -/

/-- The blocks of device CSR space (R4). -/
inductive DevBlk where
  | tack | shed (n : Nat) | gate (n : Nat) | link (p : Nat) | comb (n : Nat) | intc | sync | pwr | arb | hostif
  deriving DecidableEq, Repr

/-- The block and offset of an address of device CSR space (R4). -/
def devBlk (o : Nat) : Option (DevBlk × Nat) :=
  let w := o % 0x10000
  match o / 0x10000 with
  | 0x00 => some (.tack, w)
  | 0x10 => some (.shed 0, w) | 0x11 => some (.shed 1, w) | 0x12 => some (.shed 2, w) | 0x13 => some (.shed 3, w)
  | 0x20 => some (.gate 0, w) | 0x21 => some (.gate 1, w) | 0x22 => some (.gate 2, w) | 0x23 => some (.gate 3, w)
  | 0x30 => some (.link (w / 0x1000), w % 0x1000) | 0x31 => some (.link (16 + w / 0x1000), w % 0x1000)
  | 0x40 => some (.comb 0, w) | 0x41 => some (.comb 1, w) | 0x42 => some (.comb 2, w) | 0x43 => some (.comb 3, w)
  | 0x50 => some (.intc, w) | 0x60 => some (.sync, w) | 0x70 => some (.pwr, w)
  | 0x80 => some (.arb, w) | 0x90 => some (.hostif, w)
  | _ => none

/-- The register table of a block; the ring, commit and loft job registers exist in block 0 only (R310, R403, R461). -/
def DevBlk.regs : DevBlk → List RegKind
  | .tack => tackRegs
  | .shed n => if n = 0 then shedRegs else shedRegs.filter (fun r => r.off < 0x600)
  | .gate _ => gateRegs
  | .link _ => linkRegs
  | .comb n => if n = 0 then combRegs else combRegs.filter (fun r => r.off < 0x100)
  | .intc => intcRegs
  | .sync => syncRegs
  | .pwr => pwrRegs
  | .arb => arbRegs
  | .hostif => hostifRegs

/-- Reset value of the word at an offset of device CSR space. -/
def devReset (o : Nat) : Word :=
  match devBlk o with
  | some (b, w) => resetOf b.regs w
  | none => 0

def State.dcsr (s : State) (o : Nat) : Word := Map.get devReset s.csr o
def State.setDcsr (s : State) (o : Nat) (v : Word) : State := { s with csr := Map.set devReset s.csr o v }
def State.modDcsr (s : State) (o : Nat) (f : Word → Word) : State := s.setDcsr o (f (s.dcsr o))
def State.scsr (s : State) (ps o : Nat) : Word := Map.get (resetOf stallRegs) (s.stall ps).csr o
def State.setScsr (s : State) (ps o : Nat) (v : Word) : State :=
  s.modStall ps (fun t => { t with csr := Map.set (resetOf stallRegs) t.csr o v })
def State.modScsr (s : State) (ps o : Nat) (f : Word → Word) : State := s.setScsr ps o (f (s.scsr ps o))
def Groom.reg (g : Groom) (o : Nat) : Word := Map.get (resetOf groomRegs) g.csr o
def Groom.setReg (g : Groom) (o : Nat) (v : Word) : Groom := { g with csr := Map.set (resetOf groomRegs) g.csr o v }
def Node.reg (n : Node) (o : Nat) : Word := Map.get (resetOf netRegs) n.csr o
def Node.setReg (n : Node) (o : Nat) (v : Word) : Node := { n with csr := Map.set (resetOf netRegs) n.csr o v }

/-- Offsets of the blocks in device CSR space (R4). -/
def shedBase (n : Nat) : Nat := 0x100000 + n * 0x10000
def gateBase (n : Nat) : Nat := 0x200000 + n * 0x10000
def linkBase (p : Nat) : Nat := 0x300000 + p * 0x1000
def combBase (n : Nat) : Nat := 0x400000 + n * 0x10000
def intcBase : Nat := 0x500000
def syncBase : Nat := 0x600000
def pwrBase : Nat := 0x700000
def arbBase : Nat := 0x800000
def hostifBase : Nat := 0x900000
/-- Device CSR space and the stall windows in the local map (R281). -/
def devSpace : Nat := 0x600000000000
def stallWin (ps : Nat) : Nat := 0x400000000000 + ps * 0x100000000
def stallCsrAddr (ps o : Nat) : Nat := stallWin ps + 0x08000000 + o
def groomPage (gi : Nat) : Nat := stallWin (gi / 16) + 0x0A000000 + gi % 16 * 0x1000
def netPage (gi : Nat) : Nat := stallWin (gi / 16) + 0x0C000000 + gi % 16 * 0x1000

/-- Add to a saturating 32-bit count in bits [31:0]. -/
def bump32 (n : Nat) (w : Word) : Word := setFld w 31 0 (satAdd 0xFFFFFFFF (fld w 31 0) n)
def State.bumpStall (s : State) (ps o n : Nat) : State := if n = 0 then s else s.modScsr ps o (bump32 n)
def State.bumpDev (s : State) (o n : Nat) : State := if n = 0 then s else s.modDcsr o (bump32 n)
/-- Set bits of a stored register: a hardware event (R6). -/
def State.orStall (s : State) (ps o : Nat) (v : Word) : State := s.modScsr ps o (· ||| v)
def State.orDev (s : State) (o : Nat) (v : Word) : State := s.modDcsr o (· ||| v)

/-- Overwrite a record register, setting OVERRUN when the last record was not read (R153, R258, R279, R346). -/
def overrun (old new : Word) : Word := if bit old 63 then new ||| place 62 62 1 else new

/-- GATE_DEVID (R331): the ID, when assigned. -/
def State.devid (s : State) : Nat := fld (s.dcsr (gateBase 0)) 13 0
def State.devidValid (s : State) : Bool := bit (s.dcsr (gateBase 0)) 15
/-- HOSTIF_MODE bit of a function: true is host-assisted (R499). -/
def State.hostMode (s : State) (b : Nat) : Bool := bit (s.dcsr hostifBase) b

/-! ### Reports -/

/-- An event to every subscribed session of both planes (R498, R501). At most 256 wait in a session. -/
def Sess.post (e : Event) (d : Sess) : Sess :=
  if d.mask.getLsbD e.code then
    if d.events.length < 256 then { d with events := d.events ++ [(d.eseq, e)], eseq := d.eseq + 1 }
    else { d with lostCnt := d.lostCnt + 1 }
  else d

/-- Put an error record in the aggregation buffer (R540). -/
def State.report (s : State) (r : ErrRec) : State :=
  if s.tack.agg.length < 1024 then
    { s with tack := { s.tack with agg := s.tack.agg ++ [{ r with cycle := s.clk }] } }
  else { s with tack := { s.tack with lost := satAdd 0xFFFF s.tack.lost 1 } }

/-- Set a bit of HOSTIF_ERR, which reports to error aggregation when it was clear (R503). -/
def State.hostErr (s : State) (v : Word) : State :=
  if s.dcsr (hostifBase + 0x28) &&& v = v then s
  else (s.orDev (hostifBase + 0x28) v).report { status := St.ok, cls := 12, sev := 0, unit := 5, id := 0 }

/-- Raise an event (R501); a full queue drops it and sets HOSTIF_ERR.EVT_LOST (DEDUCED, log 45). -/
def State.event (s : State) (e : Event) : State :=
  let full := s.sess.any (fun p => match p.2 with
    | some d => d.mask.getLsbD e.code && decide (256 ≤ d.events.length) | none => false)
  let s := { s with sess := s.sess.map (fun p => (p.1, p.2.map (Sess.post e))) }
  if full then s.hostErr 2 else s

/-- A detection's error record (R540): corrected with SEV 0 and counted, else uncorrectable and contained (DEDUCED, log 23). -/
def State.detect (s : State) (st : Status) (cls sev unit id : Nat) (sub : Nat := 0) (addr : Nat := 0) (task : Nat := 0) : State :=
  s.report { status := st, cls := cls, sev := sev, unit := unit, id := id, sub := sub, addr := addr, task := task,
             action := if sev = 0 then 1 else 0 }

/-- A shed's error log takes an entry, or counts it as lost; the log holds 64 (R310). -/
def State.elog (s : State) (n : Nat) (e : ElogEntry) : State :=
  let d := s.shed n
  s.setShed n (if d.elog.length < 64 then { d with elog := d.elog ++ [e] } else { d with lost := satAdd 0xFFFF d.lost 1 })

/-- An uncorrectable 64-byte block of main memory has been read: its log entry, its channel's count and the record
(R290, R310, R540). A fresh error stays with the block. -/
def State.uncorrectable (s : State) (st : Status) (blk : Nat) (fresh scrub : Bool) : State :=
  let s := if fresh ∧ !s.memUe.contains blk then { s with memUe := s.memUe ++ [blk] } else s
  match s.chanOf (spreadLc (blk * 64)) with
  | none => s
  | some ch =>
    let s := s.elog (ch / 34) { status := st, chan := ch % 34, loft := false, scrub := scrub, addr := blk * 64 }
    (s.bumpDev (shedBase (ch / 34) + 0x110 + ch % 34 * 0x18) 1).detect St.memUe 7 1 2 ch 0 (blk * 64)

/-- A corrected error of a channel (R290) (DEDUCED, log 23). -/
def State.correctable (s : State) (ch k : Nat) : State :=
  if k = 0 then s
  else (s.bumpDev (shedBase (ch / 34) + 0x108 + ch % 34 * 0x18) k).detect St.memUe 7 0 2 ch

/-- The effective package cap and its source (R524, R532) (DESIGN CHOICE, log 56). -/
def State.cap (s : State) : Nat × Nat :=
  let h := fld (s.dcsr (pwrBase + 0x18)) 15 0
  let c0 : Nat × Nat := (3900, 0)
  let c1 := if s.pwr.coolWarn then (1560, 2) else if s.pwr.coolDeg then (3100, 1) else c0
  let c2 := if s.pwr.supplyCap ∧ 1560 < c1.1 then (1560, 3) else c1
  if h ≠ 0 ∧ h < c2.1 then (h, 4) else c2

/-- PWR_STAT (R532). -/
def State.pwrStat (s : State) : Word :=
  place 15 0 s.pwr.pkgW ||| place 31 16 s.cap.1 ||| place 47 32 s.pwr.dclink ||| place 50 48 s.cap.2 ||| place 62 56 s.pwr.duty

/-- A POWER event with its condition code and the effective cap (R525). -/
def State.powerEvent (s : State) (code : Nat) : State :=
  s.event { code := 9, d0 := BitVec.ofNat 64 code, d1 := BitVec.ofNat 64 s.cap.1 }

/-- Set a bit of PWR_EVT, which reports to error aggregation (R532). -/
def State.pwrEvt (s : State) (v : Word) : State :=
  (s.orDev (pwrBase + 8) v).report { status := St.ok, cls := 14, sev := 0, unit := 7, id := 0 }

/-- Note a change of the effective cap in PWR_EVT.CAP_CHANGE (R532). -/
def State.capChange (s : State) : State :=
  if s.cap.1 = s.pwr.lastCap then s
  else { s.pwrEvt 4 with pwr := { s.pwr with lastCap := s.cap.1 } }

/-- The completion a register or debug access returns. -/
def State.respond (s : State) (st : Status) (v : Word := 0) (bs : List Byte := []) : State :=
  { s with resp := { status := st, data := v, bytes := bs } }

/-- Add to an event counter of a stall (R108). -/
def State.postEv (s : State) (ps e n : Nat) : State :=
  s.modScsr ps (0x300 + e * 8) (fun w => setFld w 15 0 (fld w 15 0 + n))

/-- R109: the event wait of a command is met. -/
def State.evMet (s : State) (ps e v : Nat) : Bool :=
  decide ((fld (s.scsr ps (0x300 + e * 8)) 15 0 + 0x10000 - v % 0x10000) % 0x10000 < 0x8000)

/-- A fresh free value (DESIGN CHOICE, log 59). -/
def State.fresh (s : State) : Word × State := (Config.freeWord s.free, { s with free := s.free + 1 })

/-! ### Performance counters -/

/-- Attributes of an event class (R565): privilege, requester, address. -/
def perfAttrs (code : Nat) : Option (Bool × Bool × Bool) :=
  if code ≤ 0x0B then some (true, false, false)
  else if code = 0x20 ∨ code = 0x21 ∨ code = 0x24 ∨ code = 0x25 ∨ code = 0x26 ∨ code = 0x43 then some (true, true, false)
  else if code = 0x22 ∨ code = 0x23 ∨ code = 0x27 ∨ code = 0x41 ∨ code = 0x42 then some (true, true, true)
  else if code = 0x28 then some (true, false, false)
  else if code = 0x40 then some (true, false, true)
  else if 0x60 ≤ code ∧ code ≤ 0x65 then some (true, true, false)
  else if code = 0x80 ∨ code = 0x81 then some (true, true, false)
  else if code = 0xE0 then some (false, false, false)
  else none

def privNum : Priv → Nat
  | .task => 0
  | .kernel => 1
  | .tack => 2

/-- Whether counter n of a stall admits an event (R563, R564). -/
def State.perfAdmits (s : State) (ps n code : Nat) (pr : Option Priv) (r : Option Nat) (a : Option Nat) : Bool :=
  let c := s.scsr ps (0x1C40 + n * 0x10)
  let lo := (s.scsr ps 0x1C20).toNat
  let hi := (s.scsr ps 0x1C28).toNat
  bit c 8 && decide (fld c 7 0 = code)
    && (match pr with | some p => bit c (9 + privNum p) | none => decide (fld c 11 9 = 7))
    && (match r with | some i => bit c (16 + i) | none => true)
    && (!bit c 12 || (match a with | some x => decide (lo ≤ x ∧ x < hi) | none => false))

/-- Counter n passes its top: the carry goes to a chained counter or sets its OVF bit (R561). -/
def State.perfAdd (s : State) (ps : Nat) : Nat → Nat → Nat → State
  | 0, _, _ => s
  | fuel + 1, n, k =>
    let o := 0x1C48 + n * 0x10
    let v := fld (s.scsr ps o) 47 0 + k
    let s := s.setScsr ps o (place 47 0 v)
    if v < 2 ^ 48 then s
    else
      let c := s.scsr ps (0x1C40 + (n + 1) * 0x10)
      if n < 7 ∧ bit c 8 ∧ fld c 7 0 = 0xE0 then s.perfAdd ps fuel (n + 1) (v / 2 ^ 48)
      else s.orStall ps 0x1C18 (place n n 1)

/-- Count an event in every counter that admits it, while counting is on and the stall runs (R559) (DEDUCED, log 52). -/
def State.perf (s : State) (ps code : Nat) (pr : Option Priv) (r : Option Nat) (a : Option Nat) (k : Nat) : State :=
  if k = 0 ∨ !bit (s.scsr ps 0x1C00) 0 ∨ (s.stall ps).pstate ≠ .run then s
  else (List.range 8).foldl (fun s n => if s.perfAdmits ps n code pr r a then s.perfAdd ps 8 n k else s) s

/-! ### Step status records -/

/-- Set flags of the step status record of a step, or count the event as lost (R436, R437). -/
def State.stepEvent (s : State) (step : Nat) (attempt : Option Nat) (flags : Nat) (nanDev : Option Nat) : State :=
  let k := step % 4
  let oa := combBase 0 + 0x500 + k * 0x10
  let ob := oa + 8
  let a := s.dcsr oa
  let b := s.dcsr ob
  let hit := bit b 0 && decide (fld a 55 0 = step) &&
    (match attempt with | some t => decide (fld a 63 56 = t) | none => true)
  if hit then
    s.setDcsr ob (setFld (b ||| BitVec.ofNat 64 flags) 29 16
      (match nanDev with | some d => min d (fld b 29 16) | none => fld b 29 16))
  else
    let s := s.bumpDev (combBase 0 + 0x540) 1
    if s.cmt.state = .opn ∨ s.cmt.state = .preparing then
      let cs := s.dcsr (combBase 0 + 0x408)
      let o := combBase 0 + 0x508 + fld cs 55 0 % 4 * 0x10
      s.orDev o 0x80
    else s

end Sys2Proof.Machine
end

