-- ==== Sys2Proof/Machine/Issue.lean ====
section
/-! DEFINITION. How a groom issues, retires and enters exceptions (R59 to R92): the shared operations of every groom
instruction. -/

namespace Sys2Proof.Machine

/-! ### Registers as an instruction sees them -/

/-- A register of the youngest unretired writer: none when it waits for a load (R60). -/
def pendX (n : Nat) : List RetEntry → Option (Option Word)
  | [] => none
  | e :: es =>
    match pendX n es with
    | some r => some r
    | none =>
      match e.dst with
      | some (.x m _ _) => if m = n then some none else none
      | _ =>
        e.writes.foldl (fun r w => match w with
          | .x m v => if m = n then some (some v) else r
          | _ => r) none

def pendV (n : Nat) : List RetEntry → Option (Option (BitVec 512))
  | [] => none
  | e :: es =>
    match pendV n es with
    | some r => some r
    | none =>
      match e.dst with
      | some (.v m _ _) => if m = n then some none else none
      | _ =>
        e.writes.foldl (fun r w => match w with
          | .v m v => if m = n then some (some v) else r
          | _ => r) none

def pendP (n : Nat) : List RetEntry → Option Word
  | [] => none
  | e :: es =>
    match pendP n es with
    | some r => some r
    | none => e.writes.foldl (fun r w => match w with
        | .p m v => if m = n then some v else r
        | _ => r) none

/-- X[n] as a source; X0 reads zero (R66). -/
def Groom.rx (g : Groom) (n : Nat) : Option Word :=
  if n = 0 then some 0 else (pendX n g.rq).getD (some (Map.get zeroW g.x n))
def Groom.rv (g : Groom) (n : Nat) : Option (BitVec 512) :=
  (pendV n g.rq).getD (some (Map.get (fun _ => 0) g.v n))
/-- P[n] as a source; P0 reads all ones (R66). -/
def Groom.rp (g : Groom) (n : Nat) : Word :=
  if n = 0 then BitVec.allOnes 64 else (pendP n g.rq).getD (Map.get zeroW g.p n)

/-- Write the register files; X0 and P0 discard writes, and any V or P write sets VDIRTY (R66, R97). -/
def Groom.put (g : Groom) : RegW → Groom
  | .x n v => if n = 0 then g else { g with x := Map.set zeroW g.x n v }
  | .v n w => { g with v := Map.set (fun _ => 0) g.v n w, vdirty := true }
  | .p n w => if n = 0 then { g with vdirty := true } else { g with p := Map.set zeroW g.p n w, vdirty := true }

/-! ### Requests -/

/-- Number a new request. -/
def State.newReq (s : State) (r : Req) : State :=
  { s.setReq s.nextReq (some { r with at_ := s.clk }) with nextReq := s.nextReq + 1 }

/-- Requests of a groom or slot that match a test, oldest first. -/
def State.reqsWhere (s : State) (p : Req → Bool) : List (Nat × Req) :=
  s.reqs.filterMap (fun e => match e.2 with
    | some r => if p r then some (e.1, r) else none
    | none => none)

/-- A request as a groom issues it, with what R76 and R105 capture. -/
def Groom.request (g : Groom) (src : Src) (op : MemOp) (addr len : Nat) (data : List Byte) (mask : Option Nat) : Req :=
  { src := src, priv := g.priv, task := fld (g.reg 0x40) 15 0, tenant := fld (g.reg 0x40) 31 16, addr := addr,
    op := op, len := len, data := data, mask := mask, dwinLo := fld (g.reg 0x58) 48 0, dwinHi := fld (g.reg 0x60) 48 0 }

/-- Store requests of a groom not yet completed. -/
def State.storesOut (s : State) (gi : Nat) : Nat := (s.reqsWhere (fun r => decide (r.src = .groomStore gi))).length

/-- Whether an address lies in device CSR space, a stall CSR page or a NET page (R74). -/
def csrPage (a : Nat) : Bool :=
  decide (devSpace ≤ a ∧ a < devSpace + 0x1000000) ||
  (decide (0x400000000000 ≤ a ∧ a < 0x600000000000) &&
    (let o := a % 0x100000000
     decide ((0x08000000 ≤ o ∧ o < 0x08010000) ∨ (0x0C000000 ≤ o ∧ o < 0x0C010000))))

/-- Whether a groom has a load of R74 outstanding. -/
def State.csrLoadOut (s : State) (gi : Nat) : Bool :=
  !(s.reqsWhere (fun r => match r.src with
    | .groomLoad i _ => decide (i = gi) && csrPage r.addr
    | _ => false)).isEmpty

/-! ### Retirement -/

/-- The requester attribute of a groom's counted events (R563). -/
def State.perfGroom (s : State) (gi code : Nat) (g : Groom) : State :=
  s.perf (gi / 16) code (some g.priv) (some (gi % 16)) none 1

/-- Retire one instruction: registers, flags, the count, then its stores (R59, R73, R82). -/
def State.retireOne (s : State) (gi : Nat) (e : RetEntry) : State :=
  let g := s.groom gi
  let g := e.writes.foldl Groom.put g
  let g := if e.flags = 0 then g else g.setReg 0x68 (g.reg 0x68 ||| place 12 8 e.flags)
  let g := { g with instret := g.instret + 1 }
  let s := (s.setGroom gi g).perfGroom gi 0x60 g
  e.stores.foldl (fun s st => s.newReq { g.request (.groomStore gi) .write st.addr st.data.length st.data st.mask with part := st.lane }) s

/-- Retire from the head of the queue while entries are complete and carry no fault. -/
def State.settle (s : State) (gi : Nat) : Nat → State
  | 0 => s
  | n + 1 =>
    match (s.groom gi).rq with
    | e :: es =>
      if e.left = 0 ∧ e.dst = none ∧ e.fault = none then
        ((s.modGroom gi (fun g => { g with rq := es })).retireOne gi e).settle gi n
      else s
    | [] => s

/-- Discard every unretired instruction and outstanding load response (R84); the responses find nobody. -/
def State.discard (s : State) (gi : Nat) : State :=
  let ids := s.reqsWhere (fun r => match r.src with
    | .groomLoad i _ => decide (i = gi)
    | _ => false)
  let s := ids.foldl (fun s p => s.setReq p.1 (some { p.2 with src := .gone })) s
  s.modGroom gi (fun g => { g with rq := [], wait := .none })

/-- PC of the oldest unretired instruction (R84). -/
def Groom.oldestPc (g : Groom) : Nat :=
  match g.rq with
  | e :: _ => e.pc
  | [] => g.pc

/-- Entry offset of an exception class from KVBASE (R84). -/
def entryOffset (cls : Nat) : Nat := cls * 0x40

/-- The five steps of an exception entry (R84): discard, save, copy, set, jump. `eval` is none for an interrupt (DESIGN CHOICE, log 14). -/
def State.enter (s : State) (gi cls : Nat) (st : Status) (eval : Option Word) (epc : Nat) (async : Bool) (pc : Nat) : State :=
  let s := s.discard gi
  let s := s.modGroom gi (fun g =>
    let g := g.setReg 0x10 (place 21 2 (epc / 4))
    let g := g.setReg 0x18 (place 15 0 st.toNat ||| place 18 16 cls)
    let g := match eval with | some v => g.setReg 0x20 v | none => g
    let g := g.setReg 0x08 (place 1 0 (privNum g.priv) ||| place 2 2 (b2n g.ie) ||| place 3 3 (b2n async))
    { g with priv := .kernel, ie := false, exl := true, pc := pc % 0x400000 / 4 * 4 })
  s.perfGroom gi 0x65 (s.groom gi)

/-- A double fault: the groom halts, keeps the first entry's registers and reports (R90) (DESIGN CHOICE, log 14). -/
def State.doubleFault (s : State) (gi : Nat) : State :=
  let s := s.discard gi
  let s := s.modGroom gi (fun g => { g with halted := true, haltReq := false })
  s.report { status := St.groomDoubleFault, cls := 5, sev := 1, unit := 1, id := gi / 16, sub := gi % 16, action := 4 }

/-- Take a precise fault (R84, R90). An ECALL has retired when its entry is made (DESIGN CHOICE, log 14). -/
def State.takeFault (s : State) (gi : Nat) (f : GFault) : State :=
  let g := s.groom gi
  if g.exl then s.doubleFault gi
  else
    let s := if f.cls = 3 then (s.modGroom gi (fun g => { g with instret := g.instret + 1 })).perfGroom gi 0x60 g else s
    s.enter gi f.cls f.status (some f.eval) f.epc false (fld (g.reg 0x28) 21 9 * 512 + entryOffset f.cls)

/-- Take a store error (R73, R84, R90) (DESIGN CHOICE, log 14). -/
def State.takeAsync (s : State) (gi : Nat) : State :=
  let g := s.groom gi
  match g.asyncErr with
  | [] => s
  | (st, a) :: rest =>
    let s := s.modGroom gi (fun g => { g with asyncErr := rest })
    if g.exl then s.doubleFault gi
    else s.enter gi 2 st (some (BitVec.ofNat 64 a)) g.oldestPc true (fld (g.reg 0x28) 21 9 * 512 + entryOffset 2)

/-! ### Issue -/

/-- One load or AMO of an instruction; `lane` is the byte lane of its first byte. -/
structure LoadOp where
  op : MemOp := .read
  addr : Nat
  len : Nat
  data : List Byte := []
  mask : Option Nat := none
  lane : Nat := 0
  deriving DecidableEq, Repr

/-- What an instruction asks of its groom. -/
structure Eff where
  writes : List RegW := []
  flags : Nat := 0
  dst : Option LoadDst := none
  /-- Loads or one AMO. -/
  loads : List LoadOp := []
  /-- Bytes of the destination that no load supplies. -/
  got : Map Byte := []
  stores : List StoreOp := []
  npc : Option Nat := none
  /-- Predictor use (R65): a conditional branch and whether taken; an indirect jump; return stack push or pop. -/
  br : Option Bool := none
  ind : Bool := false
  push : Bool := false
  pop : Bool := false
  deriving DecidableEq, Repr

/-- What an instruction's own rules give at issue. -/
inductive IRes where
  /-- A place is not available yet: the instruction waits at issue (R60). -/
  | wait
  /-- A source waits for a load: counted as GRM_LOAD_STALL (R565). -/
  | stall
  | fault (cls : Nat) (status : Status) (eval : Word)
  | ok (e : Eff)
  deriving DecidableEq, Repr

/-- A register's new value, available now. -/
def IRes.x (n : Nat) (v : Word) : IRes := .ok { writes := [.x n v] }
def IRes.illegal (w : Nat) : IRes := .fault 0 St.groomIllegal (BitVec.ofNat 64 w)
def IRes.misaligned : IRes := .fault 0 St.groomMisaligned 0

/-- Use a source, or wait for it (DEDUCED, log 9). -/
def need {α : Type} (v : Option α) (f : α → IRes) : IRes :=
  match v with
  | some a => f a
  | none => .stall

/-- A groom can issue: running, not waiting, with room in its retire queue (R59). -/
def Groom.canIssue (g : Groom) : Bool :=
  !g.halted && decide (g.wait = .none) && decide (g.rq.length < 32)

/-- R88: at TASK the PC must lie in the fetch range. -/
def Groom.fetchOk (g : Groom) : Bool :=
  decide (g.priv ≠ .task) || decide (fld (g.reg 0x48) 21 2 * 4 ≤ g.pc ∧ g.pc < fld (g.reg 0x50) 21 2 * 4)

/-- Bytes of an access, for the ordering of one groom's accesses to one address (R71). -/
def rangesMeet (a n b m : Nat) : Bool := decide (a < b + m ∧ b < a + n)

/-- Whether an unretired older store meets a load (R71) (DEDUCED, log 21). -/
def Groom.storeMeets (g : Groom) (a n : Nat) : Bool :=
  g.rq.any (fun e => e.stores.any (fun st => rangesMeet a n st.addr st.data.length))

/-- Load and store slots in use (R60). -/
def Groom.loadSlots (g : Groom) : Nat := (g.rq.filter (fun e => decide (e.dst ≠ none))).length
def Groom.storeSlots (g : Groom) : Nat := (g.rq.filter (fun e => decide (e.stores ≠ []))).length

/-- Whether the memory part of an instruction may issue now (R60, R71, R74). -/
def State.memReady (s : State) (gi : Nat) (e : Eff) : Bool :=
  let g := s.groom gi
  (decide (e.loads = []) ||
    (decide (g.loadSlots < 16) &&
      e.loads.all (fun l => !g.storeMeets l.addr l.len) &&
      (!(e.loads.any (fun l => csrPage l.addr || decide (l.op ≠ .read))) ||
        (decide (g.rq = []) && !s.csrLoadOut gi)))) &&
  (decide (e.stores = []) || decide (g.storeSlots + s.storesOut gi < 16))

/-- Predictor update of one instruction, and whether it was predicted wrongly (R65). STATIC predicts backward branches
taken and uses no state (PRESUMED, log 15). -/
def Groom.predict (g : Groom) (e : Eff) : Groom × Bool :=
  let nxt := (g.pc + 4) % 0x400000
  let tgt := e.npc.getD nxt
  let wrong := match e.br with
    | some t =>
      if bit (g.reg 0x70) 0 then t ≠ decide (tgt < g.pc)
      else t ≠ decide (2 ≤ Map.get zeroN g.ctr (g.pc / 4 % 512))
    | none => e.ind && (if bit (g.reg 0x70) 0 then true
        else if e.pop then g.ras.head? ≠ some tgt
        else (g.btb.find? (fun b => b.1 = g.pc)).map (·.2) ≠ some tgt)
  if bit (g.reg 0x70) 0 then (g, wrong)
  else
    let g := match e.br with
      | some t => { g with ctr := Map.mod zeroN g.ctr (g.pc / 4 % 512) (fun c => if t then min 3 (c + 1) else c - 1) }
      | none => g
    let g := if e.ind || e.br = some true then
        { g with btb := ((g.pc, tgt) :: g.btb.filter (fun b => b.1 ≠ g.pc)).take 16 } else g
    let g := if e.pop then { g with ras := g.ras.tail } else g
    (if e.push then { g with ras := (nxt :: g.ras).take 8 } else g, wrong)

/-- Put an instruction's effect in the retire queue and move on. -/
def State.accept (s : State) (gi : Nat) (e : Eff) : State :=
  let g := s.groom gi
  let ent : RetEntry := { seq := g.nextSeq, pc := g.pc, writes := e.writes, flags := e.flags, dst := e.dst,
                          left := e.loads.length, got := e.got, stores := e.stores }
  let (gp, wrong) := g.predict e
  let s := if wrong then s.perfGroom gi 0x61 g else s
  let g' := { gp with rq := g.rq ++ [ent], nextSeq := g.nextSeq + 1, pc := (e.npc.getD (g.pc + 4)) % 0x400000 / 4 * 4 }
  let s := s.setGroom gi g'
  e.loads.foldl (fun s l => s.newReq { g.request (.groomLoad gi ent.seq) l.op l.addr l.len l.data l.mask with part := l.lane }) s

/-- A fault raised at issue: it is taken when it reaches the head of the retire queue (R84). -/
def State.raise (s : State) (gi : Nat) (cls : Nat) (st : Status) (v : Word) : State :=
  let g := s.groom gi
  let f : GFault := { cls := cls, status := st, eval := v, epc := if cls = 3 then (g.pc + 4) % 0x400000 else g.pc }
  if g.rq = [] then s.takeFault gi f
  else s.setGroom gi { g with rq := g.rq ++ [{ seq := g.nextSeq, pc := g.pc, fault := some f }], nextSeq := g.nextSeq + 1 }

/-- Issue one instruction, with its checks in the order of R89, and retire what is complete (DEDUCED, log 9). -/
def State.issue (s : State) (gi : Nat) (f : Groom → IRes) : State :=
  let g := s.groom gi
  if g.canIssue then
    if g.fetchOk then
      match f g with
      | .wait => s
      | .stall => s.perfGroom gi 0x63 g
      | .fault cls st v => (s.raise gi cls st v).settle gi 33
      | .ok e => if s.memReady gi e then (s.accept gi e).settle gi 33 else s
    else (s.raise gi 0 St.groomFetchRange 0).settle gi 33
  else s

/-- Retire an instruction that waited outside the retire queue, with a register result. -/
def State.finishWait (s : State) (gi : Nat) (ws : List RegW) : State :=
  let s := s.modGroom gi (fun g => { g with wait := .none, pc := (g.pc + 4) % 0x400000 })
  s.retireOne gi { seq := 0, pc := 0, writes := ws }

/-! ### Encodings as words, for GROOM_EVAL (R77) -/

/-- DEDUCED, log 9. -/
def wordR (f : FmtR) (opc fn : Nat) : Nat :=
  opc + f.rd.toNat * 2 ^ 6 + f.ra.toNat * 2 ^ 11 + f.rb.toNat * 2 ^ 16 + f.rc.toNat * 2 ^ 21 + fn * 2 ^ 26
/-- DEDUCED, log 9. -/
def wordI (f : FmtI) (opc : Nat) : Nat := opc + f.rd.toNat * 2 ^ 6 + f.ra.toNat * 2 ^ 11 + f.imm.toNat * 2 ^ 16
/-- DEDUCED, log 9. -/
def wordV (f : FmtV) (opc fn : Nat) : Nat :=
  opc + f.vd.toNat * 2 ^ 6 + f.va.toNat * 2 ^ 11 + f.vb.toNat * 2 ^ 16 + f.pg.toNat * 2 ^ 21 + f.ew.toNat * 2 ^ 24 + fn * 2 ^ 26
def wordVMX (f : FmtVMX) (opc : Nat) : Nat :=
  opc + f.vd.toNat * 2 ^ 6 + f.xa.toNat * 2 ^ 11 + f.pg.toNat * 2 ^ 16 + f.ew.toNat * 2 ^ 19 + f.xb.toNat * 2 ^ 21 + f.top.toNat * 2 ^ 26

end Sys2Proof.Machine
end

