-- ==== Sys2Proof/Machine/Desc.lean ====
section
/-! DEFINITION. Tile formats, stream descriptors with their views, and how a command divides into requests (R110 to
R113, R142, R154 to R158, R245, R260 to R276). -/

namespace Sys2Proof.Machine

/-! ### Tile formats (R142, R155) -/

/-- Bits of an element of a format code. -/
def fmtBits (f : Nat) : Nat :=
  match f with
  | 0 => 16 | 1 => 16 | 2 => 32 | 3 => 8 | 4 => 8 | 5 => 4 | 6 => 8 | 7 => 32
  | _ => 8

/-- The float format of a code; none for integers. -/
def fmtFloat (f : Nat) : Option FFmt :=
  match f with
  | 0 => some bf16 | 1 => some fp16 | 2 => some fp32 | 3 => some e4m3 | 4 => some e5m2 | 5 => some e2m1
  | _ => none

/-- Bytes of a row of `cols` elements. -/
def rowLen (fmt cols : Nat) : Nat := cols * fmtBits fmt / 8

/-- Bytes that one index counts: E2M1 counts bytes. -/
def fmtBytes (f : Nat) : Nat := max 1 (fmtBits f / 8)

/-- The largest COLS of a format (R142). -/
def maxCols (f : Nat) : Nat := 4096 / fmtBits f

/-- The conversion matrix of R155: memory format against register format. -/
def convOk (mem fmt : Nat) : Bool :=
  match mem with
  | 0 => decide (fmt ≤ 5)
  | 1 => decide (fmt ≤ 4)
  | 2 => decide (fmt ≤ 4)
  | 3 => decide (fmt = 0 ∨ fmt = 2 ∨ fmt = 3)
  | 4 => decide (fmt = 0 ∨ fmt = 2 ∨ fmt = 4)
  | 5 => decide (fmt = 0 ∨ fmt = 5)
  | 6 => decide (fmt = 6)
  | 7 => decide (fmt = 7)
  | _ => false

/-- Element k of packed bytes. -/
def codeAt (fmt : Nat) (bs : List Byte) (k : Nat) : Nat :=
  if fmt = 5 then (bs.getD (k / 2) 0).toNat / 16 ^ (k % 2) % 16
  else leNat ((bs.drop (k * fmtBytes fmt)).take (fmtBytes fmt))

def codesOf (fmt : Nat) (bs : List Byte) (n : Nat) : List Nat := (List.range n).map (codeAt fmt bs)

/-- Pair nibbles into bytes, the lower element in [3:0]. -/
def packNibbles : List Nat → List Byte
  | [] => []
  | [a] => [BitVec.ofNat 8 (a % 16)]
  | a :: b :: l => BitVec.ofNat 8 (a % 16 + b % 16 * 16) :: packNibbles l

def packCodes (fmt : Nat) (cs : List Nat) : List Byte :=
  if fmt = 5 then packNibbles cs else cs.flatMap (leBytes (fmtBytes fmt))

/-- Conversion of one element (R156, R210): the same format moves unchanged. -/
def convCode (src dst c : Nat) : Nat × Narrow :=
  if src = dst then (c, .kept)
  else
    match fmtFloat src, fmtFloat dst with
    | some f, some g => let (d, n, _) := satRound g (f.decode c); (d, n)
    | _, _ => (c, .kept)

/-- Whether a conversion is counted in the statistics: the target is narrower (R427). -/
def counted (src dst : Nat) : Bool := decide (fmtBits dst < fmtBits src)

/-! ### Streams (R110, R111, R264) -/

def Stream.len (t : Stream) : Nat := t.n0 * t.n1 * t.n2 * t.n3

/-- Bounding range of the bytes accessed, first and last; none when the window is empty (R113, R267). -/
def Stream.bounds (t : Stream) : Option (Int × Int) :=
  match t.win with
  | none =>
    let sp := [(t.n1, t.s1), (t.n2, t.s2), (t.n3, t.s3)].map (fun p => ((p.1 - 1 : Nat) : Int) * p.2)
    some (sp.foldl (fun a x => a + min x 0) (t.base : Int), sp.foldl (fun a x => a + max x 0) ((t.base + t.n0 : Nat) : Int) - 1)
  | some w =>
    if w.any (fun p => decide (p.1 = p.2)) then none
    else
      let w0 := w.getD 0 (0, 0)
      let sp := [(w.getD 1 (0, 0), t.s1), (w.getD 2 (0, 0), t.s2), (w.getD 3 (0, 0), t.s3)].map (fun p =>
        ((p.1.1 : Int) * p.2, ((p.1.2 - 1 : Nat) : Int) * p.2))
      some (sp.foldl (fun a x => a + min x.1 x.2) ((t.base + w0.1 * t.elem : Nat) : Int),
            sp.foldl (fun a x => a + max x.1 x.2) ((t.base + w0.2 * t.elem : Nat) : Int) - 1)

/-- Indices of a dimension inside the window. -/
def Stream.idx (t : Stream) (d n : Nat) : List Nat :=
  match t.win with
  | none => List.range n
  | some w => (List.range ((w.getD d (0, 0)).2 - (w.getD d (0, 0)).1)).map (· + (w.getD d (0, 0)).1)

/-- First real byte of an innermost run and the bytes after it. -/
def Stream.inner (t : Stream) : Nat × Nat :=
  match t.win with
  | none => (0, t.n0)
  | some w => ((w.getD 0 (0, 0)).1 * t.elem, ((w.getD 0 (0, 0)).2 - (w.getD 0 (0, 0)).1) * t.elem)

/-- Whether a stream position lies in the window. -/
def Stream.inWin (t : Stream) (p : Nat) : Bool :=
  match t.win with
  | none => true
  | some w =>
    let within := fun d i => decide ((w.getD d (0, 0)).1 ≤ i ∧ i < (w.getD d (0, 0)).2)
    within 0 (p % t.n0 / t.elem) && within 1 (p / t.n0 % t.n1) && within 2 (p / (t.n0 * t.n1) % t.n2) &&
      within 3 (p / (t.n0 * t.n1 * t.n2))

/-- Whether a position of a block lies in the windows of dimensions 0 and 1 (R269). -/
def Stream.inBlock (t : Stream) (p : Nat) : Bool :=
  match t.win with
  | none => true
  | some w =>
    let within := fun d i => decide ((w.getD d (0, 0)).1 ≤ i ∧ i < (w.getD d (0, 0)).2)
    within 0 (p % t.n0 / t.elem) && within 1 (p / t.n0 % t.n1)

/-- The PAD byte at a position (R265). -/
def Stream.padByte (t : Stream) (p : Nat) : Byte := BitVec.ofNat 8 (t.pad / 256 ^ (p % t.n0 % t.elem))

/-- A run of bytes: stream position, address, length. -/
abbrev Run := Nat × Nat × Nat

/-- Join runs that continue each other in stream and address. -/
def mergeRuns : List Run → List Run
  | [] => []
  | (p, a, n) :: l =>
    if n = 0 then mergeRuns l
    else
      match mergeRuns l with
      | (q, b, m) :: k => if q = p + n ∧ b = a + n then (p, a, n + m) :: k else (p, a, n) :: (q, b, m) :: k
      | [] => [(p, a, n)]

/-- The contiguous runs of a stream inside its window, in stream order (R111, R112). -/
def Stream.runs (t : Stream) : List Run :=
  mergeRuns ((t.idx 3 t.n3).flatMap (fun i3 => (t.idx 2 t.n2).flatMap (fun i2 => (t.idx 1 t.n1).map (fun i1 =>
    (((i3 * t.n2 + i2) * t.n1 + i1) * t.n0 + t.inner.1,
     ((t.base : Int) + i3 * t.s3 + i2 * t.s2 + i1 * t.s1).toNat + t.inner.1, t.inner.2)))))

/-- Address of a block of a block tensor (R269). -/
def Stream.block (t : Stream) (b0 b1 : Nat) : Nat := ((t.base : Int) + b0 * t.s2 + b1 * t.s3).toNat

/-- The runs of one block that starts at an address, from a stream position. -/
def Stream.blockRuns (t : Stream) (addr pos : Nat) : List Run :=
  mergeRuns ((t.idx 1 t.n1).map (fun i1 => (pos + i1 * t.n0 + t.inner.1, ((addr : Int) + i1 * t.s1).toNat + t.inner.1, t.inner.2)))

/-- The part of runs between two stream positions. -/
def clipRuns (lo hi : Nat) (l : List Run) : List Run :=
  l.filterMap (fun r =>
    let a := max lo r.1
    let b := min hi (r.1 + r.2.2)
    if a < b then some (a, r.2.1 + (a - r.1), b - a) else none)

/-- Split a run at every 1 KiB-aligned address (R112). -/
def splitRun : Nat → Run → List Run
  | 0, r => [r]
  | f + 1, (p, a, n) =>
    let k := 1024 - a % 1024
    if n ≤ k then [(p, a, n)] else (p, a, k) :: splitRun f (p + k, a + k, n - k)

/-- Requests of runs, consumed by the groups that a function gives for their positions. -/
def partsOf (kind : PartKind) (g : Nat → Nat) (l : List Run) : List Part :=
  (l.flatMap (fun r => splitRun (r.2.2 / 1024 + 1) r)).map (fun r =>
    { kind := kind, addr := r.2.1, len := r.2.2, pos := r.1, plen := r.2.2, grp := g r.1, last := g (r.1 + r.2.2 - 1) })

/-! ### What a command is -/

def opStore (op : Nat) : Bool := decide (op = 0x21 ∨ op = 0x22 ∨ op = 0x83 ∨ op = 0x84)
def opGather (op : Nat) : Bool := decide (0x81 ≤ op ∧ op ≤ 0x84)
def opTile (op : Nat) : Bool := decide (op = 0x01 ∨ op = 0x21 ∨ op = 0x81 ∨ op = 0x83 ∨ op = 0x84)

/-- Bytes of a memory row of LDTILE and STTILE (R154). -/
def CmdArgs.rowMem (a : CmdArgs) : Nat := rowLen a.mfmt a.cols

/-- Bytes of one block. -/
def CmdArgs.blockLen (a : CmdArgs) : Nat := a.str.n0 * a.str.n1

/-- Element groups of a command (R121, R158). -/
def CmdArgs.groups (a : CmdArgs) : Nat :=
  if opGather a.op then a.ents.length
  else if opTile a.op then (if a.transp then cdiv a.rows 32 else a.rows)
  else if a.op = 0 then 0 else cdiv a.str.len 1024

/-- Group of a stream position. -/
def CmdArgs.groupAt (a : CmdArgs) (p : Nat) : Nat :=
  if opGather a.op then p / a.blockLen
  else if opTile a.op then (if a.transp then p / fmtBytes a.mfmt % a.rows / 32 else p / a.rowMem)
  else p / 1024

/-- First stream position of a group, where groups follow the stream. -/
def CmdArgs.groupPos (a : CmdArgs) (g : Nat) : Nat :=
  if opGather a.op || a.transp then 0 else if opTile a.op then g * a.rowMem else g * 1024

/-- First tile row of a group, from 0 at ROW0. -/
def CmdArgs.groupRow (a : CmdArgs) (g : Nat) : Nat :=
  if opGather a.op then g * a.str.n1 else if a.transp then min (g * 32) a.rows else g

/-- STALL_QPOS.PROG at a group (R138, R165). -/
def CmdArgs.prog (a : CmdArgs) (g : Nat) : Nat :=
  if opGather a.op then g else if opTile a.op then a.row0 + a.groupRow g else g

/-- Maximal runs of consecutive numbers. -/
def intervals : List Nat → List (Nat × Nat)
  | [] => []
  | x :: l =>
    match intervals l with
    | (a, b) :: k => if a = x + 1 then (x, b) :: k else (x, x + 1) :: (a, b) :: k
    | [] => [(x, x + 1)]

/-- Stream position intervals that a command moves from a group on, with no position of a skipped row. -/
def CmdArgs.spans (a : CmdArgs) (first : Nat) : List (Nat × Nat) :=
  if opTile a.op then
    if a.transp then
      (List.range (a.groups - first)).flatMap (fun k => (List.range a.cols).map (fun j =>
        let s := fmtBytes a.mfmt
        ((j * a.rows + (first + k) * 32) * s, (j * a.rows + min ((first + k) * 32 + 32) a.rows) * s)))
    else
      (intervals (((List.range (a.rows - first)).map (· + first)).filter (fun r => !a.skip.contains r))).map (fun p =>
        (p.1 * a.rowMem, p.2 * a.rowMem))
  else [(first * 1024, a.str.len)]

/-- Main parts of a command that is no gather. -/
def CmdArgs.mainRuns (a : CmdArgs) (first : Nat) : List Run :=
  (a.spans first).flatMap (fun p => clipRuns p.1 p.2 a.str.runs)

/-- Y parts: the elements that the main runs hold, in the Y stream (R415, R417). -/
def CmdArgs.yParts (a : CmdArgs) (first : Nat) : List Part :=
  match a.deriv with
  | none => []
  | some d =>
    let z := fmtBytes d.yfmt
    let s := fmtBytes a.mfmt
    let ys := d.y.runs
    partsOf .y (fun p => p / (a.cols * z)) (mergeRuns ((a.mainRuns first).flatMap (fun r =>
      clipRuns (r.1 / s * z) (cdiv (r.1 + r.2.2) s * z) ys)))

/-- Bytes of selects of one row (R245). -/
def MetaRec.rowLen (m : MetaRec) (cols : Nat) : Nat := cdiv (cols * m.b) 8

/-- Select parts of a command from a row on. -/
def CmdArgs.selParts (a : CmdArgs) (firstRow : Nat) : List Part :=
  match a.sel with
  | none => []
  | some m =>
    let n := m.rowLen a.cols
    partsOf .sel (fun p => if a.transp then p / n / 32 else p / n) (mergeRuns ((List.range (a.rows - firstRow)).map (fun k =>
      ((firstRow + k) * n, ((m.msrc : Int) + (a.row0 + firstRow + k : Nat) * m.mstride).toNat + m.col0 * m.b / 8, n))))

/-- Insert a part after every part of its group or an earlier one. -/
def insertPart (x : Part) : List Part → List Part
  | [] => [x]
  | p :: l => if x.grp < p.grp then x :: p :: l else p :: insertPart x l

/-- The last entry that an entry's request serves. -/
def CmdArgs.lastOf (a : CmdArgs) (e : Nat) : Nat :=
  ((List.range a.ents.length).filter (fun k => decide ((a.ents.getD k ⟨0, none, false, 0⟩).lead = some e))).foldl max e

/-- Parts of one list entry that has a request of its own (R271, R276). -/
def CmdArgs.entryParts (a : CmdArgs) (e : Nat) (x : Ent) : List Part :=
  let pos := e * a.blockLen
  if a.op = 0x84 then
    (List.range a.str.n1).flatMap (fun i => (List.range a.cols).filterMap (fun c =>
      if a.str.inBlock (i * a.str.n0 + c * 8) && a.str.inBlock (i * a.str.n0 + c * 8 + 7) then
        some { kind := .main, addr := ((x.addr : Int) + i * a.str.s1).toNat + c * 8, len := 8, pos := pos + i * a.str.n0 + c * 8,
               plen := 8, grp := e, last := e }
      else none))
  else (partsOf .main (fun _ => e) (a.str.blockRuns x.addr pos)).map (fun p => { p with last := a.lastOf e })

/-- Number the packets of a transfer: the writes of the main stream (R341) (DEDUCED, log 30). -/
def numberParts : Nat → List Part → List Part
  | _, [] => []
  | n, p :: l => if p.kind = .main then { p with pkt := n } :: numberParts (n + 1) l else p :: numberParts n l

/-- Packets of a transfer. -/
def mainParts (l : List Part) : Nat := (l.filter (fun p => decide (p.kind = .main))).length

/-- The requests of a command from a group on, in stream or list order. -/
def CmdArgs.plan (a : CmdArgs) (first : Nat) : List Part :=
  numberParts 0 (
    if a.op = 0 then []
    else if opGather a.op then
      a.ents.zipIdx.flatMap (fun p => if p.1.lead = some p.2 ∧ first ≤ p.2 then a.entryParts p.2 p.1 else [])
    else
      let main := partsOf .main a.groupAt (a.mainRuns first)
      let main := if a.transp then main.map (fun p => { p with last := p.grp }) else main
      (a.yParts first ++ a.selParts (a.groupRow first)).foldl (fun l x => insertPart x l) main)

/-- A part not requested yet, from a stream position on. -/
def Part.back (p : Part) (cut : Nat) : Part :=
  if p.kind = .main ∧ p.pos < cut then
    { p with st := .todo, pos := cut, addr := p.addr + (cut - p.pos), len := p.len - (cut - p.pos), plen := p.plen - (cut - p.pos) }
  else { p with st := .todo }

/-- A part that a resume asks for again: each one not consumed, but for an SCADD add that has been performed (R128, R572);
bytes of groups already consumed are not asked for. -/
def Part.again (a : CmdArgs) (next : Nat) (p : Part) : Part :=
  if p.last < next then p
  else
    match p.st with
    | .todo => p
    | .landed => if a.op = 0x84 then p else p.back (a.groupPos next)
    | .issued n => if n = 255 then p else p.back (a.groupPos next)
    | _ => p.back (a.groupPos next)

end Sys2Proof.Machine
end

