-- ==== Sys2Proof/Machine/Queue.lean ====
section
/-! DEFINITION. The engine queues: enqueueing, envelopes, the completion of commands and lists, request slots
(R100 to R136). -/

namespace Sys2Proof.Machine

/-! ### Commands in scratch -/

/-- The 64-bit operand word k of command `idx` of a list (R102, R106). -/
def State.cmdWord (s : State) (ps : Nat) (l : QList) (idx k : Nat) : Nat := s.scrLe ps (l.off + 64 + 64 * idx + 8 * k) 8

/-- The 64 bytes of a command as one number, byte 0 least significant. -/
def State.cmdNat (s : State) (ps : Nat) (l : QList) (idx : Nat) : Nat := s.scrLe ps (l.off + 64 + 64 * idx) 64

/-- Fields of the envelope (R106). -/
structure Env where
  op : Nat
  waitEn : Bool
  waitEv : Nat
  postEn : Bool
  postEv : Nat
  waitVal : Nat
  deriving DecidableEq, Repr

def envOf (w : Nat) : Env :=
  { op := bits w 7 0, waitEn := decide (bits w 12 12 = 1), waitEv := bits w 17 13, postEn := decide (bits w 18 18 = 1),
    postEv := bits w 23 19, waitVal := bits w 47 32 }

/-- Reserved bits of the envelope are zero: bits 11 to 8, 31 to 24 and 63 to 48. -/
def envResOk (w : Nat) : Bool := decide (bits w 11 8 = 0 ∧ bits w 31 24 = 0 ∧ bits w 63 48 = 0)

/-- A command with WAIT_EN waits until its event condition holds (R109). -/
def State.envReady (s : State) (ps : Nat) (e : Env) : Bool := !e.waitEn || s.evMet ps e.waitEv e.waitVal

/-- The training stream of a task at a stall: 0 F, 1 B, 2 U (R407). -/
def State.streamOf (s : State) (ps task : Nat) : Option Nat :=
  let w := s.scsr ps 0x1A08
  if bit w 63 then
    if fld w 15 0 = task then some 0 else if fld w 31 16 = task then some 1 else if fld w 47 32 = task then some 2 else none
  else none

/-- The head list of a queue belongs to the stream F or B that CUR does not name (R407). -/
def State.passHeld (s : State) (ps q : Nat) : Bool :=
  let x := s.queue ps q
  x.count.isNone && (match x.lists.head? with
    | some l =>
      let cur := fld (s.scsr ps 0x1A00) 0 0
      decide (s.streamOf ps l.task = some (1 - cur))
    | none => false)

/-- The state a queue reads as: WAIT_EV is RUNNING with the head command waiting, or with the head list held by the pass
interlock (R109, R127, R407). -/
def State.queueState (s : State) (ps q : Nat) : QState :=
  let x := s.queue ps q
  if x.state = .running then
    match x.lists.head?, x.count with
    | some l, some n =>
      if x.cmdIdx < n ∧ !s.envReady ps (envOf (s.cmdWord ps l x.cmdIdx 0)) then .waitEv else .running
    | _, _ => if s.passHeld ps q then .waitEv else .running
  else x.state

def qstateNum : QState → Nat
  | .idle => 0 | .running => 1 | .waitEv => 2 | .faulted => 3 | .stopped => 4 | .paused => 5

/-! ### Enqueueing (R93, R104, R105) -/

def Queue.full (x : Queue) : Bool := decide (8 ≤ x.lists.length)

/-- Enqueue a list: it takes the next sequence number; an idle queue starts. -/
def State.enqueue (s : State) (ps q : Nat) (l : QList) : State :=
  let lg := fld (s.scsr ps 0x1A28) 5 0
  s.modQueue ps q (fun x => { x with
    lists := x.lists ++ [{ l with seq := x.issued + 1, lgrp := lg }]
    issued := x.issued + 1
    state := if x.state = .idle then .running else x.state })

/-! ### Request slots (R123, R124) -/

/-- Drop a slot whose response is not wanted: the generation advances and the response finds nobody (R47). -/
def State.freeSlot (s : State) (ps slot : Nat) : State :=
  let hit := (s.stall ps).slots.find? (fun e => e.1 = slot)
  let s := match hit with
    | some e =>
      match s.req e.2.2 with
      | some r => if r.src = Src.slot ps slot then
          (if r.phase = Phase.arrived then s.setReq e.2.2 none else s.setReq e.2.2 (some { r with src := .gone })) else s
      | none => s
    | none => s
  s.modStall ps (fun t => { t with slots := t.slots.filter (fun e => e.1 ≠ slot), slotGen := t.slotGen + 1 })

/-- Discard a held status: the slot is released and the discard counted (R119). -/
def State.dropHeld (s : State) (ps q slot : Nat) (pr : Priv) : State :=
  ((s.freeSlot ps slot).bumpStall ps 0x220 1).perf ps 0x25 (some pr) (some q) none 1

/-- Release everything that a started command still holds. -/
def State.dropCtx (s : State) (ps q : Nat) (c : CmdCtx) : State :=
  c.parts.foldl (fun s p => match p.st with
    | .issued n => if n = 255 then s else s.freeSlot ps n
    | .waiting n => s.freeSlot ps n
    | .held _ n => if n = 255 then s else s.dropHeld ps q n c.lst.priv
    | _ => s) s

def State.dropAll (s : State) (ps q : Nat) : State :=
  let s := (s.queue ps q).ctxs.foldl (fun s c => s.dropCtx ps q c) s
  s.modQueue ps q (fun x => { x with ctxs := [] })

/-! ### Completion of commands and lists (R108, R129, R135, R136) -/

/-- Statuses that set UE in a step record (R436). -/
def isUe (st : Status) : Bool :=
  [St.memUe, St.memWalkUe, St.loftUe, St.tileDataUe, St.arrayResidue, St.arrayParity, St.combContribUe].contains st

/-- The step event of a list that ends with a status (R436). -/
def State.listEvent (s : State) (ps : Nat) (l : QList) (st : Status) : State :=
  if st ≠ St.ok ∧ (s.streamOf ps l.task).isSome then
    let w := s.scsr ps 0x1A10
    s.stepEvent (fld w 55 0) (some (fld w 63 56)) (if isUe st then 0xA0 else 0x80) none
  else s

/-- Whether a list has a header the engine can address (R103). -/
def headerOk (off : Nat) : Bool := decide (off % 64 = 0 ∧ off < 0x400000)

/-- Complete the head list: step event, header, QDONE, history, and the state that follows (R129, R135, R136). -/
def State.listDone (s : State) (ps q : Nat) (st : Status) (idx : Nat) (next : QState) : State :=
  let x := s.queue ps q
  match x.lists with
  | [] => s
  | l :: rest =>
    let s := s.listEvent ps l st
    let s := if headerOk l.off then s.scrWrite ps (l.off + 0x10) (leBytes 2 st.toNat ++ leBytes 2 idx) else s
    let s := s.modQueue ps q (fun x => { x with
      lists := rest, done := l.seq, hist := ((l.seq, st) :: x.hist).take 16, cmdIdx := 0, prog := 0, count := none,
      pausing := x.pausing && decide (next = .running), aborting := false, hwFault := false,
      state := if next = .running ∧ rest = [] ∧ !x.pausing then .idle else next })
    let s := s.modStall ps (fun t => { t with moved := true })
    s.perf ps 0x21 (some l.priv) (some q) none 1

/-- The head command fails: its list completes with the status and the queue stops; what ran ahead is dropped (R129). -/
def State.cmdFail (s : State) (ps q : Nat) (st : Status) : State :=
  let s := s.dropAll ps q
  s.listDone ps q st (s.queue ps q).cmdIdx .stopped

/-- The head command completes with 0x0000: it posts, and the list goes on or completes (R108, R135); a list under ABORT
ends otherwise (R130, R355). -/
def State.cmdOk (s : State) (ps q : Nat) (postEn : Bool) (postEv : Nat) : State :=
  let x := s.queue ps q
  match x.lists with
  | [] => s
  | l :: _ =>
    let s := if postEn then s.postEv ps postEv 1 else s
    let s := s.perf ps 0x20 (some l.priv) (some q) none 1
    let s := s.modQueue ps q (fun x => { x with cmdIdx := x.cmdIdx + 1, prog := 0 })
    let s := s.modStall ps (fun t => { t with moved := true })
    if x.cmdIdx + 1 = x.count.getD 0 ∧ !x.aborting then s.listDone ps q St.ok (x.cmdIdx + 1) .running else s

/-- Fault kinds that the pager serves in hardware mode (R303). -/
def pagerServes (st : Status) : Bool := decide (st = St.memEvicted ∨ st = St.memDemand ∨ st = St.memMoving)

/-- Put a queue in FAULTED at a held translation fault (R128). The event goes out in host-assisted mode (R303); in
hardware mode the pager takes a fault of this device that it serves (R304) (DEDUCED, log 45). -/
def State.queueFault (s : State) (ps q : Nat) (st : Status) (addr : Nat) (write : Bool) : State :=
  let x := s.queue ps q
  let l := x.lists.headD { off := 0, priv := .task, task := 0, tenant := 0, seq := 0 }
  let host := s.hostMode 0
  let s := s.setQueue ps q { x with state := .faulted, fstatus := st, fcmd := x.cmdIdx, faddr := addr, hwFault := !host }
  if host then s.event { code := 1, d0 := BitVec.ofNat 64 (s.lsNum ps + q * 2 ^ 16), d1 := st.setWidth 64,
                         d2 := BitVec.ofNat 64 addr, d3 := BitVec.ofNat 64 l.task }
  else if pagerServes st ∧ !addr.testBit 63 then
    { s with pfaults := s.pfaults ++ [{ who := .inl (ps, q), va := addr, task := l.task, tenant := l.tenant, write := write, status := st }] }
  else s

/-- A queue resumes at the element recorded: its commands ask again for what they have not consumed (R128). -/
def Queue.again (x : Queue) : Queue :=
  { x with ctxs := x.ctxs.map (fun c => { c with parts := c.parts.map (Part.again c.args c.next) }) }

/-- Slots that the commands of a queue hold. -/
def Queue.slotsHeld (x : Queue) : List Nat :=
  (x.ctxs.flatMap (fun c => c.parts.filterMap (fun p => match p.st with
    | .issued n => some n
    | .waiting n => some n
    | .held _ n => some n
    | _ => none))).filter (· < 255)

/-- A faulted queue resumes at the element recorded (R128). -/
def State.resumeFaulted (s : State) (ps q : Nat) : State :=
  let s := (s.queue ps q).slotsHeld.foldl (fun s n => s.freeSlot ps n) s
  s.modQueue ps q (fun x => { x.again with state := .running, hwFault := false })

/-- A status that puts a queue in FAULTED (R128). -/
def isXlatFault (st : Status) : Bool :=
  [St.memNotMapped, St.memBadPte, St.memWalkUe, St.memPerm, St.memEvicted, St.memDemand, St.memMoving, St.memQuota].contains st

/-! ### The head command of the array and sync queues, and of any queue for NOP -/

/-- The head list and command index, when the queue runs and its header has been read. -/
def State.headCmd (s : State) (ps q : Nat) : Option (QList × Nat) :=
  let x := s.queue ps q
  match x.state, x.lists.head?, x.count with
  | .running, some l, some n => if x.cmdIdx < n then some (l, x.cmdIdx) else none
  | _, _, _ => none

end Sys2Proof.Machine
end

