-- ==== Sys2Proof/Machine/Xlat.lean ====
section
/-! DEFINITION. The address map, table walks, the stalls' translation buffers and their invalidation (R281 to R283,
R297 to R302). -/

namespace Sys2Proof.Machine

/-- The regions of the local map (R281). -/
inductive Region where
  | main (a : Nat)
  | loft (la : Nat)
  | scratch (ps off : Nat)
  | tile (ps off : Nat)
  | scsr (ps off : Nat)
  | gpage (gi off : Nat)
  | npage (gi off : Nat)
  | dev (off : Nat)
  deriving DecidableEq, Repr

/-- The region of a local address; none where R281 lists none. -/
def localRegion (a : Nat) : Option Region :=
  if a < 0x200000000000 then some (.main a)
  else if 0x400000000000 ≤ a ∧ a < 0x400000000000 + 288 * 0x100000000 then
    let ps := (a - 0x400000000000) / 0x100000000
    let o := a % 0x100000000
    if o < 0x400000 then some (.scratch ps o)
    else if 0x1000000 ≤ o ∧ o < 0x1100000 then some (.tile ps (o - 0x1000000))
    else if 0x8000000 ≤ o ∧ o < 0x8010000 then some (.scsr ps (o - 0x8000000))
    else if 0xA000000 ≤ o ∧ o < 0xA010000 then some (.gpage (ps * 16 + (o - 0xA000000) / 4096) (o % 4096))
    else if 0xC000000 ≤ o ∧ o < 0xC010000 then some (.npage (ps * 16 + (o - 0xC000000) / 4096) (o % 4096))
    else none
  else if devSpace ≤ a ∧ a < devSpace + 0x1000000 then some (.dev (a - devSpace))
  else if 0x1000000000000 ≤ a ∧ a < 0x2000000000000 then some (.loft (a - 0x1000000000000))
  else none

/-- Whether an address is global (R282). -/
def isGlobal (a : Nat) : Bool := a.testBit 63

/-! ### Memory reads by the device's own units -/

/-- Whether the channel that serves a physical address works: some channel holds its logical channel (R287, R294). -/
def State.chanOk (s : State) (pa : Nat) : Bool := (s.chanOf (spreadLc pa)).isSome

/-- Whether a range of main memory reads without an uncorrectable error (R290, R294). -/
def State.memGood (s : State) (pa n : Nat) : Bool :=
  (blocksOf pa n).all (fun b => !s.memUe.contains b && s.chanOk (b * 64))

/-- A checked read by an engine of the device: the failing status, or the bytes (R285, R290). -/
def State.devRead (s : State) (pa n : Nat) : Status × List Byte :=
  if s.memBytes < pa + n then (St.memRange, [])
  else if s.memGood pa n then (St.ok, s.memRead pa n) else (St.memUe, [])

/-- A checked write by an engine of the device: partial blocks merge, so an uncorrectable one fails (R291). -/
def State.devWrite (s : State) (pa : Nat) (bs : List Byte) : State × Status :=
  if s.memBytes < pa + bs.length then (s, St.memRange)
  else
    let bad := (blocksOf pa bs.length).filter (fun b =>
      !s.chanOk (b * 64) || (s.memUe.contains b && !(decide (pa ≤ b * 64 ∧ b * 64 + 64 ≤ pa + bs.length))))
    if bad = [] then (s.memWrite pa bs, St.ok)
    else
      let good := (blocksOf pa bs.length).filter (fun b => !bad.contains b)
      (good.foldl (fun s b =>
        let lo := max pa (b * 64)
        let hi := min (pa + bs.length) (b * 64 + 64)
        s.memWrite lo ((bs.drop (lo - pa)).take (hi - lo))) s, St.memUe)

/-! ### Table walks (R297 to R299, R302) -/

/-- What a walk of one address gives. -/
inductive Walk where
  /-- A failing status and the address of the entry that gave it. -/
  | fault (st : Status) (at_ : Nat)
  /-- A leaf: its physical address, its value and the base-2 logarithm of its page. -/
  | leaf (at_ : Nat) (v : Nat) (lg : Nat)
  deriving DecidableEq, Repr

/-- Index bits of a level: low bit, entries, page logarithm of a leaf, and the size of a table of the level. -/
def levelBits (l : Nat) : Nat × Nat × Nat :=
  match l with
  | 4 => (39, 1024, 39)
  | 3 => (30, 512, 30)
  | 2 => (21, 512, 21)
  | _ => (16, 32, 16)

def tableBytes (l : Nat) : Nat := (levelBits l).2.1 * 8

/-- Levels from `l` down; `ue` is the level whose table read met an uncorrectable error. -/
def State.walkLevels (s : State) (va : Nat) (loft : Bool) (ue : Option Nat) : Nat → Nat → Walk
  | 0, t => .fault St.memBadPte t
  | l + 1, table =>
    let (lo, n, lg) := levelBits (l + 1)
    let at_ := table + (va / 2 ^ lo % n) * 8
    if ue = some (l + 1) ∨ !s.memGood at_ 8 then .fault St.memWalkUe at_
    else
      let e := s.memLe at_ 8
      if e % 2 = 0 then .fault St.memNotMapped at_
      else if bits e 1 1 = 1 then
        let tier := bits e 7 6
        let ad := bits e 63 16 * 65536
        if l = 3 ∨ ad % 2 ^ lg ≠ 0 ∨ (loft ∧ (tier ≠ 1 ∨ bits e 2 2 = 1)) then .fault St.memBadPte at_
        else .leaf at_ e lg
      else
        let next := bits e 63 8 * 256
        if l = 0 ∨ bits e 7 2 ≠ 0 ∨ next % tableBytes l ≠ 0 ∨ s.memBytes ≤ next then .fault St.memBadPte at_
        else s.walkLevels va loft ue l next

/-- The walk of an address of either window under a task (R297, R302 checks 2 and 3). -/
def State.walk (s : State) (task va : Nat) (ue : Option Nat) : Walk :=
  let base := fld (s.dcsr (shedBase 0 + 8)) 44 20 * 2 ^ 20 + task * 8
  let (st, bs) := s.devRead base 8
  if st = St.memRange then .fault St.memRange base
  else if st ≠ St.ok ∨ ue = some 5 then .fault St.memWalkUe base
  else
    let e := leNat bs
    if e % 2 = 0 then .fault St.memNotMapped base
    else if bits e 12 1 ≠ 0 ∨ bits e 63 45 ≠ 0 ∨ s.memBytes ≤ bits e 44 13 * 8192 then .fault St.memBadPte base
    else s.walkLevels va (va.testBit 48) ue 4 (bits e 44 13 * 8192)

/-- Checks 4 to 6 of R302 at a leaf: a failing status, or the translated address. -/
def State.leafCheck (s : State) (v lg va : Nat) (priv : Priv) (write : Bool) : Status × Nat :=
  let loft := va.testBit 48
  let tier := bits v 7 6
  let pa := bits v 63 16 * 65536 + va % 2 ^ lg
  if (write ∧ bits v 2 2 = 0) ∨ (priv = .task ∧ bits v 3 3 = 1) then (St.memPerm, 0)
  else if !loft ∧ tier = 1 then (St.memEvicted, 0)
  else if !loft ∧ tier = 2 then (St.memDemand, 0)
  else if !loft ∧ tier = 3 then (St.memMoving, 0)
  else if (!loft ∧ s.memBytes ≤ pa) ∨ (loft ∧ 0xE00000000000 ≤ pa) then (St.memRange, 0)
  else (St.ok, pa)

/-- A walk with its leaf checks, without a buffer: status and translated address. -/
def State.translateNow (s : State) (task va : Nat) (priv : Priv) (write : Bool) : Status × Nat :=
  match s.walk task va none with
  | .fault st _ => (st, 0)
  | .leaf _ v lg => s.leafCheck v lg va priv write

/-- The walker sets A, and for a write D, in the leaf (R300). -/
def State.markLeaf (s : State) (at_ v : Nat) (write : Bool) : State :=
  let n := v ||| 16 ||| (if write then 32 else 0)
  if n = v then s else s.memWriteLe at_ 8 n

/-! ### Translation buffers (R300) -/

def XEntry.covers (e : XEntry) (task va : Nat) : Bool := decide (e.task = task ∧ e.va = va / 2 ^ e.lg * 2 ^ e.lg)

/-- What a stall's translation of an access gives without a walk. -/
inductive Xl where
  | done (pa : Nat)
  | fault (st : Status)
  | miss
  deriving DecidableEq, Repr

/-- Whether an access to a window is translated at all (R283). -/
def State.untranslated (s : State) (priv : Priv) : Bool :=
  match priv with
  | .tack => true
  | .kernel => !bit (s.dcsr (shedBase 0 + 8)) 0
  | .task => false

/-- Translation of an access to the main or loft window at a stall (R283, R300). A write that hits an entry with D = 0
is a miss. -/
def State.xlate (s : State) (ps task va : Nat) (priv : Priv) (write : Bool) : Xl :=
  let loft := va.testBit 48
  if s.untranslated priv then
    let a := va % 2 ^ 48
    if (!loft ∧ s.memBytes ≤ a) ∨ (loft ∧ 0xE00000000000 ≤ a) then .fault St.memRange else .done a
  else if !bit (s.dcsr (shedBase 0 + 8)) 0 then .fault St.memNotMapped
  else
    match (s.stall ps).xbuf.find? (fun e => e.covers task va) with
    | some e =>
      if write ∧ !e.d then .miss
      else if (write ∧ !e.w) ∨ (priv = .task ∧ e.k) then .fault St.memPerm
      else
        let pa := e.pa + va % 2 ^ e.lg
        if (!loft ∧ s.memBytes ≤ pa) ∨ (loft ∧ 0xE00000000000 ≤ pa) then .fault St.memRange else .done pa
    | none => .miss

/-- Install an entry, most recent first, at most 512 (R300). -/
def Stall.install (t : Stall) (e : XEntry) : Stall :=
  { t with xbuf := (e :: t.xbuf.filter (fun x => !(decide (x.task = e.task ∧ x.va = e.va ∧ x.lg = e.lg)))).take 512 }

def MemOp.isWrite : MemOp → Bool
  | .read => false
  | _ => true

/-- The stall of a request's source. -/
def Src.ps : Src → Nat
  | .groomLoad gi _ => gi / 16
  | .groomStore gi => gi / 16
  | .slot ps _ => ps
  | .gone => 0

/-- Whether a request needs a translation (R281, R283). -/
def Req.window (r : Req) : Bool :=
  match localRegion r.addr with
  | some (.main _) => true
  | some (.loft _) => true
  | _ => false

/-- Walks outstanding toward a shed: 16 walkers and a queue of 64 (R300). -/
def State.walksTo (s : State) (n : Nat) : Nat :=
  s.stalls.foldl (fun k p => if s.lsNum p.1 % 4 = n then k + p.2.misses.length else k) 0

/-- XLAT_WALK: a miss starts a walk, or merges with an outstanding miss of its page (R300, R311). -/
def State.xlatWalk (s : State) (id : Nat) (r : Req) : State :=
  let ps := r.src.ps
  let t := s.stall ps
  let page := r.addr / 65536
  match s.xlate ps r.task r.addr r.priv r.op.isWrite with
  | .miss =>
    let wait := s.setReq id (some { r with phase := .walking })
    if t.misses.any (fun m => m.1 = r.task ∧ m.2.1 = page) then
      wait.modStall ps (fun t => { t with misses := t.misses.map (fun m =>
        if m.1 = r.task ∧ m.2.1 = page then (m.1, m.2.1, m.2.2 ++ [id]) else m) })
    else if t.misses.length < 8 ∧ s.walksTo (s.lsNum ps % 4) < 80 then
      let s := wait.modStall ps (fun t => { t with misses := t.misses ++ [(r.task, page, [id])] })
      (s.bumpStall ps 0x1800 1).perf ps 0x40 (some r.priv) none (some r.addr) 1
    else s
  | _ => s

def execXlatWalk (req : Nat) (s : State) : Out :=
  .next (match s.req req with
    | some r => if r.phase = .issued ∧ r.window ∧ r.src ≠ .gone then s.xlatWalk req r else s
    | none => s)

/-- End a request with a status at its requester. A groom access that meets a fault the pager serves waits for it
(R304). -/
def State.endReq (s : State) (id : Nat) (r : Req) (st : Status) : State :=
  let groomReq : Bool := match r.src with | .groomLoad _ _ => true | .groomStore _ => true | _ => false
  if groomReq ∧ pagerServes st ∧ !s.hostMode 0 then
    let f : PFault := { who := .inr id, va := r.addr, task := r.task, tenant := r.tenant, write := r.op.isWrite, status := st }
    { s.setReq id (some { r with phase := .paging, status := st }) with pfaults := s.pfaults ++ [f] }
  else if r.src = .gone then s.setReq id none
  else s.setReq id (some { r with phase := .arrived, status := st, data := [] })

/-- XLAT_WALK_COMPLETE: the walk of a page ends for its first request; the others translate again (R300). -/
def execXlatWalkComplete (req : Nat) (ue : Option Nat) (s : State) : Out :=
  .next (match s.req req with
    | some r =>
      let ps := r.src.ps
      match (s.stall ps).misses.find? (fun m => m.2.2.head? = some req) with
      | none => s
      | some m =>
        let s := s.modStall ps (fun t => { t with misses := t.misses.filter (fun x => x.1 ≠ m.1 || x.2.1 ≠ m.2.1) })
        let s := m.2.2.tail.foldl (fun s i => match s.req i with
          | some x => s.setReq i (some { x with phase := .issued })
          | none => s) s
        match s.walk r.task r.addr ue with
        | .fault st at_ =>
          if st = St.memWalkUe then
            let s := s.uncorrectable St.memWalkUe (at_ / 64) (decide (ue.isSome)) false
            s.endReq req r st
          else s.endReq req r st
        | .leaf at_ v lg =>
          let (st, _) := s.leafCheck v lg r.addr r.priv r.op.isWrite
          if st ≠ St.ok then s.endReq req r st
          else
            let s := s.markLeaf at_ v r.op.isWrite
            let e : XEntry := { task := r.task, va := r.addr / 2 ^ lg * 2 ^ lg, lg := lg, pa := bits v 63 16 * 65536,
                                w := decide (bits v 2 2 = 1), k := decide (bits v 3 3 = 1),
                                d := r.op.isWrite || decide (bits v 5 5 = 1) }
            (s.modStall ps (fun t => t.install e)).setReq req (some { r with phase := .issued })
    | none => s)

/-! ### Invalidation (R301) -/

/-- Whether an invalidation of scope 0, 1 or 2 names a page. -/
def xinvHits (scope task va pages tk a lg : Nat) : Bool :=
  match scope with
  | 0 => true
  | 1 => decide (tk = task)
  | _ => decide (tk = task) && decide (a < va + pages * 65536 ∧ va < a + 2 ^ lg)

/-- Whether a request that was translated is still outstanding. -/
def Req.live (r : Req) : Bool :=
  r.translated && decide (r.phase ≠ .arrived) && decide (r.phase ≠ .issued) && decide (r.phase ≠ .walking)

/-- Drop matching entries in every stall and wait for requests already translated through them. -/
def State.xinvStart (s : State) (scope task va pages : Nat) : State :=
  let s' := s.stalls.foldl (fun s p => s.modStall p.1 (fun t => { t with xbuf := t.xbuf.filter (fun e =>
    !xinvHits scope task va pages e.task e.va e.lg) })) s
  let ws := (s.reqsWhere (fun r => r.live && r.window && xinvHits scope task va pages r.task (r.addr / 65536 * 65536) 16)).map (·.1)
  { s' with xinv := some { scope := scope, task := task, va := va, pages := pages, waits := ws } }

/-- A write of SHED_XINV: PRIVILEGE, BAD_PARAM, then MEM_XINV_BUSY (R13, R301). -/
def State.xinvWrite (s : State) (priv : Priv) (v : Word) : State × Status :=
  let scope := fld v 1 0
  let pages := fld v 63 32
  if priv = .task then (s, St.privilege)
  else if scope = 3 ∨ (scope = 2 ∧ pages = 0) then (s, St.badParam)
  else if s.xinv.isSome then (s, St.memXinvBusy)
  else (s.xinvStart scope (fld v 31 16) (fld (s.dcsr (shedBase 0 + 0x18)) 48 16 * 65536) pages, St.ok)

def execXinvStart (priv : Priv) (_shed : Nat) (v : Word) (s : State) : Out :=
  .next (let (t, st) := s.xinvWrite priv v; t.respond st)

/-- XINV_COMPLETE: BUSY clears once every such request has completed. -/
def State.xinvSettle (s : State) : State :=
  match s.xinv with
  | some x => if x.waits.all (fun i => match s.req i with | some r => !r.live | none => true) then { s with xinv := none } else s
  | none => s

def execXinvComplete (s : State) : Out := .next s.xinvSettle

end Sys2Proof.Machine
end

