-- ==== Sys2Proof/Machine/Records.lean ====
section
/-! DEFINITION. Commands in scratch and what they name: operand fields, stream descriptors, extension records and AUX
records, with the checks of each (R102 to R117, R149 to R154, R242 to R254, R262 to R276, R317, R318, R339, R340, R414, R415,
R422 to R424). -/

namespace Sys2Proof.Machine

/-! ### Fields of records -/

/-- Bits [hi:lo] of the word at a byte offset of a record held as one number. -/
def rf (v off hi lo : Nat) : Nat := bits v (off * 8 + hi) (off * 8 + lo)

/-- A number with the bits of the listed fields set: offset, high and low bit. -/
def fieldMask (l : List (Nat × Nat × Nat)) : Nat :=
  l.foldl (fun m f => m ||| (2 ^ (f.2.1 + 1 - f.2.2) - 1) * 2 ^ (f.1 * 8 + f.2.2)) 0

/-- Some bit outside the listed fields is set. -/
def resSet (v : Nat) (l : List (Nat × Nat × Nat)) : Bool := decide (v &&& fieldMask l ≠ v)

/-- The status of the first check that fails; success where none does. -/
def firstFail : List (Bool × Status) → Status
  | [] => St.ok
  | (b, st) :: l => if b then st else firstFail l

/-- Whether scratch bytes read without an uncorrectable word (R536). -/
def State.scrGood (s : State) (ps off n : Nat) : Bool :=
  (s.stall ps).scratchUe.all (fun w => decide (w * 8 + 8 ≤ off ∨ off + n ≤ w * 8))

/-- A 64-byte record of scratch as one number (DEDUCED, log 28). -/
def State.scrRec (s : State) (ps off : Nat) : Nat := s.scrLe ps off 64

/-! ### Operands (R106, R114, R115, R143) -/

def envFields : List (Nat × Nat × Nat) := [(0, 7, 0), (0, 12, 12), (0, 17, 13), (0, 18, 18), (0, 23, 19), (0, 47, 32)]

/-- Operand fields of a load, store or gather opcode. -/
def opFields (op : Nat) : List (Nat × Nat × Nat) :=
  match op with
  | 0x01 => [(8, 21, 0), (12, 3, 0), (12, 14, 8), (12, 23, 16), (12, 27, 24), (12, 28, 28), (16, 21, 0)]
  | 0x21 => [(8, 21, 0), (12, 3, 0), (12, 14, 8), (12, 23, 16), (12, 27, 24), (12, 28, 28), (16, 21, 0)]
  | 0x02 => [(8, 21, 0), (16, 21, 0)]
  | 0x22 => [(8, 21, 0), (16, 21, 0)]
  | 0x82 => [(8, 21, 0), (12, 21, 0), (16, 31, 0), (20, 1, 0), (24, 21, 0)]
  | 0x81 => [(8, 21, 0), (12, 21, 0), (16, 31, 0), (20, 1, 0), (20, 7, 4), (20, 14, 8)]
  | 0x83 => [(8, 21, 0), (12, 21, 0), (16, 31, 0), (20, 1, 0), (20, 7, 4), (20, 14, 8)]
  | 0x84 => [(8, 21, 0), (12, 21, 0), (16, 31, 0), (20, 1, 0), (20, 7, 4), (20, 14, 8)]
  | _ => []

/-- Opcodes that a load, store or gather queue defines, NOP among them (R107). -/
def opDefined (q op : Nat) : Bool :=
  decide (op = 0) ||
  (match q with
   | 0 => decide (op = 0x01 ∨ op = 0x02)
   | 1 => decide (op = 0x21 ∨ op = 0x22)
   | 3 => decide (0x81 ≤ op ∧ op ≤ 0x84)
   | _ => false)

/-- Memory format of CONV (R154); none for an undefined code. -/
def convFmt (conv fmt : Nat) : Option Nat := if conv = 0 then some fmt else if conv ≤ 8 then some (conv - 1) else none

/-! ### Descriptors (R110) -/

def descOf (v : Nat) : Stream :=
  { base := rf v 0 63 0, ebase := rf v 8 63 0, elen := rf v 16 47 0, n0 := rf v 24 31 0, n1 := rf v 24 63 32,
    n2 := rf v 32 31 0, n3 := rf v 32 63 32, s1 := toSigned 64 (rf v 40 63 0), s2 := toSigned 64 (rf v 48 63 0),
    s3 := toSigned 64 (rf v 56 63 0) }

/-- A count or the extent is zero (check 3 of R117). -/
def Stream.zeroCount (t : Stream) : Bool := decide (t.n0 = 0 ∨ t.n1 = 0 ∨ t.n2 = 0 ∨ t.n3 = 0 ∨ t.elen = 0)

/-- BASE or a stride is no multiple of a size (checks 5 and GTH_LAYOUT). -/
def Stream.misaligned (t : Stream) (z : Nat) : Bool :=
  decide (t.base % z ≠ 0 ∨ t.s1 % (z : Int) ≠ 0 ∨ t.s2 % (z : Int) ≠ 0 ∨ t.s3 % (z : Int) ≠ 0)

/-- The listed area of the local map around an address, device CSR space apart (R113, R281). -/
def areaOf (a : Nat) : Option (Nat × Nat) :=
  match localRegion a with
  | some (.main _) => some (0, 0x200000000000)
  | some (.loft _) => some (0x1000000000000, 0x2000000000000)
  | some (.scratch ps _) => some (stallWin ps, stallWin ps + 0x400000)
  | some (.tile ps _) => some (stallWin ps + 0x1000000, stallWin ps + 0x1100000)
  | some (.scsr ps _) => some (stallWin ps + 0x8000000, stallWin ps + 0x8010000)
  | some (.gpage gi _) => some (stallWin (gi / 16) + 0xA000000, stallWin (gi / 16) + 0xA010000)
  | some (.npage gi _) => some (stallWin (gi / 16) + 0xC000000, stallWin (gi / 16) + 0xC010000)
  | _ => none

/-- The part of an address within its device's local map (R282). -/
def localPart (a : Nat) : Nat := a % 2 ^ 49

/-- Check 6 of R117: the extent lies in one region and holds the bounding range. -/
def extentBad (base ebase elen : Nat) (b : Option (Int × Int)) : Bool :=
  !((isGlobal ebase || decide (ebase < 2 ^ 49)) &&
    (match areaOf (localPart ebase) with
     | some (_, hi) => decide (localPart ebase + elen ≤ hi)
     | none => false) &&
    decide (base / 2 ^ 49 = ebase / 2 ^ 49) &&
    (match b with
     | none => true
     | some (lo, hi) => decide ((ebase : Int) ≤ lo ∧ hi < (ebase + elen : Nat))))

/-- Check 7 of R117: some byte of the extent is not open to the list's privilege (R76, R105). -/
def extentClosed (l : QList) (ebase elen : Nat) : Bool :=
  decide (l.priv = .task) && !isGlobal ebase &&
  (match localRegion ebase with
   | some (.main _) => false
   | some (.loft _) => false
   | some (.scratch _ _) => !decide (l.dwinLo ≤ ebase ∧ ebase + elen ≤ l.dwinHi)
   | some (.tile _ _) => !decide (l.dwinLo ≤ ebase ∧ ebase + elen ≤ l.dwinHi)
   | _ => true)

/-- The extent lies in a loft window. -/
def extentLoft (ebase : Nat) : Bool := decide (areaOf (localPart ebase) = some (0x1000000000000, 0x2000000000000))

/-- Checks 6 to 8 of R117 on an extent. -/
def extentStatus (l : QList) (op base ebase elen : Nat) (b : Option (Int × Int)) : Status :=
  firstFail [(extentBad base ebase elen b, St.engExtent), (extentClosed l ebase elen, St.privilege),
    (opStore op && extentLoft ebase, St.unsupported)]

/-! ### View records (R264, R268) -/

def viewFields : List (Nat × Nat × Nat) :=
  [(0, 7, 0), (0, 11, 8), (0, 14, 12), (0, 23, 16), (4, 31, 0), (8, 63, 0), (16, 63, 0), (24, 63, 0), (32, 63, 0), (40, 21, 0)]

def viewFmt (v : Nat) : Nat := rf v 0 11 8
def viewLayout (v : Nat) : Nat := rf v 0 14 12
def viewNext (v : Nat) : Nat := rf v 40 21 0
def viewWin (v d : Nat) : Nat × Nat := (rf v (8 + 8 * d) 31 0, rf v (8 + 8 * d) 63 32)
/-- Bytes that an index of dimension 0 counts. -/
def viewElem (v : Nat) : Nat := if viewFmt v = 15 then 1 else fmtBytes (viewFmt v)
/-- Vector length in bytes of a channel-grouped layout (R260). -/
def viewVb (v : Nat) : Nat := 8 * 2 ^ viewLayout v * (if viewFmt v = 15 then 8 else fmtBits (viewFmt v)) / 8

/-- A descriptor seen through a view. -/
def Stream.viewed (t : Stream) (v : Nat) : Stream :=
  { t with win := some ((List.range 4).map (viewWin v)), elem := viewElem v, pad := rf v 4 31 0 }

/-- The checks of a view record (R268); `mem` is the memory format that FMT must name, `nested` that its NEXT must be 0 (DEDUCED, log 28). -/
def viewBad (op : Nat) (t : Stream) (mem : Option (Option Nat)) (nested : Bool) (v : Nat) : Bool :=
  let n := [t.n0 / viewElem v, t.n1, t.n2, t.n3]
  let w := (List.range 4).map (viewWin v)
  decide (rf v 0 7 0 ≠ 0x10) || resSet v viewFields || decide (8 ≤ viewFmt v ∧ viewFmt v ≤ 14) || decide (viewLayout v = 7) ||
  (match mem with | some m => decide (viewFmt v ≠ 15) && decide (some (viewFmt v) ≠ m) | none => false) ||
  (w.zip n).any (fun p => !decide (p.1.1 ≤ p.1.2 ∧ p.1.2 ≤ p.2)) ||
  (opGather op && !decide (w.getD 2 (0, 0) = (0, t.n2) ∧ w.getD 3 (0, 0) = (0, t.n3))) ||
  (decide (op = 0x84) && decide (viewFmt v ≠ 15)) ||
  (decide (viewLayout v ≠ 0) && !decide (32 ≤ viewVb v ∧ viewVb v ≤ 1024)) ||
  decide (viewNext v % 64 ≠ 0) || (nested && decide (viewNext v ≠ 0))

/-! ### Extension records -/

/-- What the extension records of a command give. -/
structure Xrec where
  status : Status := 0
  view : Option Nat := none
  loft : Option LoftRec := none
  sig : Option Sig := none
  deriv : Option DerivRec := none
  deriving DecidableEq, Repr

/-- NEXT of a record other than a view: it is 0 or names a view record whose NEXT is 0 (R318, R340, R415, R423). -/
def State.nextBad (s : State) (ps next : Nat) (nested : Bool) : Bool :=
  decide (next ≠ 0) && (nested || decide (next % 64 ≠ 0) ||
    (let v := s.scrRec ps next
     decide (rf v 0 7 0 ≠ 0x10) || decide (viewNext v ≠ 0)))

/-- The stream as the view that a record's NEXT names windows it. -/
def State.viewedBy (s : State) (ps next : Nat) (t : Stream) : Stream :=
  if next = 0 then t else t.viewed (s.scrRec ps next)

/-- R317, R318: a loft record of a command whose memory format is `mem`, if it has one. -/
def loftRecOf (v : Nat) : LoftRec :=
  { action := rf v 0 9 8, altFmt := if rf v 0 15 12 = 0 then none else some (rf v 0 15 12 - 1), deadline := rf v 4 31 0,
    altBase := rf v 8 63 0 }

/-- Image of a bounding range in the alternate object, in whole bytes (R319). -/
def altImage (base altBase sBits aBits : Nat) (b : Int × Int) : Int × Int :=
  ((altBase : Int) + (b.1 - base) * aBits / sBits, (altBase : Int) + -(-(b.2 + 1 - base) * aBits / sBits) - 1)

/-- ALT's own checks: an extent in the main or a stall window that holds the image, and a format that fits. -/
def altBad (op : Nat) (t : Stream) (mem fmt : Option Nat) (v : Nat) : Bool :=
  let ac := rf v 0 15 12
  let eb := rf v 16 63 0
  let el := rf v 24 47 0
  let sBits := (mem.map fmtBits).getD 8
  let aBits := if ac = 0 then sBits else fmtBits (ac - 1)
  let areaOk := decide (eb < 2 ^ 49) && !extentLoft eb && decide (el ≠ 0)
  decide (8 < ac) || !areaOk ||
  extentBad (rf v 8 63 0) eb el (t.bounds.map (altImage t.base (rf v 8 63 0) sBits aBits)) ||
  (if op = 0x01 then
     (match mem, fmt with
      | some m, some f => !convOk (if ac = 0 then m else ac - 1) f
      | _, _ => false)
   else !(decide (ac = 0) || decide (mem = some (ac - 1))))

def State.loftBad (s : State) (ps op : Nat) (t : Stream) (mem fmt : Option Nat) (nested : Bool) (v : Nat) : Bool :=
  let next := rf v 32 21 0
  resSet v [(0, 7, 0), (0, 9, 8), (0, 15, 12), (4, 31, 0), (8, 63, 0), (16, 63, 0), (24, 47, 0), (32, 21, 0)] ||
  decide (rf v 0 9 8 = 3) || decide (rf v 4 31 0 = 0) ||
  !(decide (t.ebase < 2 ^ 49) && extentLoft t.ebase && (match areaOf t.ebase with
    | some (_, hi) => decide (t.ebase + t.elen ≤ hi) | none => false)) ||
  s.nextBad ps next nested ||
  (decide (rf v 0 9 8 = 2) && altBad op (if nested then t else s.viewedBy ps next t) mem fmt v)

/-- The target list of a signal record (R339). -/
def State.sigTargets (s : State) (ps : Nat) (t : Stream) (v : Nat) : List Nat :=
  if rf v 0 8 8 = 1 then (List.range (rf v 0 22 16)).map (fun i => s.scrLe ps (rf v 24 21 0 + 2 * i) 2) else [bits t.base 62 49]

/-- R340, after TYPE. -/
def State.sigBad (s : State) (ps op : Nat) (t : Stream) (nested : Bool) (v : Nat) : Bool :=
  let mc := decide (rf v 0 8 8 = 1)
  let n := rf v 0 22 16
  let tl := rf v 24 21 0
  resSet v [(0, 7, 0), (0, 8, 8), (0, 22, 16), (8, 48, 0), (16, 63, 0), (24, 21, 0), (32, 21, 0)] ||
  !isGlobal t.ebase || (mc && decide (op = 0x83)) || !decide (1 ≤ n ∧ n ≤ 64) || (!mc && decide (n ≠ 1)) ||
  decide (rf v 8 48 0 % 8 ≠ 0) ||
  (mc && (decide (tl % 2 ≠ 0) || decide (0x400000 < tl + 2 * n) ||
    decide ((s.sigTargets ps t v).head? ≠ some (bits t.base 62 49)) || !decide ((s.sigTargets ps t v).Nodup))) ||
  s.nextBad ps (rf v 32 21 0) nested

/-- DEDUCED, log 30. -/
def State.sigOf (s : State) (ps : Nat) (t : Stream) (v : Nat) : Sig :=
  { xfer := s.nextXfer % 65536, pkt := 0, last := false, sigaddr := rf v 8 48 0, sigval := rf v 16 63 0,
    targets := s.sigTargets ps t v, mcast := decide (rf v 0 8 8 = 1) }

/-- R414, R415: a derivative record of an LDTILE of `rows` × `cols`. -/
def State.derivBad (s : State) (ps : Nat) (l : QList) (transp : Bool) (conv rows cols : Nat) (fmt : Option Nat) (v : Nat) : Bool :=
  let func := rf v 0 11 8
  let yf := rf v 0 15 12
  let alpha := rf v 4 31 0
  let yd := rf v 8 21 0
  let d := s.scrRec ps yd
  let y := descOf d
  resSet v [(0, 7, 0), (0, 11, 8), (0, 15, 12), (4, 31, 0), (8, 21, 0), (12, 21, 0)] ||
  transp || decide (fmt.isSome ∧ fmt ≠ some 0) || decide (1 < conv) || decide (5 < func) || decide (4 < yf) ||
  (decide (func = 1 ∨ func = 5) && !decide (alpha < 0x7F800000 ∧ 0 < alpha)) ||
  decide (yd % 64 ≠ 0) || decide (rf d 16 63 48 ≠ 0) || y.zeroCount || y.misaligned (fmtBytes yf) ||
  decide (extentStatus l 0x01 y.base y.ebase y.elen y.bounds ≠ St.ok) ||
  (fmt.isSome && decide (y.len ≠ rows * cols * fmtBytes yf)) || s.nextBad ps (rf v 12 21 0) false

def State.derivOf (s : State) (ps : Nat) (v : Nat) : DerivRec :=
  { func := rf v 0 11 8, yfmt := rf v 0 15 12, alpha := rf v 4 31 0, y := descOf (s.scrRec ps (rf v 8 21 0)) }

/-! ### Update records and registration (R419 to R425) -/

/-- STALL_TR_TIED after a refusal (R425). -/
def State.tiedRec (s : State) (ps q handle old new : Nat) : State :=
  s.modScsr ps 0x1A40 (fun w => overrun w (place 15 0 handle ||| place 31 16 old ||| place 47 32 new ||| place 50 48 q ||| place 63 63 1))

/-- The checks of an update record, its registration last (R423, R424). -/
def State.updCheck (s : State) (ps q : Nat) (l : QList) (t : Stream) (v : Nat) : State × Status :=
  let stp := s.scsr ps 0x1A10
  let wt := s.scsr ps 0x1A18
  let h := rf v 4 15 0
  let upid := rf v 8 15 0
  let at_ := fld wt 44 12 * 4096 + h * 64
  let c := firstFail [
    (resSet v [(0, 7, 0), (4, 15, 0), (8, 15, 0), (12, 21, 0)], St.trainUpdRecord),
    (decide (s.streamOf ps l.task ≠ some 2), St.trainStream),
    (decide (fld stp 55 0 = 0) || decide (fld wt 63 48 ≤ h), St.trainUpdRecord),
    (s.nextBad ps (rf v 12 21 0) false, St.trainUpdRecord)]
  if c ≠ St.ok then (s, c)
  else
    let (st, bs) := s.devRead at_ 64
    if st ≠ St.ok then (s, st)
    else
      let e := leNat bs
      let n := 1 - rf e 8 1 1
      let buf := rf e (16 + 8 * n) 48 0
      let c := firstFail [
        (decide (rf e 8 0 0 = 0), St.trainUpdRecord),
        (isGlobal t.ebase || !decide (buf ≤ t.ebase ∧ t.ebase + t.elen ≤ buf + rf e 32 47 0), St.trainUpdRange)]
      if c ≠ St.ok then (s, c)
      else
        let want := fld stp 39 0 + fld stp 63 56 * 2 ^ 40
        if rf e 0 47 0 = want then
          if rf e 0 63 48 = upid then (s, St.ok) else (s.tiedRec ps q h (rf e 0 63 48) upid, St.trainTied)
        else (s.memWriteLe at_ 8 (want + upid * 2 ^ 48), St.ok)

/-! ### The records that XREC names (R268) -/

/-- Check a view record and take it. -/
def viewOut (op : Nat) (t : Stream) (mem : Option (Option Nat)) (nested : Bool) (v : Nat) (x : Xrec) : Xrec :=
  if viewBad op t mem nested v then { x with status := St.gthView } else { x with view := some v }

/-- The view that another record's NEXT names, checked after it. -/
def State.nextView (s : State) (ps op : Nat) (t : Stream) (mem : Option (Option Nat)) (next : Nat) (x : Xrec) : Xrec :=
  if next = 0 then x else viewOut op t mem true (s.scrRec ps next) x

/-- Commands that take a loft record, and those that take a signal record. -/
def opLoft (op : Nat) : Bool := decide (op = 0x01 ∨ op = 0x02 ∨ op = 0x81 ∨ op = 0x82)
def opSig (op : Nat) : Bool := decide (op = 0x21 ∨ op = 0x22 ∨ op = 0x83)

/-- The memory format that a record is held against: CONV's for LDTILE and STTILE (none where it is undefined), a view's
FMT for the other commands. -/
def streamFmt (op : Nat) (mem : Option Nat) (view : Option Nat) : Option Nat :=
  if op = 0x01 ∨ op = 0x21 then mem
  else match view with
    | some v => if viewFmt v ≤ 7 then some (viewFmt v) else none
    | none => none

/-- Read and check the extension records of a command between checks 4 and 5 of R117. -/
def State.xrecCheck (s : State) (ps q op : Nat) (l : QList) (t : Stream) (xrec : Nat) (transp : Bool) (conv rows cols : Nat)
    (mem fmt : Option Nat) : State × Xrec :=
  if xrec = 0 then (s, {})
  else
    let off := xrec * 64
    let v := s.scrRec ps off
    let cmp : Option (Option Nat) := if (op = 0x01 ∨ op = 0x21) ∧ !(conv = 0 ∧ fmt = none) then some mem else none
    if !s.scrGood ps off 64 then (s, { status := St.rasScratchUe })
    else
      match rf v 0 7 0 with
      | 0x30 =>
        if !opLoft op then (s, { status := St.gthView })
        else if s.loftBad ps op t (streamFmt op mem (if rf v 32 21 0 = 0 then none else some (s.scrRec ps (rf v 32 21 0)))) fmt false v then
          (s, { status := St.loftRecord })
        else (s, s.nextView ps op t cmp (rf v 32 21 0) { loft := some (loftRecOf v) })
      | 0x40 =>
        if !opSig op then (s, { status := St.gthView })
        else if s.sigBad ps op t false v then (s, { status := St.linkSigRecord })
        else (s, s.nextView ps op t cmp (rf v 32 21 0) { sig := some (s.sigOf ps t v) })
      | 0x50 =>
        if op ≠ 0x01 then (s, { status := St.gthView })
        else if s.derivBad ps l transp conv rows cols fmt v then (s, { status := St.trainDerRecord })
        else (s, s.nextView ps op t cmp (rf v 12 21 0) { deriv := some (s.derivOf ps v) })
      | 0x51 =>
        if op ≠ 0x21 ∧ op ≠ 0x22 then (s, { status := St.gthView })
        else
          let (s, st) := s.updCheck ps q l t v
          if st ≠ St.ok then (s, { status := st }) else (s, s.nextView ps op t cmp (rf v 12 21 0) {})
      | _ =>
        let x := viewOut op t cmp false v {}
        if x.status ≠ St.ok ∨ viewNext v = 0 then (s, x)
        else
          let w := s.scrRec ps (viewNext v)
          if !s.scrGood ps (viewNext v) 64 then (s, { status := St.rasScratchUe })
          else if rf w 0 7 0 = 0x30 ∧ opLoft op then
            (s, if s.loftBad ps op (t.viewed v) (streamFmt op mem (some v)) fmt true w then { status := St.loftRecord }
                else { x with loft := some (loftRecOf w) })
          else if rf w 0 7 0 = 0x40 ∧ opSig op then
            (s, if s.sigBad ps op t true w then { status := St.linkSigRecord } else { x with sig := some (s.sigOf ps t w) })
          else (s, { status := St.gthView })

/-! ### AUX records of LDTILE and STTILE (R242 to R254) -/

def metaFields : List (Nat × Nat × Nat) :=
  [(0, 7, 0), (0, 9, 8), (4, 21, 0), (8, 15, 0), (10, 7, 0), (12, 10, 0), (16, 63, 0), (24, 63, 0)]

def skipFields : List (Nat × Nat × Nat) :=
  [(0, 7, 0), (0, 10, 8), (0, 12, 12), (0, 13, 13), (0, 15, 14), (0, 17, 16), (0, 21, 18), (4, 21, 0), (8, 63, 0), (16, 63, 0),
   (24, 63, 0), (32, 63, 0), (40, 21, 0)]

/-- STALL_SP_REC after a failure (R258). -/
def State.spRec (s : State) (ps q idx off field : Nat) : State :=
  s.modScsr ps 0x1600 (fun w => overrun w (place 21 0 off ||| place 27 24 field ||| place 30 28 q ||| place 47 32 idx ||| place 63 63 1))

/-- The first failing FIELD of a list of checks. -/
def firstField : List (Bool × Nat) → Option Nat
  | [] => none
  | (b, f) :: l => if b then some f else firstField l

/-- Range of the selects in memory that a command moves: first and last byte (R245). -/
def metaRange (m : MetaRec) (row0 rows cols : Nat) : Int × Int :=
  let a := (m.msrc : Int) + (row0 : Int) * m.mstride
  let z := (m.msrc : Int) + ((row0 + rows - 1 : Nat) : Int) * m.mstride
  let o : Int := (m.col0 * m.b / 8 : Nat)
  (min a z + o, max a z + o + (m.rowLen cols : Int) - 1)

def metaOf (v : Nat) : MetaRec :=
  { b := rf v 0 9 8, data := rf v 4 21 0, rowBytes := rf v 8 15 0, col0 := rf v 12 10 0, msrc := rf v 16 63 0,
    mstride := toSigned 64 (rf v 24 63 0) }

/-- Scratch offset of map m of a skip record (R248). -/
def skipMapAt (off v m : Nat) : Nat := if rf v 40 21 0 = 0 then off + 8 + 2 * m else rf v 40 21 0 + 16 * m

/-- Highest chunk that a load or store reaches (R253). -/
def skipTop (v row0 rows cols : Nat) : Nat :=
  (if rf v 0 13 13 = 0 then row0 + rows - 1 else cols - 1) * 2 ^ rf v 0 17 16 / 2 ^ rf v 0 10 8

/-- Checks of R254 on an AUX record: the failing FIELD. -/
def State.auxField (s : State) (ps op : Nat) (l : QList) (off row0 rows cols : Nat) : Option Nat :=
  let v := s.scrRec ps off
  if off % 64 ≠ 0 then some 8
  else if rf v 0 7 0 = 0x20 then
    let m := metaOf v
    let (lo, hi) := metaRange m row0 rows cols
    firstField [(resSet v metaFields, 7), (decide (m.b = 0 ∨ m.b = 3), 1), (decide (m.data % 64 ≠ 0), 2),
      (decide (m.rowBytes = 0 ∨ m.rowBytes % 64 ≠ 0), 3), (!decide (1 ≤ rf v 10 7 0 ∧ rf v 10 7 0 ≤ 128), 4),
      (decide (m.col0 * m.b % 8 ≠ 0), 11), (decide (0x400000 < m.data + rf v 10 7 0 * m.rowBytes), 8),
      (decide (lo < 0) || decide (extentStatus l op lo.toNat lo.toNat (hi + 1 - lo).toNat none ≠ St.ok), 9)]
  else if rf v 0 7 0 = 0x21 then
    let mx := rf v 40 21 0
    firstField [(resSet v skipFields, 7), (!decide (2 ≤ rf v 0 10 8 ∧ rf v 0 10 8 ≤ 7), 5), (decide (rf v 0 17 16 = 3), 6),
      (decide (mx % 64 ≠ 0) || decide (mx ≠ 0 ∧ 0x400000 < mx + 256), 12), (decide (mx = 0 ∧ 16 ≤ skipTop v row0 rows cols), 12)]
  else some 0

/-- Whether bit c of a map is set; a chunk beyond the map counts as unoccupied. -/
def State.mapBit (s : State) (ps mapAt chunks c : Nat) : Bool :=
  decide (c < chunks) && (Map.get zeroB (s.stall ps).scratch (mapAt + c / 8)).getLsbD (c % 8)

/-- What an AUX record makes of a command: metadata, skipped rows, a map to build; or a refusal (R253). -/
def State.auxTake (s : State) (ps off : Nat) (a : CmdArgs) : CmdArgs × Status :=
  let v := s.scrRec ps off
  if rf v 0 7 0 = 0x20 then ({ a with sel := some (metaOf v) }, St.ok)
  else
    let mapAt := skipMapAt off v (rf v 0 21 18)
    let chunks := if rf v 40 21 0 = 0 then 16 else 128
    let cl := rf v 0 10 8
    let kpr := 2 ^ rf v 0 17 16
    if rf v 0 12 12 = 1 then
      ({ a with build := some { mapAt := mapAt, chunks := chunks, cols := decide (rf v 0 13 13 = 1), chunkLog2 := cl, kpr := kpr } }, St.ok)
    else if rf v 0 13 13 = 1 ∨ a.transp then (a, St.unsupported)
    else ({ a with skip := (List.range a.rows).filter (fun r => !s.mapBit ps mapAt chunks ((a.row0 + r) * kpr / 2 ^ cl)) }, St.ok)

end Sys2Proof.Machine
end

