-- ==== Sys2Proof/Machine/Intc.lean ====
section
/-! DEFINITION. Interrupt sources, their selection and delivery (R471 to R475, R86, R137). -/

namespace Sys2Proof.Machine

/-- Whether a taken entry of a job ring has DONE = 1 and ACK = 0 (R315, R380): `head` entries have been taken. -/
def State.ringHolds (s : State) (base size head : Nat) : Bool :=
  decide (size ≠ 0) && (List.range (min size head)).any (fun i =>
    decide (bits (s.memLe (base + (head - 1 - i) % size * 64) 8) 9 8 = 1))

/-- Bits that hold a LINK source: GATE_ERR of the gate and LINK_ERR of its eight ports (R346). -/
def State.linkSource (s : State) (n : Nat) : Bool :=
  decide (s.dcsr (gateBase n + 0x28) ≠ 0) || (List.range 8).any (fun k => decide (s.dcsr (linkBase (8 * n + k) + 0x18) ≠ 0))

/-- Whether a source is asserted (R471). -/
def State.asserted (s : State) (n : Nat) : Bool :=
  if n < 1024 then
    let ps := s.psOf (n / 4)
    match n % 4 with
    | 0 => (List.range 5).any (fun q => decide ((s.queue ps q).state = .faulted ∨ (s.queue ps q).state = .stopped))
    | 1 => decide (s.scsr ps 0x218 ≠ 0) || bit (s.scsr ps 0x1208) 0 || bit (s.scsr ps 0x1428) 0 || bit (s.scsr ps 0x1428) 1 ||
        bit (s.scsr ps 0x1A38) 0
    | 2 => (s.stall ps).dbell
    | _ => false
  else if n = 1024 then
    s.ringHolds (s.dcsr (shedBase 0 + 0x600)).toNat (s.dcsr (shedBase 0 + 0x608)).toNat s.ljHead
  else if n = 1025 then
    s.ringHolds (s.dcsr (combBase 0 + 0x100)).toNat (s.dcsr (combBase 0 + 0x108)).toNat s.combHead
    || (List.range 4).any (fun k => decide (s.dcsr (combBase k + 8) ≠ 0)) || decide (s.dcsr (combBase 0 + 0x450) ≠ 0)
  else if n = 1026 then decide (s.dcsr (syncBase + 0x20) ≠ 0) || bit (s.dcsr syncBase) 63
  else if 1028 ≤ n ∧ n < 1032 then s.linkSource (n - 1028)
  else if 1088 ≤ n ∧ n < 1152 then bit s.swi (n - 1088)
  else false

/-- DELIV clears when its source stops being asserted (R474). -/
def State.rearm (s : State) : State := { s with deliv := s.deliv.filter s.asserted }

/-- INTC_SRCs as software wrote it. -/
def State.srcReg (s : State) (n : Nat) : Word := s.dcsr (intcBase + 0x1000 + 8 * n)
def State.srcPrio (s : State) (n : Nat) : Nat := fld (s.srcReg n) 27 24

/-- Sources whose register has been written, in ascending order: the reset value masks every other one. -/
def State.written (s : State) : List Nat :=
  s.csr.filterMap (fun p =>
    if intcBase + 0x1000 ≤ p.1 ∧ p.1 < intcBase + 0x1000 + 8 * 1152 then some ((p.1 - intcBase - 0x1000) / 8) else none)

/-- A source is pending (R472); one whose delivery has started is not started again. -/
def State.isPending (s : State) (n : Nat) : Bool :=
  !bit (s.srcReg n) 0 && decide (s.srcPrio n ≠ 0) && !s.deliv.contains n && s.asserted n
def State.pendingSrcs (s : State) : List Nat := s.written.filter s.isPending

/-- A groom accepts interrupts (R86). -/
def Groom.eligible (g : Groom) : Bool := g.ie && !g.exl && !g.halted

/-- Whether a source names the groom G among its targets (R473). -/
def State.targets (s : State) (n g : Nat) : Bool :=
  let w := s.srcReg n
  decide (fld w 39 32 ≤ g / 16 ∧ g / 16 ≤ fld w 47 40) && bit w (48 + g % 16)

/-- Groom context of a logical groom number (R39). -/
def State.gctx (s : State) (g : Nat) : Nat := s.psOf (g / 16) * 16 + g % 16

/-- Candidates of a source (R473). -/
def State.candidates (s : State) (n : Nat) : List Nat :=
  let w := s.srcReg n
  let ls := (List.range (fld w 47 40 + 1 - fld w 39 32)).map (· + fld w 39 32)
  (ls.flatMap (fun l => (List.range 16).map (fun k => l * 16 + k))).filter (fun g =>
    let c := s.groom (s.gctx g)
    bit w (48 + g % 16) && c.eligible && decide (fld (c.reg 0x78) 3 0 < s.srcPrio n) &&
    !s.started.any (fun d => d.g = g))

/-- Best of a list by a key, the first among equals. -/
def leastBy (k : Nat → Nat) : List Nat → Option Nat
  | [] => none
  | a :: l => match leastBy k l with
    | some b => if k b < k a then some b else some a
    | none => some a

/-- The groom a source goes to: lowest PRIO, then the lowest G above the last chosen, wrapping (R473) (DESIGN CHOICE, log 16). -/
def State.chooseGroom (s : State) (n : Nat) : Option Nat :=
  let last := Map.get (fun _ => 4095) s.lastG n
  leastBy (fun g => fld ((s.groom (s.gctx g)).reg 0x78) 3 0 * 4096 + (g + 4096 - last - 1) % 4096) (s.candidates n)

/-- The source the controller takes: highest PRIO, then lowest number (R472) (DESIGN CHOICE, log 16). -/
def State.chooseSource (s : State) : Option Nat :=
  leastBy (fun n => 16 - s.srcPrio n) (s.pendingSrcs.filter (fun n => !s.started.any (fun d => d.src = n)))

/-- An interrupt is pending for a groom: WFI retires (R86). -/
def State.irqFor (s : State) (gi : Nat) : Bool :=
  match s.lsOf (gi / 16) with
  | some l =>
    let g := l * 16 + gi % 16
    s.started.any (fun d => d.g = g) ||
      s.pendingSrcs.any (fun n => s.targets n g && decide (fld ((s.groom gi).reg 0x78) 3 0 < s.srcPrio n))
  | none => false

/-- A precise fault or store error waits to be taken (R87). -/
def Groom.faultWaits (g : Groom) : Bool :=
  (match g.rq with
   | e :: _ => e.fault.isSome && decide (e.left = 0)
   | [] => false) || !g.asyncErr.isEmpty

/-- A tack call is running: interrupts and halts stay pending (R92). -/
def Groom.inCall (g : Groom) : Bool :=
  match g.wait with
  | .tcall _ _ => true
  | _ => false

/-- A started delivery meets its groom at a retirement boundary (R474): not while a CSR load is outstanding (R74), during a tack call
(R92) or while an earlier event of R87 waits; refused when the groom is no longer eligible; dropped when its source has ended. -/
def State.deliver (s : State) (d : Deliv) : State :=
  let gi := s.gctx d.g
  let g := s.groom gi
  if s.csrLoadOut gi || g.faultWaits || g.inCall then s
  else
    let s := { s with started := s.started.filter (fun x => x.src ≠ d.src) }
    if s.asserted d.src && g.eligible then
      let s := { s with deliv := s.deliv ++ [d.src] }
      s.enter gi 7 St.ok none g.oldestPc false (fld (s.srcReg d.src) 21 6 * 64)
    else s

/-- INTC_DELIVERY_START (R472, R473) (DESIGN CHOICE, log 16). -/
def execIntcDeliveryStart (s : State) : Out :=
  .next (match s.chooseSource with
    | none => s
    | some n =>
      match s.chooseGroom n with
      | none => s
      | some g => { s with started := s.started ++ [{ src := n, g := g, t0 := s.clk }],
                           lastG := Map.set (fun _ => 4095) s.lastG n g })

/-- INTC_DELIVERY_ARRIVE (R474). -/
def execIntcDeliveryArrive (src : Nat) (s : State) : Out :=
  .next (match s.started.find? (fun d => d.src = src) with
    | some d => s.deliver d
    | none => s)

end Sys2Proof.Machine
end

