-- ==== Sys2Proof/Machine/Net.lean ====
section
/-! DEFINITION. The on-package network: positions, routes, detours, injection, hops, fences and dead routers
(R36 to R58). -/

namespace Sys2Proof.Machine

/-! ### Positions (R36, R44, R45) -/

/-- Node index, row × 64 + column, of a groom position of a physical stall, keyed PS × 16 + g (R36). -/
def nodePos (gi : Nat) : Nat :=
  let i := gi / 16 % 72
  let col := gi / 16 / 72 % 2 * 32 + i % 8 * 4 + gi % 4
  let row := gi / 16 / 72 / 2 * 36 + i / 8 * 4 + gi % 16 / 4
  row * 64 + col

/-- The groom position at a node index. -/
def giAt (p : Nat) : Nat :=
  let col := p % 64
  let row := p / 64
  ((row / 36 * 2 + col / 32) * 72 + row % 36 / 4 * 8 + col % 32 / 4) * 16 + row % 4 * 4 + col % 4

/-- The node at a node index. -/
def State.nodeAt (s : State) (p : Nat) : Node := s.node (giAt p)

/-- Numbers from one to another, both included, in either direction. -/
def span (a b : Nat) : List Nat :=
  if a ≤ b then (List.range (b - a + 1)).map (· + a) else (List.range (a - b + 1)).map (fun i => a - i)

/-- XY route: along the row, then along the column (R42). -/
def xyPath (a b : Nat) : List Nat :=
  (span (a % 64) (b % 64)).map (fun c => a / 64 * 64 + c) ++ ((span (a / 64) (b / 64)).tail.map (fun r => r * 64 + b % 64))

/-- Where a request goes: a node of the grid, or a die beyond an edge (0 to 3 sheds, 4 to 7 gates). -/
inductive Dest where
  | node (gi : Nat)
  | die (n : Nat)
  deriving DecidableEq, Repr

/-- Edge nodes of a die in ascending order (R44). -/
def edgeNodes (n : Nat) : List Nat :=
  if n < 4 then (List.range 36).map (fun r => (n / 2 * 36 + r) * 64 + n % 2 * 63)
  else (List.range 32).map (fun c => (n - 4) / 2 * 71 * 64 + (n - 4) % 2 * 32 + c)

/-- Entry node of a die for an injection node, past dead nodes (R44, R45). -/
def State.entry (s : State) (n from_ : Nat) : Option Nat :=
  let l := edgeNodes n
  let k := if n < 4 then from_ / 64 % 36 else from_ % 64 % 32
  (l.drop k ++ l.take k).find? (fun p => !(s.nodeAt p).dead)

/-- Destination of a request: R43 for a stall window, R44 for a shed or gate; a global request leaves at the gate of its
yard (R331). Device CSR blocks sit on their own die, those of the whole device on gate 0 (DEDUCED, log 19). -/
def State.destOf (s : State) (r : Req) (pa : Nat) : Dest :=
  if isGlobal r.addr then .die (4 + r.src.ps / 72)
  else
    match localRegion r.addr with
    | some (.main _) => .die ((match s.chanOf (spreadLc pa) with | some c => c / 34 | none => spreadLc pa / 32))
    | some (.loft _) => .die (pa / 65536 % 16 / 4)
    | some (.scratch ps off) => .node (ps * 16 + off / 4096 % 16)
    | some (.tile ps _) => .node (ps * 16)
    | some (.scsr ps _) => .node (ps * 16)
    | some (.gpage gi _) => .node gi
    | some (.npage gi _) => .node gi
    | some (.dev o) =>
      match devBlk o with
      | some (.shed n, _) => .die n
      | some (.gate n, _) => .die (4 + n)
      | some (.link p, _) => .die (4 + p / 8)
      | some (.comb n, _) => .die (4 + n)
      | _ => .die 4
    | none => .die 4

/-- Injection node of a requester (R43). -/
def Src.node : Src → Nat
  | .groomLoad gi _ => nodePos gi
  | .groomStore gi => nodePos gi
  | .slot ps n => nodePos (ps * 16 + n % 16)
  | .gone => 0

/-! ### Detours (R53 to R55) -/

/-- Whether a detour entry covers a destination node. -/
def detourHits (w : Word) (d : Nat) : Bool :=
  bit w 63 && decide (fld w 5 0 ≤ d % 64 ∧ d % 64 ≤ fld w 13 8 ∧ fld w 22 16 ≤ d / 64 ∧ d / 64 ≤ fld w 30 24)

/-- The detour entry that applies at a node: the lowest k (R53). -/
def Node.detour (n : Node) (d : Nat) : Option Word :=
  ((List.range 24).map (fun k => n.reg (0x100 + 8 * k))).find? (fun w => detourHits w d)

/-- VIA node of an entry for a destination. -/
def detourVia (w : Word) (d : Nat) : Nat :=
  (if bit w 47 then d / 64 else fld w 46 40) * 64 + (if bit w 38 then d % 64 else fld w 37 32)

/-- A rectangle of destinations with what a router does for them. -/
structure DetourE where
  (cLo cHi rLo rHi : Nat)
  unreach : Bool := false
  deadDest : Bool := false
  viaCol : Nat := 0
  viaRow : Nat := 0
  viaRowDest : Bool := false
  deriving DecidableEq, Repr

def DetourE.word (e : DetourE) : Word :=
  place 5 0 e.cLo ||| place 13 8 e.cHi ||| place 22 16 e.rLo ||| place 30 24 e.rHi ||| place 37 32 e.viaCol |||
  place 46 40 e.viaRow ||| place 47 47 (b2n e.viaRowDest) ||| place 61 61 (b2n e.deadDest) ||| place 62 62 (b2n e.unreach) |||
  place 63 63 1

/-- The part of a rectangle within bounds, as a refusal; nothing when it is empty. -/
def DetourE.cut (e : DetourE) (cLo cHi rLo rHi : Nat) : List DetourE :=
  let a := max e.cLo cLo
  let b := min e.cHi cHi
  let c := max e.rLo rLo
  let d := min e.rHi rHi
  if a ≤ b ∧ c ≤ d then [{ cLo := a, cHi := b, rLo := c, rHi := d, unreach := true }] else []

/-- Destinations of a rectangle that an XY route from a node reaches only through a dead node. -/
def DetourE.blockedFrom (e : DetourE) (v dead : Nat) : List DetourE :=
  let vc := v % 64
  let vr := v / 64
  let dc := dead % 64
  let dr := dead / 64
  if dead = v then e.cut 0 63 0 71
  else if dr = vr then (if vc < dc then e.cut dc 63 0 71 else e.cut 0 dc 0 71)
  else if vr < dr then e.cut dc dc dr 71 else e.cut dc dc 0 dr

/-- Refusals for the destinations of an entry whose legs meet a dead node (R55). -/
def DetourE.refused (e : DetourE) (src dead : Nat) : List DetourE :=
  if e.unreach then []
  else if e.viaRowDest then
    -- To (viaCol, t) and one hop along row t, for each row t of the entry.
    let dc := dead % 64
    let dr := dead / 64
    let sc := src % 64
    let sr := src / 64
    let onRow : Bool := decide (dr = sr ∧ min sc e.viaCol ≤ dc ∧ dc ≤ max sc e.viaCol ∧ dead ≠ src)
    if onRow then e.cut 0 63 0 71
    else if dc = e.viaCol then (if sr < dr then e.cut 0 63 dr 71 else e.cut 0 63 0 dr)
    else []
  else if dead = e.viaRow * 64 + e.viaCol then e.cut 0 63 0 71
  else e.blockedFrom (e.viaRow * 64 + e.viaCol) dead

/-- Entries of R54 of a source for one dead node: those for its row first. -/
def rowEntries (src dead : Nat) : List DetourE :=
  let sc := src % 64
  let sr := src / 64
  let dc := dead % 64
  if dead / 64 = sr ∧ dc ≠ sc then
    let lo := if sc < dc then dc else 0
    let hi := if sc < dc then 63 else dc
    { cLo := lo, cHi := hi, rLo := sr, rHi := 71, viaCol := sc, viaRow := if sr = 71 then 70 else sr + 1 } ::
      (if sr = 0 then [] else [{ cLo := lo, cHi := hi, rLo := 0, rHi := sr - 1, viaCol := sc, viaRow := sr - 1 }])
  else []

def colEntries (src dead : Nat) : List DetourE :=
  let sr := src / 64
  let dc := dead % 64
  let dr := dead / 64
  let v := if dc = 63 then 62 else dc + 1
  if sr < dr ∧ dr < 71 then [{ cLo := dc, cHi := dc, rLo := dr + 1, rHi := 71, viaCol := v, viaRowDest := true }]
  else if dr < sr ∧ 0 < dr then [{ cLo := dc, cHi := dc, rLo := 0, rHi := dr - 1, viaCol := v, viaRowDest := true }]
  else []

def DetourE.within (a b : DetourE) : Bool := decide (b.cLo ≤ a.cLo ∧ a.cHi ≤ b.cHi ∧ b.rLo ≤ a.rLo ∧ a.rHi ≤ b.rHi)

/-- Drop entries that an earlier one already covers. -/
def dropCovered : List DetourE → List DetourE → List DetourE
  | _, [] => []
  | seen, e :: l => if seen.any (fun x => e.within x) then dropCovered seen l else e :: dropCovered (e :: seen) l

/-- The entries of a router, lowest k first: the dead nodes themselves, then row and column detours, each after its own
refusals (R54, R55) (DESIGN CHOICE, log 20). -/
def detourList (deads : List Nat) (src : Nat) : List DetourE :=
  let own := deads.map (fun d => ({ cLo := d % 64, cHi := d % 64, rLo := d / 64, rHi := d / 64, unreach := true, deadDest := true } : DetourE))
  let ways := deads.flatMap (rowEntries src) ++ deads.flatMap (colEntries src)
  (dropCovered [] (own ++ ways.flatMap (fun e => deads.flatMap (e.refused src) ++ [e]))).take 24

/-- Whether a port turns a packet away: fenced, but for a TACK packet under SVC (R50). -/
def Node.shut (n : Node) (priv : Priv) : Bool := n.fenced && !(bit (n.reg 8) 1 && decide (priv = .tack))

/-! ### Requests in flight -/

/-- Groom of a request's source, or the stall and queue of its slot. -/
def State.owner (s : State) (x : Src) : Nat × Nat :=
  match x with
  | .groomLoad gi _ => (0, gi)
  | .groomStore gi => (0, gi)
  | .slot ps n => (1, ps * 8 + (((s.stall ps).slots.find? (fun e => e.1 = n)).map (·.2.1)).getD 7)
  | .gone => (2, 0)

/-- DEDUCED, log 21. -/
def blocksMeet (a n b m : Nat) : Bool := decide (a / 64 ≤ (b + m - 1) / 64 ∧ b / 64 ≤ (a + n - 1) / 64)

/-- An earlier access of the same requester to the same address that is still outstanding, one of the two a write: of a
groom (R71), or global (R338) (DEDUCED, log 21). -/
def State.heldBy (s : State) (id : Nat) (r : Req) : Bool :=
  s.reqs.any (fun e => match e.2 with
    | some o =>
      decide (e.1 < id) && decide (o.phase ≠ .arrived) && decide (s.owner o.src = s.owner r.src) &&
      (o.op.isWrite || r.op.isWrite) && blocksMeet o.addr o.len r.addr r.len &&
      (isGlobal r.addr || decide ((s.owner r.src).1 = 0))
    | none => false)

/-- R47: an outstanding earlier request to the same destination by another route. -/
def State.routeHeld (s : State) (r : Req) (dest : Nat) (via : Option Nat) : Bool :=
  s.reqs.any (fun e => match e.2 with
    | some o =>
      decide (o.src = r.src ∨ s.owner o.src = s.owner r.src ∧ (s.owner r.src).1 = 0) && decide (o.path ≠ []) &&
      decide (o.phase = .mesh ∨ o.phase = .endpoint ∨ o.phase = .global ∨ o.phase = .back ∨ o.phase = .lost) &&
      decide (o.path.getLast? = some dest) && decide (o.via.bind (fun i => o.path[i]?) ≠ via)
    | none => false)

/-- Accesses that are refused before any translation: UNSUPPORTED for a write of the loft window and for an AMO to a
register (R75, R283), PRIVILEGE for TASK (R76), MEM_RANGE outside every region (R281). The privilege of a region comes
first (R8). -/
def Req.refusal (r : Req) : Option Status :=
  let task := decide (r.priv = .task)
  let dwin := decide (r.dwinLo ≤ r.addr ∧ r.addr < r.dwinHi)
  let amo := match r.op with | .amo _ => true | _ => false
  if isGlobal r.addr then none
  else
    match localRegion r.addr with
    | some (.main _) => none
    | some (.loft _) => if r.op.isWrite then some St.unsupported else none
    | some (.scratch _ _) => if task && !dwin then some St.privilege else none
    | some (.tile _ _) => if task && !dwin then some St.privilege else if amo then some St.unsupported else none
    | some (.scsr _ _) => if task && !dwin then some St.privilege else if amo then some St.unsupported else none
    | some _ => if task then some St.privilege else if amo then some St.unsupported else none
    | none =>
      if task && !dwin && decide (0x400000000000 ≤ r.addr ∧ r.addr < 0x400000000000 + 288 * 0x100000000) then some St.privilege
      else some St.memRange

/-- Put a request's packet in the mesh along a path. -/
def State.launch (s : State) (id : Nat) (r : Req) (pa : Nat) (path : List Nat) (via : Option Nat) : State :=
  let n := s.reqs.foldl (fun k e => match e.2 with | some o => max k o.inj | none => k) 0
  s.setReq id (some { r with phase := .mesh, pa := pa, translated := true, path := path, pos := 0, via := via, inj := n + 1, status := 0 })

/-- Route a translated request: entry node, detour lookup, hold rules (R44, R45, R47, R53). -/
def State.inject (s : State) (id : Nat) (r : Req) (pa : Nat) : State :=
  let from_ := r.src.node
  let n := s.nodeAt from_
  let to_ := match s.destOf r pa with
    | .node gi => some (nodePos gi)
    | .die d => s.entry d from_
  let closed : Bool := n.fenced && !(bit (n.reg 8) 1 && decide (r.priv = .tack))
  if closed || n.dead then s
  else
    match to_ with
    | none => s.endReq id r St.netNodeDead
    | some d =>
      match n.detour d with
      | some w =>
        if bit w 62 then s.endReq id r (if bit w 61 then St.netNodeDead else St.netUnreachable)
        else
          let v := detourVia w d
          if s.routeHeld r d (some v) then s
          else s.launch id r pa (xyPath from_ v ++ (xyPath v d).tail) (some ((xyPath from_ v).length - 1))
      | none => if s.routeHeld r d none then s else s.launch id r pa (xyPath from_ d) none

/-- NET_INJECT: the checks of an access, its translation, then its route (DESIGN CHOICE, log 17). -/
def execNetInject (req : Nat) (s : State) : Out :=
  .next (match s.req req with
    | some r =>
      if r.phase ≠ .issued ∨ r.src = .gone then s
      else
        match r.refusal with
        | some st => s.endReq req r st
        | none =>
          if s.heldBy req r then s
          else if !isGlobal r.addr && r.window then
            match s.xlate r.src.ps r.task r.addr r.priv r.op.isWrite with
            | .done pa => s.inject req r pa
            | .fault st => s.endReq req r st
            | .miss => s
          else s.inject req r r.addr
    | none => s)

/-! ### Hops -/

/-- Direction from a node to its neighbour: 0 N, 1 E, 2 S, 3 W. -/
def dirOf (a b : Nat) : Nat :=
  if a / 64 < b / 64 then 0 else if b / 64 < a / 64 then 2 else if a % 64 < b % 64 then 1 else 3

/-- The neighbour of a node in a direction, within the grid. -/
def neighbour (p d : Nat) : Option Nat :=
  match d with
  | 0 => if p / 64 < 71 then some (p + 64) else none
  | 1 => if p % 64 < 63 then some (p + 1) else none
  | 2 => if 0 < p / 64 then some (p - 64) else none
  | _ => if 0 < p % 64 then some (p - 1) else none

/-- NET_ERR bits set, and the flit counts of an input, by what SECDED found (R41, R50, R56). -/
def Node.flit (n : Node) (now dir : Nat) : Flit → Node
  | .ok => n
  | .ce => (n.setReg 0x18 (n.reg 0x18 ||| 1)).setReg 0x20 (place 15 0 (satAdd 0xFFFF (fld (n.reg 0x20) 15 0) 1))
  | .ue =>
    let l := ((now * 4 + dir) :: n.ueAt).filter (fun t => decide (now < t / 4 + 1024))
    { n.setReg 0x18 (n.reg 0x18 ||| 2) with
      ueAt := l, reported := n.reported || decide (4 ≤ (l.filter (fun t => t % 4 = dir)).length) }
  | .ctrlParity => { n.setReg 0x18 (n.reg 0x18 ||| 4) with reported := true }

/-- A packet moves to the next node of its path; into a port that is off it is discarded (R51). A damaged request is
marked for the destination, a damaged response loses its data (R58) (DESIGN CHOICE, log 22). -/
def State.hop (s : State) (id : Nat) (r : Req) (f : Flit) : State :=
  let j := if r.phase = .back then r.pos - 1 else r.pos + 1
  match r.path[r.pos]?, r.path[j]? with
  | some a, some b =>
    let d := dirOf a b
    if bit ((s.nodeAt a).reg 8) (4 + d) then s.setReq id (some { r with phase := .lost })
    else
      let s := s.modNode (giAt b) (fun n => { n.flit s.clk ((d + 2) % 4) f with seen := Map.set zeroN n.seen ((d + 2) % 4) s.clk })
      let s := match f with
        | .ok => s
        | .ce => s.detect St.netFlitUe 6 0 8 b
        | _ => s.detect St.netFlitUe 6 1 8 b
      let r := { r with pos := j }
      s.setReq id (some (if f = .ue then { r with status := St.netFlitUe, data := if r.phase = .back then [] else r.data } else r))
  | _, _ => s

/-- NET_HOP: only a packet that has not reached the end of its way moves (DESIGN CHOICE, log 17). -/
def execNetHop (req : Nat) (flit : Flit) (s : State) : Out :=
  .next (match s.req req with
    | some r =>
      if (r.phase = .mesh ∧ r.pos + 1 < r.path.length) ∨ (r.phase = .back ∧ 0 < r.pos) then s.hop req r flit else s
    | none => s)

/-- NET_BAD_TAIL: an abandoned injection is closed, and its packet discarded whole at the destination (R49). -/
def execNetBadTail (req : Nat) (s : State) : Out :=
  .next (match s.req req with
    | some r =>
      if (r.phase = .mesh ∧ r.pos = 0) ∨ (r.phase = .back ∧ r.pos + 1 = r.path.length) then
        match r.path[r.pos]? with
        | some p =>
          let s := s.modNode (giAt p) (fun n => n.setReg 0x18 (n.reg 0x18 ||| 16))
          s.setReq req (some { r with status := St.netFlitUe, data := if r.phase = .back then [] else r.data })
        | none => s
      else s
    | none => s)

/-- NET_KEEPALIVE: the neighbour sees a flit (R51). -/
def execNetKeepalive (node dir : Nat) (s : State) : Out :=
  .next (match neighbour (nodePos node) dir with
    | some b => if (s.node node).dead then s
      else s.modNode (giAt b) (fun n => { n with seen := Map.set zeroN n.seen ((dir + 2) % 4) s.clk })
    | none => s)

/-- NET_LINK_TIMEOUT: 4,096 NCLK without a flit on an input report the router beyond it (R51, R56). -/
def execNetLinkTimeout (node dir : Nat) (s : State) : Out :=
  .next (if s.clk < Map.get zeroN (s.node node).seen dir + 4096 then s
    else
      let s := s.modNode node (fun n => { n.setReg 0x18 (n.reg 0x18 ||| 8) with linkDown := n.linkDown ||| BitVec.ofNat 4 (2 ^ dir) })
      match neighbour (nodePos node) dir with
      | some b => s.modNode (giAt b) (fun n => { n with reported := true })
      | none => s)

/-! ### Dead routers, sweeps and fences -/

/-- Node indexes of the dead routers. -/
def State.deadNodes (s : State) : List Nat := s.nodes.filterMap (fun e => if e.2.dead then some (nodePos e.1) else none)

/-- Mark a router dead: PORT_OFF in each neighbour, or NET_DEAD_LIMIT for a ninth (R51, R55). -/
def State.markDead (s : State) (node : Nat) : State :=
  let n := s.node node
  if n.dead then s
  else if 8 ≤ s.deadNodes.length then
    let s := s.report { status := St.netDeadLimit, cls := 10, sev := 2, unit := 8, id := nodePos node, action := 6 }
    { s with tack := { s.tack with outOfService := true } }
  else
    let s := s.setNode node { n with dead := true }
    let s := s.report { status := St.netNodeDead, cls := 6, sev := 2, unit := 8, id := nodePos node }
    (List.range 4).foldl (fun s d => match neighbour (nodePos node) d with
      | some b => s.modNode (giAt b) (fun m => m.setReg 8 (m.reg 8 ||| place (4 + (d + 2) % 4) (4 + (d + 2) % 4) 1))
      | none => s) s

/-- ROUTER_MARK_DEAD: a reported router is marked (R51). -/
def execRouterMarkDead (node : Nat) (s : State) : Out := .next (if (s.node node).reported then s.markDead node else s)

/-- Complete the outstanding requests of a requester whose path includes a dead node, and advance the slot generation
(R52). -/
def State.sweep (s : State) (dead : Nat) (mine : Src → Bool) : State :=
  (s.reqsWhere (fun r => mine r.src && r.path.contains dead &&
      decide (r.phase = .mesh ∨ r.phase = .endpoint ∨ r.phase = .global ∨ r.phase = .back ∨ r.phase = .lost))).foldl
    (fun s e =>
      let s := s.endReq e.1 { e.2 with path := [] } St.netNodeDead
      match e.2.src with
      | .groomLoad gi _ => s.modGroom gi (fun g => { g with gen := (g.gen + 1) % 4 })
      | .groomStore gi => s.modGroom gi (fun g => { g with gen := (g.gen + 1) % 4 })
      | .slot ps _ => s.modStall ps (fun t => { t with slotGen := t.slotGen + 1 })
      | .gone => s) s

/-- Requesters that a node sweeps: its groom, and the stall's slots at g = 0 (R56). -/
def sweptBy (gi : Nat) (x : Src) : Bool :=
  match x with
  | .groomLoad i _ => i = gi
  | .groomStore i => i = gi
  | .slot ps _ => decide (gi = ps * 16)
  | .gone => false

/-- The entries of R54 and R55 in every router. -/
def State.installDetours (s : State) : State :=
  let deads := s.deadNodes
  (List.range 4608).foldl (fun s gi =>
    let es := (detourList deads (nodePos gi)).map DetourE.word
    (List.range 24).foldl (fun s k => s.modNode gi (fun n => n.setReg (0x100 + 8 * k) (es.getD k 0))) s) s

/-- DETOUR_INSTALL: every router takes the entries of R54 and R55, and every requester is swept (R52) (DESIGN CHOICE, log 20). -/
def execDetourInstall (s : State) : Out :=
  .next (
    let deads := s.deadNodes
    let s := s.installDetours
    deads.foldl (fun s d => s.sweep d (fun x => decide (x ≠ .gone))) s)

/-- EMPTY: no packet in the node's buffers. -/
def State.nodeEmpty (s : State) (gi : Nat) : Bool :=
  !s.reqs.any (fun e => match e.2 with
    | some r => decide (r.phase = .mesh ∨ r.phase = .back) && decide (r.path[r.pos]? = some (nodePos gi))
    | none => false)

/-- The value of a NET register (R56) (DESIGN CHOICE, log 61). -/
def State.netRead (s : State) (gi o : Nat) : Word :=
  let n := s.node gi
  match o with
  | 0x00 => place 5 0 (nodePos gi % 64) ||| place 14 8 (nodePos gi / 64) ||| place 24 16 (gi / 16) ||| place 31 28 (gi % 16)
  | 0x10 => place 0 0 (b2n (s.nodeEmpty gi)) ||| place 1 1 (b2n n.fenced) ||| place 7 4 n.linkDown.toNat
  | _ => n.reg o

/-- A read through a NET page: KERNEL and TACK; an RC count is cleared (R56). -/
def State.netPageRead (s : State) (priv : Priv) (gi o : Nat) : State × Status × Word :=
  if priv = .task then (s, St.privilege, 0)
  else
    match findReg netRegs o with
    | none => (s, St.ok, 0)
    | some k => (s.modNode gi (fun n => n.setReg o (k.afterRead (n.reg o))), St.ok, s.netRead gi o)

/-- A write through a NET page: TACK only (R56). Opening a fence takes effect at once, closing it at a packet boundary. -/
def State.netPageWrite (s : State) (priv : Priv) (gi o : Nat) (v : Word) : State × Status :=
  if priv ≠ .tack then (s, St.privilege)
  else
    match findReg netRegs o with
    | none => (s, St.ok)
    | some k =>
      let s := s.modNode gi (fun n => n.setReg o (k.afterWrite (n.reg o) v))
      if o ≠ 8 then (s, St.ok)
      else
        let s := if bit v 0 then s else s.modNode gi (fun n => { n with fenced := false })
        (if bit v 8 then s.sweep (fld v 30 24 * 64 + fld v 21 16) (sweptBy gi) else s, St.ok)

/-- NET_SWEEP: a write of NET_NODE_CTL with SWEEP = 1. -/
def execNetSweep (priv : Priv) (gi : Nat) (v : Word) (s : State) : Out :=
  .next (let (t, st) := s.netPageWrite priv gi 8 (v ||| place 8 8 1); t.respond st)

/-- NET_FENCE: a write of NET_NODE_CTL (DESIGN CHOICE, log 22). -/
def execNetFence (priv : Priv) (gi : Nat) (v : Word) (s : State) : Out :=
  .next (let (t, st) := s.netPageWrite priv gi 8 v; t.respond st)

/-- NET_FENCE_BOUNDARY: the fence takes effect (R49) (DESIGN CHOICE, log 22). -/
def execNetFenceBoundary (gi : Nat) (s : State) : Out :=
  .next (if bit ((s.node gi).reg 8) 0 then s.modNode gi (fun n => { n with fenced := true }) else s)

def execNetErrCntRead (priv : Priv) (gi : Nat) (s : State) : Out :=
  .next (let (t, st, v) := s.netPageRead priv gi 0x20; t.respond st v)

end Sys2Proof.Machine
end

