-- ==== Sys2Proof/Machine/Shed.lean ====
section
/-! DEFINITION. Endpoints: stall scratch, the sheds' main memory and channels, bays and migration, and patrol scrub
(R26 to R31, R75, R284 to R296). -/

namespace Sys2Proof.Machine

/-! ### Answers and lanes -/

/-- The endpoint has performed a request: its response starts back along the path (R42). -/
def State.answer (s : State) (id : Nat) (r : Req) (st : Status) (data : List Byte) : State :=
  s.setReq id (some { r with phase := .back, pos := r.path.length - 1, status := st, data := data })

/-- Write data by byte lane: none where the mask leaves a lane out. -/
def lanesOf (m : Option Nat) (data : List Byte) : List (Option Byte) :=
  match m with
  | none => data.map some
  | some k => data.zipIdx.map (fun p => if k.testBit p.2 then some p.1 else none)

/-- Write the lanes that hold a byte. -/
def writeLanes (m : Map Byte) (a : Nat) : List (Option Byte) → Map Byte
  | [] => m
  | some b :: l => writeLanes (Map.set zeroB m a b) (a + 1) l
  | none :: l => writeLanes m (a + 1) l

/-- The operation of an AMO: new value from old, operand and compare value (R75, R327). -/
def AmoOp.apply (op : AmoOp) (n old b c : Nat) : Nat :=
  match op with
  | .addW => (old + b) % 2 ^ (8 * n)
  | .addD => (old + b) % 2 ^ (8 * n)
  | .swapW => b
  | .swapD => b
  | .casW => if old = c then b else old
  | .casD => if old = c then b else old

/-- Old value and new value of an AMO on a byte memory. -/
def amoOn (m : Map Byte) (a : Nat) (op : AmoOp) (n : Nat) (data : List Byte) : List Byte × List Byte :=
  let old := readBytes m a n
  (old, leBytes n (op.apply n (leNat old) (leNat (data.take n)) (leNat (data.drop n))))

/-- An earlier request at the endpoints to the same 64-byte block, one of the two a write (R288). -/
def State.behind (s : State) (id : Nat) (r : Req) : Bool :=
  s.reqs.any (fun e => match e.2 with
    | some o => decide (e.1 ≠ id ∧ o.phase = .endpoint ∧ o.inj < r.inj) && (o.op.isWrite || r.op.isWrite) &&
        blocksMeet o.pa o.len r.pa r.len && decide (o.addr / 2 ^ 47 = r.addr / 2 ^ 47)
    | none => false)

/-! ### Stall scratch (R43, R536) -/

/-- The 64-bit words of scratch that a request's lanes touch. -/
def wordsTouched (off : Nat) (lanes : List (Option Byte)) : List Nat :=
  (lanes.zipIdx.filterMap (fun p => p.1.map (fun _ => (off + p.2) / 8))).eraseDups

/-- SCRATCH_ACCESS: read, write or AMO at the bank. A word that is uncorrectable fails what reads it, a partial write
included; a write of the whole word replaces it (R536). A stall that is not in RUN wakes first (R530). -/
def State.scratchAccess (s : State) (id : Nat) (r : Req) (ps off : Nat) (ue : Bool) : State :=
  let lanes := lanesOf r.mask (if r.op = .read then List.replicate r.len 0 else r.data.take r.len)
  let ws := wordsTouched off lanes
  let s := if ue then s.modStall ps (fun t => { t with scratchUe := (t.scratchUe ++ (ws.take 1).filter (fun w => !t.scratchUe.contains w)) }) else s
  let bad := ws.filter (fun w => (s.stall ps).scratchUe.contains w)
  let whole := fun w => (List.range 8).all (fun i => decide (off ≤ w * 8 + i) && ((lanes.getD (w * 8 + i - off) none).isSome))
  let rep := fun (s : State) => s.detect St.rasScratchUe 4 1 1 ps 0 r.addr r.task
  match r.op with
  | .read => if bad = [] then s.answer id r St.ok (s.scrRead ps off r.len) else (rep s).answer id r St.rasScratchUe []
  | .write =>
    let stay := bad.filter (fun w => !whole w)
    let kept := lanes.zipIdx.map (fun p => if stay.contains ((off + p.2) / 8) then none else p.1)
    let s := s.modStall ps (fun t => { t with scratch := writeLanes t.scratch off kept,
                                              scratchUe := t.scratchUe.filter (fun w => !(bad.contains w && whole w)) })
    if stay = [] then s.answer id r St.ok [] else (rep s).answer id r St.rasScratchUe []
  | .amo op =>
    if bad ≠ [] then (rep s).answer id r St.rasScratchUe []
    else
      let (old, new) := amoOn (s.stall ps).scratch off op r.len r.data
      (s.scrWrite ps off new).answer id r St.ok old

def execScratchAccess (req : Nat) (ue : Bool) (s : State) : Out :=
  .next (match s.req req with
    | some r =>
      if r.phase ≠ .endpoint then s
      else
        match localRegion r.addr with
        | some (.scratch ps off) =>
          if (s.stall ps).pstate ≠ .run ∨ s.behind req r then s else s.scratchAccess req r ps off ue
        | _ => s
    | none => s)

/-! ### Main memory (R290, R291) -/

/-- Lanes of one 64-byte block of a write that starts at `pa`. -/
def blockLanes (pa blk : Nat) (lanes : List (Option Byte)) : List (Option Byte) :=
  (List.range 64).map (fun i => if blk * 64 + i < pa then none else lanes.getD (blk * 64 + i - pa) none)

/-- Write one block: merge unless it is covered whole; a merge that meets an uncorrectable block leaves it (R291). -/
def State.writeBlock (s : State) (pa blk : Nat) (lanes : List (Option Byte)) : State × Status :=
  let l := blockLanes pa blk lanes
  if l.all Option.isNone then (s, St.ok)
  else if !s.chanOk (blk * 64) then (s, St.memUe)
  else if l.all Option.isSome then
    ({ s with mem := writeLanes s.mem (blk * 64) l, memUe := s.memUe.filter (· ≠ blk) }, St.ok)
  else if s.memUe.contains blk then (s.uncorrectable St.memUe blk false false, St.memUe)
  else ({ s with mem := writeLanes s.mem (blk * 64) l }, St.ok)

/-- A write of lanes by physical address, block by block. -/
def State.memStore (s : State) (pa : Nat) (lanes : List (Option Byte)) : State × Status :=
  (blocksOf pa lanes.length).foldl (fun (p : State × Status) b =>
    let (t, st) := p.1.writeBlock pa b lanes
    (t, if p.2 = St.ok then st else p.2)) (s, St.ok)

/-- Fresh errors that a shed finds on a request's blocks, by position: corrected ones are counted, uncorrectable ones
stay with the block. -/
def State.findErrors (s : State) (pa n : Nat) (ce ue : List Nat) : State :=
  let bs := blocksOf pa n
  let s := { s with memUe := s.memUe ++ ((ue.filterMap (fun i => bs[i]?)).filter (fun b => !s.memUe.contains b)).eraseDups }
  match s.chanOf (spreadLc pa) with
  | some ch => s.correctable ch ((ce.filter (· < bs.length)).length)
  | none => s

/-- Whether a request waits at a shed. -/
def Req.atShed (r : Req) : Bool :=
  decide (r.phase = .endpoint) && !isGlobal r.addr && (match localRegion r.addr with | some (.main _) => true | _ => false)

/-- A read of the blocks of a range: the uncorrectable ones are logged one by one (R290). -/
def State.shedLoad (s : State) (pa n : Nat) : State × Status :=
  if !s.chanOk pa then (s, St.memUe)
  else
    let bad := (blocksOf pa n).filter s.memUe.contains
    (bad.foldl (fun s b => s.uncorrectable St.memUe b false false) s, if bad = [] then St.ok else St.memUe)

def execShedRead (req : Nat) (ce ue : List Nat) (s : State) : Out :=
  .next (match s.req req with
    | some r =>
      if !r.atShed || decide (r.op ≠ .read) || s.behind req r then s
      else
        let (s, st) := (s.findErrors r.pa r.len ce ue).shedLoad r.pa r.len
        s.answer req r st (if st = St.ok then s.memRead r.pa r.len else [])
    | none => s)

/-- The copy pointer is free: the next migration that waits takes it. -/
def Mig.ended (m : Mig) (st : Status) : Mig :=
  match m.queued with
  | [] => { m with active := false, end_ := st }
  | (a, b) :: l => { active := true, src := a, dst := b, units := 0, end_ := st, queued := l }

/-- A migration that names a channel does not go on (R296). -/
def Mig.without (m : Mig) (i : Nat) : Mig :=
  let m := { m with queued := m.queued.filter (fun e => decide (e.1 ≠ i ∧ e.2 ≠ i)) }
  if m.active ∧ (m.src = i ∨ m.dst = i) then m.ended St.memMigState else m

/-- The channel at the other end of a channel's migration. -/
def Mig.other (m : Mig) (i : Nat) : Option Nat :=
  ((if m.active then [(m.src, m.dst)] else []) ++ m.queued).findSome? (fun e =>
    if e.1 = i then some e.2 else if e.2 = i then some e.1 else none)

/-- A channel fails, with what that ends (R294, R296, R30). -/
def State.failChan (s : State) (ch : Nat) : State :=
  let c := s.chan ch
  if c.state = 6 then s
  else
    let n := ch / 34
    let d := s.shed n
    let s := match d.mig.other (ch % 34) with
      | some i =>
        if c.state = 2 then s.setChan (n * 34 + i) { s.chan (n * 34 + i) with state := 1 }
        else if c.state = 7 then s.setChan (n * 34 + i) { s.chan (n * 34 + i) with state := 0 }
        else s
      | none => s
    let s := s.setShed n { d with mig := d.mig.without (ch % 34) }
    let s := s.setChan ch { c with state := 6 }
    let s := s.elog n { status := St.memUe, chan := ch % 34, loft := false, scrub := false, addr := 0 }
    (s.bumpDev (shedBase n + 0x110 + ch % 34 * 0x18) 1).report
      { status := St.memUe, cls := 7, sev := 2, unit := 2, id := ch }

/-- SHED_WRITE: a fifth failed retry fails the channel (R284, R294). -/
def execShedWrite (req : Nat) (ce ue : List Nat) (retryFail : Bool) (s : State) : Out :=
  .next (match s.req req with
    | some r =>
      if !r.atShed || decide (r.op ≠ .write) || s.behind req r then s
      else if retryFail then
        let s := match s.chanOf (spreadLc r.pa) with | some ch => s.failChan ch | none => s
        s.answer req r St.memUe []
      else
        let (s, st) := (s.findErrors r.pa r.len ce ue).memStore r.pa (lanesOf r.mask (r.data.take r.len))
        (s.answer req r st []).rearm
    | none => s)

def execShedAmo (req : Nat) (ce ue : List Nat) (s : State) : Out :=
  .next (match s.req req with
    | some r =>
      match r.op with
      | .amo op =>
        if !r.atShed || s.behind req r then s
        else
          let (s, st) := (s.findErrors r.pa r.len ce ue).shedLoad r.pa r.len
          if st ≠ St.ok then s.answer req r st []
          else
            let (old, new) := amoOn s.mem r.pa op r.len r.data
            ((s.memWrite r.pa new).answer req r St.ok old).rearm
      | _ => s
    | none => s)

/-- REFRESH changes no state that software can see (R292). -/
def execRefresh (_ch _sub _bank : Nat) (s : State) : Out := .next s

/-- The physical address at an offset of a logical channel: the inverse of R286. -/
def unspread (lc co : Nat) : Nat :=
  let hi := co / 4096 * 128
  (hi + (lc ^^^ spreadLc (hi * 4096))) * 4096 + co % 4096

/-- SCRUB_READ of an ACTIVE or SPARE channel (R293). A SPARE channel holds no physical address to log (DESIGN CHOICE, log 24). -/
def execScrubRead (ch co : Nat) (ecc : Ecc) (s : State) : Out :=
  .next (
    let c := s.chan ch
    if 2 ^ s.capLog2 ≤ co then s
    else if c.state = 0 then
      let blk := unspread (ch / 34 * 32 + c.lc) co / 64
      if ecc = .uncorrectable ∨ s.memUe.contains blk then s.uncorrectable St.memUe blk true true
      else if ecc = .corrected then s.correctable ch 1 else s
    else if c.state = 1 then
      match ecc with
      | .clean => s
      | .corrected => s.correctable ch 1
      | .uncorrectable =>
        let (v, s) := s.fresh
        let s := s.elog (ch / 34) { status := St.memUe, chan := ch % 34, loft := false, scrub := true, addr := v.toNat }
        (s.bumpDev (shedBase (ch / 34) + 0x110 + ch % 34 * 0x18) 1).detect St.memUe 7 1 2 ch
    else s)

/-! ### Bays (R26 to R31) -/

/-- Start a migration of a shed (R295): source MIGRATING, destination RECEIVING. A shed copies for one migration at a time (DESIGN CHOICE, log 24). -/
def State.startMig (s : State) (n src dst : Nat) : State :=
  let s := s.setChan (n * 34 + src) { s.chan (n * 34 + src) with state := 2 }
  let s := s.setChan (n * 34 + dst) { s.chan (n * 34 + dst) with state := 7, lc := (s.chan (n * 34 + src)).lc }
  let d := s.shed n
  s.setShed n { d with mig := if d.mig.active then { d.mig with queued := d.mig.queued ++ [(src, dst)] }
    else { d.mig with active := true, src := src, dst := dst, units := 0, end_ := St.ok } }

/-- The first SPARE channel of a shed. -/
def State.spareChan (s : State) (n : Nat) : Option Nat := (List.range 34).find? (fun i => (s.chan (n * 34 + i)).state = 1)

/-- A write of SHED_MIG_CTL: TACK only; START fails with MEM_MIG_STATE (R310). -/
def State.migWrite (s : State) (priv : Priv) (n : Nat) (v : Word) : State × Status :=
  let src := fld v 5 0
  let dst := fld v 13 8
  if priv ≠ .tack then (s, St.privilege)
  else
    let s := s.setDcsr (shedBase n + 0x40) (place 5 0 src ||| place 13 8 dst)
    if !bit v 16 then (s, St.ok)
    else if 34 ≤ src ∨ 34 ≤ dst ∨ (s.chan (n * 34 + src)).state ≠ 0 ∨ (s.chan (n * 34 + dst)).state ≠ 1 ∨ (s.shed n).mig.active then
      (s, St.memMigState)
    else (s.startMig n src dst, St.ok)

def execMigStart (priv : Priv) (shed : Nat) (v : Word) (s : State) : Out :=
  .next (let (t, st) := s.migWrite priv shed (v ||| place 16 16 1); t.respond st)

/-- MIG_UNIT_COPY: the pointer advances by one unit of 4 KiB. The contents, uncorrectable blocks included, stay with
their physical addresses (DESIGN CHOICE, log 24). -/
def execMigUnitCopy (shed : Nat) (s : State) : Out :=
  .next (
    let d := s.shed shed
    if d.mig.active ∧ d.mig.units * 4096 < 2 ^ s.capLog2 then
      s.setShed shed { d with mig := { d.mig with units := d.mig.units + 1 } }
    else s)

/-- MIGRATION_DONE: the destination becomes ACTIVE and the source RELEASED. -/
def execMigrationDone (shed : Nat) (s : State) : Out :=
  .next (
    let d := s.shed shed
    if d.mig.active ∧ d.mig.units * 4096 = 2 ^ s.capLog2 then
      let a := shed * 34 + d.mig.src
      let b := shed * 34 + d.mig.dst
      let s := s.setChan b { s.chan b with state := 0, lc := (s.chan a).lc }
      let s := s.setChan a { s.chan a with state := 3 }
      s.setShed shed { d with mig := d.mig.ended St.ok }
    else s)

/-- LATCH_OPEN (R30) (DESIGN CHOICE, log 24). -/
def execLatchOpen (bay : Nat) (s : State) : Out :=
  .next (
    let c := s.chan bay
    if c.state = 3 ∨ c.state = 6 ∨ c.state = 4 then s.setChan bay { c with state := 4, dimm := none }
    else
      let s := if c.state = 5 then s.setChan bay { c with state := 6 } else s.failChan bay
      let s := s.setChan bay { s.chan bay with last := St.bayLockFault, state := 6 }
      s.report { status := St.bayLockFault, cls := 7, sev := 2, unit := 2, id := bay })

/-- LATCH_CLOSE of an EMPTY bay: the rules for a module inserted under power (R27, R31). -/
def execLatchClose (bay : Nat) (dimm : Option Dimm) (s : State) : Out :=
  .next (
    let c := s.chan bay
    if c.state ≠ 4 then s
    else
      match dimm with
      | none => s.setChan bay { c with last := St.dimmNotPresent, dimm := none }
      | some d =>
        if d.slow ∧ !s.slowMem then s.setChan bay { c with last := St.dimmSpeed, dimm := dimm }
        else if d.capLog2 < s.capLog2 then s.setChan bay { c with last := St.dimmCapacity, dimm := dimm }
        else s.setChan bay { c with state := 5, last := St.ok, dimm := dimm })

/-- ADMIT_DONE (R31, R284): a module outside the supported subset fails. -/
def execAdmitDone (bay : Nat) (ok : Bool) (s : State) : Out :=
  .next (
    let c := s.chan bay
    if c.state ≠ 5 then s
    else if ok && (match c.dimm with | some d => d.supported | none => false) then
      s.setChan bay { c with state := 1, last := St.ok }
    else s.setChan bay { c with state := 4, last := St.dimmTrainFail })

end Sys2Proof.Machine
end

