-- ==== Sys2Proof/Machine/Tile.lean ====
section
/-! DEFINITION. Tile registers: storage, the debug view, owners, records and their registers (R140 to R172); and the reads of
registers whose fields a read clears (R5, R6). -/

namespace Sys2Proof.Machine

/-! ### Registers that a read clears -/

/-- A read of a plain stall register: PRIVILEGE for TASK, fields of type RC cleared (R5, R138). A stall that is not in RUN
answers once it has woken (R530). -/
def State.readStall (s : State) (priv : Priv) (ps o : Nat) : State :=
  if (s.stall ps).pstate ≠ .run then s
  else if priv = .task then s.respond St.privilege
  else
    let v := s.scsr ps o
    match findReg stallRegs o with
    | some k => (s.setScsr ps o (k.afterRead v)).rearm.respond St.ok v
    | none => s.respond St.ok 0

/-- A read of a plain register of device CSR space. -/
def State.readDev (s : State) (priv : Priv) (o : Nat) : State :=
  if priv = .task then s.respond St.privilege
  else
    let v := s.dcsr o
    match devBlk o with
    | some (b, w) =>
      (match findReg b.regs w with
       | some k => (s.setDcsr o (k.afterRead v)).rearm.respond St.ok v
       | none => s.respond St.ok 0)
    | none => s.respond St.ok 0

def execHeldDropRead (priv : Priv) (ps : Nat) (s : State) : Out := .next (s.readStall priv ps 0x220)
def execBankwaitRead (priv : Priv) (ps : Nat) (s : State) : Out := .next (s.readStall priv ps 0x228)
def execTshapeRecRead (priv : Priv) (ps : Nat) (s : State) : Out := .next (s.readStall priv ps 0x1200)
def execTileCeRead (priv : Priv) (ps : Nat) (s : State) : Out := .next (s.readStall priv ps 0x1210)
def execTileFbRead (priv : Priv) (ps : Nat) (s : State) : Out := .next (s.readStall priv ps 0x1218)
def execArrRescntRead (priv : Priv) (ps : Nat) (s : State) : Out := .next (s.readStall priv ps 0x1430)
def execArrParcntRead (priv : Priv) (ps : Nat) (s : State) : Out := .next (s.readStall priv ps 0x1438)
def execSpRecRead (priv : Priv) (ps : Nat) (s : State) : Out := .next (s.readStall priv ps 0x1600)
def execSpSkipcntRead (priv : Priv) (ps : Nat) (s : State) : Out := .next (s.readStall priv ps 0x1608)
def execGthRecRead (priv : Priv) (ps : Nat) (s : State) : Out := .next (s.readStall priv ps 0x1700)
def execGthCoalRead (priv : Priv) (ps : Nat) (s : State) : Out := .next (s.readStall priv ps 0x1710)
def execGthOobcntRead (priv : Priv) (ps : Nat) (s : State) : Out := .next (s.readStall priv ps 0x1718)
def execGthAddrejRead (priv : Priv) (ps : Nat) (s : State) : Out := .next (s.readStall priv ps 0x1720)
def execXlatMissRead (priv : Priv) (ps : Nat) (s : State) : Out := .next (s.readStall priv ps 0x1800)
def execLoftFbRead (priv : Priv) (ps : Nat) (s : State) : Out := .next (s.readStall priv ps 0x1808)
def execTrTiedRead (priv : Priv) (ps : Nat) (s : State) : Out := .next (s.readStall priv ps 0x1A40)

/-! ### Rows (R140, R145 to R147) -/

def tileAt (t r : Nat) : Nat := t * 65536 + r * 512

def TReg.rowLen (x : TReg) : Nat := Machine.rowLen x.fmt x.cols
def TReg.written (x : TReg) (r : Nat) : Bool := x.mask.getLsbD r

/-- A row as every reader sees it: zero when it has not been written. -/
def Stall.tileRow (st : Stall) (t r : Nat) : List Byte :=
  let x := st.treg t
  if x.state ≠ .unconf ∧ x.written r then readBytes st.tile (tileAt t r) x.rowLen else List.replicate x.rowLen 0

/-- Whether every byte of a 64-bit part below the row length lies within a write. -/
def partWhole (rl c n part : Nat) : Bool := decide (c ≤ part * 8 ∧ min (part * 8 + 8) rl ≤ c + n ∧ part * 8 < rl)

/-- Write lanes into a row from a byte on: those at or beyond the row length are discarded; a part written whole is good
again, and what lies beyond the row length in it is zero (R141, R170). -/
def Stall.tilePut (st : Stall) (t r c : Nat) (lanes : List (Option Byte)) : Stall :=
  let rl := (st.treg t).rowLen
  let l := lanes.take (rl - c)
  let solid := fun p => (List.range 8).all (fun i => decide (rl ≤ p * 8 + i) || (decide (c ≤ p * 8 + i) && (l.getD (p * 8 + i - c) none).isSome))
  let m := writeLanes st.tile (tileAt t r + c) l
  let m := if rl % 8 ≠ 0 ∧ solid (rl / 8) then writeBytes m (tileAt t r + rl) (List.replicate (8 - rl % 8) 0) else m
  { st with tile := m, tileUe := st.tileUe.filter (fun p =>
      !(decide (tileAt t r / 8 ≤ p ∧ p < tileAt t r / 8 + 64) && decide (p % 64 * 8 < rl) && solid (p % 64))) }

/-- A row is written: its bit is set and the register is DEFINED (R145, R147). -/
def Stall.rowDone (st : Stall) (t r : Nat) : Stall :=
  let x := st.treg t
  st.setTreg t { x with state := .defined, mask := x.mask ||| BitVec.ofNat 128 (2 ^ r) }

/-- A whole row. -/
def Stall.rowWrite (st : Stall) (t r : Nat) (bs : List Byte) : Stall := (st.tilePut t r 0 (bs.map some)).rowDone t r

/-! ### Errors (R159, R170) -/

/-- Bank and entry of a byte of tile storage; 64 is the repair bank. -/
def bankOf (spare : Option Nat) (t r byte : Nat) : Nat × Nat :=
  let b := 16 * ((r + t) % 4) + (byte / 32 + r / 4) % 16
  (if spare = some b then 64 else b, t * 32 + r / 4)

/-- The first uncorrectable part that a read of row bytes meets: its byte in the row. -/
def Stall.tileBad (st : Stall) (t r c n : Nat) : Option Nat :=
  let x := st.treg t
  if x.state ≠ .unconf ∧ x.written r then
    ((List.range 64).find? (fun p => st.tileUe.contains (tileAt t r / 8 + p) && decide (p * 8 < min (c + n) x.rowLen ∧ c < p * 8 + 8))).map (· * 8)
  else none

/-- An uncorrectable tile word has been consumed: STALL_TILE_ERR and the error record. -/
def State.tileUeFound (s : State) (ps t r byte : Nat) : State :=
  let (b, e) := bankOf (s.stall ps).bank t r byte
  let s := s.modScsr ps 0x1208 (fun w => if bit w 0 then w else place 0 0 1 ||| place 14 8 b ||| place 24 16 e)
  s.detect St.tileDataUe 3 1 1 ps b

/-- What SECDED finds in one part of a row on a read of it. -/
def State.tileEcc (s : State) (ps t r byte : Nat) : Ecc → State
  | .clean => s
  | .corrected => (s.bumpStall ps 0x1210 1).detect St.tileDataUe 3 0 1 ps (bankOf (s.stall ps).bank t r byte).1
  | .uncorrectable => s.modStall ps (fun st =>
      let p := (tileAt t r + byte) / 8
      if st.tileUe.contains p then st else { st with tileUe := st.tileUe ++ [p] })

/-! ### Owners and the shape record (R148, R153) -/

/-- A started command names a tile register. -/
def CmdCtx.names (c : CmdCtx) (t : Nat) : Bool := c.fail.isNone && opTile c.args.op && decide (c.args.treg = t)

/-- OWNERS of a register. -/
def Stall.owners (st : Stall) (t : Nat) : Nat :=
  [0, 1, 3].foldl (fun n q => n + (if (st.queue q).ctxs.any (fun c => c.names t) then 2 ^ q else 0)) 0
    + (if st.arr.inflight.any (fun c => c.reads.contains t || c.writes.contains t) then 4 else 0)

/-- STALL_TSHAPE_REC for a register and what a command required. -/
def State.tshape (s : State) (ps q t rr rc rf_ : Nat) : State :=
  let x := (s.stall ps).treg t
  s.modScsr ps 0x1200 (fun w => overrun w (place 3 0 t ||| place 6 4 q ||| place 15 8 x.rows ||| place 26 16 x.cols |||
    place 30 27 x.fmt ||| place 39 32 (min rr 255) ||| place 50 40 (min rc 2047) ||| place 54 51 rf_ ||| place 63 63 1))

/-! ### The debug view (R141) -/

/-- Rows that a range of the debug view touches: register, row, first byte and count. -/
def dbgRows (off n : Nat) : List (Nat × Nat × Nat × Nat) :=
  if n = 0 then []
  else (List.range ((off + n - 1) / 512 - off / 512 + 1)).map (fun k =>
    let b := (off / 512 + k) * 512
    let lo := max off b
    (b / 65536, b % 65536 / 512, lo - b, min (off + n) (b + 512) - lo))

/-- A read of the debug view: contents or zero, or TILE_DATA_UE and no data. -/
def State.tileDbgRead (s : State) (ps off n : Nat) (ecc : Ecc) : State × Status × List Byte :=
  if 0x100000 < off + n then (s, St.memRange, [])
  else
    let rows := dbgRows off n
    let s := match rows with
      | (t, r, c, _) :: _ => if ((s.stall ps).treg t).state ≠ .unconf ∧ ((s.stall ps).treg t).written r then s.tileEcc ps t r c ecc else s
      | [] => s
    let st := s.stall ps
    match rows.find? (fun x => (st.tileBad x.1 x.2.1 x.2.2.1 x.2.2.2).isSome) with
    | some (t, r, c, k) => (s.tileUeFound ps t r ((st.tileBad t r c k).getD 0), St.tileDataUe, [])
    | none => (s, St.ok, rows.flatMap (fun x =>
        let row := st.tileRow x.1 x.2.1
        (List.range x.2.2.2).map (fun i => row.getD (x.2.2.1 + i) 0)))

/-- A write of the debug view by lanes: TILE_UNCONF, TILE_BUSY, or row bytes and written bits. -/
def State.tileDbgWrite (s : State) (ps off : Nat) (lanes : List (Option Byte)) : State × Status :=
  if 0x100000 < off + lanes.length then (s, St.memRange)
  else
    let rows := dbgRows off lanes.length
    let st := s.stall ps
    if rows.any (fun x => decide ((st.treg x.1).state = .unconf)) then (s, St.tileUnconf)
    else if rows.any (fun x => decide (st.owners x.1 ≠ 0)) then (s, St.tileBusy)
    else
      (s.setStall ps (rows.foldl (fun st x =>
        let l := (lanes.drop (x.1 * 65536 + x.2.1 * 512 + x.2.2.1 - off)).take x.2.2.2
        if (l.take ((st.treg x.1).rowLen - x.2.2.1)).any Option.isSome then
          (st.tilePut x.1 x.2.1 x.2.2.1 l).rowDone x.1 x.2.1
        else st) st), St.ok)

/-- TILE_DEBUG_READ by a sender that R76 lets in. -/
def execTileDebugRead (_priv : Priv) (ps off len : Nat) (ecc : Ecc) (s : State) : Out :=
  .next (if (s.stall ps).pstate ≠ .run then s else let (t, st, bs) := s.tileDbgRead ps off len ecc; t.respond st 0 bs)

def execTileDebugWrite (_priv : Priv) (ps off : Nat) (data : List Byte) (s : State) : Out :=
  .next (if (s.stall ps).pstate ≠ .run then s else let (t, st) := s.tileDbgWrite ps off (data.map some); t.respond st)

/-- The queue whose command a collector serves (R160): GATHER when the load or store queue runs none. -/
def State.collQueue (s : State) (ps coll : Nat) : Nat :=
  if coll ≤ 3 then 2 else if (s.queue ps (coll - 4)).ctxs = [] then 3 else coll - 4

/-- COLLECTOR_FALLBACK (R161). -/
def execCollectorFallback (ps coll : Nat) (s : State) : Out :=
  .next (let pr := ((s.queue ps (s.collQueue ps coll)).lists.head?.map (·.priv)).getD .kernel
    (s.bumpStall ps 0x1218 1).perf ps 0x28 (some pr) none none 1)

/-! ### The row-progress record (R168, R171) -/

/-- STALL_TPROGt and STALL_TSTATt as they read. -/
def Stall.tprog (st : Stall) (t : Nat) : Word :=
  let x := st.treg t
  place 0 0 (b2n x.pend) ||| place 3 1 x.pq ||| place 23 8 x.pcmd ||| place 38 32 x.pnext

def tstateNum : TState → Nat
  | .unconf => 0 | .empty => 1 | .defined => 2

def Stall.tstat (st : Stall) (t : Nat) : Word :=
  let x := st.treg t
  place 1 0 (tstateNum x.state) ||| place 15 8 x.rows ||| place 26 16 x.cols ||| place 31 28 x.fmt ||| place 36 32 (st.owners t)

/-- A write of STALL_TPROGt: TILE_BUSY while the register has an owner. -/
def State.tprogWrite (s : State) (priv : Priv) (ps t : Nat) (v : Word) : State × Status :=
  if priv = .task then (s, St.privilege)
  else if (s.stall ps).owners t ≠ 0 then (s, St.tileBusy)
  else (s.modStall ps (fun st => st.setTreg t { st.treg t with
      pend := bit v 0, pq := fld v 3 1, pcmd := fld v 23 8, pnext := fld v 38 32 }), St.ok)

def execTprogWrite (priv : Priv) (ps t : Nat) (v : Word) (s : State) : Out :=
  .next (if (s.stall ps).pstate ≠ .run then s else let (t', st) := s.tprogWrite priv ps t v; t'.respond st)

end Sys2Proof.Machine
end

