-- ==== Sys2Proof/Machine/Elem.lean ====
section
/-! DEFINITION. The elements that load, store and gather commands move: conversion, derivatives, contributions of SCADD,
conversion statistics and map building (R154 to R158, R210, R253, R276, R277, R319, R416, R427 to R430). -/

namespace Sys2Proof.Machine

/-! ### Conversion statistics (R427 to R430) -/

/-- The oldest flush in flight ends: three adds to the statistics table, or its counts are lost (R428, R429). -/
def State.flushDone (s : State) (ps : Nat) (fail : Bool) : State :=
  match (s.stall ps).flushing with
  | [] => s
  | t :: rest =>
    let s := s.modStall ps (fun x => { x with flushing := rest })
    let w := s.scsr ps 0x1A20
    let at_ := fld w 44 12 * 4096 + t.half * 12288 + t.lgrp * 192 + t.fmt * 24
    let (st, bs) := s.devRead at_ 24
    if fail || decide (st ≠ St.ok) then s.orStall ps 0x1A38 1
    else
      let add := fun i n => leBytes 8 ((leNat ((bs.drop (8 * i)).take 8) + n) % 2 ^ 64)
      s.memWrite at_ (add 0 t.nconv ++ add 1 t.novf ++ add 2 t.nflush)

/-- Send a triple to memory: the fifth flush waits for the oldest of four. While EN = 0 the counts are discarded. -/
def State.flushTriple (s : State) (ps : Nat) (t : Triple) : State :=
  let s := s.modStall ps (fun x => { x with triples := x.triples.filter (fun u => !(decide (u.half = t.half ∧ u.lgrp = t.lgrp ∧ u.fmt = t.fmt))) })
  if !bit (s.scsr ps 0x1A20) 0 then s
  else
    let s := if 4 ≤ (s.stall ps).flushing.length then s.flushDone ps false else s
    s.modStall ps (fun x => { x with flushing := x.flushing ++ [t] })

/-- Count conversions under a target format and the layer group of their list (R427). -/
def State.countConv (s : State) (ps lgrp fmt n ov fl : Nat) : State :=
  if n = 0 ∨ !bit (s.scsr ps 0x1A20) 0 then s
  else
    let half := fld (s.scsr ps 0x1A10) 55 0 % 2
    let hit := fun (u : Triple) => decide (u.half = half ∧ u.lgrp = lgrp ∧ u.fmt = fmt)
    let old := (s.stall ps).triples.find? hit
    let s := match old with
      | some _ => s
      | none => match (s.stall ps).triples.drop 15 with
        | u :: _ => s.flushTriple ps u
        | [] => s
    let t := old.getD { half := half, lgrp := lgrp, fmt := fmt }
    let t := { t with nconv := t.nconv + n, novf := t.novf + ov, nflush := t.nflush + fl }
    let s := s.modStall ps (fun x => { x with triples := t :: x.triples.filter (fun u => !hit u) })
    if 2 ^ 31 ≤ t.nconv ∨ 2 ^ 31 ≤ t.novf ∨ 2 ^ 31 ≤ t.nflush then s.flushTriple ps t else s

/-- What narrowing did to a list of elements: saturations, NaN to zero, flushes. -/
def narrowCounts (l : List Narrow) : Nat × Nat × Nat :=
  (l.count .saturated, l.count .nanToZero, l.count .flushed)

/-- Flags of STALL_NUM_FLAGS and the statistics of converted elements (R210, R427); `stat` are those that count. -/
def State.converted (s : State) (ps lgrp fmt : Nat) (all stat : List Narrow) : State :=
  let (a, b, _) := narrowCounts all
  let s := if a = 0 ∧ b = 0 then s else s.orStall ps 0x1500 (place 3 3 (b2n (decide (a ≠ 0))) ||| place 0 0 (b2n (decide (b ≠ 0))))
  let (c, d, e) := narrowCounts stat
  s.countConv ps lgrp fmt stat.length (c + d) e

/-! ### Loaded elements -/

/-- A code of packed elements in a byte map. -/
def codeIn (m : Map Byte) (base fmt k : Nat) : Nat :=
  if fmt = 5 then (Map.get zeroB m (base + k / 2)).toNat / 16 ^ (k % 2) % 16
  else readLe m (base + k * fmtBytes fmt) (fmtBytes fmt)

/-- A byte of the stream as it was delivered: landed, or PAD outside the window. -/
def CmdCtx.byteAt (c : CmdCtx) (p : Nat) : Byte :=
  if c.args.str.inWin p then Map.get zeroB c.buf p else c.args.str.padByte p

/-- The part that stands for a position of the main stream. -/
def CmdCtx.partAt (c : CmdCtx) (p : Nat) : Option Part :=
  c.parts.find? (fun x => decide ((x.kind = .main ∨ x.kind = .alt ∨ x.kind = .zero) ∧ x.pos ≤ p ∧ p < x.pos + x.plen))

/-- Number of element (i, j) in its stream (R157). -/
def CmdArgs.elemNo (a : CmdArgs) (i j : Nat) : Nat := if a.transp then j * a.rows + i else i * a.cols + j

/-- Element (i, j) as loaded: its code, its format, and whether it was read rather than generated. -/
def CmdCtx.loaded (c : CmdCtx) (i j : Nat) : Nat × Nat × Bool :=
  let a := c.args
  let k := a.elemNo i j
  let p := k * fmtBits a.mfmt / 8
  let code := if a.mfmt = 5 then (c.byteAt p).toNat / 16 ^ (k % 2) % 16
    else leNat ((List.range (fmtBytes a.mfmt)).map (fun x => c.byteAt (p + x)))
  if !a.str.inWin p then (code, a.mfmt, false)
  else
    match c.partAt p with
    | some x =>
      match x.kind with
      | .alt =>
        let f := (a.loft.bind (·.altFmt)).getD a.mfmt
        (codeIn c.buf (2 ^ 34) f k, f, true)
      | .zero => (0, a.mfmt, false)
      | _ => (code, a.mfmt, true)
    | none => (code, a.mfmt, false)

/-! ### The derivative unit (R416) -/

def rnd32 (x : Num) : Num := fp32.decode (ieeeRound fp32 0 false x).1
def one32 : Num := .fin false 1 0

/-- base-2 logarithm of e, as a multiple of 2^-100. -/
def log2e : Nat := 1828833234529184422442202814989

/-- e^(-y), within a relative error of 2^-22: a free value inside the bound, or the rounded value where there is none (DESIGN CHOICE, log 13). -/
def expNeg (y : Num) : Num :=
  match y with
  | .nan => .nan
  | .inf n => if n then .inf false else .fin false 0 0
  | .fin n m e =>
    let ref := (estimateRef 2 (.fin (!n) (m * log2e) (e - 100))).1
    let c := fp32.decode (Config.expNeg (ieeeRound fp32 0 false y).1 % 2 ^ 32)
    match ref, c with
    | .fin _ rm re, .fin cn cm ce =>
      let q := min re ce
      let a := sigAt false rm re q
      let d := (sigAt cn cm ce q - a).natAbs
      if d * 2 ^ 22 < a.natAbs then c else rnd32 ref
    | _, _ => rnd32 ref

/-- d of an activation from its output y. -/
def derivOfY (func alpha : Nat) (y : Num) : Num :=
  let pos := Num.lt (.fin false 0 0) y
  if y.isNaN then .nan
  else
    match func with
    | 0 => if pos then one32 else .fin false 0 0
    | 1 => if pos then one32 else fp32.decode alpha
    | 2 => rnd32 (Num.mul y (rnd32 (Num.add 0 one32 y.neg).1)).1
    | 3 => rnd32 (Num.add 0 one32 (Num.mul y y).1.neg).1
    | 4 => rnd32 (Num.add 0 one32 (expNeg y).neg).1
    | _ => if pos then one32 else rnd32 (Num.add 0 y (fp32.decode alpha)).1

/-- dZ of one element in BF16. -/
def derivCode (d : DerivRec) (dy y : Nat) : Nat × Narrow :=
  let yv := ((fmtFloat d.yfmt).getD bf16).decode y
  let g := rnd32 (Num.mul (bf16.decode dy) (derivOfY d.func d.alpha yv)).1
  let (c, n, _) := satRound bf16 g
  (c, n)

/-! ### Rows -/

/-- Tile row i of an LDTILE: its codes, and what the conversions did: all, and those that count. -/
def CmdCtx.loadRow (c : CmdCtx) (i : Nat) : List Nat × List Narrow × List Narrow :=
  let a := c.args
  let l := (List.range a.cols).map (fun j =>
    let (code, f, read) := c.loaded i j
    match a.deriv with
    | some d =>
      if read then
        let (z, n) := derivCode d code (codeIn c.buf (2 ^ 33) d.yfmt (a.elemNo i j))
        (z, n, true)
      else ((convCode f a.fmt code).1, (convCode f a.fmt code).2, false)
    | none =>
      let (z, n) := convCode f a.fmt code
      (z, n, read && counted f a.fmt))
  (l.map (·.1), l.map (·.2.1), l.filterMap (fun x => if x.2.2 then some x.2.1 else none))

/-- Bytes of row i1 of entry e of a gather: its leader's block, PAD in the block, zero for a ZERO entry. -/
def CmdCtx.entryRow (c : CmdCtx) (e i1 : Nat) : List Byte :=
  let a := c.args
  match (a.ents.getD e ⟨0, none, false, 0⟩).lead with
  | none => List.replicate a.str.n0 0
  | some l => (List.range a.str.n0).map (fun x =>
      let p := i1 * a.str.n0 + x
      if a.str.inBlock p then Map.get zeroB c.buf (l * a.blockLen + p) else a.str.padByte p)

/-- Whether a tile-side element is not ±0: NaN and infinity count as occupied (R253). -/
def occupied (fmt code : Nat) : Bool :=
  if (fmtFloat fmt).isSome then decide (code % 2 ^ (fmtBits fmt - 1) ≠ 0) else decide (code ≠ 0)

/-- Set the map bits of one register row under BUILD (DEDUCED, log 28). -/
def State.buildRow (s : State) (ps : Nat) (b : BuildRec) (fmt row : Nat) (codes : List Nat) : State :=
  let cs := if b.cols then codes.zipIdx.filterMap (fun p => if occupied fmt p.1 then some (p.2 * b.kpr / 2 ^ b.chunkLog2) else none)
    else if codes.any (occupied fmt) then [row * b.kpr / 2 ^ b.chunkLog2] else []
  cs.foldl (fun s c => if c < b.chunks then
      s.scrWrite ps (b.mapAt + c / 8) [Map.get zeroB (s.stall ps).scratch (b.mapAt + c / 8) ||| BitVec.ofNat 8 (2 ^ (c % 8))]
    else s) s

/-- Copy the selects of one row to scratch; bytes past its end are dropped (R245). -/
def State.putSelects (s : State) (ps : Nat) (c : CmdCtx) (i : Nat) : State :=
  match c.args.sel with
  | none => s
  | some m =>
    let n := m.rowLen c.args.cols
    let to_ := m.data + (c.args.row0 + i) * m.rowBytes + m.col0 * m.b / 8
    s.scrWrite ps to_ ((readBytes c.buf (2 ^ 35 + i * n) n).take (0x400000 - to_))

/-! ### Stored elements -/

/-- A tile byte position that a stream position of a store reads: register row and byte. -/
def CmdArgs.srcAt (a : CmdArgs) (p : Nat) : Nat × Nat :=
  if opGather a.op then
    (a.row0 + p / a.blockLen * a.str.n1 + p % a.blockLen / a.str.n0,
     if a.op = 0x84 then p % a.str.n0 / 8 * fmtBytes a.fmt else p % a.str.n0)
  else
    let k := p * 8 / fmtBits a.mfmt
    let i := if a.transp then k % a.rows else k / a.cols
    let j := if a.transp then k / a.rows else k % a.cols
    (a.row0 + i, j * fmtBits a.fmt / 8)

/-- Element k of an STTILE stream, converted for memory. -/
def Stall.storeElem (st : Stall) (a : CmdArgs) (k : Nat) : Nat × Narrow :=
  let i := if a.transp then k % a.rows else k / a.cols
  let j := if a.transp then k / a.rows else k % a.cols
  convCode a.fmt a.mfmt (codeAt a.fmt (st.tileRow a.treg (a.row0 + i)) j)

/-- Byte p of an STTILE stream. -/
def Stall.storeByte (st : Stall) (a : CmdArgs) (p : Nat) : Byte :=
  let z := fmtBytes a.mfmt
  if a.mfmt = 5 then BitVec.ofNat 8 ((st.storeElem a (2 * p)).1 % 16 + (st.storeElem a (2 * p + 1)).1 % 16 * 16)
  else BitVec.ofNat 8 ((st.storeElem a (p / z)).1 / 256 ^ (p % z))

/-- Elements of an STTILE stream whose first byte lies in a range. -/
def CmdArgs.elemsIn (a : CmdArgs) (p n : Nat) : List Nat :=
  if a.mfmt = 5 then (List.range (2 * n)).map (· + 2 * p)
  else
    let z := fmtBytes a.mfmt
    (List.range (cdiv (p + n) z - cdiv p z)).map (· + cdiv p z)

/-- A contribution of SCADD: none when it is rejected (R276). -/
def contribution (fmt : Nat) (ascale : Int) (code : Nat) : Option Int :=
  match fmtFloat fmt with
  | none => some (toSigned 32 code)
  | some f =>
    match f.decode code with
    | .fin n m e =>
      let t := (roundAt 0 n m (e - ascale) 0).1
      if t < 2 ^ 56 then some (if n then -(t : Int) else t) else none
    | _ => none

/-- The contribution of entry e to an element of its block. -/
def Stall.contrib (st : Stall) (a : CmdArgs) (e i1 col : Nat) : Option Int :=
  contribution a.fmt a.ascale (codeAt a.fmt (st.tileRow a.treg (a.row0 + e * a.str.n1 + i1)) col)

/-- Entries that a leader's request serves. -/
def CmdArgs.served (a : CmdArgs) (l : Nat) : List Nat :=
  a.ents.zipIdx.filterMap (fun p => if p.1.lead = some l then some p.2 else none)

/-- Contributions of one entry that are rejected: elements that receive an add, whose value is not accepted (R277). -/
def Stall.rejects (st : Stall) (a : CmdArgs) (e : Nat) : Nat :=
  match (a.ents.getD e ⟨0, none, false, 0⟩).lead with
  | none => 0
  | some _ => ((List.range a.str.n1).flatMap (fun i => (List.range a.cols).filter (fun c =>
      a.str.inBlock (i * a.str.n0 + c * 8) && a.str.inBlock (i * a.str.n0 + c * 8 + 7) && (st.contrib a e i c).isNone))).length

end Sys2Proof.Machine
end

