-- ==== Sys2Proof/Machine/Link.lean ====
section
/-! DEFINITION. Link ports and gates: lanes, training, packets on the wire, credits, replay, routing, and the tracker of global
requests (R321 to R338, R346). -/

namespace Sys2Proof

/-! ### Packets (R327, R328) -/

/-- Requests and responses use pools of their own. -/
def Packet.isReq (p : Packet) : Bool := !decide (0x10 ≤ p.typ ∧ p.typ ≤ 0x12)

/-- Types that R328 assigns to forwarded packets. -/
def typAssigned (t : Nat) : Bool := decide (1 ≤ t ∧ t ≤ 3) || decide (0x10 ≤ t ∧ t ≤ 0x12) || decide (0x20 ≤ t ∧ t ≤ 0x3F)

/-- Types that some unit of this device takes. -/
def typTaken (t : Nat) : Bool :=
  decide (1 ≤ t ∧ t ≤ 3) || decide (0x10 ≤ t ∧ t ≤ 0x12) || decide (0x20 ≤ t ∧ t ≤ 0x22) || decide (t = 0x30 ∨ t = 0x31)

/-- Bytes on the link: header, payload, signal extension, trailer. -/
def Packet.wireBytes (p : Packet) : Nat := 40 + p.data.length + (if p.last then 16 else 0)

/-- Credits of a packet (R329). -/
def Packet.credits (p : Packet) : Nat := cdiv p.wireBytes 64

/-- Pool of a packet on a virtual channel: REQ0, REQ1, RSP0, RSP1. -/
def Packet.pool (p : Packet) (vc1 : Bool) : Nat := (if p.isReq then 0 else 2) + b2n vc1

end Sys2Proof

namespace Sys2Proof.Machine

/-- The response to a request: RD_RSP to a read, ACK to every other. A gate on the way answers in the place of the destination (DEDUCED, log 36). -/
def State.responseTo (s : State) (p : Packet) (st : Status) (data : List Byte) : Packet :=
  { typ := if p.typ = 1 then 0x10 else 0x11, priv := p.priv, hops := fld (s.dcsr (gateBase 0 + 8)) 4 0, dst := p.src, src := p.dst,
    len := data.length, group := p.group, xfer := p.xfer, pkt := p.pkt, trk := p.trk, tag := p.tag, gen := p.gen, status := st, data := data }

/-- Hand a packet to a gate's routing. -/
def State.toGate (s : State) (n : Nat) (p : Packet) : State := s.modGate n (fun g => { g with inq := g.inq ++ [p] })

/-- Answer a request from a gate. -/
def State.reply (s : State) (n : Nat) (p : Packet) (st : Status) (data : List Byte := []) : State :=
  s.toGate n (s.responseTo p st data)

/-! ### The tracker (R336, R337) -/

def Gate.entry (g : Gate) (tag : Nat) : Option Trk := Map.get noneOf g.trk tag
def Gate.setEntry (g : Gate) (tag : Nat) (e : Option Trk) : Gate := { g with trk := Map.set noneOf g.trk tag e }

/-- Entries in use. -/
def Gate.entries (g : Gate) : List (Nat × Trk) := g.trk.filterMap (fun p => p.2.map (fun t => (p.1, t)))

/-- Entries of the transfer of a packet: the packet itself when it belongs to none. -/
def sameTransfer (p q : Packet) : Bool :=
  if p.trk then q.trk && decide (q.dst = p.dst ∧ q.xfer = p.xfer) else decide (q = p)

/-- A transfer that a target has refused is held at the gate (DESIGN CHOICE, log 35). -/
def Gate.transferHeld (g : Gate) (p : Packet) : Bool := p.trk && g.entries.any (fun e => e.2.held && sameTransfer p e.2.pkt)

/-- Writes that a gate retains, in KiB: a multicast write is kept once (R343). -/
def Gate.retained (g : Gate) : Nat :=
  let l := g.entries.filterMap (fun e => if e.2.pkt.typ = 2 then
      (match e.2.owner with
       | .copy ps x k _ => some (ps * 2 ^ 32 + x * 2 ^ 16 + k, e.2.pkt.data.length)
       | _ => some (2 ^ 48 + e.1, e.2.pkt.data.length)) else none)
  cdiv (l.eraseDups.foldl (fun n x => n + x.2) 0) 1024

/-- GATE_STAT. -/
def State.gateStat (s : State) (n : Nat) : Word :=
  let g := s.gate n
  place 13 0 g.entries.length ||| place 29 16 g.retained ||| place 42 32 g.xfers.length

/-- A gate may use a free index for a request: the response to an entry of another gate differs in TAG, GEN or device (R337) (DEDUCED, log 36). -/
def State.tagFree (s : State) (n dst t : Nat) : Bool :=
  ((s.gate n).entry t).isNone &&
  [0, 1, 2, 3].all (fun k => match (s.gate k).entry t with
    | some e => decide (k = n ∨ e.gen ≠ Map.get zeroN (s.gate n).gens t ∨ e.pkt.dst ≠ dst)
    | none => true)

/-- Lowest such index of `fuel` from `t` on (DEDUCED, log 36). -/
def State.freeTag (s : State) (n dst : Nat) : Nat → Nat → Option Nat
  | 0, _ => none
  | fuel + 1, t => if s.tagFree n dst t then some t else s.freeTag n dst fuel (t + 1)

/-- Enter a global request of this device in a gate's tracker and send it; a transfer that is held holds it as well. None while
the tracker is full. -/
def State.gateSend (s : State) (n : Nat) (owner : TrkOwner) (p : Packet) : Option State :=
  let g := s.gate n
  match s.freeTag n p.dst 8192 0 with
  | none => none
  | some t =>
    let gen := Map.get zeroN g.gens t
    let p := { p with tag := t, gen := gen, src := s.devid, vc1 := false, hops := fld (s.dcsr (gateBase n + 8)) 4 0 }
    let held := g.transferHeld p
    let e : Trk := { owner := owner, gen := gen, pkt := p, at_ := s.clk, held := held, heldAt := s.clk }
    let g := { (g.setEntry t (some e)) with gens := Map.set zeroN g.gens t ((gen + 1) % 4) }
    let s := s.setGate n g
    some (if held then s else s.toGate n p)

/-- Send a request of one of the device's own units, or keep it until the tracker has room. -/
def State.gateSubmit (s : State) (n : Nat) (owner : TrkOwner) (p : Packet) : State :=
  match s.gateSend n owner p with
  | some t => t
  | none => s.modGate n (fun g => { g with waitq := g.waitq ++ [(owner, p)] })

/-- Take the first request that waits for a tracker entry. -/
def State.gateAdmit (s : State) (n : Nat) : State :=
  match (s.gate n).waitq with
  | [] => s
  | (o, p) :: l => ((s.modGate n (fun g => { g with waitq := l })).gateSend n o p).getD s

/-- The entry that a response matches: by TAG, GEN and the device that answers, in the gate it came to or in another (R337) (DEDUCED, log 36). -/
def State.matchTrk (s : State) (n : Nat) (p : Packet) : Option (Nat × Trk) :=
  ([n] ++ (List.range 4).filter (· ≠ n)).findSome? (fun k =>
    match (s.gate k).entry p.tag with
    | some e => if e.gen = p.gen ∧ e.pkt.dst = p.src then some (k, e) else none
    | none => none)

/-! ### Ports (R322 to R326) -/

def Port.carries (p : Port) : Bool := decide (p.state = .up ∨ p.state = .degraded)

def portNum : PortSt → Nat
  | .disabled => 0 | .training => 1 | .up => 2 | .degraded => 3 | .down => 4 | .failed => 5

/-- Lanes in use. -/
def Port.inUse (p : Port) : List Nat :=
  match p.state with
  | .up => if p.spareUsed then ((List.range 9).filter (fun l => p.good.getLsbD l)).take 8 else List.range 8
  | .degraded => ((List.range 9).filter (fun l => p.good.getLsbD l)).take 4
  | _ => []

/-- LINK_STAT. -/
def Port.stat (p : Port) : Word :=
  place 2 0 (portNum p.state) ||| place 11 8 p.inUse.length ||| place 24 16 p.good.toNat ||| place 28 28 (b2n p.spareUsed) |||
  place 45 32 p.peer ||| place 47 47 (b2n p.peerValid)

/-- LINK_CREDIT. -/
def Port.creditReg (p : Port) : Word :=
  place 12 0 (p.credit.getD 0 0) ||| place 28 16 (p.credit.getD 1 0) ||| place 44 32 (p.credit.getD 2 0) ||| place 60 48 (p.credit.getD 3 0)

/-- LINK_LANEl. -/
def Lane.reg (l : Lane) : Word :=
  place 15 0 l.eye ||| place 31 16 (min l.symerr 0xFFFF) ||| place 32 32 (b2n l.lock) ||| place 33 33 (b2n l.failed)

def Port.lane (p : Port) (l : Nat) : Lane := Map.get (fun _ => {}) p.lanes l

/-- Set bits of LINK_ERR. -/
def State.linkErr (s : State) (p : Nat) (v : Word) : State := s.orDev (linkBase p + 0x18) v

/-- The replay buffer is lost with the port: its requests end with LINK_DOWN toward their requesters (R326). -/
def State.dropReplay (s : State) (p : Nat) : State :=
  let l := (s.port p).replay
  let s := l.foldl (fun s e => if e.2.isReq then s.reply (p / 8) e.2 St.linkDown else s) s
  s.modPort p (fun x => { x with replay := [], want := none, replays := 0, wire := [], wireLctl := [], owe := [0, 0, 0, 0] })

/-- A port goes DOWN, and in hardware mode at once to training (R325, R326). -/
def State.portDown (s : State) (p : Nat) (bits_ : Word) : State :=
  let s := (s.linkErr p (0x10 ||| bits_)).dropReplay p
  let s := s.modPort p (fun x => { x with state := if s.hostMode 1 then .down else .training, attempts := 0, lossAt := none })
  let s := s.event { code := 2, d0 := BitVec.ofNat 64 p, d1 := s.dcsr (linkBase p + 0x18), d2 := BitVec.ofNat 64 (s.port p).peer }
  s.report { status := St.linkDown, cls := 9, sev := 1, unit := 9, id := p }

/-- Lanes 0 to 8 that are good, as a list. -/
def goodLanes (g : BitVec 9) : List Nat := (List.range 9).filter (fun l => g.getLsbD l)

/-- A port starts to carry traffic. -/
def Port.up (x : Port) (good : BitVec 9) : Port :=
  { x with state := if 8 ≤ (goodLanes good).length then .up else .degraded, good := good,
           spareUsed := decide (8 ≤ (goodLanes good).length) && !decide (good.toNat % 256 = 255), attempts := 0, listening := false,
           txSeq := 0, rxSeq := 0, credit := [4096, 4096, 4096, 4096], owe := [0, 0, 0, 0], lossAt := none }

/-- TRAINING_ATTEMPT_END: at least four good lanes carry traffic; one to three leave the port FAILED; none is a failed attempt
(R322, R326) (DESIGN CHOICE, log 38). -/
def State.trainingEnd (s : State) (p : Nat) (good : BitVec 9) : State :=
  let x := s.port p
  if x.state ≠ .training then s
  else if 4 ≤ (goodLanes good).length then s.setPort p (x.up good)
  else if good ≠ 0 then (s.setPort p { x with state := .failed, good := good, attempts := 0 }).linkErr p 0x20
  else if s.hostMode 1 then (s.setPort p { x with state := .down, good := 0, attempts := 0 }).linkErr p 0x20
  else if 2 ≤ x.attempts then (s.setPort p { x with state := .failed, good := 0, attempts := 0 }).linkErr p 0x20
  else s.setPort p { x with good := 0, attempts := x.attempts + 1 }

def execTrainingAttemptEnd (port : Nat) (good : BitVec 9) (s : State) : Out := .next (s.trainingEnd port good)

/-- A lane's window fails (R323): more than 10^-THRESH of 21,250,000 symbols, loss of lock, or an eye below 8 mV. -/
def laneFails (thresh : Nat) (x : LaneSample) : Bool :=
  decide (21250000 < x.symerr * 10 ^ thresh) || !x.lock || decide (x.eye < 8)

/-- A failing lane of a port that carries traffic: spared to lane 8, or the port goes on with four lanes (R324, R325). -/
def State.laneFail (s : State) (p l : Nat) : State :=
  let x := s.port p
  if !x.carries || !x.good.getLsbD l then s
  else
    let used := x.inUse.contains l
    let g := x.good &&& ~~~(BitVec.ofNat 9 (2 ^ l))
    let s := s.setPort p { x with good := g }
    let s := s.report { status := St.linkDown, cls := 9, sev := 0, unit := 3, id := p, sub := l, action := if used then 2 else 1 }
    if !used then s
    else if x.state = .up ∧ !x.spareUsed ∧ x.good.getLsbD 8 then
      (s.setPort p { x with good := g, spareUsed := true, wireLctl := x.wireLctl ++ [.laneMap l] }).linkErr p 4
    else if 4 ≤ (goodLanes g).length then (s.setPort p { x with good := g, state := .degraded, spareUsed := false }).linkErr p 8
    else (s.setPort p { x with good := g, state := .failed, spareUsed := false }).dropReplay p

/-- LANE_ERROR_WINDOW: figures of the lanes for one window; two lanes that lose lock within 1 µs put the port DOWN (R323 to R325) (DESIGN CHOICE, log 38). -/
def State.laneWindow (s : State) (p : Nat) (ls : List LaneSample) (ce ue : Nat) : State :=
  let x := s.port p
  let th := fld (s.dcsr (linkBase p + 0x10)) 3 0
  let ls := ls.take 9
  let fails := ls.zipIdx.filter (fun e => laneFails th e.1)
  let lost := (ls.zipIdx.filter (fun e => !e.1.lock && (x.lane e.2).lock)).map (·.2)
  let recent : Bool := match x.lossAt with | some (l, t) => decide (s.clk < t + 2500) && decide (lost ≠ []) && !lost.contains l | none => false
  let s := (s.bumpDev (linkBase p + 0x28) ce).bumpDev (linkBase p + 0x30) ue
  let s := s.modPort p (fun x => { x with
    lanes := ls.zipIdx.foldl (fun m e => Map.set (fun _ => {}) m e.2
      { eye := e.1.eye, symerr := e.1.symerr, lock := e.1.lock, failed := laneFails th e.1 }) x.lanes
    lossAt := match lost with | l :: _ => some (l, s.clk) | [] => x.lossAt })
  if x.carries && (decide (2 ≤ lost.length) || recent) then s.portDown p 0
  else fails.foldl (fun s e => s.laneFail p e.2) s

def execLaneErrorWindow (port : Nat) (lanes : List LaneSample) (fecCe fecUe : Nat) (s : State) : Out :=
  .next (s.laneWindow port lanes fecCe fecUe)

/-! ### LINK_CTL (R326, R346) -/

/-- EN: 0 puts the port in DISABLED; 1 after it starts a new training. -/
def State.linkEnable (s : State) (p : Nat) (en : Bool) : State :=
  let x := s.port p
  let s := s.modDcsr (linkBase p + 8) (fun w => setFld w 0 0 (b2n en))
  if !en then (s.dropReplay p).modPort p (fun x => { x with state := .disabled, attempts := 0, listening := false })
  else if x.state = .disabled then s.setPort p { x with state := .training, attempts := 0 }
  else s

/-- Why TRAIN and SPARE are refused. -/
def State.trainRefused (s : State) (p : Nat) : Bool := decide ((s.port p).state ≠ .down)
def State.spareRefused (s : State) (p : Nat) : Bool :=
  let x := s.port p
  x.spareUsed || decide (x.state ≠ .up)

/-- A write of LINK_CTL: PRIVILEGE, BAD_PARAM, then LINK_STATE (R13) (DESIGN CHOICE, log 38). -/
def State.linkCtl (s : State) (priv : Priv) (p : Nat) (v : Word) : State × Status :=
  if priv = .task then (s, St.privilege)
  else if 7 < fld v 7 4 then (s, St.badParam)
  else if (bit v 1 ∧ s.trainRefused p) ∨ (bit v 2 ∧ s.spareRefused p) then (s, St.linkState)
  else
    let s := s.modDcsr (linkBase p + 8) (fun w => setFld w 7 4 (fld v 7 4))
    let s := s.linkEnable p (bit v 0)
    let s := if bit v 1 ∧ (s.port p).state = .down then s.modPort p (fun x => { x with state := .training, attempts := 0 }) else s
    (if bit v 2 then s.laneFail p (fld v 7 4) else s, St.ok)

/-- LINK_CTL as its stored fields stand, for a write that changes one of them. -/
def State.linkCtlNow (s : State) (p : Nat) : Word := s.dcsr (linkBase p + 8)

def execLinkEnable (priv : Priv) (port : Nat) (en : Bool) (s : State) : Out :=
  .next (let (t, st) := s.linkCtl priv port (setFld (s.linkCtlNow port) 0 0 (b2n en)); t.respond st)
def execLinkTrain (priv : Priv) (port : Nat) (s : State) : Out :=
  .next (let (t, st) := s.linkCtl priv port (s.linkCtlNow port ||| 2); t.respond st)
def execLinkSpare (priv : Priv) (port lane : Nat) (s : State) : Out :=
  .next (let (t, st) := s.linkCtl priv port (setFld (s.linkCtlNow port) 7 4 lane ||| 4); t.respond st)

/-! ### The link layer (R329) -/

/-- Send a link-control packet. -/
def Port.lctl (x : Port) (m : LctlMsg) : Port := { x with wireLctl := x.wireLctl ++ [m] }

/-- A packet is put on a port's link: HOPS falls, credits are taken, and the replay buffer keeps it. -/
def State.egress (s : State) (p : Nat) (vc1 : Bool) (k : Packet) : State :=
  let k := { k with hops := k.hops - 1, vc1 := k.vc1 || vc1 }
  s.modPort p (fun x => { x with
    wire := x.wire ++ [k], replay := x.replay ++ [(x.txSeq, k)], txSeq := (x.txSeq + 1) % 65536,
    credit := listMod x.credit (k.pool k.vc1) (fun c => c - k.credits) })

/-- LINK_PACKET_RECEIVE: CRC and LSEQ, then the type, then HOPS (R328, R329, R334) (DESIGN CHOICE, log 38). -/
def State.linkReceive (s : State) (p : Nat) (k : Packet) (lseq : Nat) (crcOk : Bool) : State :=
  let x := s.port p
  if !x.carries then s
  else if !crcOk ∨ lseq ≠ x.rxSeq then (s.setPort p (x.lctl (.replay x.rxSeq))).linkErr p 1
  else
    let pool := k.pool k.vc1
    let s := s.setPort p { x.lctl (.ackLseq lseq) with rxSeq := (x.rxSeq + 1) % 65536, owe := listMod x.owe pool (· + k.credits) }
    if !typAssigned k.typ then s.linkErr p 0x40
    else if k.hops = 0 ∧ !(s.devidValid && decide (k.dst = s.devid)) then
      let s := s.orDev (gateBase (p / 8) + 0x28) 2
      if k.isReq then s.reply (p / 8) k St.linkTtl else s
    else s.toGate (p / 8) k

def execLinkPacketReceive (port : Nat) (pkt : Packet) (lseq : Nat) (crcOk : Bool) (s : State) : Out :=
  .next (s.linkReceive port pkt lseq crcOk)

/-- Sequence numbers up to one that the peer names, from the oldest in the buffer. -/
def ackedUpTo (n : Nat) (l : List (Nat × Packet)) : List (Nat × Packet) :=
  match l.findIdx? (fun e => decide (e.1 = n)) with
  | some i => l.drop (i + 1)
  | none => l

/-- LCTL: credits, acknowledgements, replay requests and lane maps of the peer. -/
def State.lctlIn (s : State) (p : Nat) (m : LctlMsg) : State :=
  let x := s.port p
  if !x.carries then s
  else
    match m with
    | .credits a b c d => s.setPort p { x with credit := (x.credit.zip [a, b, c, d]).map (fun e => min 4096 (e.1 + e.2)) }
    | .ackLseq n =>
      let l := ackedUpTo n x.replay
      s.setPort p { x with replay := l, replays := if l.length < x.replay.length then 0 else x.replays }
    | .replay n =>
      -- What precedes LSEQ n has been received; the third replay of one LSEQ without progress ends the port.
      let l := x.replay.drop ((x.replay.findIdx? (fun e => decide (e.1 = n))).getD 0)
      let k := if l.length < x.replay.length then 1 else x.replays + 1
      if 3 ≤ k then s.portDown p 2 else s.setPort p { x with replay := l, want := some n, replays := k }
    | .laneMap l =>
      if x.spareUsed ∨ x.state ≠ .up then s
      else (s.setPort p { x with spareUsed := true, good := x.good &&& ~~~(BitVec.ofNat 9 (2 ^ l)) }).linkErr p 4

def execLctl (port : Nat) (msg : LctlMsg) (s : State) : Out := .next (s.lctlIn port msg)

/-- LCTL_CREDIT_RETURN: credits of packets that have left the ingress buffer go back to the peer. -/
def execLctlCreditReturn (port : Nat) (s : State) : Out :=
  .next (let x := s.port port
    if !x.carries ∨ x.owe = [0, 0, 0, 0] then s
    else s.setPort port { x.lctl (.credits (x.owe.getD 0 0) (x.owe.getD 1 0) (x.owe.getD 2 0) (x.owe.getD 3 0)) with owe := [0, 0, 0, 0] })

/-- LINK_REPLAY_RESEND: go back to the LSEQ that the peer asked for. -/
def execLinkReplayResend (port : Nat) (s : State) : Out :=
  .next (let x := s.port port
    match x.want with
    | none => s
    | some n =>
      if !x.carries then s
      else
        let l := x.replay.dropWhile (fun e => decide (e.1 ≠ n))
        (s.setPort port { x with wire := x.wire ++ l.map (·.2), want := none }).bumpDev (linkBase port + 0x20) l.length)

/-! ### Routing (R331 to R334) -/

/-- Candidate k of a route entry: valid, port, and whether it moves the packet to VC1 (DESIGN CHOICE, log 38). -/
def routeCand (w : Word) (k : Nat) : Option (Nat × Bool) :=
  if bit w (8 * k + 6) then some (fld w (8 * k + 4) (8 * k), bit w (8 * k + 5)) else none

/-- What a lookup gives. -/
inductive Route where
  | port (p : Nat) (vc1 : Bool)
  | wait
  | none
  deriving DecidableEq, Repr

/-- Bytes a port's replay buffer holds. -/
def Port.replayBytes (x : Port) : Nat := x.replay.foldl (fun n e => n + e.2.wireBytes) 0

/-- Whether a port can take a packet now. -/
def Port.room (x : Port) (k : Packet) (vc1 : Bool) : Bool :=
  decide (k.credits ≤ x.credit.getD (k.pool (k.vc1 || vc1)) 0) && decide (x.replayBytes + k.wireBytes ≤ 524288)

/-- Candidates with room: own gate first, then most free credits, then lowest index (R333). -/
def State.lookup (s : State) (n : Nat) (k : Packet) : Route :=
  let w := Map.get zeroW s.routes k.dst
  let cs := (List.range 4).filterMap (routeCand w)
  let live := cs.filter (fun c => (s.port c.1).carries)
  let fit := live.filter (fun c => (s.port c.1).room k c.2)
  let rank := fun (c : Nat × Bool) =>
    (if c.1 / 8 = n then 0 else 8192) + (4096 - (s.port c.1).credit.getD (k.pool (k.vc1 || c.2)) 0)
  match fit with
  | c :: l => let b := l.foldl (fun b c => if rank c < rank b then c else b) c
              .port b.1 b.2
  | [] => if live = [] then .none else .wait

/-- Remove the element at an index. -/
def removeAt {α : Type} : List α → Nat → List α
  | [], _ => []
  | _ :: l, 0 => l
  | a :: l, n + 1 => a :: removeAt l n

/-- GATE_ROUTE: the first packet of a gate that need not wait goes to this device's target path, out of a port, or nowhere (DESIGN CHOICE, log 38). -/
def State.gateRoute (s : State) (n : Nat) : State :=
  let g := s.gate n
  let way := fun (k : Packet) => if s.devidValid && decide (k.dst = s.devid) then none else some (s.lookup n k)
  match g.inq.findIdx? (fun k => decide (way k ≠ some .wait)) with
  | none => s
  | some i =>
    match g.inq[i]? with
    | none => s
    | some k =>
      let s := s.setGate n { g with inq := removeAt g.inq i }
      match way k with
      | none => if typTaken k.typ then s.modGate n (fun g => { g with tgt := g.tgt ++ [k] }) else s
      | some (.port p vc1) => s.egress p vc1 k
      | _ =>
        let s := s.orDev (gateBase n + 0x28) 1
        if k.isReq then s.reply n k St.linkNoRoute else s

def execGateRoute (gate : Nat) (s : State) : Out := .next ((s.gateAdmit gate).gateRoute gate)

/-- The next packet of a type that has come to a gate for this device. -/
def Gate.take (g : Gate) (f : Packet → Bool) : Option (Packet × Gate) :=
  match g.tgt.findIdx? f with
  | none => none
  | some i => match g.tgt[i]? with
    | some k => some (k, { g with tgt := removeAt g.tgt i })
    | none => none

/-! ### Gate registers (R332, R335, R346) -/

/-- Write a gate register in all four gates. -/
def State.setGates (s : State) (o : Nat) (v : Word) : State := (List.range 4).foldl (fun s n => s.setDcsr (gateBase n + o) v) s

/-- GATE_RT_DATA at a gate's GATE_RT_IDX: a read, or a write at TACK; INDEX may advance. -/
def State.routeAccess (s : State) (priv : Priv) (n : Nat) (w : Option Word) : State × Status × Word :=
  let o := gateBase n + 0x10
  let ix := s.dcsr o
  let adv := fun (s : State) => if bit ix 31 then s.setDcsr o (setFld ix 13 0 (fld ix 13 0 + 1)) else s
  match w with
  | none => if priv = .task then (s, St.privilege, 0) else (adv s, St.ok, Map.get zeroW s.routes (fld ix 13 0))
  | some v =>
    if priv ≠ .tack then (s, St.privilege, 0)
    else (adv { s with routes := Map.set zeroW s.routes (fld ix 13 0) (place 31 0 (fld v 31 0 &&& 0x7F7F7F7F)) }, St.ok, 0)

def execRouteEntryAccess (priv : Priv) (gate : Nat) (w : Option Word) (s : State) : Out :=
  .next (let (t, st, v) := s.routeAccess priv gate w; t.respond st v)

/-- A window lies in one of the regions that R335 allows, and in one only. -/
def windowOk (base len : Nat) : Bool :=
  decide (base + len ≤ 0x200000000000) ||
  decide (0x1000000000000 ≤ base ∧ base + len ≤ 0x2000000000000) ||
  (decide (0x400000000000 ≤ base ∧ base < 0x400000000000 + 288 * 0x100000000) && decide (base % 0x100000000 + len ≤ 0x400000))

/-- Start and length of remote window k. -/
def State.window (s : State) (k : Nat) : Nat × Nat :=
  (fld (s.dcsr (gateBase 0 + 0x100 + k * 0x18)) 48 16 * 65536, fld (s.dcsr (gateBase 0 + 0x108 + k * 0x18)) 32 0 * 65536)

def windowCtl (v : Word) : Word := v &&& (place 51 0 (2 ^ 52 - 1) ||| place 63 63 1)

/-- A write of GATE_RWINk_CTL. -/
def State.rwinWrite (s : State) (priv : Priv) (k : Nat) (v : Word) : State × Status :=
  if priv = .task then (s, St.privilege)
  else if bit v 63 ∧ !windowOk (s.window k).1 (s.window k).2 then (s, St.badParam)
  else (s.setGates (0x110 + k * 0x18) (windowCtl v), St.ok)

def execRwinCtlWrite (priv : Priv) (_gate k : Nat) (v : Word) (s : State) : Out :=
  .next (let (t, st) := s.rwinWrite priv k v; t.respond st)

end Sys2Proof.Machine
end

