-- ==== Sys2Proof/Machine/Loft.lean ====
section
/-! DEFINITION. The loft: reads, the job ring and its jobs; the tack room's pager and ager (R303 to R316). -/

namespace Sys2Proof.Machine

/-! ### Loft reads (R313, R314) -/

def loftEnd : Nat := 0xE00000000000

/-- Loft channel of a loft address (R313). -/
def loftChanOf (la : Nat) : Nat := la / 65536 % 16

/-- Whether a unit has been written: below an OPEN segment's write pointer, or in a SEALED segment. -/
def State.loftWritten (s : State) (la : Nat) : Bool :=
  match s.seg (la / 2 ^ 30) with
  | .opn wp => decide (la % 2 ^ 30 / 65536 < wp)
  | .sealed => true
  | _ => false

/-- Why a loft read fails before its page is read: a failed channel, an unwritten unit. -/
def State.loftFault (s : State) (la : Nat) : Status :=
  if loftEnd ≤ la then St.memRange
  else if (s.loftChan (loftChanOf la)).state = 2 then St.loftUe
  else if s.loftWritten la then St.ok else St.loftUnwritten

/-- Log an uncorrectable loft read: the failing 4 KiB unit (R310, R314). -/
def State.loftUe (s : State) (la : Nat) : State :=
  let f := loftChanOf la
  (s.elog (f / 4) { status := St.loftUe, chan := f % 4, loft := true, scrub := false, addr := la / 4096 * 4096 }).detect
    St.loftUe 8 1 6 f 0 (la / 4096 * 4096 % 2 ^ 49)

/-- LOFT_READ: a request joins the read of its 16 KiB page, or starts it; it fails at once where nothing can be read. -/
def execLoftRead (req : Nat) (s : State) : Out :=
  .next (match s.req req with
    | some r =>
      match localRegion r.addr with
      | some (.loft _) =>
        if r.phase ≠ .endpoint ∨ isGlobal r.addr ∨ s.pageReads.any (fun p => p.2.contains req) then s
        else
          let st := s.loftFault r.pa
          if st = St.loftUe then (s.loftUe r.pa).answer req r st []
          else if st ≠ St.ok then s.answer req r st []
          else
            let pg := r.pa / 16384
            if s.pageReads.any (fun p => p.1 = pg) then
              { s with pageReads := s.pageReads.map (fun p => if p.1 = pg then (p.1, p.2 ++ [req]) else p) }
            else { s with pageReads := s.pageReads ++ [(pg, [req])] }
      | _ => s
    | none => s)

/-- LOFT_PAGE_READ_DONE: every waiting request is answered; those in a 4 KiB unit that failed decoding get LOFT_UE. -/
def execLoftPageReadDone (page : Nat) (ldpcFail : List Nat) (s : State) : Out :=
  .next (match s.pageReads.find? (fun p => p.1 = page) with
    | none => s
    | some p =>
      p.2.foldl (fun s id => match s.req id with
        | some r =>
          if r.phase ≠ .endpoint then s
          else if ldpcFail.contains (r.pa / 4096 % 4) then (s.loftUe r.pa).answer id r St.loftUe []
          else s.answer id r St.ok (readBytes s.loft r.pa r.len)
        | none => s) { s with pageReads := s.pageReads.filter (fun x => x.1 ≠ page) })

/-! ### Programming and copying -/

/-- The write pointer of a segment that accepts writes. -/
def SegSt.wptr : SegSt → Option Nat
  | .erased => some 0
  | .opn wp => some wp
  | _ => none

/-- Program units at a write pointer from bytes of main memory, unit by unit (R316). A read that fails ends the copy (DESIGN CHOICE, log 25). -/
def State.program (s : State) (pa la : Nat) : Nat → State × Status
  | 0 => (s, St.ok)
  | n + 1 =>
    let (st, bs) := s.devRead pa 65536
    if st ≠ St.ok then (s, st)
    else
      let s := { s with loft := writeBytes s.loft la bs }
      (s.setSeg (la / 2 ^ 30) (.opn (la % 2 ^ 30 / 65536 + 1))).program (pa + 65536) (la + 65536) n

/-- A program failure on a loft channel: a reserve block takes over, or none is left (R316) (DESIGN CHOICE, log 25). -/
def State.reserve (s : State) (f : Nat) : State × Bool :=
  let c := s.loftChan f
  if c.reserve = 0 then (s.setLoftChan f { c with state := max c.state 1 }, false)
  else
    let r := c.reserve - 1
    (s.setLoftChan f { c with reserve := r, state := if r * 100 < 9024 then max c.state 1 else c.state }, true)

/-- Copy units from the loft to main memory (R316, R314). -/
def State.copyOut (s : State) (la pa : Nat) : Nat → State × Status
  | 0 => (s, St.ok)
  | n + 1 =>
    let st := s.loftFault la
    if st ≠ St.ok then (if st = St.loftUe then s.loftUe la else s, st)
    else
      let (t, st) := s.devWrite pa (readBytes s.loft la 65536)
      if st ≠ St.ok then (t, st) else t.copyOut (la + 65536) (pa + 65536) n

/-! ### The job ring (R315) -/

/-- Address of a ring entry. -/
def State.ljEntry (s : State) (idx : Nat) : Nat :=
  fld (s.dcsr (shedBase 0 + 0x600)) 44 12 * 4096 + idx % max 1 (fld (s.dcsr (shedBase 0 + 0x608)) 12 0) * 64

/-- A job as its entry spells it; a malformed entry has its result at once (DESIGN CHOICE, log 25). -/
def State.ljParse (s : State) (idx : Nat) : LoftJob :=
  let (st, bs) := s.devRead (s.ljEntry idx) 64
  let w := fun k => leNat ((bs.drop (8 * k)).take 8)
  let op := bits (w 0) 3 0
  let la := bits (w 1) 47 0
  let pa := bits (w 2) 44 0
  let n := bits (w 3) 31 0
  let copies := op = 1 ∨ op = 2
  let bad : Bool := decide (op = 0 ∨ 4 < op ∨ la % 65536 ≠ 0 ∨ loftEnd ≤ la ∨ bits (w 0) 7 4 ≠ 0 ∨ bits (w 0) 15 10 ≠ 0 ∨
    bits (w 0) 63 32 ≠ 0 ∨ bits (w 1) 63 48 ≠ 0 ∨ bits (w 2) 63 45 ≠ 0 ∨ bits (w 3) 63 32 ≠ 0) ||
    decide (copies ∧ (pa % 65536 ≠ 0 ∨ n = 0 ∨ 16384 < n ∨ loftEnd < la + n * 65536)) || decide (2 < op ∧ la % 2 ^ 30 ≠ 0)
  { idx := idx, op := op, la := la, pa := pa, units := n,
    res := if st ≠ St.ok then some st else if bad then some St.loftRing else none }

/-- The sheds take entries in ring order, up to 32 at once. -/
def State.takeJobs (s : State) : Nat → State
  | 0 => s
  | n + 1 =>
    let size := fld (s.dcsr (shedBase 0 + 0x608)) 12 0
    let tail := fld (s.dcsr (shedBase 0 + 0x610)) 31 0
    if size ≠ 0 ∧ s.ljHead % 2 ^ 32 ≠ tail ∧ s.jobs.length < 32 then
      ({ s with jobs := s.jobs ++ [s.ljParse s.ljHead], ljHead := (s.ljHead + 1) % 2 ^ 32 }).takeJobs n
    else s

/-- LJ_TAIL_WRITE: the register, then the entries that it makes available. -/
def State.ljTail (s : State) (priv : Priv) (v : Word) : State × Status :=
  if priv = .task then (s, St.privilege)
  else ((s.setDcsr (shedBase 0 + 0x610) (place 31 0 (fld v 31 0))).takeJobs 32, St.ok)

def execLjTailWrite (priv : Priv) (v : Word) (s : State) : Out :=
  .next (let (t, st) := s.ljTail priv v; t.respond st)

/-- Segments that a job touches. -/
def LoftJob.segs (j : LoftJob) : Nat × Nat :=
  (j.la / 2 ^ 30, if j.op ≤ 2 then (j.la + max 1 j.units * 65536 - 1) / 2 ^ 30 else j.la / 2 ^ 30)

/-- A job that may run: taken, not run, with no earlier job unfinished on a segment of its own (R315). -/
def State.jobReady (s : State) (idx op : Nat) : Option LoftJob :=
  match s.jobs.find? (fun j => j.idx = idx) with
  | some j =>
    if j.op = op ∧ j.res = none ∧ !((s.jobs.takeWhile (fun x => x.idx ≠ idx)).any (fun x =>
      decide (x.res = none ∧ x.segs.1 ≤ j.segs.2 ∧ j.segs.1 ≤ x.segs.2))) then some j else none
  | none => none

/-- A job's result, until LOFT_JOB_DONE writes it. -/
def State.jobEnd (s : State) (idx : Nat) (st : Status) : State :=
  { s with jobs := s.jobs.map (fun j => if j.idx = idx then { j with res := some st } else j) }

/-- LOFT_WRITE (R316): `progFail` names the loft channel whose program operation failed. Without a reserve block the
segment is RETIRED (DESIGN CHOICE, log 25). -/
def execLoftWrite (job : Nat) (progFail : Option Nat) (s : State) : Out :=
  .next (match s.jobReady job 1 with
    | none => s
    | some j =>
      let sg := j.la / 2 ^ 30
      match (s.seg sg).wptr with
      | none => s.jobEnd job St.loftSegState
      | some wp =>
        if wp ≠ j.la % 2 ^ 30 / 65536 ∨ 16384 < wp + j.units then s.jobEnd job St.loftSegState
        else
          let (s, ok) := match progFail with | some f => s.reserve f | none => (s, true)
          if ok then
            let (s, st) := s.program j.pa j.la j.units
            s.jobEnd job st
          else (s.setSeg sg .retired).jobEnd job St.loftReserveOut)

/-- LOFT_JOB_READ (R316) (DESIGN CHOICE, log 25). -/
def execLoftJobRead (job : Nat) (s : State) : Out :=
  .next (match s.jobReady job 2 with
    | none => s
    | some j =>
      let (s, st) := s.copyOut j.la j.pa j.units
      (s.jobEnd job st).rearm)

/-- LOFT_ERASE (R316). -/
def execLoftErase (job : Nat) (s : State) : Out :=
  .next (match s.jobReady job 3 with
    | none => s
    | some j =>
      let sg := j.la / 2 ^ 30
      match s.seg sg with
      | .erased => s.jobEnd job St.loftSegState
      | .retired => s.jobEnd job St.loftSegState
      | _ => ({ s.setSeg sg .erased with loft := s.loft.filter (fun p => decide (p.1 / 2 ^ 30 ≠ sg)) }).jobEnd job St.ok)

/-- LOFT_SEAL (R316). -/
def execLoftSeal (job : Nat) (s : State) : Out :=
  .next (match s.jobReady job 4 with
    | none => s
    | some j =>
      let sg := j.la / 2 ^ 30
      match s.seg sg with
      | .opn _ => (s.setSeg sg .sealed).jobEnd job St.ok
      | _ => s.jobEnd job St.loftSegState)

/-- LOFT_JOB_DONE: DONE and STATUS go into the entry, and the sheds take further entries. -/
def execLoftJobDone (job : Nat) (s : State) : Out :=
  .next (match s.jobs.find? (fun j => j.idx = job) with
    | some j =>
      match j.res with
      | some st =>
        let a := s.ljEntry job
        let w := s.memLe a 4
        let s := (s.devWrite a (leBytes 4 (w % 256 + 256 + bits w 15 9 * 512 + st.toNat * 65536))).1
        ({ s with jobs := s.jobs.filter (fun x => x.idx ≠ job) }).takeJobs 32
      | none => s
    | none => s)

/-! ### The tenant pool (R305, R306) -/

/-- Address of a tenant's table entry. -/
def State.ttEntry (s : State) (tenant : Nat) : Nat := fld (s.dcsr (shedBase 0 + 0x10)) 44 21 * 2 ^ 21 + tenant * 32

/-- Pop frames from a tenant's free list: those popped, first one first, and why it stopped. -/
def State.pop (s : State) (top : Nat) : Nat → List Nat × Nat × Status
  | 0 => ([], top, St.ok)
  | n + 1 =>
    if top = 0 then ([], 0, St.memQuota)
    else
      let (st, bs) := s.devRead top 8
      if st ≠ St.ok then ([], top, st)
      else
        let (l, t, st) := s.pop (leNat bs) n
        (top :: l, t, st)

/-- Push frames, the last of the list first, so that popping gives the list back. -/
def State.push (s : State) (top : Nat) : List Nat → State × Nat
  | [] => (s, top)
  | f :: l =>
    let (s, t) := s.push top l
    ((s.devWrite f (leBytes 8 t)).1, f)

/-- Whether 32 frames form one 2 MiB-aligned block. -/
def oneBlock (l : List Nat) : Bool :=
  match l with
  | [] => true
  | f :: _ => decide (l.eraseDups.length = l.length) && l.all (fun x => decide (x / 2 ^ 21 = f / 2 ^ 21 ∧ x % 65536 = 0))

/-- What a pager allocation gives: the frame address, or the status with which the fault stays unserved. -/
structure Alloc where
  frames : List Nat
  top : Nat
  base : Nat
  used : Nat
  deriving DecidableEq, Repr

/-- The frames for a leaf of 2^lg bytes (R306, R309); `unserved` is the fault's own status, left when it is not the pager's. -/
def State.alloc (s : State) (tenant lg : Nat) (limit : Bool) (unserved : Status) : Status × Alloc :=
  let z : Alloc := ⟨[], 0, 0, 0⟩
  if lg = 30 then (unserved, z)
  else
    let n := if lg = 16 then 1 else 32
    let (st, e) := s.devRead (s.ttEntry tenant) 32
    if st ≠ St.ok then (st, z)
    else
      let w := fun k => leNat ((e.drop (8 * k)).take 8)
      let used := bits (w 0) 63 32
      if limit ∧ bits (w 0) 31 0 < used + n then (St.memQuota, z)
      else
        let (l, t, st) := s.pop (bits (w 2) 44 16 * 65536) n
        if st ≠ St.ok then (st, z)
        else if n = 32 ∧ !oneBlock l then (unserved, z)
        else (St.ok, ⟨l, t, l.foldl min (l.headD 0), used + n⟩)

/-- Write the tenant entry's USED and FREE_TOP. -/
def State.setPool (s : State) (tenant used top : Nat) : State :=
  let a := s.ttEntry tenant
  let s := (s.devWrite (a + 4) (leBytes 4 used)).1
  (s.devWrite (a + 16) (leBytes 8 (top / 65536 * 65536))).1

/-- A pager write failed: the popped frames go back and USED stays (R306). -/
def State.unpop (s : State) (a : Alloc) : State :=
  let (s, _) := s.push a.top a.frames
  s

/-- Fill the frames, write the leaf, account. -/
def State.pagerPlace (s : State) (tenant : Nat) (a : Alloc) (at_ leaf : Nat) (data : List Byte) : State × Status :=
  let (t, st) := s.devWrite a.base data
  if st ≠ St.ok then (t.unpop a, st)
  else
    let (t, st) := t.devWrite at_ (leBytes 8 leaf)
    if st ≠ St.ok then (t.unpop a, st) else (t.setPool tenant a.used a.top, St.ok)

/-- A leaf with a new tier and frame; other fields stay. -/
def leafWith (v tier addr : Nat) : Nat := v % 64 + tier * 64 + bits v 15 8 * 256 + addr / 65536 * 65536

/-- The pager has finished with a fault: served, or left with a status. -/
def State.served (s : State) (i : Nat) (st : Status) : State :=
  { s with pfaults := listMod s.pfaults i (fun f => { f with served := some st }) }

/-- A fault of the pager's that it has not finished; it serves 64 at once (R304). -/
def State.openFault (s : State) (i : Nat) : Option PFault :=
  match s.pfaults[i]? with
  | some f => if f.served = none ∧ i < 64 ∧ !s.tack.takeover ∧ !s.hostMode 0 then some f else none
  | none => none

/-- PAGER_DEMAND_ALLOC (R306). -/
def execPagerDemandAlloc (fault : Nat) (s : State) : Out :=
  .next (match s.openFault fault with
    | none => s
    | some f =>
      match s.walk f.task f.va none with
      | .leaf at_ v lg =>
        if bits v 7 6 ≠ 2 ∨ f.status ≠ St.memDemand then s
        else
          let (st, a) := s.alloc f.tenant lg true St.memDemand
          if st ≠ St.ok then s.served fault st
          else
            let (s, st) := s.pagerPlace f.tenant a at_ (leafWith v 0 a.base) (List.replicate (2 ^ lg) 0)
            s.served fault st
      | .fault _ _ => s)

/-- Read a page from the loft: the failing status, or its bytes. -/
def State.loftPage (s : State) (la : Nat) : Nat → Status × List Byte
  | 0 => (St.ok, [])
  | n + 1 =>
    let st := s.loftFault la
    if st ≠ St.ok then (st, [])
    else
      let (st, l) := s.loftPage (la + 65536) n
      (st, readBytes s.loft la 65536 ++ l)

/-- PAGER_RECALL (R309) (DESIGN CHOICE, log 26). -/
def execPagerRecall (fault : Nat) (s : State) : Out :=
  .next (match s.openFault fault with
    | none => s
    | some f =>
      match s.walk f.task f.va none with
      | .leaf at_ v lg =>
        if bits v 7 6 ≠ 1 ∨ f.status ≠ St.memEvicted then s
        else
          let (st, a) := s.alloc f.tenant lg false St.memEvicted
          if st ≠ St.ok then s.served fault st
          else
            let la := bits v 63 16 * 65536
            let (st, bs) := s.loftPage la (2 ^ lg / 65536)
            if st ≠ St.ok then (if st = St.loftUe then s.loftUe la else s).served fault st
            else
              let n := leafWith v 0 a.base
              let n := n - bits n 5 5 * 32 - bits n 4 4 * 16 + 16
              let (s, st) := s.pagerPlace f.tenant a at_ n bs
              s.served fault st
      | .fault _ _ => s)

/-! ### Eviction (R308) -/

/-- Drop every translation of a page of a task: done at once where no request uses one of them (R301). -/
def State.invalidatePage (s : State) (task va lg : Nat) : State := (s.xinvStart 2 task va (2 ^ lg / 65536)).xinvSettle

/-- Steps 3 to 5 of R308 for a page in MOVING: the frame goes to the loft, the leaf to TIER 1, the frames to the pool (DESIGN CHOICE, log 26). -/
def State.finishMove (s : State) (tenant at_ v lg : Nat) : State × Status :=
  let e := s.ttEntry tenant
  let la := bits (s.memLe (e + 0x18) 8) 47 0
  let size := 2 ^ lg
  let frame := bits v 63 16 * 65536
  if la = 0 ∨ 2 ^ 30 < la % 2 ^ 30 + size ∨ (s.seg (la / 2 ^ 30)).wptr ≠ some (la % 2 ^ 30 / 65536) then (s, St.loftSegState)
  else
    let (s, st) := s.program frame la (size / 65536)
    if st ≠ St.ok then (s, st)
    else
      let (s, st) := s.devWrite at_ (leBytes 8 (leafWith v 1 la))
      if st ≠ St.ok then (s, st)
      else
        let s := (s.devWrite (e + 0x18) (leBytes 8 (la + size))).1
        let w0 := s.memLe e 8
        let top := bits (s.memLe (e + 0x10) 8) 44 16 * 65536
        let (s, t) := s.push top ((List.range (size / 65536)).map (fun i => frame + i * 65536))
        (s.setPool tenant (bits w0 63 32 - size / 65536) t, St.ok)

/-- PAGER_MOVE_COMPLETE (R303): the move of the page ends, and the access walks again (DESIGN CHOICE, log 26). -/
def execPagerMoveComplete (fault : Nat) (s : State) : Out :=
  .next (match s.openFault fault with
    | none => s
    | some f =>
      if f.status ≠ St.memMoving then s
      else
        match s.walk f.task f.va none with
        | .leaf at_ v lg =>
          let own : Bool := match s.evicting with | some m => decide (m.at_ = at_) | none => false
          if bits v 7 6 ≠ 3 then s.served fault St.ok
          else if own ∧ s.xinv.isSome then s
          else
            let (t, st) := s.finishMove f.tenant at_ v lg
            if st ≠ St.ok then s
            else if own then ({ t with evicting := none } : State).served fault St.ok
            else t.served fault St.ok
        | .fault _ _ => s.served fault St.ok)

/-- Tasks that the device has seen a tenant use: in its grooms and queued lists (DESIGN CHOICE, log 26). -/
def State.tasksOf (s : State) (tenant : Nat) : List Nat :=
  ((s.grooms.filterMap (fun p => let w := p.2.reg 0x40
      if fld w 31 16 = tenant then some (fld w 15 0) else none)) ++
   (s.stalls.flatMap (fun p => p.2.queues.flatMap (fun q => q.2.lists.filterMap (fun l =>
      if l.tenant = tenant then some l.task else none))))).eraseDups

/-- Leaves of a table: address of the entry, its value, page logarithm and virtual address. -/
def State.leaves (s : State) : Nat → Nat → Nat → List (Nat × Nat × Nat × Nat)
  | 0, _, _ => []
  | l + 1, table, va =>
    let (lo, n, lg) := levelBits (l + 1)
    (List.range n).flatMap (fun i =>
      let at_ := table + i * 8
      let e := s.memLe at_ 8
      if e % 2 = 0 ∨ !s.memGood at_ 8 then []
      else if bits e 1 1 = 1 then (if l = 3 then [] else [(at_, e, lg, va + i * 2 ^ lo)])
      else s.leaves l (bits e 63 8 * 256) (va + i * 2 ^ lo))

/-- The main-window leaves of a task's address space. -/
def State.taskLeaves (s : State) (task : Nat) : List (Nat × Nat × Nat × Nat) :=
  let base := fld (s.dcsr (shedBase 0 + 8)) 44 20 * 2 ^ 20 + task * 8
  let e := s.memLe base 8
  if e % 2 = 0 ∨ bits e 12 1 ≠ 0 ∨ bits e 63 45 ≠ 0 then []
  else (s.leaves 4 (bits e 44 13 * 8192) 0).filter (fun x => x.2.2.2 < 2 ^ 45)

/-- Pages that R308 may evict: 64 KiB or 2 MiB, TIER 0, PIN 0, AGE at least AGE_MIN. -/
def State.evictable (s : State) (tenant : Nat) : List (Nat × Nat × Nat × Nat × Nat) :=
  let m := fld (s.dcsr (shedBase 0 + 0x30)) 14 8
  (s.tasksOf tenant).flatMap (fun tk => (s.taskLeaves tk).filterMap (fun x =>
    if x.2.2.1 ≤ 21 ∧ bits x.2.1 7 6 = 0 ∧ bits x.2.1 8 8 = 0 ∧ m ≤ bits x.2.1 15 9 then some (tk, x) else none))

/-- The page of the highest AGE, the first among equals. -/
def oldest : List (Nat × Nat × Nat × Nat × Nat) → Option (Nat × Nat × Nat × Nat × Nat)
  | [] => none
  | x :: l => match oldest l with
    | some y => if bits x.2.2.1 15 9 < bits y.2.2.1 15 9 then some y else some x
    | none => some x

/-- Eviction stops for a tenant and is reported once (R308, R501). -/
def State.stopEvict (s : State) (tenant la : Nat) : State :=
  if s.evictStopped.contains tenant then s
  else { s.event { code := 8, d0 := BitVec.ofNat 64 tenant, d1 := BitVec.ofNat 64 la } with evictStopped := s.evictStopped ++ [tenant] }

/-- Evict pages of a tenant while USED is above LOW: a page whose translations are still in use stays in MOVING until its
invalidation is complete (R301, R308). A page whose move fails keeps its frame (DESIGN CHOICE, log 26). -/
def State.evict (s : State) (tenant : Nat) : Nat → State
  | 0 => s
  | n + 1 =>
    match s.evicting with
    | some m =>
      if m.tenant ≠ tenant ∨ s.xinv.isSome then s
      else
        let s : State := { s with evicting := none }
        let (t, st) := s.finishMove tenant m.at_ m.v m.lg
        if st = St.ok then t.evict tenant n else (s.devWrite m.at_ (leBytes 8 m.v)).1
    | none =>
      let e := s.ttEntry tenant
      let la := bits (s.memLe (e + 0x18) 8) 47 0
      if s.xinv.isSome ∨ bits (s.memLe e 8) 63 32 ≤ bits (s.memLe (e + 8) 8) 63 32 then s
      else
        match oldest (s.evictable tenant) with
        | none => s
        | some (tk, at_, v, lg, va) =>
          if la = 0 ∨ 2 ^ 30 < la % 2 ^ 30 + 2 ^ lg then s.stopEvict tenant la
          else
            let s := (s.devWrite at_ (leBytes 8 (leafWith v 3 (bits v 63 16 * 65536)))).1.invalidatePage tk va lg
            ({ s with evicting := some { tenant := tenant, at_ := at_, v := v, lg := lg } } : State).evict tenant n

/-- PAGER_EVICT: in hardware mode, when USED exceeds HIGH, or while a page of the tenant waits in MOVING (R308). -/
def execPagerEvict (tenant : Nat) (s : State) : Out :=
  .next (
    let e := s.ttEntry tenant
    let (st, _) := s.devRead e 32
    let s := if bits (s.memLe (e + 0x18) 8) 47 0 = 0 then s else { s with evictStopped := s.evictStopped.filter (· ≠ tenant) }
    let idle := s.evicting.isNone && decide (bits (s.memLe e 8) 63 32 ≤ bits (s.memLe (e + 8) 8) 31 0)
    if st ≠ St.ok ∨ s.hostMode 0 ∨ s.tack.takeover ∨ idle then s else s.evict tenant 32768)

/-! ### Completion of service and the ager -/

/-- Drop one element of a list. -/
def dropAt {α : Type} : List α → Nat → List α
  | [], _ => []
  | _ :: l, 0 => l
  | a :: l, n + 1 => a :: dropAt l n

/-- A remote request that waited for service goes back to its gate's target path, or is answered with a status (R335). -/
def State.pagedDone (s : State) (id : Nat) (st : Status) : State :=
  (List.range 4).foldl (fun s n =>
    match (s.gate n).paged.find? (fun e => decide (e.1 = id)) with
    | some (_, p) =>
      let s := s.modGate n (fun g => { g with paged := g.paged.filter (fun e => decide (e.1 ≠ id)) })
      if st = St.ok then s.modGate n (fun g => { g with tgt := g.tgt ++ [p] }) else s.reply n p st
    | none => s) s

/-- PAGER_SERVICE_DONE: a served fault resumes its queue or its groom access; an unserved one leaves the queue FAULTED with
its status, or completes the access with it (R304, R306). -/
def execPagerServiceDone (fault : Nat) (s : State) : Out :=
  .next (match s.pfaults[fault]? with
    | some f =>
      match f.served with
      | none => s
      | some st =>
        let s := { s with pfaults := dropAt s.pfaults fault }
        match f.who with
        | .inl (ps, q) =>
          let x := s.queue ps q
          if x.state ≠ .faulted ∨ !x.hwFault then s
          else if st = St.ok then (s.resumeFaulted ps q).rearm
          else s.setQueue ps q { x with fstatus := st, hwFault := false }
        | .inr id =>
          match s.req id with
          | some r =>
            if r.phase ≠ .paging then s
            else if r.src = .gone then s.setReq id none
            else if st = St.ok then s.setReq id (some { r with phase := .issued, status := St.ok })
            else s.setReq id (some { r with phase := .arrived, status := st, data := [] })
          | none => s.pagedDone id st
    | none => s)

/-- The age of a leaf after a pass (R307). -/
def aged (v : Nat) : Nat :=
  if bits v 4 4 = 1 then v - 16 - bits v 15 9 * 512 else if bits v 15 9 < 127 then v + 512 else v

/-- AGER_PASS: all translations go, then every main-window leaf of TIER 0 ages (R307). -/
def execAgerPass (s : State) : Out :=
  .next (if fld (s.dcsr (shedBase 0 + 0x30)) 7 0 = 0 ∨ s.xinv.isSome then s
    else
      let s := s.xinvStart 0 0 0 0
      (List.range 65536).foldl (fun s tk => (s.taskLeaves tk).foldl (fun s x =>
        if bits x.2.1 7 6 = 0 then (s.devWrite x.1 (leBytes 8 (aged (s.memLe x.1 8)))).1 else s) s) s)

end Sys2Proof.Machine
end

