-- ==== Sys2Proof/Machine/Engine.lean ====
section
/-! DEFINITION. The load, store and gather engines: starting lists and commands, issuing requests on slots, consumption in
order, faults and completion (R100 to R129, R135, R149 to R153, R165 to R169, R265 to R277, R319, R344). -/

namespace Sys2Proof.Machine

def State.modCtx (s : State) (ps q i : Nat) (f : CmdCtx → CmdCtx) : State :=
  s.modQueue ps q (fun x => { x with ctxs := listMod x.ctxs i f })

def State.modPart (s : State) (ps q i k : Nat) (f : Part → Part) : State :=
  s.modCtx ps q i (fun c => { c with parts := listMod c.parts k f })

/-- The wait of a started command is met (R109). -/
def State.ctxReady (s : State) (ps : Nat) (c : CmdCtx) : Bool := !c.waitEn || s.evMet ps c.waitEv c.waitVal

/-! ### The pass interlock (R405 to R407) -/

/-- A list of a queue is in progress: the head list, once its header check has begun, and that of a FAULTED or PAUSED queue
(R406). -/
def State.streamBusy (s : State) (ps k : Nat) : Bool :=
  (List.range 5).any (fun q =>
    let x := s.queue ps q
    (x.count.isSome || decide (x.state = .paused ∨ x.state = .faulted)) && (match x.lists.head? with
      | some l => decide (s.streamOf ps l.task = some k)
      | none => false))

/-! ### Lists (R102, R103) -/

/-- Status of a header, in the order of R103. -/
def headerStatus (off h : Nat) : Status :=
  let n := rf h 0 15 0
  firstFail [
    (!headerOk off || decide (rf h 0 23 16 ≠ 1), St.engListFormat),
    (resSet h [(0, 15, 0), (0, 23, 16), (4, 15, 0), (8, 63, 0), (16, 15, 0), (16, 31, 16)], St.reservedSet),
    (decide (n = 0 ∨ 256 < n ∨ n ≤ rf h 4 15 0 ∨ 0x400000 < off + 64 + 64 * n), St.engListFormat)]

/-- The head list starts: header, SEQ, the first command; or it is rejected (DESIGN CHOICE, log 27). -/
def State.listStart (s : State) (ps q : Nat) : State :=
  let x := s.queue ps q
  match x.state, x.lists.head?, x.count with
  | .running, some l, none =>
    if s.passHeld ps q || x.pausing || x.aborting then s
    else
      let ok := headerOk l.off
      let h := if ok then s.scrRec ps l.off else 0
      let st := if ok ∧ !s.scrGood ps l.off 64 then St.rasScratchUe else headerStatus l.off h
      let s := if ok then s.scrWriteLe ps (l.off + 8) 8 l.seq else s
      if st ≠ St.ok then s.listDone ps q st (rf h 4 15 0) .stopped
      else s.modQueue ps q (fun x => { x with count := some (rf h 0 15 0), cmdIdx := rf h 4 15 0 })
  | _, _, _ => s

def execListStart (ps q : Nat) (s : State) : Out := .next ((s.listStart ps q).rearm)

/-! ### Checking a command (R117) -/

/-- Scratch range of a command that moves bytes to or from scratch. -/
def scrPast (op scr count : Nat) (t : Stream) : Bool :=
  if op = 0x02 ∨ op = 0x22 then decide (0x400000 < scr + t.len)
  else if op = 0x82 then decide (0x400000 < scr + count * t.n0 * t.n1) else false

/-- Check 3: operand ranges. -/
def operandBad (op cmd : Nat) (t : Stream) : Bool :=
  let tileMove := decide (op = 0x01 ∨ op = 0x21)
  let nrows := rf cmd 12 23 16
  let list := rf cmd 12 21 0
  let count := rf cmd 16 31 0
  t.zeroCount || (tileMove && decide (nrows = 0 ∨ 128 < rf cmd 12 14 8 + nrows)) ||
  (opGather op && decide (count = 0 ∨ rf cmd 20 1 0 = 3 ∨ list % 8 ≠ 0 ∨ 0x400000 < list + count * 8)) ||
  scrPast op (if op = 0x82 then rf cmd 24 21 0 else rf cmd 16 21 0) count t

/-- Source element size of check 5. -/
def srcElem (op : Nat) (mem fmt : Option Nat) (view : Option Nat) : Nat :=
  if op = 0x84 then 8
  else match view with
    | some v => viewElem v
    | none =>
      if op = 0x01 ∨ op = 0x21 then (mem.map fmtBytes).getD 1
      else if op = 0x81 ∨ op = 0x83 then (fmt.map fmtBytes).getD 1 else 1

/-- Rows, elements per row and format that a tile command requires of its register (R151, R153, R271). -/
def required (op cmd : Nat) (t : Stream) (view : Option Nat) (x : TReg) : Nat × Nat × Nat :=
  if op = 0x01 ∨ op = 0x21 then (rf cmd 12 14 8 + rf cmd 12 23 16, x.cols, x.fmt)
  else
    let rows := rf cmd 20 14 8 + rf cmd 16 31 0 * t.n1
    let cols := if op = 0x84 then (if t.n0 % 8 = 0 then t.n0 / 8 else 2047)
      else if t.n0 * 8 % fmtBits x.fmt = 0 then t.n0 * 8 / fmtBits x.fmt else 2047
    let f := match view with
      | some v => if viewFmt v = 15 ∨ op = 0x84 then x.fmt else viewFmt v
      | none => x.fmt
    (rows, cols, f)

/-- Check 9 and GTH_ADD_FMT (R149 to R151, R276). -/
def tileStatus (op cmd : Nat) (t : Stream) (view : Option Nat) (x : TReg) (mem : Option Nat) : Status :=
  let move := decide (op = 0x01 ∨ op = 0x21)
  let (rr, rc, rfm) := required op cmd t view x
  firstFail [
    (decide (x.state = .unconf), St.tileUnconf),
    (move && (match mem with
      | some m => !convOk m x.fmt || (decide (rf cmd 12 28 28 = 1) && decide (m = 5))
      | none => true), St.tileConv),
    (decide (x.rows < rr) || decide (rc ≠ x.cols) || decide (rfm ≠ x.fmt), St.tileShape),
    (opStore op && decide (x.state = .empty), St.tileEmpty),
    (decide (op = 0x84) && !decide (x.fmt = 0 ∨ x.fmt = 1 ∨ x.fmt = 2 ∨ x.fmt = 7), St.gthAddFmt)]

/-- Check 10: the stream carries exactly the rows. -/
def lengthBad (op cmd : Nat) (t : Stream) (x : TReg) (mem : Nat) : Bool :=
  decide (op = 0x01 ∨ op = 0x21) &&
    (decide (rf cmd 12 23 16 * x.cols * fmtBits mem ≠ t.len * 8) || decide (fmtBits mem = 4 ∧ x.cols % 2 = 1))

/-- AUX of LDTILE and STTILE, between checks 9 and 10 (R254). -/
def State.auxCheck (s : State) (ps q op idx : Nat) (l : QList) (cmd : Nat) (a : CmdArgs) : State × CmdArgs × Status :=
  let off := rf cmd 16 21 0
  if (op ≠ 0x01 ∧ op ≠ 0x21) ∨ off = 0 then (s, a, St.ok)
  else if off % 64 = 0 ∧ !s.scrGood ps off 64 then (s, a, St.rasScratchUe)
  else
    match s.auxField ps op l off a.row0 a.rows a.cols with
    | some f => (s.spRec ps q idx off f, a, St.spRecord)
    | none => let (b, st) := s.auxTake ps off a; (s, b, st)

/-- The checks of R117 on a command, in order: what it is to do, or the status (DEDUCED, log 28). -/
def State.checkCmd (s : State) (ps q : Nat) (l : QList) (idx cmd : Nat) : State × CmdArgs × Status :=
  let op := rf cmd 0 7 0
  let desc := rf cmd 8 21 0
  let early := firstFail [
    (if opDefined q op then resSet cmd (envFields ++ opFields op) else resSet (cmd % 2 ^ 64) envFields, St.reservedSet),
    (!opDefined q op, St.engBadOp)]
  if early ≠ St.ok ∨ op = 0 then (s, { op := op }, early)
  else if desc % 64 ≠ 0 then (s, { op := op }, St.badParam)
  else if !s.scrGood ps desc 64 then (s, { op := op }, St.rasScratchUe)
  else
    let d := s.scrRec ps desc
    let t := descOf d
    let treg := if op = 0x01 ∨ op = 0x21 then rf cmd 12 3 0 else rf cmd 20 7 4
    let x := (s.stall ps).treg treg
    let fmt := if opTile op ∧ x.state ≠ .unconf then some x.fmt else none
    let conv := rf cmd 12 27 24
    let mem := if op = 0x01 ∨ op = 0x21 then (if conv = 0 then fmt else convFmt conv 0) else none
    let transp : Bool := decide ((op = 0x01 ∨ op = 0x21) ∧ rf cmd 12 28 28 = 1)
    if operandBad op cmd t then (s, { op := op }, St.badParam)
    else
      let (s, xr) := s.xrecCheck ps q op l t (rf d 16 63 48) transp conv (rf cmd 12 23 16) x.cols mem fmt
      if xr.status ≠ St.ok then (s, { op := op }, xr.status)
      else
        let str := match xr.view with | some v => t.viewed v | none => t
        let layout : Bool := match xr.view with
          | some v => decide (viewLayout v ≠ 0) && (t.misaligned (viewVb v) || decide (t.n0 % viewVb v ≠ 0))
          | none => false
        let st := firstFail [
          (t.misaligned (srcElem op mem fmt xr.view), St.engAlign),
          (layout, St.gthLayout)]
        let st := if st ≠ St.ok then st else extentStatus l op t.base t.ebase t.elen str.bounds
        if st ≠ St.ok then (s, { op := op }, st)
        else
          let st := if opTile op then tileStatus op cmd t xr.view x mem else St.ok
          if st ≠ St.ok then
            let (rr, rc, rfm) := required op cmd t xr.view x
            (if st = St.tileShape then s.tshape ps q treg rr rc rfm else s, { op := op }, st)
          else
            let m := mem.getD 0
            let a : CmdArgs := {
              op := op, str := str, treg := treg, row0 := if op = 0x01 ∨ op = 0x21 then rf cmd 12 14 8 else rf cmd 20 14 8,
              rows := if op = 0x01 ∨ op = 0x21 then rf cmd 12 23 16 else rf cmd 16 31 0 * t.n1, cols := x.cols, mfmt := m,
              fmt := x.fmt, transp := transp, scr := if op = 0x82 then rf cmd 24 21 0 else rf cmd 16 21 0,
              loft := xr.loft, deriv := xr.deriv, sig := xr.sig,
              ascale := match xr.view with | some v => if op = 0x84 then toSigned 8 (rf v 0 23 16) else -32 | none => -32 }
            let (s, a, st) := s.auxCheck ps q op idx l cmd a
            if st ≠ St.ok then (s, a, st)
            else if lengthBad op cmd t x m then (s, a, St.engStreamLen)
            else if opGather op ∧ !s.scrGood ps (rf cmd 12 21 0) (rf cmd 16 31 0 * 8) then (s, a, St.rasScratchUe)
            else (s, a, St.ok)

/-! ### Starting a command -/

/-- Coordinates of an entry after the OOB policy: none where it takes no part, and whether it was out of range (R272). -/
def resolve (t : Stream) (oob raw : Nat) : Option (Nat × Nat) × Bool :=
  let b0 := toSigned 32 (bits raw 31 0)
  let b1 := toSigned 32 (bits raw 63 32)
  if 0 ≤ b0 ∧ b0 < t.n2 ∧ 0 ≤ b1 ∧ b1 < t.n3 then (some (b0.toNat, b1.toNat), false)
  else if oob = 2 then (some ((min (max b0 0) (t.n2 - 1 : Nat)).toNat, (min (max b1 0) (t.n3 - 1 : Nat)).toNat), true)
  else (none, true)

/-- The entries of a list from `first` on, with the entry that leads each group of a window (R274 to R276) (DESIGN CHOICE, log 27). -/
def entriesOf (op : Nat) (t : Stream) (oob first : Nat) (raws : List Nat) : List Ent × Option Nat :=
  let rs := raws.map (resolve t oob)
  let bad := if oob = 0 then ((List.range raws.length).find? (fun e => decide (first ≤ e) && (rs.getD e (none, false)).2)) else none
  let live := fun e => decide (first ≤ e) && (match bad with | some b => !opStore op || decide (e < b) | none => true)
  let lead := fun e =>
    match (rs.getD e (none, false)).1 with
    | none => none
    | some c =>
      if !live e then none
      else
        let w := ((List.range 32).map (· + e / 32 * 32)).filter (fun k => live k && decide (k < raws.length) && decide ((rs.getD k (none, false)).1 = some c))
        if op = 0x83 then w.getLast? else w.head?
  (raws.zipIdx.map (fun p =>
    let r := rs.getD p.2 (none, false)
    { raw := p.1, lead := lead p.2, oob := r.2 && decide (oob ≠ 0), addr := match r.1 with | some c => t.block c.1 c.2 | none => t.base }), bad)

/-- A command of a queue at a scratch offset has started and not completed (R166). -/
def Stall.liveCmd (st : Stall) (q off : Nat) : Bool := (st.queue q).ctxs.any (fun c => decide (c.off = off) && c.fail.isNone)

/-- Use of the row-progress record: the first row, and whether the command holds the record (R166). -/
def State.takeRec (s : State) (ps q off treg row0 : Nat) : State × Nat × Bool :=
  let st := s.stall ps
  let x := st.treg treg
  if x.pend && st.liveCmd x.pq (x.pcmd * 64) then (s, row0, false)
  else if x.pend ∧ x.pq = q ∧ x.pcmd = off / 64 then (s, x.pnext, true)
  else (s.setStall ps (st.setTreg treg { x with pend := true, pq := q, pcmd := off / 64, pnext := row0 }), row0, true)

/-- A checked command: record, list entries and requests (DESIGN CHOICE, log 27). -/
def State.beginCmd (s : State) (ps q cmd : Nat) (c : CmdCtx) (a : CmdArgs) : State × CmdCtx :=
  let (s, firstRow, held) := if opTile a.op then s.takeRec ps q c.off a.treg a.row0 else (s, a.row0, false)
  let d := firstRow - a.row0
  let first := if opGather a.op then d / max 1 a.str.n1 else if a.transp then d / 32 else if opTile a.op then d else 0
  let (es, bad) := if opGather a.op then
      entriesOf a.op a.str (rf cmd 20 1 0) first ((List.range (rf cmd 16 31 0)).map (fun e => s.scrLe ps (rf cmd 12 21 0 + 8 * e) 8))
    else ([], none)
  let a := { a with ents := es, oobAt := bad }
  let s := if a.sig.isSome then { s with nextXfer := s.nextXfer + 1 } else s
  (s, { c with args := a, parts := a.plan first, groups := a.groups, next := min first a.groups, holdsRec := held, t0 := s.clk })

/-- Status at which a request of a command has been held. -/
def CmdCtx.heldAny (c : CmdCtx) : Bool := c.parts.any (fun p => match p.st with | .held _ _ => true | _ => false)

/-- The next command of a queue starts, within the run-ahead depth, unless one before it has failed a check or met a held
error (R117, R118). -/
def State.startCmd (s : State) (ps q : Nat) : State :=
  let x := s.queue ps q
  match x.state, x.lists.head?, x.count with
  | .running, some l, some n =>
    let idx := x.cmdIdx + x.ctxs.length
    if n ≤ idx ∨ fld (s.scsr ps 0x210) 1 0 < x.ctxs.length ∨ x.pausing ∨ x.aborting ∨
        x.ctxs.any (fun c => c.fail.isSome || c.heldAny) then s
    else
      let off := l.off + 64 + 64 * idx
      let cmd := s.cmdNat ps l idx
      let e := envOf (cmd % 2 ^ 64)
      let c : CmdCtx := { idx := idx, off := off, lst := l, waitEn := e.waitEn, waitEv := e.waitEv, waitVal := e.waitVal,
                          postEn := e.postEn, postEv := e.postEv }
      let (s, a, st) := if s.scrGood ps off 64 then s.checkCmd ps q l idx cmd else (s, {}, St.rasScratchUe)
      let (s, c) := if st ≠ St.ok then (s, { c with fail := some st, args := { op := rf cmd 0 7 0 } }) else s.beginCmd ps q cmd c a
      s.modQueue ps q (fun x => { x with ctxs := x.ctxs ++ [c] })
  | _, _, _ => s

/-! ### Consumption (R121, R165) -/

/-- First part, in stream order, that a group needs and that has not landed. -/
def CmdCtx.blocker (c : CmdCtx) (g : Nat) : Option Part :=
  c.parts.find? (fun p => decide (p.grp ≤ g ∧ g ≤ p.last) && decide (p.st ≠ .landed))

/-- Row-progress record and PROG follow consumption. -/
def State.setNext (s : State) (ps q : Nat) (c : CmdCtx) (n : Nat) : State :=
  let s := s.modCtx ps q 0 (fun c => { c with next := n })
  if c.holdsRec then
    s.modStall ps (fun st => st.setTreg c.args.treg { st.treg c.args.treg with pnext := (c.args.row0 + c.args.groupRow n) % 128 })
  else s

/-- Write one row of an LDTILE, with its selects, statistics and map bits. -/
def State.landRow (s : State) (ps : Nat) (c : CmdCtx) (i : Nat) : State :=
  let a := c.args
  let r := a.row0 + i
  let codes := if a.skip.contains i then List.replicate a.cols 0 else (c.loadRow i).1
  let s := s.modStall ps (fun st => st.rowWrite a.treg r (packCodes a.fmt codes))
  let s := if a.skip.contains i then s else s.converted ps c.lst.lgrp a.fmt (c.loadRow i).2.1 (c.loadRow i).2.2
  let s := s.putSelects ps c i
  match a.build with
  | some b => s.buildRow ps b a.fmt r codes
  | none => s

/-- Counts of a list entry that is consumed (R272, R274 to R277) (DEDUCED, log 28). -/
def State.countEntry (s : State) (ps q : Nat) (c : CmdCtx) (e : Nat) : State :=
  let x := c.args.ents.getD e ⟨0, none, false, 0⟩
  let s := if x.oob then s.bumpStall ps 0x1718 1 else s
  let s := match x.lead with
    | some l => if l = e then s else (s.bumpStall ps 0x1710 1).perf ps 0x27 (some c.lst.priv) (some q) (some x.addr) 1
    | none => s
  if c.args.op = 0x84 then
    let k := (s.stall ps).rejects c.args e
    if k = 0 then s else (s.bumpStall ps 0x1720 k).modCtx ps q 0 (fun c => { c with rejected := true })
  else s

/-- Consume one group whose parts have all landed (DESIGN CHOICE, log 27). -/
def State.consume (s : State) (ps q : Nat) (c : CmdCtx) (g : Nat) : State :=
  let a := c.args
  let s := if opGather a.op then s.countEntry ps q c g else s
  let rows := (List.range (a.groupRow (g + 1) - a.groupRow g)).map (· + a.groupRow g)
  let s : State := match a.op with
    | 0x01 => rows.foldl (fun s i => s.landRow ps c i) s
    | 0x02 =>
      let n := min 1024 (a.str.len - g * 1024)
      s.scrWrite ps (a.scr + g * 1024) ((List.range n).map (fun k =>
        let p := g * 1024 + k
        match (if a.loft.isSome then c.partAt p else none) with
        | some ⟨.alt, _, _, _, _, _, _, _, _⟩ => Map.get zeroB c.buf (2 ^ 34 + p)
        | _ => c.byteAt p))
    | 0x21 => match a.build with
      | some b => (rows.filter (fun i => !a.skip.contains i)).foldl (fun s i =>
          s.buildRow ps b a.fmt (a.row0 + i) (codesOf a.fmt ((s.stall ps).tileRow a.treg (a.row0 + i)) a.cols)) s
      | none => s
    | 0x81 => (List.range a.str.n1).foldl (fun s i => s.modStall ps (fun st =>
        st.rowWrite a.treg (a.row0 + g * a.str.n1 + i) (c.entryRow g i))) s
    | 0x82 => s.scrWrite ps (a.scr + g * a.blockLen) ((List.range a.str.n1).flatMap (c.entryRow g))
    | _ => s
  s.setNext ps q c (g + 1)

/-- Pad positions of a store are read and discarded: the register row that a group covers must read (R266). -/
def State.padUe (s : State) (ps : Nat) (c : CmdCtx) (g : Nat) : Option (Nat × Nat) :=
  let a := c.args
  if a.str.win.isSome ∧ opStore a.op ∧ opTile a.op then
    ((List.range (a.groupRow (g + 1) - a.groupRow g)).map (· + a.groupRow g)).findSome? (fun i =>
      ((s.stall ps).tileBad a.treg (a.row0 + i) 0 512).map (fun b => (a.row0 + i, b)))
  else none

/-- The records of GTH_OOB (R273, R279). -/
def State.oobRec (s : State) (ps : Nat) (c : CmdCtx) (e : Nat) : State :=
  let s := s.modScsr ps 0x1700 (fun w => overrun w (place 31 0 e ||| place 47 32 c.idx ||| place 63 63 1))
  s.setScsr ps 0x1708 (BitVec.ofNat 64 (c.args.ents.getD e ⟨0, none, false, 0⟩).raw)

/-- GATE_MC_REC of the yard's gate after a partial multicast (R344, R346). -/
def State.mcRec (s : State) (ps : Nat) (fails : List Nat) : State :=
  let l := fails.eraseDups
  s.modDcsr (gateBase (ps / 72) + 0x30) (fun w => overrun w (place 13 0 (l.foldl min 0x3FFF) ||| place 22 16 l.length ||| place 63 63 1))

/-- Every element is consumed: the command completes (R108, R135, R277, R344). -/
def State.finishCmd (s : State) (ps q : Nat) (c : CmdCtx) : State :=
  if c.rejected then s.cmdFail ps q St.gthAddRange
  else if c.mcFail ≠ [] then (s.mcRec ps c.mcFail).cmdFail ps q St.linkMcastPartial
  else
    let s := if c.holdsRec then s.modStall ps (fun st => st.setTreg c.args.treg { st.treg c.args.treg with pend := false }) else s
    let s := s.modQueue ps q (fun x => { x with ctxs := x.ctxs.tail })
    s.cmdOk ps q c.postEn c.postEv

/-- A held status that consumption reaches (R119, R128, R129). -/
def State.reached (s : State) (ps q : Nat) (c : CmdCtx) (p : Part) (st : Status) : State :=
  let cut := c.args.groupPos c.next
  let addr := if p.kind = .main ∧ p.pos < cut then p.addr + (cut - p.pos) else p.addr
  if isXlatFault st then s.queueFault ps q st addr (opStore c.args.op)
  else
    -- The status is reported, so its slot is released without counting a discard.
    let s := match p.st with
      | .held _ n => if n < 255 then s.freeSlot ps n else s
      | _ => s
    let s := s.modCtx ps q 0 (fun c => { c with parts := c.parts.map (fun x => if x.st = p.st ∧ x.addr = p.addr then { x with st := .landed } else x) })
    s.cmdFail ps q st

/-- Data that waited for the command's event lands, and its slots are released (R109, R124). -/
def State.landWaiting (s : State) (ps q i : Nat) (c : CmdCtx) : State :=
  let s := c.parts.foldl (fun s p => match p.st with | .waiting n => s.freeSlot ps n | _ => s) s
  s.modCtx ps q i (fun c => { c with parts := c.parts.map (fun p => match p.st with
    | .waiting _ => { p with st := .landed }
    | _ => p) })

/-- Consume as far as the head of a queue allows; the number bounds the groups and commands taken. -/
def State.advance (s : State) (ps q : Nat) : Nat → State
  | 0 => s
  | n + 1 =>
    let x := s.queue ps q
    match x.state, x.ctxs with
    | .running, c :: _ =>
      if x.pausing || x.aborting then s
      else
        match c.fail with
        | some st => s.cmdFail ps q st
        | none =>
          if !s.ctxReady ps c then s
          else if c.next < c.groups then
            if c.args.oobAt = some c.next then (s.oobRec ps c c.next).cmdFail ps q St.gthOob
            else
              match c.blocker c.next with
              | some p =>
                match p.st with
                | .held st _ => s.reached ps q c p st
                | .waiting _ => (s.landWaiting ps q 0 c).advance ps q n
                | _ => s
              | none =>
                match s.padUe ps c c.next with
                | some (r, b) => (s.tileUeFound ps c.args.treg r b).cmdFail ps q St.tileDataUe
                | none => (s.consume ps q c c.next).advance ps q n
          else if c.mcOut ≠ 0 then s
          else (s.finishCmd ps q c).advance ps q n
    | _, _ => s

/-- Bound on what one queue can consume at once. -/
def State.work (s : State) (ps q : Nat) : Nat :=
  (s.queue ps q).ctxs.foldl (fun n c => n + 2 * c.groups + c.parts.length + 4) 4

/-- Let the three engines of a stall go on, until none can: a post of one may release another (R108, R109). -/
def State.kick (s : State) (ps : Nat) : Nat → State
  | 0 => s
  | n + 1 =>
    ([0, 1, 3].foldl (fun s q =>
      let s := (s.queue ps q).ctxs.zipIdx.foldl (fun s c => if s.ctxReady ps c.1 then s.landWaiting ps q c.2 c.1 else s) s
      s.advance ps q (s.work ps q)) s).kick ps n

/-- Let a stall's engines go on. At most 12 commands of the three queues have started. -/
def State.kickAll (s : State) (ps : Nat) : State := (s.kick ps 13).rearm

/-! ### Issue (R112, R118, R122 to R125) -/

def bytesMeet (a n b m : Nat) : Bool := decide (a < b + m ∧ b < a + n)

/-- An outstanding earlier write of the same command overlaps (R122). -/
def CmdCtx.overlaps (c : CmdCtx) (p : Part) : Bool :=
  opStore c.args.op && c.parts.any (fun x => (match x.st with | .issued _ => true | _ => false) && bytesMeet x.addr x.len p.addr p.len)

/-- The next part that a started command may issue. -/
def State.ctxIssue (s : State) (ps : Nat) (c : CmdCtx) : Option Nat :=
  if c.fail.isSome || c.heldAny || (opStore c.args.op && !s.ctxReady ps c) then none
  else
    match (List.range c.parts.length).find? (fun k => decide ((c.parts[k]?).map (·.st) = some .todo)) with
    | some k => match c.parts[k]? with
      | some p => if c.overlaps p then none else some k
      | none => none
    | none => none

/-- The command and part that a queue issues next: no later command runs ahead past a held error. -/
def State.nextIssue (s : State) (ps q : Nat) : Option (Nat × Nat) :=
  let x := s.queue ps q
  if x.state ≠ .running ∨ x.pausing ∨ x.aborting then none
  else
    let ok := x.ctxs.takeWhile (fun c => c.fail.isNone && !c.heldAny)
    ok.zipIdx.findSome? (fun c => (s.ctxIssue ps c.1).map (fun k => (c.2, k)))

/-- What the source of a part gives: a status for uncorrectable data, no request at all, or the request's operation and
data. -/
inductive Src3 where
  | bad (st : Status) (where_ : Option (Nat × Nat))
  | nothing
  | go (op : MemOp) (data : List Byte)
  deriving DecidableEq, Repr

/-- The register row and byte of the first uncorrectable word that a part's source meets. -/
def State.srcUe (s : State) (ps : Nat) (a : CmdArgs) (p : Part) : Option (Nat × Nat) :=
  let st := s.stall ps
  let rows := if a.op = 0x84 then (a.served p.grp).map (fun e => a.srcAt (e * a.blockLen + p.pos % a.blockLen))
    else (List.range p.plen).map (fun k => a.srcAt (p.pos + k))
  rows.findSome? (fun x => (st.tileBad a.treg x.1 x.2 (if a.op = 0x84 then fmtBytes a.fmt else 1)).map (fun b => (x.1, b)))

/-- Read the source of one part of a store or scatter, or form a read. -/
def State.source (s : State) (ps : Nat) (a : CmdArgs) (p : Part) : Src3 :=
  let st := s.stall ps
  if !opStore a.op then .go .read []
  else if p.kind = .sel then
    match a.sel with
    | none => .nothing
    | some m =>
      let n := m.rowLen a.cols
      let at_ := fun x => m.data + (a.row0 + x / n) * m.rowBytes + m.col0 * m.b / 8 + x % n
      if (List.range p.len).all (fun k => s.scrGood ps (at_ (p.pos + k)) 1) then
        .go .write ((List.range p.len).map (fun k => Map.get zeroB st.scratch (at_ (p.pos + k))))
      else .bad St.rasScratchUe none
  else
    match a.op with
    | 0x22 =>
      if s.scrGood ps (a.scr + p.pos) p.len then .go .write (readBytes st.scratch (a.scr + p.pos) p.len)
      else .bad St.rasScratchUe none
    | _ =>
      match s.srcUe ps a p with
      | some w => .bad St.tileDataUe (some w)
      | none =>
        match a.op with
        | 0x21 => .go .write ((List.range p.len).map (fun k => st.storeByte a (p.pos + k)))
        | 0x83 => .go .write ((List.range p.len).map (fun k =>
            let x := a.srcAt (p.pos + k)
            (st.tileRow a.treg x.1).getD x.2 0))
        | _ =>
          let x := p.pos % a.blockLen
          let qs := (a.served p.grp).filterMap (fun e => st.contrib a e (x / a.str.n0) (x % a.str.n0 / 8))
          if qs = [] then .nothing else .go (.amo .addD) (leBytes 8 (ofSigned 64 (qs.foldl (· + ·) 0)))

/-- The request of a part. -/
def CmdCtx.request (c : CmdCtx) (src : Src) (k : Nat) (p : Part) (op : MemOp) (data : List Byte) : Req :=
  { src := src, priv := c.lst.priv, task := c.lst.task, tenant := c.lst.tenant, addr := p.addr, op := op, len := p.len,
    data := data, dwinLo := c.lst.dwinLo, dwinHi := c.lst.dwinHi, part := k,
    sig := if p.kind = .main then c.args.sig.map (fun g => { g with pkt := p.pkt, last := decide (p.pkt + 1 = mainParts c.parts) }) else none }

/-- Conversions of the elements that a store part reads (R210, R427). -/
def State.storeStats (s : State) (ps : Nat) (c : CmdCtx) (p : Part) : State :=
  let a := c.args
  if a.op = 0x21 ∧ p.kind = .main ∧ a.mfmt ≠ a.fmt then
    let ns := (a.elemsIn p.pos p.len).map (fun k => ((s.stall ps).storeElem a k).2)
    s.converted ps c.lst.lgrp a.mfmt ns (if counted a.fmt a.mfmt then ns else [])
  else s

/-- SECDED on the first source word that a store part reads. -/
def State.srcEcc (s : State) (ps : Nat) (a : CmdArgs) (p : Part) (e : Ecc) : State :=
  if !opStore a.op ∨ e = .clean then s
  else if opTile a.op ∧ p.kind = .main then
    let x := a.srcAt p.pos
    if ((s.stall ps).treg a.treg).written x.1 then s.tileEcc ps a.treg x.1 x.2 e else s
  else if e = .uncorrectable ∧ p.kind = .main then
    let w := (a.scr + p.pos) / 8
    s.modStall ps (fun t => if t.scratchUe.contains w then t else { t with scratchUe := t.scratchUe ++ [w] })
  else s

/-- Issue one part: with a slot where it makes a request. -/
def State.issuePart (s : State) (ps q ci k slot : Nat) (e : Ecc) : State :=
  match (s.queue ps q).ctxs[ci]? with
  | none => s
  | some c =>
    match c.parts[k]? with
    | none => s
    | some p =>
      let s := s.srcEcc ps c.args p e
      match s.source ps c.args p with
      | .bad st w =>
        let s := match w with
          | some (r, b) => s.tileUeFound ps c.args.treg r b
          | none => s.detect St.rasScratchUe 4 1 1 ps 0 0 c.lst.task
        s.modPart ps q ci k (fun p => { p with st := .held st 255 })
      | .nothing => s.modPart ps q ci k (fun p => { p with st := .landed })
      | .go op data =>
        let s := s.storeStats ps c p
        let id := s.nextReq
        let s := s.newReq (c.request (.slot ps slot) k p op data)
        let s := s.modStall ps (fun t => { t with slots := t.slots ++ [(slot, q, id)] })
        let s := s.modPart ps q ci k (fun p => { p with st := .issued slot })
        let s := (s.perf ps 0x22 (some c.lst.priv) (some q) (some p.addr) 1).perf ps 0x23 (some c.lst.priv) (some q) (some p.addr) p.len
        if isGlobal p.addr then s.perf ps 0x43 (some c.lst.priv) (some q) none 1 else s

def Stall.slotsOf (t : Stall) (q : Nat) : Nat := (t.slots.filter (fun e => e.2.1 = q)).length
def Stall.freeSlotNo (t : Stall) : Option Nat := (List.range 48).find? (fun n => !t.slots.any (fun e => e.1 = n))

/-- Queue codes of the slot classes LOAD, STORE, GATHER. -/
def slotQueue (k : Nat) : Nat := if k = 2 then 3 else k

/-- Grants go to engines below their quota first, each in rotating order (R123) (DESIGN CHOICE, log 18). -/
def State.slotOrder (s : State) (ps : Nat) (want : List Nat) : List Nat :=
  let t := s.stall ps
  let cfg := s.scsr ps 0x200
  let rot := ((List.range 3).map (fun i => (t.slotTurn + 1 + i) % 3)).filter (fun k =>
    want.contains (slotQueue k) && (s.nextIssue ps (slotQueue k)).isSome)
  let under := fun k => decide (t.slotsOf (slotQueue k) < fld cfg (8 * k + 5) (8 * k))
  rot.filter under ++ rot.filter (fun k => !under k)

/-- SLOT_GRANT: at most one free slot to each requesting engine (DESIGN CHOICE, log 18). -/
def State.slotGrant (s : State) (ps : Nat) (want : List Nat) (e : Ecc) : State :=
  (s.slotOrder ps want).foldl (fun s k =>
    match (s.stall ps).freeSlotNo, s.nextIssue ps (slotQueue k) with
    | some n, some (ci, i) => (s.issuePart ps (slotQueue k) ci i n e).modStall ps (fun t => { t with slotTurn := k })
    | _, _ => s) s

/-- DESIGN CHOICE, log 18. -/
def execSlotGrant (ps : Nat) (want : List Nat) (ecc : Ecc) (s : State) : Out :=
  .next (if (s.stall ps).pstate ≠ .run then s else (s.slotGrant ps want ecc).kickAll ps)

/-! ### Completion of requests (R119, R124) -/

/-- Where the data of a part lands in its command's buffer. -/
def CmdArgs.landAt (a : CmdArgs) (p : Part) : Nat :=
  match p.kind with
  | .y => 2 ^ 33 + p.pos
  | .sel => 2 ^ 35 + p.pos
  | .alt =>
    let f := (a.loft.bind (·.altFmt)).getD a.mfmt
    if a.op = 0x01 then 2 ^ 34 + p.pos * 8 / fmtBits a.mfmt * fmtBits f / 8 else 2 ^ 34 + p.pos
  | _ => p.pos

/-- A part's data or outcome has come (DESIGN CHOICE, log 27). -/
def State.landPart (s : State) (ps q ci k slot : Nat) (st : Status) (data : List Byte) : State :=
  match (s.queue ps q).ctxs[ci]? with
  | none => s.freeSlot ps slot
  | some c =>
    if st ≠ St.ok then s.modPart ps q ci k (fun p => { p with st := .held st slot })
    else if opStore c.args.op then
      (s.freeSlot ps slot).modPart ps q ci k (fun p => { p with st := .landed })
    else
      let ready := s.ctxReady ps c
      let s := s.modCtx ps q ci (fun c => match c.parts[k]? with
        | some p => { c with buf := writeBytes c.buf (c.args.landAt p) data }
        | none => c)
      if ready then (s.freeSlot ps slot).modPart ps q ci k (fun p => { p with st := .landed })
      else s.modPart ps q ci k (fun p => { p with st := .waiting slot })

/-- The command and part that a slot serves. -/
def Queue.partOf (x : Queue) (slot : Nat) : Option (Nat × Nat) :=
  x.ctxs.zipIdx.findSome? (fun c => c.1.parts.zipIdx.findSome? (fun p => if p.1.st = .issued slot then some (c.2, p.2) else none))

/-- The abort of a running or paused list, once its requests are gone (R130). -/
def State.abortEnd (s : State) (ps q : Nat) : State :=
  let x := s.queue ps q
  if x.aborting ∧ (s.stall ps).slotsOf q = 0 then s.cmdFail ps q St.aborted else s

/-- What came for a pausing or aborting queue is discarded, but for an SCADD add that has been performed (R130, R572). -/
def State.discardPart (s : State) (ps q ci k slot : Nat) (st : Status) : State :=
  let x := s.queue ps q
  let pr := (x.lists.head?.map (·.priv)).getD .kernel
  let scadd : Bool := match x.ctxs[ci]? with | some c => decide (c.args.op = 0x84) | none => false
  let s := if st = St.ok then s.freeSlot ps slot else s.dropHeld ps q slot pr
  s.modPart ps q ci k (fun p => { p with st := if scadd ∧ st = St.ok then .landed else .todo })

/-- ENG_REQUEST_COMPLETE. -/
def State.requestComplete (s : State) (ps slot : Nat) : State :=
  match (s.stall ps).slots.find? (fun e => e.1 = slot) with
  | none => s
  | some (_, q, id) =>
    match s.req id with
    | none => s
    | some r =>
      if r.phase ≠ .arrived ∨ r.src ≠ .slot ps slot then s
      else
        let x := s.queue ps q
        let s := s.setReq id none
        match x.partOf slot with
        | none => s.freeSlot ps slot
        | some (ci, k) =>
          if x.pausing || x.aborting then (s.discardPart ps q ci k slot r.status).abortEnd ps q
          else s.landPart ps q ci k slot r.status r.data

def execEngRequestComplete (ps slot : Nat) (s : State) : Out :=
  .next (if (s.stall ps).pstate ≠ .run then s else (s.requestComplete ps slot).kickAll ps)

/-- SLOT_WAIT_FLAG (R126). -/
def execSlotWaitFlag (ps slot : Nat) (s : State) : Out :=
  .next (match (s.stall ps).slots.find? (fun e => e.1 = slot) with
    | none => s
    | some (_, q, id) =>
      match s.req id with
      | none => s
      | some r =>
        if r.flagged ∨ r.phase = .arrived ∨ s.clk < r.at_ + 2 ^ 22 then s
        else
          let s := s.setReq id (some { r with flagged := true })
          let s := if bit (s.scsr ps 0x218) 0 then s else s.setScsr ps 0x230 (place 48 0 r.addr ||| place 55 50 slot)
          ((s.orStall ps 0x218 1).bumpStall ps 0x228 1).perf ps 0x41 (some r.priv) (some q) (some r.addr) 1)

/-! ### Loft deadlines (R319) -/

/-- Replace one part of a command whose deadline has passed. -/
def replacePart (a : CmdArgs) (d : LoftRec) (p : Part) : Part :=
  match d.action with
  | 0 => { p with st := .held St.loftDeadline 255 }
  | 1 => { p with kind := .zero, st := .landed }
  | _ =>
    let sb := if a.op = 0x01 then fmtBits a.mfmt else 8
    let ab := if a.op = 0x01 then fmtBits (d.altFmt.getD a.mfmt) else 8
    let b0 := ((p.addr : Int) - a.str.base) * ab
    let lo := (d.altBase : Int) + b0 / sb
    let hi := (d.altBase : Int) + -(-(((p.addr + p.len : Nat) : Int) - a.str.base) * ab / sb)
    { p with kind := .alt, addr := lo.toNat, len := (hi - lo).toNat, st := .todo }

/-- LOFT_DEADLINE: at DEADLINE every loft request of the command that has not landed is replaced; each request made counts
in STALL_LOFT_FB and releases its slot. -/
def State.loftDeadline (s : State) (ps q : Nat) : State :=
  (s.queue ps q).ctxs.zipIdx.foldl (fun s ci =>
    let c := ci.1
    match c.args.loft with
    | none => s
    | some d =>
      if s.clk < c.t0 + 2 * d.deadline ∨ c.fail.isSome then s
      else
        let late := fun (p : Part) => decide (p.kind = .main ∧ c.next ≤ p.last) && (match p.st with
          | .todo => true
          | .issued _ => true
          | .held st _ => decide (st ≠ St.loftDeadline)
          | _ => false)
        let s := (c.parts.filter late).foldl (fun s p =>
          let n := match p.st with | .issued n => some n | .held _ n => some n | _ => none
          match n with
          | none => s
          | some n =>
            let s := if n < 255 then s.freeSlot ps n else s
            (s.bumpStall ps 0x1808 1).perf ps 0x42 (some c.lst.priv) (some q) (some p.addr) 1) s
        s.modCtx ps q ci.2 (fun c => { c with parts := c.parts.map (fun p => if late p then replacePart c.args d p else p) })) s

def execLoftDeadline (ps q : Nat) (s : State) : Out := .next ((s.loftDeadline ps q).kickAll ps)

/-! ### Whole commands -/

/-- Translate an access outside any buffer, and set A and D in its leaf (R283, R297 to R302). -/
def State.directXlate (s : State) (r : Req) : State × Status × Nat :=
  if s.untranslated r.priv ∨ !bit (s.dcsr (shedBase 0 + 8)) 0 then
    match s.xlate r.src.ps r.task r.addr r.priv r.op.isWrite with
    | .done pa => (s, St.ok, pa)
    | .fault st => (s, st, 0)
    | .miss => (s, St.memNotMapped, 0)
  else
    match s.walk r.task r.addr none with
    | .fault st at_ => (if st = St.memWalkUe then s.uncorrectable St.memWalkUe (at_ / 64) false false else s, st, 0)
    | .leaf at_ v lg =>
      let (st, pa) := s.leafCheck v lg r.addr r.priv r.op.isWrite
      (if st = St.ok then s.markLeaf at_ v r.op.isWrite else s, st, pa)

/-- Perform a request at once: its status and data; none for an access that only its slot's way can make. -/
def State.direct (s : State) (r : Req) : Option (State × Status × List Byte) :=
  if isGlobal r.addr then none
  else
    match r.refusal with
    | some st => some (s, st, [])
    | none =>
      match localRegion r.addr with
      | some (.main _) =>
        let (s, st, pa) := s.directXlate r
        if st ≠ St.ok then some (s, st, [])
        else
          match r.op with
          | .read => let (s, st) := s.shedLoad pa r.len; some (s, st, if st = St.ok then s.memRead pa r.len else [])
          | .write => let (s, st) := s.memStore pa (r.data.map some); some (s, st, [])
          | .amo op =>
            let (s, st) := s.shedLoad pa r.len
            if st ≠ St.ok then some (s, st, [])
            else let (old, new) := amoOn s.mem pa op r.len r.data; some (s.memWrite pa new, St.ok, old)
      | some (.loft _) =>
        let (s, st, la) := s.directXlate r
        if st ≠ St.ok then some (s, st, [])
        else
          let st := s.loftFault la
          some (if st = St.loftUe then s.loftUe la else s, st, if st = St.ok then readBytes s.loft la r.len else [])
      | some (.scratch ps off) =>
        if (s.stall ps).pstate ≠ .run ∨ !s.scrGood ps off r.len then none
        else
          match r.op with
          | .read => some (s, St.ok, s.scrRead ps off r.len)
          | .write => some (s.scrWrite ps off r.data, St.ok, [])
          | .amo op => let (old, new) := amoOn (s.stall ps).scratch off op r.len r.data; some (s.scrWrite ps off new, St.ok, old)
      | _ => none

/-- Run the parts of the head command one after another, as far as no slot is needed (DESIGN CHOICE, log 29). -/
def State.runParts (s : State) (ps q : Nat) : Nat → State
  | 0 => s
  | n + 1 =>
    match (s.queue ps q).ctxs with
    | [] => s
    | c :: _ =>
      match s.ctxIssue ps c with
      | none => s
      | some k =>
        match c.parts[k]? with
        | none => s
        | some p =>
          match s.source ps c.args p with
          | .bad _ _ => s.issuePart ps q 0 k 255 .clean
          | .nothing => s.issuePart ps q 0 k 255 .clean
          | .go op data =>
            match s.direct (c.request (.slot ps 255) k p op data) with
            | none => s
            | some (s, st, d) => ((s.storeStats ps c p).landPart ps q 0 k 255 st d).runParts ps q n

/-- A command of a load, store or gather queue, as one step: it starts if it has not, and moves what it can once its wait
is met (DESIGN CHOICE, log 29). -/
def State.runCmd (s : State) (ps q op : Nat) : State :=
  match s.headCmd ps q with
  | none => s
  | some (l, idx) =>
    let x := s.queue ps q
    if bits (s.cmdWord ps l idx 0) 7 0 ≠ op ∨ x.pausing ∨ x.aborting ∨ (s.stall ps).pstate ≠ .run then s
    else
      let s := if x.ctxs = [] then s.startCmd ps q else s
      let s := match (s.queue ps q).ctxs with
        | c :: _ => if c.fail.isNone && s.ctxReady ps c then
            let s := s.landWaiting ps q 0 c
            s.runParts ps q (c.parts.length + 1) else s
        | [] => s
      s.kickAll ps

/-- DESIGN CHOICE, log 29. -/
def execLdtile (ps : Nat) (s : State) : Out := .next (s.runCmd ps 0 0x01)
def execLdscr (ps : Nat) (s : State) : Out := .next (s.runCmd ps 0 0x02)
def execSttile (ps : Nat) (s : State) : Out := .next (s.runCmd ps 1 0x21)
def execStscr (ps : Nat) (s : State) : Out := .next (s.runCmd ps 1 0x22)
def execGtile (ps : Nat) (s : State) : Out := .next (s.runCmd ps 3 0x81)
def execGscr (ps : Nat) (s : State) : Out := .next (s.runCmd ps 3 0x82)
/-- DESIGN CHOICE, log 29. -/
def execSctile (ps : Nat) (s : State) : Out := .next (s.runCmd ps 3 0x83)
def execScadd (ps : Nat) (s : State) : Out := .next (s.runCmd ps 3 0x84)

/-! ### Commands of the array and sync queues that are not theirs, and NOP -/

/-- Opcodes that the array engine and the sync unit define (R179, R351). -/
def unitDefines (q op : Nat) : Bool :=
  if q = 2 then decide (op = 0x40 ∨ op = 0x41 ∨ op = 0x44 ∨ op = 0x45 ∨ op = 0x70 ∨ op = 0x71)
  else decide (0xA0 ≤ op ∧ op ≤ 0xA6)

/-- The array or sync queue can take its head command: nothing of it is in flight and its wait is met (R109, R187). -/
def State.unitReady (s : State) (ps q : Nat) (l : QList) (idx : Nat) : Bool :=
  let x := s.queue ps q
  !x.pausing && !x.aborting && decide ((s.stall ps).pstate = .run) &&
  (if q = 2 then decide ((s.stall ps).arr.inflight = []) else decide ((s.stall ps).sync = none)) &&
  s.envReady ps (envOf (s.cmdWord ps l idx 0))

/-- A head command of the array or sync queue that its engine does not define, or a NOP there. -/
def State.unitOther (s : State) (ps q : Nat) (nop : Bool) : State :=
  match s.headCmd ps q with
  | none => s
  | some (l, idx) =>
    let w := s.cmdWord ps l idx 0
    let op := bits w 7 0
    let e := envOf w
    if !s.unitReady ps q l idx ∨ unitDefines q op ∨ nop ≠ decide (op = 0) then s
    else if !s.scrGood ps (l.off + 64 + 64 * idx) 64 then s.cmdFail ps q St.rasScratchUe
    else if op = 0 then
      if resSet (s.cmdNat ps l idx) envFields then s.cmdFail ps q St.reservedSet else s.cmdOk ps q e.postEn e.postEv
    else if resSet w envFields then s.cmdFail ps q St.reservedSet
    else s.cmdFail ps q St.engBadOp

/-- CMD_START: a load, store or gather command starts; on the other queues a command is checked when its unit takes it, so
only an opcode that the unit does not define ends here. -/
def execCmdStart (ps q : Nat) (s : State) : Out :=
  .next (if (s.stall ps).pstate ≠ .run then s
    else if q = 2 ∨ q = 4 then (s.unitOther ps q false).kickAll ps else (s.startCmd ps q).kickAll ps)

/-- NOP: its wait and its post (R107). -/
def execNop (ps q : Nat) (s : State) : Out :=
  .next (if q = 2 ∨ q = 4 then (s.unitOther ps q true).kickAll ps else s.runCmd ps q 0)

end Sys2Proof.Machine
end

