-- ==== Sys2Proof/Machine/Access.lean ====
section
/-! DEFINITION. Accesses of the gates' and combiners' own units to local addresses, made at once (R335, R379, R451). -/

namespace Sys2Proof.Machine

/-- A request of one of the device's own units (DEDUCED, log 42). -/
def unitReq (priv : Priv) (task tenant addr : Nat) (op : MemOp) (len : Nat) (data : List Byte) : Req :=
  { src := .gone, priv := priv, task := task, tenant := tenant, addr := addr, op := op, len := len, data := data }

/-- A write to stall scratch that an uncorrectable word does not stop: every such word is written whole (R536). -/
def Stall.scrWritable (t : Stall) (off n : Nat) : Bool :=
  t.scratchUe.all (fun w => decide (w * 8 + 8 ≤ off ∨ off + n ≤ w * 8 ∨ (off ≤ w * 8 ∧ w * 8 + 8 ≤ off + n)))

/-- The port of a stall window that an access enters at is closed to it (R43, R50). -/
def State.shutTo (s : State) (priv : Priv) (addr : Nat) : Bool :=
  match localRegion addr with
  | some (.scratch ps off) => (s.node (ps * 16 + off / 4096 % 16)).shut priv
  | some (.tile ps _) => (s.node (ps * 16)).shut priv
  | some (.scsr ps _) => (s.node (ps * 16)).shut priv
  | some (.gpage gi _) => (s.node gi).shut priv
  | _ => false

/-- Perform an access: its status and data; none while its stall sleeps. -/
def State.unitPiece (s : State) (r : Req) : Option (State × Status × List Byte) :=
  if s.shutTo r.priv r.addr then some (s, St.netDestFenced, [])
  else match s.direct r with
  | some x => some x
  | none =>
    match localRegion r.addr with
    | some (.scratch ps off) =>
      if (s.stall ps).pstate ≠ .run then none
      else if r.op = .write ∧ (s.stall ps).scrWritable off r.len then some (s.scrWrite ps off r.data, St.ok, [])
      else some (s.detect St.rasScratchUe 4 1 1 ps 0 0 r.task, St.rasScratchUe, [])
    | _ => some (s, St.unsupported, [])

/-- An access of any length, in pieces that end at 4 KiB boundaries; the first status that fails ends it. -/
def State.unitPieces (s : State) (priv : Priv) (task tenant : Nat) (op : MemOp) :
    Nat → Nat → Nat → List Byte → Option (State × Status × List Byte)
  | 0, _, _, _ => some (s, St.ok, [])
  | fuel + 1, addr, len, data =>
    if len = 0 then some (s, St.ok, [])
    else
      let n := min len (4096 - addr % 4096)
      match s.unitPiece (unitReq priv task tenant addr op n (data.take n)) with
      | none => none
      | some (t, st, bs) =>
        if st ≠ St.ok then some (t, st, [])
        else match t.unitPieces priv task tenant op fuel (addr + n) (len - n) (data.drop n) with
          | none => none
          | some (u, st, rest) => some (u, st, bs ++ rest)

/-- DEDUCED, log 42. -/
def State.unitRead (s : State) (priv : Priv) (task tenant addr len : Nat) : Option (State × Status × List Byte) :=
  s.unitPieces priv task tenant .read (len / 4096 + 2) addr len []

/-- DEDUCED, log 42. -/
def State.unitWrite (s : State) (priv : Priv) (task tenant addr : Nat) (data : List Byte) : Option (State × Status) :=
  (s.unitPieces priv task tenant .write (data.length / 4096 + 2) addr data.length data).map (fun x => (x.1, x.2.1))

end Sys2Proof.Machine
end

