-- ==== Sys2Proof/Machine/Sha.lean ====
section
/-! DEFINITION. SHA-256, HMAC-SHA-256 and CRC-32C, which the packet, manifest and measurement rules name. -/

namespace Sys2Proof.Machine

abbrev W32 := BitVec 32

/-- The round constants of SHA-256 (FIPS 180-4). -/
def shaK : List Nat :=
  [0x428a2f98, 0x71374491, 0xb5c0fbcf, 0xe9b5dba5, 0x3956c25b, 0x59f111f1, 0x923f82a4, 0xab1c5ed5,
   0xd807aa98, 0x12835b01, 0x243185be, 0x550c7dc3, 0x72be5d74, 0x80deb1fe, 0x9bdc06a7, 0xc19bf174,
   0xe49b69c1, 0xefbe4786, 0x0fc19dc6, 0x240ca1cc, 0x2de92c6f, 0x4a7484aa, 0x5cb0a9dc, 0x76f988da,
   0x983e5152, 0xa831c66d, 0xb00327c8, 0xbf597fc7, 0xc6e00bf3, 0xd5a79147, 0x06ca6351, 0x14292967] ++
  [0x27b70a85, 0x2e1b2138, 0x4d2c6dfc, 0x53380d13, 0x650a7354, 0x766a0abb, 0x81c2c92e, 0x92722c85,
   0xa2bfe8a1, 0xa81a664b, 0xc24b8b70, 0xc76c51a3, 0xd192e819, 0xd6990624, 0xf40e3585, 0x106aa070,
   0x19a4c116, 0x1e376c08, 0x2748774c, 0x34b0bcb5, 0x391c0cb3, 0x4ed8aa4a, 0x5b9cca4f, 0x682e6ff3,
   0x748f82ee, 0x78a5636f, 0x84c87814, 0x8cc70208, 0x90befffa, 0xa4506ceb, 0xbef9a3f7, 0xc67178f2]

/-- The eight working words. -/
structure ShaSt where
  (a b c d e f g h : W32)
  deriving DecidableEq, Repr

def shaInit : ShaSt :=
  ⟨0x6a09e667, 0xbb67ae85, 0x3c6ef372, 0xa54ff53a, 0x510e527f, 0x9b05688c, 0x1f83d9ab, 0x5be0cd19⟩

def shaRound (s : ShaSt) (k w : W32) : ShaSt :=
  let s1 := s.e.rotateRight 6 ^^^ s.e.rotateRight 11 ^^^ s.e.rotateRight 25
  let ch := (s.e &&& s.f) ^^^ (~~~s.e &&& s.g)
  let t1 := s.h + s1 + ch + k + w
  let s0 := s.a.rotateRight 2 ^^^ s.a.rotateRight 13 ^^^ s.a.rotateRight 22
  let maj := (s.a &&& s.b) ^^^ (s.a &&& s.c) ^^^ (s.b &&& s.c)
  ⟨t1 + s0 + maj, s.a, s.b, s.c, s.d + t1, s.e, s.f, s.g⟩

/-- Rounds over the sliding window of the last 16 schedule words. -/
def shaRounds : List Nat → List W32 → ShaSt → ShaSt
  | [], _, s => s
  | k :: ks, win, s =>
    let w := win.headD 0
    let w1 := win.getD 1 0
    let w14 := win.getD 14 0
    let n := (w14.rotateRight 17 ^^^ w14.rotateRight 19 ^^^ (w14 >>> 10)) + win.getD 9 0 +
             (w1.rotateRight 7 ^^^ w1.rotateRight 18 ^^^ (w1 >>> 3)) + w
    shaRounds ks (win.tail ++ [n]) (shaRound s (BitVec.ofNat 32 k) w)

/-- A big-endian 32-bit word of four bytes. -/
def beWords : List Byte → List W32
  | a :: b :: c :: d :: l => (a ++ b ++ c ++ d) :: beWords l
  | _ => []

def shaBlock (s : ShaSt) (blk : List Byte) : ShaSt :=
  let r := shaRounds shaK (beWords blk) s
  ⟨s.a + r.a, s.b + r.b, s.c + r.c, s.d + r.d, s.e + r.e, s.f + r.f, s.g + r.g, s.h + r.h⟩

def shaBlocks : Nat → List Byte → ShaSt → ShaSt
  | 0, _, s => s
  | n + 1, l, s => shaBlocks n (l.drop 64) (shaBlock s (l.take 64))

/-- Big-endian bytes of a number. -/
def beBytes (n v : Nat) : List Byte := (leBytes n v).reverse

def w32Bytes (w : W32) : List Byte := beBytes 4 w.toNat

/-- SHA-256 of a message: 32 bytes. -/
def sha256 (m : List Byte) : List Byte :=
  let z := (119 - m.length % 64) % 64
  let p := m ++ (0x80 :: List.replicate z 0) ++ beBytes 8 (8 * m.length)
  let s := shaBlocks (p.length / 64) p shaInit
  [s.a, s.b, s.c, s.d, s.e, s.f, s.g, s.h].flatMap w32Bytes

/-- HMAC-SHA-256 (FIPS 198-1). -/
def hmac (key m : List Byte) : List Byte :=
  let k := if 64 < key.length then sha256 key else key
  let k := k ++ List.replicate (64 - k.length) 0
  sha256 (k.map (· ^^^ 0x5C) ++ sha256 (k.map (· ^^^ 0x36) ++ m))

/-- One bit step of CRC-32C, reflected. -/
def crcBit (c : W32) : W32 := if c.getLsbD 0 then (c >>> 1) ^^^ 0x82F63B78 else c >>> 1
def crcByte (c : W32) (b : Byte) : W32 :=
  crcBit (crcBit (crcBit (crcBit (crcBit (crcBit (crcBit (crcBit (c ^^^ b.setWidth 32))))))))
/-- CRC-32C. -/
def crc32c (m : List Byte) : Nat := (~~~(m.foldl crcByte 0xFFFFFFFF)).toNat

end Sys2Proof.Machine
end

