-- ==== Sys2Proof/Machine/Array.lean ====
section
/-! DEFINITION. The matrix array: its commands, their checks, the arithmetic of every pass mode, sparsity and skip maps, drains
and errors (R143 to R147, R173 to R207, R213 to R228, R233 to R259). -/

namespace Sys2Proof.Machine

/-! ### Operands (R143, R180) -/

/-- Operand fields of an array opcode. -/
def arrFields (op : Nat) : List (Nat × Nat × Nat) :=
  match op with
  | 0x40 => [(8, 3, 0), (8, 7, 4), (8, 11, 8), (8, 15, 12), (8, 19, 16), (8, 23, 20), (12, 9, 0), (12, 27, 16), (16, 9, 0),
      (16, 10, 10), (16, 11, 11), (16, 12, 12), (16, 14, 13), (16, 16, 15), (16, 17, 17), (16, 22, 18), (20, 21, 0),
      (24, 21, 0), (28, 21, 0)]
  | 0x41 => [(8, 11, 8), (12, 9, 0), (12, 27, 16), (16, 12, 12), (16, 14, 13)]
  | 0x44 => [(8, 7, 4), (8, 19, 16), (12, 27, 16), (16, 9, 0)]
  | 0x45 => [(8, 3, 0), (8, 11, 8), (8, 15, 12), (12, 9, 0), (16, 10, 10), (16, 14, 13), (16, 17, 17), (16, 22, 18), (20, 21, 0)]
  | 0x70 => [(8, 15, 0), (12, 7, 0), (12, 26, 16), (12, 31, 28)]
  | 0x71 => [(8, 15, 0)]
  | _ => []

/-- The operands of an array command. -/
structure ArrOp where
  op : Nat
  ta : Nat
  tb : Nat
  tc : Nat
  fa : Nat
  fb : Nat
  pmode : Nat
  m : Nat
  n : Nat
  k : Nat
  acc : Bool
  drain : Bool
  dadd : Bool
  ofmt : Nat
  sparse : Nat
  rpost : Option Nat
  rmask : Nat
  spmeta : Nat
  skip : Nat
  deriving DecidableEq, Repr

def arrOpOf (v : Nat) : ArrOp :=
  { op := rf v 0 7 0, ta := rf v 8 3 0, tb := rf v 8 7 4, tc := rf v 8 11 8, fa := rf v 8 15 12, fb := rf v 8 19 16,
    pmode := rf v 8 23 20, m := rf v 12 9 0, n := rf v 12 27 16, k := rf v 16 9 0, acc := decide (rf v 16 10 10 = 1),
    drain := decide (rf v 16 11 11 = 1), dadd := decide (rf v 16 12 12 = 1), ofmt := rf v 16 14 13, sparse := rf v 16 16 15,
    rpost := if rf v 16 17 17 = 1 then some (rf v 16 22 18) else none, rmask := rf v 20 21 0, spmeta := rf v 24 21 0,
    skip := rf v 28 21 0 }

/-- Products per cell and ACLK of a format (R174). -/
def prodsPer (fmt : Nat) : Nat := if fmt = 3 ∨ fmt = 4 then 2 else if fmt = 5 then 4 else 1

/-- Passes of a pass mode in one product step (R217); an FP64S step counts its six sweeps (DEDUCED, log 32). -/
def passesOf (pmode : Nat) : Nat :=
  match pmode with
  | 1 => 4 | 2 => 9 | 3 => 6 | 4 => 4 | 5 => 3 | 6 => 18
  | _ => 1

/-- Sparsity factor (R233). -/
def sfOf (sparse : Nat) : Nat := if sparse = 1 then 2 else if sparse = 2 then 4 else 1

def isFp8 (f : Nat) : Bool := decide (f = 3 ∨ f = 4)
/-- The pair rule of R185. -/
def fmtPair (a b : Nat) : Bool := decide (a = b) || (isFp8 a && isFp8 b)
/-- Formats of SINGLE, WSLD and WSMM (R185, R217). -/
def fmtSingle (f : Nat) : Bool := decide (f = 0 ∨ f = 3 ∨ f = 4 ∨ f = 5 ∨ f = 6)

/-! ### Folds and register groups (R183, R184, R221, R224) -/

/-- Outputs of a column fold. -/
def ArrOp.colFold (a : ArrOp) : Nat := if a.pmode = 6 then 256 else 512
def ArrOp.nr (a : ArrOp) : Nat := cdiv a.m 128
def ArrOp.nc (a : ArrOp) : Nat := cdiv a.n a.colFold
def ArrOp.rowsOf (a : ArrOp) (mb : Nat) : Nat := min 128 (a.m - 128 * mb)
/-- Columns of a B register. -/
def ArrOp.cb (a : ArrOp) : Nat :=
  if a.pmode = 6 then 64 else if a.pmode = 4 ∨ a.pmode = 5 then 128
  else if a.fb = 0 ∨ a.fb = 1 then 256 else if a.fb = 2 then 128 else 512
def ArrOp.paired (a : ArrOp) : Bool := decide (a.pmode = 4 ∨ a.pmode = 5 ∨ a.pmode = 6)
/-- Outputs of a C register. -/
def ArrOp.co (a : ArrOp) : Nat := (if a.ofmt = 0 then 128 else 256) / (if a.paired then 2 else 1)
def ArrOp.nco (a : ArrOp) : Nat := cdiv a.n a.co
def ArrOp.wideMul (a : ArrOp) : Nat := if a.pmode = 6 then 2 else 1

/-- A register that a command names, with the shape it must have: register, ROWS, COLS, FMT. -/
abbrev Need := Nat × Nat × Nat × Nat

def ArrOp.groupA (a : ArrOp) : List Need :=
  (List.range a.nr).map (fun mb => (a.ta + mb, a.rowsOf mb, a.k * a.wideMul, a.fa))

def ArrOp.groupB (a : ArrOp) : List Need :=
  (List.range (cdiv a.n a.cb)).map (fun t => (a.tb + t, cdiv a.k (sfOf a.sparse), min a.cb (a.n - t * a.cb) * a.wideMul, a.fb))

/-- FMT of a C register: by accumulator mode, or BF16 or FP16. -/
def cFmt (ofmt : Nat) (int32 : Bool) : Nat := if ofmt = 0 then (if int32 then 7 else 2) else ofmt - 1

def ArrOp.groupC (a : ArrOp) (int32 : Bool) : List Need :=
  (List.range a.nr).flatMap (fun mb => (List.range a.nco).map (fun u =>
    (a.tc + mb * a.nco + u, a.rowsOf mb, min a.co (a.n - u * a.co) * (if a.paired then 2 else 1), cFmt a.ofmt int32)))

def ArrOp.groupW (a : ArrOp) : List Need :=
  (List.range (cdiv a.k 128)).flatMap (fun kb => (List.range (cdiv a.n a.cb)).map (fun t =>
    (a.tb + kb * cdiv a.n a.cb + t, min 128 (a.k - 128 * kb), min a.cb (a.n - t * a.cb), a.fb)))

def regsIn (l : List Need) : List Nat := l.map (·.1)

/-! ### Checks (R186, R254, R259) -/

/-- Check 3. -/
def ArrOp.bad (a : ArrOp) : Bool :=
  let mTop := if a.op = 0x41 then 128 else 512
  let nTop := if a.op = 0x41 ∨ a.op = 0x44 then 512 else if a.pmode = 6 then 1024 else 2048
  let kTop := if a.op = 0x44 then 128 * prodsPer a.fb else if a.pmode = 6 then 64 else 128
  let maskBad := decide (a.rmask % 64 ≠ 0) || decide (a.rmask ≠ 0 ∧ 0x400000 < a.rmask + cdiv a.m 8)
  (decide (a.op ≠ 0x44) && !decide (1 ≤ a.m ∧ a.m ≤ mTop)) || (decide (a.op ≠ 0x45) && !decide (1 ≤ a.n ∧ a.n ≤ nTop)) ||
  (decide (a.op = 0x40 ∨ a.op = 0x44) && !decide (1 ≤ a.k ∧ a.k ≤ kTop)) || decide (a.ofmt = 3) || decide (a.sparse = 3) ||
  maskBad || (decide (a.op = 0x40 ∨ a.op = 0x45) && decide (a.ofmt ≠ 0 ∧ a.fa = 6)) || (a.dadd && decide (a.ofmt ≠ 0))

/-- Format and pass mode of an MMA (R217). -/
def pmodeOk (pmode fa : Nat) : Bool :=
  match pmode with
  | 0 => fmtSingle fa
  | 1 => decide (fa = 1)
  | 2 => decide (fa = 2) | 3 => decide (fa = 2) | 4 => decide (fa = 2) | 5 => decide (fa = 2) | 6 => decide (fa = 2)
  | _ => false

/-- Check 4. -/
def ArrOp.unsupported (a : ArrOp) (arr : Arr) : Bool :=
  match a.op with
  | 0x40 => !fmtPair a.fa a.fb || !pmodeOk a.pmode a.fa || (a.paired && (a.acc || !a.drain || decide (a.pmode = 6 ∧ a.ofmt ≠ 0))) ||
      (decide (a.sparse ≠ 0) && decide (a.pmode ≠ 0)) || decide (a.sparse = 0 ∧ a.spmeta ≠ 0) || decide (a.skip ≠ 0 ∧ a.pmode = 6)
  | 0x41 => arr.int32 && decide (a.ofmt ≠ 0)
  | 0x44 => !fmtSingle a.fb
  | _ => !fmtSingle a.fa || (match arr.held with | some (_, _, f) => !fmtPair a.fa f | none => false)

/-- Whether the accumulators of an operation are INT32. -/
def ArrOp.mode (a : ArrOp) (arr : Arr) : Bool := if a.op = 0x41 then arr.int32 else decide (a.fa = 6)

/-- Whether a command drains to a C group. -/
def ArrOp.drains (a : ArrOp) : Bool := decide (a.op = 0x41 ∨ a.op = 0x45) || (decide (a.op = 0x40) && a.drain)

/-- The operands with the sizes that WSMM takes from the loaded weights. -/
def ArrOp.sized (a : ArrOp) (arr : Arr) : ArrOp :=
  if a.op = 0x45 then (match arr.held with | some (k, n, f) => { a with k := k, n := n, fb := f } | none => a) else a

/-- Input groups in the order of check 9. -/
def ArrOp.inputs (a : ArrOp) : List Need :=
  match a.op with
  | 0x40 => a.groupA ++ a.groupB
  | 0x44 => a.groupW
  | 0x45 => a.groupA
  | _ => []

def ArrOp.outputs (a : ArrOp) (arr : Arr) : List Need := if a.drains then a.groupC (a.mode arr) else []

/-- Conditions 9a, 9c and, for an input, 9d of one register. -/
def Stall.needStatus (st : Stall) (input : Bool) (x : Need) : Status :=
  let t := st.treg x.1
  firstFail [(decide (t.state = .unconf), St.tileUnconf),
    (!decide (t.rows = x.2.1 ∧ t.cols = x.2.2.1 ∧ t.fmt = x.2.2.2), St.tileShape),
    (input && decide (t.state = .empty), St.tileEmpty)]

/-- Check 9: the first register that fails, with its status. -/
def Stall.needFail (st : Stall) (ins outs : List Need) : Option (Need × Status) :=
  (ins.map (fun x => (x, st.needStatus true x)) ++ outs.map (fun x => (x, st.needStatus false x))).find? (fun p => decide (p.2 ≠ St.ok))

/-- Failing FIELD of the metadata record of an MMA (R244, R254). -/
def State.mmaMetaField (s : State) (ps : Nat) (a : ArrOp) : Option Nat :=
  let v := s.scrRec ps a.spmeta
  let m := metaOf v
  if a.spmeta % 64 ≠ 0 then some 8
  else firstField [(decide (rf v 0 7 0 ≠ 0x20), 0), (resSet v metaFields, 7), (decide (m.b ≠ a.sparse), 1), (decide (m.data % 64 ≠ 0), 2),
    (decide (m.rowBytes = 0 ∨ m.rowBytes % 64 ≠ 0 ∨ m.rowBytes < cdiv (a.n * m.b) 8), 3),
    (!decide (1 ≤ rf v 10 7 0 ∧ rf v 10 7 0 ≤ 128 ∧ cdiv a.k (sfOf a.sparse) ≤ rf v 10 7 0), 4),
    (decide (0x400000 < m.data + rf v 10 7 0 * m.rowBytes), 8)]

/-- Failing FIELD of a skip or LINK record of an MMA (R250, R254). -/
def State.mmaSkipField (s : State) (ps off k : Nat) : Option Nat :=
  let v := s.scrRec ps off
  let mx := rf v 40 21 0
  if off % 64 ≠ 0 then some 8
  else firstField [(decide (rf v 0 7 0 ≠ 0x21), 0), (resSet v skipFields, 7), (decide (rf v 0 12 12 = 1), 1),
    (!decide (2 ≤ rf v 0 10 8 ∧ rf v 0 10 8 ≤ 7), 5), (decide (rf v 0 15 14 = 3), 6),
    (decide (mx % 64 ≠ 0) || decide (mx ≠ 0 ∧ 0x400000 < mx + 256), 12),
    (decide (mx = 0 ∧ 16 < cdiv k (2 ^ rf v 0 10 8)), 12)]

/-- LINK of a skip record. -/
def skipLink (v : Nat) : Nat := rf v 4 21 0

/-- Whether a record at an aligned offset reads; a misaligned one is not read. -/
def State.recGood (s : State) (ps off : Nat) : Bool := decide (off % 64 ≠ 0) || s.scrGood ps off 64

/-- Check 10: the status, and the record offset and FIELD for STALL_SP_REC. -/
def State.mmaRecords (s : State) (ps : Nat) (a : ArrOp) : Status × Nat × Nat :=
  if a.op ≠ 0x40 then (St.ok, 0, 0)
  else if a.sparse ≠ 0 ∧ a.spmeta = 0 then (St.spMetaMissing, 0, 0)
  else if a.sparse ≠ 0 ∧ !s.recGood ps a.spmeta then (St.rasScratchUe, 0, 0)
  else
    match (if a.sparse = 0 then none else s.mmaMetaField ps a) with
    | some f => (St.spRecord, a.spmeta, f)
    | none =>
      if a.skip = 0 then (St.ok, 0, 0)
      else if !s.recGood ps a.skip then (St.rasScratchUe, 0, 0)
      else
        match s.mmaSkipField ps a.skip a.k with
        | some f => (St.spRecord, a.skip, f)
        | none =>
          let v := s.scrRec ps a.skip
          let l := skipLink v
          if l ≠ 0 ∧ !s.recGood ps l then (St.rasScratchUe, 0, 0)
          else
            match (if l = 0 then none else s.mmaSkipField ps l a.k) with
            | some f => (St.spRecord, l, f)
            | none =>
              let w := s.scrRec ps l
              if l ≠ 0 ∧ (rf w 0 10 8 ≠ rf v 0 10 8 ∨ skipLink w ≠ 0) then (St.spRecord, l, 10)
              else if 2 ^ rf v 0 10 8 % ((if a.pmode = 0 then prodsPer a.fa else 1) * sfOf a.sparse) ≠ 0 then (St.spSkipChunk, a.skip, 5)
              else (St.ok, 0, 0)

/-- Checks 1 to 8 of R186. -/
def ArrOp.early (a : ArrOp) (arr : Arr) (cmd : Nat) : Status :=
  let z := a.sized arr
  let inR := regsIn z.inputs
  let outR := regsIn (z.outputs arr)
  firstFail [
    (resSet cmd (envFields ++ arrFields a.op), St.reservedSet),
    (a.bad, St.badParam),
    (a.unsupported arr, St.unsupported),
    (decide (a.op = 0x40) && decide (1 < a.nr ∨ 1 < a.nc) && (a.acc || !a.drain), St.arrayFold),
    ((inR ++ outR).any (fun r => decide (15 < r)), St.arrayGroup),
    (outR.any inR.contains, St.arrayAlias),
    (decide (a.op = 0x40) && a.acc && decide (arr.vrow ≠ 0) && decide (arr.int32 ≠ a.mode arr), St.arrayAccmode),
    (decide (a.op = 0x45 ∧ arr.held = none), St.arrayNoWeights)]

/-- All checks of an array command: the state with the record of a failure, and the status. -/
def State.arrCheck (s : State) (ps idx cmd : Nat) (a : ArrOp) : State × Status :=
  let st := s.stall ps
  let e := a.early st.arr cmd
  if e ≠ St.ok then (s, e)
  else
    let z := a.sized st.arr
    match st.needFail z.inputs (z.outputs st.arr) with
    | some (x, e) => (if e = St.tileShape then s.tshape ps 2 x.1 x.2.1 x.2.2.1 x.2.2.2 else s, e)
    | none =>
      let (e, off, f) := s.mmaRecords ps z
      if e = St.ok then
        (s, if a.rmask ≠ 0 ∧ !s.scrGood ps a.rmask (cdiv a.m 8) then St.rasScratchUe else St.ok)
      else (if e = St.rasScratchUe then s else s.spRec ps 2 idx off f, e)

/-! ### Cells (R174, R213 to R223) -/

/-- Flag bits of STALL_NUM_FLAGS (R231). -/
def nfNV : Nat := 1
def nfOF : Nat := 2
def nfSAT : Nat := 4
def nfNANIN : Nat := 16

/-- Add a value to an FP32 accumulator with one rounding: its code and flags (R213, R214). -/
def accAdd (acc : Nat) (x : Num) : Nat × Nat :=
  let (z, inv) := Num.add 0 (fp32.decode acc) x
  let (c, f) := ieeeRound fp32 0 false z
  (c, (if inv then nfNV else 0) ||| (if f / fOF % 2 = 1 then nfOF else 0))

/-- An exact product, with NAN_IN for a NaN operand and NV for zero times infinity. -/
def product (x y : Num) : Num × Nat :=
  let (z, inv) := Num.mul x y
  (z, (if x.isNaN || y.isNaN then nfNANIN else 0) ||| (if inv then nfNV else 0))

/-- The exact sum of the products of one step: a missing product is +0 (R213) (DEDUCED, log 32). -/
def stepSum (fa fb : FFmt) : List (Option (Nat × Nat)) → Option (Num × Nat)
  | [] => none
  | t :: l =>
    let (x, fx) := match t with
      | none => (.fin false 0 0, 0)
      | some (a, b) => product (fa.decode a) (fb.decode b)
    match stepSum fa fb l with
    | none => some (x, fx)
    | some (y, fy) =>
      let (z, inv) := Num.add 0 x y
      some (z, fx ||| fy ||| (if inv then nfNV else 0))

/-- Saturating INT32 addition (R215). -/
def satInt (i : Int) : Nat × Nat :=
  if i > 2 ^ 31 - 1 then (0x7FFFFFFF, nfSAT) else if i < -(2 ^ 31) then (0x80000000, nfSAT) else (ofSigned 32 i, 0)

/-- One step of SINGLE: a step without terms adds nothing (R236). -/
def stepSingle (fa fb : Nat) (terms : List (Option (Nat × Nat))) (acc : Nat) : Nat × Nat :=
  if fa = 6 then
    satInt (terms.foldl (fun i t => match t with | some (a, b) => i + toSigned 8 a * toSigned 8 b | none => i) (toSigned 32 acc))
  else
    match stepSum ((fmtFloat fa).getD bf16) ((fmtFloat fb).getD bf16) terms with
    | none => (acc, 0)
    | some (x, f) => let (c, g) := accAdd acc x; (c, f ||| g)

/-- Slice k of an operand (R218): 0 is the highest. -/
def sliceOf (pmode k : Nat) : Num → Num
  | .fin n m e =>
    if pmode = 1 then (if k = 0 then .fin n (m / 8) (e + 3) else .fin n (m % 8) e)
    else if k = 0 then .fin n (m / 65536) (e + 16) else if k = 1 then .fin n (m / 256 % 256) (e + 8) else .fin n (m % 256) e
  | x => x

/-- Pass order: the slice of A and the slice of B (R218). -/
def passOrder (pmode : Nat) : List (Nat × Nat) :=
  match pmode with
  | 1 => [(1, 1), (1, 0), (0, 1), (0, 0)]
  | 2 => [(2, 2), (1, 2), (2, 1), (0, 2), (1, 1), (2, 0), (0, 1), (1, 0), (0, 0)]
  | _ => [(0, 2), (1, 1), (2, 0), (0, 1), (1, 0), (0, 0)]

def special (x : Num) : Bool := x.isNaN || x.isInf

/-- One step of FP16X4, FP32X9 or FP32X6 (R218 to R220). -/
def stepSliced (pmode : Nat) (a b acc : Nat) : Nat × Nat :=
  let f := if pmode = 1 then fp16 else fp32
  let x := f.decode a
  let y := f.decode b
  if special x || special y then
    let (acc, _) := (passOrder pmode).dropLast.foldl (fun c _ => accAdd c.1 (.fin false 0 0)) (acc, 0)
    let (z, g) := product x y
    let (c, h) := accAdd acc z
    (c, g ||| h)
  else
    (passOrder pmode).foldl (fun c o =>
      let (d, g) := accAdd c.1 (product (sliceOf pmode o.1 x) (sliceOf pmode o.2 y)).1
      (d, c.2 ||| g)) (acc, 0)

/-- A complex operand: real and imaginary part (R221). -/
def cplx (c : Nat) : Num × Num := (bf16.decode (c % 65536), bf16.decode (c / 65536 % 65536))

/-- A sum that the manger rounds to BF16 (R222). -/
def bfSum (x y : Num) : Num × Nat :=
  let (z, inv) := Num.add 0 x y
  (bf16.decode (ieeeRound bf16 0 false z).1, (if inv then nfNV else 0) ||| (if x.isNaN || y.isNaN then nfNANIN else 0))

/-- One step of CPLX4 or CPLX3 on accumulator and latch (R222). -/
def stepCplx (pmode a b : Nat) (c : Nat × Nat) : (Nat × Nat) × Nat :=
  let (ar, ai) := cplx a
  let (br, bi) := cplx b
  let (rr, f0) := product ar br
  let (ii, f1) := product ai bi
  let (re, g0) := accAdd c.1 rr
  let (re, g1) := accAdd re ii.neg
  if pmode = 4 then
    let (ri, f2) := product ar bi
    let (ir, f3) := product ai br
    let (im, g2) := accAdd c.2 ri
    let (im, g3) := accAdd im ir
    ((re, im), f0 ||| f1 ||| f2 ||| f3 ||| g0 ||| g1 ||| g2 ||| g3)
  else
    let (sa, h0) := bfSum ar ai
    let (sb, h1) := bfSum br bi
    let (ss, f2) := product sa sb
    let (im, g2) := accAdd c.2 rr.neg
    let (im, g3) := accAdd im ii.neg
    let (im, g4) := accAdd im ss
    ((re, im), f0 ||| f1 ||| f2 ||| g0 ||| g1 ||| g2 ||| g3 ||| g4 ||| h0 ||| h1)

/-! ### Sliced FP64 (R225, R226) -/

/-- floor(log2 |x|) of a finite non-zero value. -/
def expOf : Num → Option Int
  | .fin _ m e => if m = 0 then none else some ((ilog2 m : Int) + e)
  | _ => none

def maxExp (l : List Num) : Option Int :=
  l.foldl (fun t x => match t, expOf x with
    | some a, some b => some (max a b)
    | none, y => y
    | t, none => t) none

/-- An element as a multiple of 2^(top − 51), nearest even. -/
def scaled (top : Int) : Num → Int
  | .fin n m e =>
    let (t, _) := roundAt 0 n m e (top - 51)
    if n then -(t : Int) else t
  | _ => 0

/-- Balanced radix-512 digits, least significant first. -/
def digits : Nat → Int → List Int
  | 0, _ => []
  | k + 1, x =>
    let r := (x + 256) % 512 - 256
    r :: digits k ((x - r) / 512)

/-- Six digits, most significant first. -/
def split6 (x : Int) : List Int := (digits 6 x).reverse

/-- Divide by 2^9, nearest, ties to even. -/
def rshift9 (x : Int) : Int :=
  let q := x / 512
  let r := x % 512
  if r > 256 ∨ (r = 256 ∧ q % 2 = 1) then q + 1 else q

/-- One sweep over the A digit `sw`: the sums of the left and right columns. -/
def sweep (sw : Nat) (ds es : List (List Int)) (w : Int × Int) : Int × Int :=
  (ds.zip es).foldl (fun w p => [0, 1, 2].foldl (fun w t =>
    let x := p.1.getD sw 0
    (w.1 + x * p.2.getD t 0 * 2 ^ (23 + 9 * (2 - t)), w.2 + x * p.2.getD (3 + t) 0 * 2 ^ (23 + 9 * (2 - t)))) w) w

/-- One FP64S result from a row of A and a column of B: the code and flags. -/
def fp64Dot (a b : List Nat) : Nat × Nat :=
  let xs := a.map fp64.decode
  let ys := b.map fp64.decode
  let prods := (xs.zip ys).map (fun p => Num.mul p.1 p.2)
  if xs.any Num.isNaN || ys.any Num.isNaN then
    (fp64.nanCode, nfNANIN ||| (if prods.any (·.2) then nfNV else 0))
  else if prods.any (·.2) || (prods.any (fun p => decide (p.1 = .inf false)) && prods.any (fun p => decide (p.1 = .inf true))) then
    (fp64.nanCode, nfNV)
  else if prods.any (fun p => decide (p.1 = .inf false)) then (fp64.infCode, 0)
  else if prods.any (fun p => decide (p.1 = .inf true)) then (fp64.sign true + fp64.infCode, 0)
  else
    match maxExp xs, maxExp ys with
    | some ea, some eb =>
      let ds := xs.map (fun x => split6 (scaled ea x))
      let es := ys.map (fun y => split6 (scaled eb y))
      let w := [5, 4, 3, 2, 1, 0].foldl (fun (w : Int × Int) sw =>
        sweep sw ds es (if sw < 5 then (rshift9 w.1, rshift9 w.2) else w)) (0, 0)
      let (c, f) := ieeeRound fp64 0 false (Num.ofInt (w.1 * 2 ^ 27 + w.2) (22 + ea - 51 + eb - 51) false)
      (c, if f / fOF % 2 = 1 then nfOF else 0)
    | _, _ => (0, 0)

/-! ### Operands in the tile registers -/

/-- Codes of a register row. -/
def Stall.rowCodes (st : Stall) (t r fmt n : Nat) : List Nat := codesOf fmt (st.tileRow t r) n

/-- Pair FP32 slots into FP64 codes, the low word first (R224). -/
def pairWords : List Nat → List Nat
  | lo :: hi :: l => (lo + hi * 2 ^ 32) :: pairWords l
  | _ => []

/-- Row m of A. -/
def Stall.aRow (st : Stall) (a : ArrOp) (m : Nat) : List Nat :=
  let l := st.rowCodes (a.ta + m / 128) (m % 128) a.fa (a.k * a.wideMul)
  if a.pmode = 6 then pairWords l else l

/-- Rows of B, each over all N columns. -/
def Stall.bRows (st : Stall) (a : ArrOp) : List (List Nat) :=
  (List.range (cdiv a.k (sfOf a.sparse))).map (fun k => (List.range (cdiv a.n a.cb)).flatMap (fun t =>
    let l := st.rowCodes (a.tb + t) k a.fb (min a.cb (a.n - t * a.cb) * a.wideMul)
    if a.pmode = 6 then pairWords l else l))

/-- Columns of a matrix from its rows. -/
def columns (rows : List (List Nat)) (from_ n : Nat) : List (List Nat) :=
  let rs := rows.map List.toArray
  (List.range n).map (fun j => rs.map (fun r => r.getD (from_ + j) 0))

/-- An uncorrectable part that a read of whole register rows meets: register, row, byte. -/
def Stall.groupUe (st : Stall) (l : List Need) : Option (Nat × Nat × Nat) :=
  l.findSome? (fun x => (List.range x.2.1).findSome? (fun r => (st.tileBad x.1 r 0 512).map (fun b => (x.1, r, b))))

/-! ### Sparsity and skips (R236, R243, R250 to R252) -/

/-- The select of a compressed row and a column. -/
def State.selectOf (s : State) (ps : Nat) (m : MetaRec) (q n : Nat) : Nat :=
  bits (s.scrLe ps (m.data + q * m.rowBytes + n * m.b / 8) 1) (n * m.b % 8 + m.b - 1) (n * m.b % 8)

/-- Map index of a fold in a skip record. -/
def mapOf (v nr nb mb : Nat) : Nat :=
  match rf v 0 15 14 with
  | 0 => nb * nr + mb
  | 1 => mb
  | _ => nb

/-- Chunks of the inner dimension that a fold skips. -/
def State.skippedOf (s : State) (ps : Nat) (a : ArrOp) (nb mb : Nat) : List Nat :=
  if a.skip = 0 then []
  else
    let v := s.scrRec ps a.skip
    let l := skipLink v
    let recs := (a.skip, v) :: (if l = 0 then [] else [(l, s.scrRec ps l)])
    (List.range (cdiv a.k (2 ^ rf v 0 10 8))).filter (fun c => recs.any (fun p =>
      !s.mapBit ps (skipMapAt p.1 p.2 (mapOf p.2 a.nr nb mb)) 128 c))

/-- Inner positions that one product step covers. -/
def ArrOp.span (a : ArrOp) : Nat := (if a.pmode = 0 then prodsPer a.fa else 1) * sfOf a.sparse

/-- Product steps that a fold feeds. -/
def State.liveSteps (s : State) (ps : Nat) (a : ArrOp) (nb mb : Nat) : List Nat :=
  let skip := s.skippedOf ps a nb mb
  let cl := rf (s.scrRec ps a.skip) 0 10 8
  (List.range (cdiv a.k a.span)).filter (fun k => !skip.contains (k * a.span / 2 ^ cl))

/-- Terms of product step k: `sel` gives the select of a compressed row (R213, R236). -/
def termsOf (a : ArrOp) (sel : Nat → Nat) (x y : Array Nat) (k : Nat) : List (Option (Nat × Nat)) :=
  let p := prodsPer a.fa
  (List.range p).filterMap (fun u =>
    let q := p * k + u
    if a.sparse = 0 then some (if q < a.k then some (x.getD q 0, y.getD q 0) else none)
    else if cdiv a.k (sfOf a.sparse) ≤ q then some none
    else
      let pos := sfOf a.sparse * q + sel q
      if pos < a.k then some (some (x.getD pos 0, y.getD q 0)) else none)

/-- One cell over the live steps of a fold: accumulator, latch and flags. -/
def cellRun (a : ArrOp) (live : List Nat) (sel : Nat → Nat) (x y : Array Nat) (acc : Nat × Nat) : (Nat × Nat) × Nat :=
  live.foldl (fun c k =>
    if a.pmode = 0 then
      let (d, f) := stepSingle a.fa a.fb (termsOf a sel x y k) c.1.1
      ((d, c.1.2), c.2 ||| f)
    else if a.pmode ≤ 3 then
      let (d, f) := stepSliced a.pmode (x.getD k 0) (y.getD k 0) c.1.1
      ((d, c.1.2), c.2 ||| f)
    else
      let (d, f) := stepCplx a.pmode (x.getD k 0) (y.getD k 0) c.1
      (d, c.2 ||| f)) (acc, 0)

/-! ### Timing (R190 to R196, R223, R228, R251) -/

/-- ACLK per drained row. -/
def ArrOp.drainD (a : ArrOp) : Nat :=
  if a.pmode = 4 ∨ a.pmode = 5 then (if a.dadd then 12 else if a.ofmt = 0 then 6 else 3)
  else if a.dadd then 6 else if a.ofmt = 0 then 3 else 2

/-- One fold's stream: rows, columns, product-step ACLK and the bubbles among them. -/
structure FoldTime where
  r : Nat
  c : Nat
  steps : Nat
  masked : Nat
  skips : Nat
  deriving DecidableEq, Repr

/-- Stream windows of a command: where the next stream may start, the drain rule's bound, and the last write or product. -/
structure Sched where
  s0 : Nat
  gap : Nat
  last : Nat
  wins : List FoldWin := []
  deriving DecidableEq, Repr

/-- The schedule of one fold (R193, R223, R228) (DESIGN CHOICE, log 31). -/
def foldTime (a : ArrOp) (x : Sched) (f : FoldTime) : Sched :=
  let d := a.drainD
  let win := fun s e => x.wins ++ [{ start := s, stop := e, rows := f.r, masked := f.masked, skips := f.skips }]
  if a.paired then
    let s := x.s0 + (if a.pmode = 6 then 2 * a.k else 0)
    let e := s + f.steps
    let last := e + f.r + (f.c + (if a.pmode = 6 then 256 else 0) - 1) + (f.r - 1) * d + 4
    { s0 := last + 8, gap := x.gap, last := last, wins := win s e }
  else if a.drain then
    let e := max (x.s0 + f.steps) x.gap
    { s0 := e, gap := e + f.r * (d + 1), last := e + f.r + (f.c - 1) + (f.r - 1) * d + 4, wins := win (e - f.steps) e }
  else
    let e := x.s0 + f.steps
    { s0 := e, gap := x.gap, last := e + (f.r - 1) + (f.c - 1), wins := win x.s0 e }

/-- ACLK per input row of WSMM (R196). -/
def ArrOp.interval (a : ArrOp) : Nat :=
  (if a.ofmt = 0 then 2 else 1) + b2n a.acc

def State.aclk (s : State) : Nat := s.clk / 2

/-! ### Discards and failures (R176, R195, R202, R257) -/

def State.modArr (s : State) (ps : Nat) (f : Arr → Arr) : State := s.modStall ps (fun st => { st with arr := f st.arr })

/-- Row steps accumulated in valid rows and not drained. -/
def Arr.undrained (a : Arr) : Nat :=
  (List.range 128).foldl (fun n i => if a.vrow.getLsbD i then n + Map.get zeroN a.fed i else n) 0

/-- The accumulators of valid rows are discarded: their slots become wasted (R257). -/
def State.reclass (s : State) (ps : Nat) (pr : Priv) : State :=
  (s.perf ps 0x04 (some pr) none none (s.stall ps).arr.undrained).modArr ps (fun a => { a with fed := [] })

/-- A failure or ABORT: valid bits clear, latches empty, nothing in flight. -/
def State.arrStop (s : State) (ps : Nat) : State :=
  let pr := ((s.queue ps 2).lists.head?.map (·.priv)).getD .kernel
  (s.reclass ps pr).modArr ps (fun a => { a with
    vrow := 0, held := none, w := [], inflight := [], streamFree := min a.streamFree s.aclk, gapEnd := min a.gapEnd s.aclk })

/-- The command at the head fails after it has started. -/
def State.arrFail (s : State) (ps : Nat) (st : Status) : State := (s.arrStop ps).cmdFail ps 2 st

/-- Physical column of a logical column (R173). -/
def physCol (map : Word) (col : Nat) : Nat :=
  let byp := (if bit map 10 then [fld map 9 0] else []) ++ (if bit map 26 then [fld map 25 16] else [])
  ((List.range 514).filter (fun c => !byp.contains c)).getD col col

/-! ### Running the commands -/

/-- Masked logical rows of a command (R181). -/
def State.rowMasked (s : State) (ps : Nat) (a : ArrOp) (m : Nat) : Bool :=
  decide (a.rmask ≠ 0) && !(Map.get zeroB (s.stall ps).scratch (a.rmask + m / 8)).getLsbD (m % 8)

/-- Cut outputs into the registers that they go to. -/
def chunksOf (n : Nat) : Nat → List Nat → List (List Nat)
  | 0, _ => []
  | f + 1, l => if l = [] then [] else l.take n :: chunksOf n f (l.drop n)

/-- Destinations of one row of outputs that start at output column n0; `per` values each. -/
def ArrOp.dest (a : ArrOp) (mb n0 row per : Nat) (vals : List Nat) : List (Nat × Nat × List Nat) :=
  (chunksOf (a.co * per) (vals.length + 1) vals).zipIdx.map (fun p => (a.tc + mb * a.nco + n0 / a.co + p.2, row, p.1))

/-- What a fold does to the array, and the rows that it drains. -/
structure FoldRun where
  arr : Arr
  flags : Nat := 0
  drains : List DrainRow := []
  times : List FoldTime := []
  skips : Nat := 0

/-- One fold of an MMA (R176, R183, R190, R213, R251) (DEDUCED, log 32). -/
def State.runFold (s : State) (ps : Nat) (a : ArrOp) (cols : List (List Nat)) (x : FoldRun) (nb mb : Nat) : FoldRun :=
  let st := s.stall ps
  let r := a.rowsOf mb
  let n0 := nb * a.colFold
  let c := min a.colFold (a.n - n0)
  let live := s.liveSteps ps a nb mb
  let skips := (s.skippedOf ps a nb mb).length
  let ys := ((cols.drop n0).take c).map List.toArray
  let md := metaOf (s.scrRec ps a.spmeta)
  let rows := (List.range r).filter (fun i => !s.rowMasked ps a (128 * mb + i))
  let wide := decide (a.pmode = 6)
  let runRow := fun i =>
    let xs := st.aRow a (128 * mb + i)
    let fresh := !a.acc || !x.arr.vrow.getLsbD i
    let old := if fresh then [] else Map.get (fun _ => []) x.arr.acc i
    if wide then
      let out := ys.map (fun y => fp64Dot xs y.toList)
      (i, out.map (fun o => (o.1, 0)), out.foldl (fun f o => f ||| o.2) 0)
    else
      let out := ys.zipIdx.map (fun y => cellRun a live (fun q => s.selectOf ps md q (n0 + y.2)) xs.toArray y.1 (old.getD y.2 0, 0))
      (i, out.map (·.1), out.foldl (fun f o => f ||| o.2) 0)
  let done := rows.map runRow
  let fedBits : BitVec 128 := rows.foldl (fun v i => v ||| BitVec.ofNat 128 (2 ^ i)) 0
  let vrow := if a.acc then x.arr.vrow ||| fedBits else fedBits
  let acc := if wide then x.arr.acc else done.foldl (fun m d => Map.set (fun _ => []) m d.1
    (d.2.1.map (·.1) ++ (Map.get (fun _ => []) m d.1).drop c)) x.arr.acc
  let fed := rows.foldl (fun m i => Map.set zeroN m i (live.length * passesOf a.pmode +
    (if a.acc && x.arr.vrow.getLsbD i then Map.get zeroN m i else 0))) x.arr.fed
  let drains := if a.drain then
      -- A masked row is not drained, whatever its valid bit (R199).
      done.map (fun d =>
        let two := decide (a.pmode = 4 ∨ a.pmode = 5)
        { row := d.1, fold := nb * a.nr + mb,
          dst := a.dest mb n0 d.1 (if two then 2 else 1) (if two then d.2.1.flatMap (fun v => [v.1, v.2]) else d.2.1.map (·.1)) })
    else []
  { arr := { x.arr with int32 := decide (a.fa = 6), acc := acc, vrow := if a.drain then 0 else vrow,
                        fed := if a.drain then [] else fed,
                        held := if a.drain then none else x.arr.held, w := if a.drain then [] else x.arr.w },
    flags := done.foldl (fun f d => f ||| d.2.2) x.flags, drains := x.drains ++ drains,
    times := x.times ++ [{ r := r, c := c, steps := live.length * passesOf a.pmode + skips, masked := r - rows.length, skips := skips }],
    skips := x.skips + skips }

/-- Folds in order: nb outer, mb inner (R183). -/
def ArrOp.folds (a : ArrOp) : List (Nat × Nat) :=
  (List.range a.nc).flatMap (fun nb => (List.range a.nr).map (fun mb => (nb, mb)))

/-- Put a command in flight, with its read post (R182, R187) (DESIGN CHOICE, log 31). -/
def State.arrLaunch (s : State) (ps : Nat) (c : ArrCmd) (rpost : Option Nat) (flags : Nat) : State :=
  let s := if flags = 0 then s else s.orStall ps 0x1500 (BitVec.ofNat 64 flags)
  let s := match rpost with | some e => s.postEv ps e 1 | none => s
  s.modArr ps (fun a => { a with inflight := a.inflight ++ [c] })

/-- MMA (R183, R190 to R193, R213 to R228, R233 to R252) (DESIGN CHOICE, log 31). -/
def State.runMma (s : State) (ps : Nat) (c : ArrCmd) (a : ArrOp) : State :=
  let st := s.stall ps
  let s := if a.acc then s else s.reclass ps c.lst.priv
  let cols := columns (st.bRows a) 0 a.n
  let x := a.folds.foldl (fun x f => s.runFold ps a cols x f.1 f.2) { arr := (s.stall ps).arr }
  let sch := x.times.foldl (foldTime a) { s0 := max (s.aclk + 8) st.arr.streamFree, gap := st.arr.gapEnd, last := 0 }
  let s := (s.modArr ps (fun _ => { x.arr with streamFree := sch.s0, gapEnd := sch.gap })).bumpStall ps 0x1608 x.skips
  s.arrLaunch ps { c with drains := x.drains, wins := sch.wins, tEnd := sch.last, wide := decide (a.pmode = 6),
                          int32 := decide (a.fa = 6) } a.rpost x.flags

/-- ADRAIN (R176, R193). -/
def State.runAdrain (s : State) (ps : Nat) (c : ArrCmd) (a : ArrOp) : State :=
  let r := (s.stall ps).arr
  let e := max (max r.streamFree s.aclk) r.gapEnd
  let drains := ((List.range a.m).filter (fun i => r.vrow.getLsbD i)).map (fun i =>
    { row := i, fold := 0, dst := a.dest 0 0 i 1 ((List.range a.n).map (fun j => (Map.get (fun _ => []) r.acc i).getD j 0)) })
  let s := s.modArr ps (fun r => { r with vrow := 0, fed := [], held := none, w := [], streamFree := e, gapEnd := e + a.m * (a.drainD + 1) })
  s.arrLaunch ps { c with drains := drains, tEnd := e + a.m + (a.n - 1) + (a.m - 1) * a.drainD + 4, int32 := r.int32 } none 0

/-- WSLD (R194) (DEDUCED, log 32). -/
def State.runWsld (s : State) (ps : Nat) (c : ArrCmd) (a : ArrOp) : State :=
  let st := s.stall ps
  let nw := cdiv a.n a.cb
  let rows := (List.range a.k).map (fun k => (List.range nw).flatMap (fun t =>
    st.rowCodes (a.tb + k / 128 * nw + t) (k % 128) a.fb (min a.cb (a.n - t * a.cb))))
  let s := s.modArr ps (fun r => { r with held := some (a.k, a.n, a.fb), w := columns rows 0 a.n })
  s.arrLaunch ps { c with tEnd := s.aclk + 8 + cdiv a.k (prodsPer a.fb) } none 0

/-- The existing value of an output of WSMM, in accumulator form (R196). -/
def Stall.yCode (st : Stall) (a : ArrOp) (int32 : Bool) (m n : Nat) : Nat :=
  let f := cFmt a.ofmt int32
  let c := codeAt f (st.tileRow (a.tc + m / 128 * a.nco + n / a.co) (m % 128)) (n % a.co)
  if a.ofmt = 0 then c else (ieeeRound fp32 0 false (((fmtFloat f).getD bf16).decode c)).1

/-- WSMM (R176, R196) (DEDUCED, log 32). -/
def State.runWsmm (s : State) (ps : Nat) (c : ArrCmd) (a : ArrOp) : State :=
  let st := s.stall ps
  let int32 := decide (a.fa = 6)
  let ys := st.arr.w.map List.toArray
  let s := s.reclass ps c.lst.priv
  let live := List.range (cdiv a.k (prodsPer a.fa))
  let rows := (List.range a.m).filter (fun m => !s.rowMasked ps a m)
  let out := rows.map (fun m =>
    let xs := (st.aRow a m).toArray
    let cells := ys.zipIdx.map (fun y =>
      let y0 := if a.acc then st.yCode a int32 m y.2 else 0
      let (d, f) := cellRun a live (fun _ => 0) xs y.1 (y0, 0)
      (d.1, f ||| (if !int32 && (fp32.decode y0).isNaN then nfNANIN else 0)))
    (m, cells.map (·.1), cells.foldl (fun f x => f ||| x.2) 0))
  let drains := out.map (fun o => { row := o.1 % 128, fold := o.1 / 128, dst := a.dest (o.1 / 128) 0 (o.1 % 128) 1 o.2.1 })
  let ld := st.arr.inflight.foldl (fun t x => if x.op = 0x44 then max t (x.tEnd + 1) else t) 0
  let s0 := max (max (s.aclk + 8) st.arr.streamFree) ld
  let s := s.modArr ps (fun r => { r with int32 := int32, vrow := 0, fed := [], streamFree := s0 + a.interval * a.m })
  let win : FoldWin :=
    { start := s0, stop := s0 + a.interval * a.m, rows := cdiv a.k (prodsPer a.fa), masked := a.m - rows.length, skips := 0,
      iv := a.interval, ws := true }
  let c := { c with drains := drains, int32 := int32, tEnd := s0 + a.interval * (a.m - 1) + 131 + a.n, wins := [win] }
  s.arrLaunch ps c a.rpost (out.foldl (fun f o => f ||| o.2.2) 0)

/-- TCFG and TREL (R143 to R146). -/
def State.runTcfg (s : State) (ps cmd : Nat) : State × Status :=
  let cfg := decide (rf cmd 0 7 0 = 0x70)
  let tm := rf cmd 8 15 0
  let rows := rf cmd 12 7 0
  let cols := rf cmd 12 26 16
  let fmt := rf cmd 12 31 28
  let sel := (List.range 16).filter (fun t => tm.testBit t)
  let e := firstFail [
    (resSet cmd (envFields ++ arrFields (rf cmd 0 7 0)), St.reservedSet), (decide (tm = 0), St.badParam),
    (cfg && !decide (1 ≤ rows ∧ rows ≤ 128 ∧ fmt ≤ 7 ∧ 1 ≤ cols ∧ cols ≤ maxCols fmt ∧ (fmt = 5 → cols % 2 = 0)), St.tileCfgInvalid),
    (sel.any (fun t => decide ((s.stall ps).owners t ≠ 0)), St.tileBusy)]
  if e ≠ St.ok then (s, e)
  else
    (s.modStall ps (fun st => sel.foldl (fun st t =>
      let x := st.treg t
      st.setTreg t (if cfg then { state := .empty, rows := rows, cols := cols, fmt := fmt }
        else { state := if x.state = .unconf then .unconf else .empty, rows := x.rows, cols := x.cols, fmt := x.fmt })) st), St.ok)

/-- Registers that drains still to come will write. -/
def Arr.toWrite (a : Arr) : List Nat := a.inflight.flatMap (fun c => c.drains.flatMap (fun d => d.dst.map (·.1)))

/-- A drain is pending in the latches (R194, R206): rows of an MMA or ADRAIN are still to be written. -/
def Arr.drainPending (a : Arr) : Bool := a.inflight.any (fun c => decide (c.op = 0x40 ∨ c.op = 0x41) && decide (c.drains ≠ []))

/-- The next command of the array queue is taken: a failure is reported once no earlier command is in flight. -/
def State.arrTake (s : State) (ps op : Nat) : State :=
  match s.headCmd ps 2 with
  | none => s
  | some (l, i0) =>
    let x := s.queue ps 2
    let st := s.stall ps
    let fl := st.arr.inflight
    let idx := i0 + fl.length
    let w := s.cmdWord ps l idx 0
    let e := envOf w
    let alone := op = 0x70 ∨ op = 0x71
    if x.count.getD 0 ≤ idx ∨ bits w 7 0 ≠ op ∨ x.pausing ∨ x.aborting ∨ st.pstate ≠ .run ∨ 4 ≤ fl.length ∨
        (alone ∧ fl ≠ []) ∨ !s.envReady ps e then s
    else if !s.scrGood ps (l.off + 64 + 64 * idx) 64 then (if fl = [] then s.cmdFail ps 2 St.rasScratchUe else s)
    else if st.arr.lost ∧ fl = [] then (s.modArr ps (fun a => { a with lost := false })).cmdFail ps 2 St.rasArrayLost
    else
      let cmd := s.cmdNat ps l idx
      if alone then
        let (s, e') := s.runTcfg ps cmd
        if e' ≠ St.ok then s.cmdFail ps 2 e' else s.cmdOk ps 2 e.postEn e.postEv
      else
        let a := arrOpOf cmd
        let (t, e') := s.arrCheck ps idx cmd a
        if e' ≠ St.ok then (if fl = [] then t.cmdFail ps 2 e' else s)
        else
          let z := a.sized st.arr
          let ins := regsIn z.inputs
          let outs := regsIn (z.outputs st.arr)
          let old := if op = 0x45 ∧ a.acc then z.outputs st.arr else []
          if (ins ++ regsIn old).any st.arr.toWrite.contains ∨ (op = 0x44 ∧ st.arr.drainPending) then s
          else
            match st.groupUe (z.inputs ++ old) with
            | some (t, r, b) => if fl = [] then (s.tileUeFound ps t r b).arrFail ps St.tileDataUe else s
            | none =>
              let c : ArrCmd := { idx := idx, op := op, lst := l, postEn := e.postEn, postEv := e.postEv, reads := ins, writes := outs,
                                  ofmt := z.ofmt, dadd := z.dadd, t0 := s.aclk }
              match op with
              | 0x40 => s.runMma ps c z
              | 0x41 => s.runAdrain ps c z
              | 0x44 => s.runWsld ps c z
              | _ => s.runWsmm ps c z

def execTcfg (ps : Nat) (s : State) : Out := .next ((s.arrTake ps 0x70).kickAll ps)
def execTrel (ps : Nat) (s : State) : Out := .next ((s.arrTake ps 0x71).kickAll ps)
def execMma (ps : Nat) (s : State) : Out := .next ((s.arrTake ps 0x40).kickAll ps)
def execAdrain (ps : Nat) (s : State) : Out := .next ((s.arrTake ps 0x41).kickAll ps)
def execWsld (ps : Nat) (s : State) : Out := .next ((s.arrTake ps 0x44).kickAll ps)
def execWsmm (ps : Nat) (s : State) : Out := .next ((s.arrTake ps 0x45).kickAll ps)

/-! ### Drain writes and completion (R189, R192, R202 to R204, R216) -/

/-- One drained value written onto an old one: its code, flags, and the narrowing of OFMT 1 and 2. -/
def ArrCmd.drainValue (c : ArrCmd) (old v : Nat) : Nat × Nat × Narrow :=
  if c.ofmt ≠ 0 then
    let (d, n, _) := satRound (if c.ofmt = 1 then bf16 else fp16) (fp32.decode v)
    (d, 0, n)
  else if !c.dadd then (v, 0, .kept)
  else if c.int32 then
    let (d, f) := satInt (toSigned 32 old + toSigned 32 v)
    (d, f, .kept)
  else
    let g := if c.wide then fp64 else fp32
    let (z, inv) := Num.add 0 (g.decode old) (g.decode v)
    let (d, f) := ieeeRound g 0 false z
    (d, (if inv then nfNV else 0) ||| (if f / fOF % 2 = 1 then nfOF else 0) ||| (if (g.decode old).isNaN then nfNANIN else 0), .kept)

/-- Write one register row of a drained row. -/
def State.drainDst (s : State) (ps : Nat) (c : ArrCmd) (d : Nat × Nat × List Nat) : State :=
  let st := s.stall ps
  let f := cFmt c.ofmt c.int32
  let olds := if c.wide then pairWords (st.rowCodes d.1 d.2.1 2 (2 * d.2.2.length)) else st.rowCodes d.1 d.2.1 f d.2.2.length
  let r := (olds.zip d.2.2).map (fun p => c.drainValue p.1 p.2)
  let bs := if c.wide then r.flatMap (fun x => leBytes 8 x.1) else packCodes f (r.map (·.1))
  let fl := r.foldl (fun f x => f ||| x.2.1) 0
  let s := if fl = 0 then s else s.orStall ps 0x1500 (BitVec.ofNat 64 fl)
  let s := if c.ofmt = 0 then s else s.converted ps c.lst.lgrp f (r.map (·.2.2)) (r.map (·.2.2))
  s.modStall ps (fun st => st.rowWrite d.1 d.2.1 bs)

/-- STALL_ARR_ERR after a residue or parity error: the first since both bits were clear. -/
def State.arrErr (s : State) (ps bitNo row col idx fold : Nat) : State :=
  s.modScsr ps 0x1428 (fun w =>
    if bit w 0 || bit w 1 then w ||| place bitNo bitNo 1
    else place bitNo bitNo 1 ||| place 14 8 row ||| place 25 16 col ||| place 47 32 idx ||| place 54 48 fold)

/-- A residue, parity or operand error ends a command in flight; earlier commands complete first (R202 to R204). -/
def State.arrFault (s : State) (ps row fold idx : Nat) (f : ArrFault) : State :=
  match f with
  | .none => s
  | .residue => ((((s.arrErr ps 0 row 0x3FF idx fold).bumpStall ps 0x1430 1).detect St.arrayResidue 1 1 1 ps).arrFail ps St.arrayResidue)
  | .parity col => ((((s.arrErr ps 1 row col idx fold).bumpStall ps 0x1438 1).detect St.arrayParity 2 1 0 ps
      (physCol (s.scsr ps 0x1420) col)).arrFail ps St.arrayParity)
  | .tileUe b e =>
    ((s.modScsr ps 0x1208 (fun w => if bit w 0 then w else place 0 0 1 ||| place 14 8 b ||| place 24 16 e)).detect St.tileDataUe 3 1 1 ps b).arrFail
      ps St.tileDataUe

/-- The oldest command in flight completes when nothing of it is left to write. -/
def State.arrComplete (s : State) (ps : Nat) : State :=
  match (s.stall ps).arr.inflight with
  | [] => s
  | c :: rest =>
    if c.drains ≠ [] then s
    else (s.modArr ps (fun a => { a with inflight := rest })).cmdOk ps 2 c.postEn c.postEv

/-- ARRAY_DRAIN_ROW_WRITE: the next row of the oldest command that still drains; with an error and no row left, the oldest
command's last comparison. -/
def State.drainRow (s : State) (ps : Nat) (f : ArrFault) : State :=
  let fl := (s.stall ps).arr.inflight
  match fl.findIdx? (fun c => decide (c.drains ≠ [])) with
  | none =>
    match fl with
    | [] => s
    | c :: _ => if f = .none then s
      else
        let (w, s) := s.fresh
        s.arrFault ps (w.toNat % 128) 0 c.idx f
  | some k =>
    match fl[k]? with
    | none => s
    | some c =>
      match c.drains with
      | [] => s
      | d :: ds =>
        let st := s.stall ps
        let ue := if c.dadd then d.dst.findSome? (fun x => (st.tileBad x.1 x.2.1 0 512).map (fun b => (x.1, x.2.1, b))) else none
        let done := fun (s : State) => (List.range k).foldl (fun s _ => s.arrComplete ps) s
        match f, ue with
        | .none, none =>
          let s := d.dst.foldl (fun s x => s.drainDst ps c x) s
          s.modArr ps (fun a => { a with inflight := listMod a.inflight k (fun c => { c with drains := ds }) })
        | .none, some (t, r, b) => ((done s).tileUeFound ps t r b).arrFail ps St.tileDataUe
        | f, _ => (done s).arrFault ps d.row d.fold c.idx f

/-- DESIGN CHOICE, log 31. -/
def execArrayDrainRowWrite (ps : Nat) (fault : ArrFault) (s : State) : Out :=
  .next (if (s.stall ps).pstate ≠ .run then s else (s.drainRow ps fault).kickAll ps)

def execArrayCmdComplete (ps : Nat) (s : State) : Out :=
  .next (if (s.stall ps).pstate ≠ .run then s else (s.arrComplete ps).kickAll ps)

/-! ### Registers (R206) -/

/-- STALL_ARR_STAT (DEDUCED, log 7). -/
def Arr.stat (a : Arr) : Word :=
  let latch := if a.drainPending then 2 else if a.held.isSome ∧ !a.inflight.any (fun c => decide (c.op = 0x44)) then 1 else 0
  place 1 0 latch ||| place 2 2 (b2n a.int32) ||| place 6 4 a.inflight.length

/-- Whether a value of STALL_ARR_MAP names a position outside its range, or one twice. -/
def arrMapBad (v : Word) : Bool :=
  let c0 := bit v 10
  let c1 := bit v 26
  let r0 := bit v 40
  let r1 := bit v 56
  (c0 && decide (513 < fld v 9 0)) || (c1 && decide (513 < fld v 25 16)) || (c0 && c1 && decide (fld v 9 0 = fld v 25 16)) ||
  (r0 && decide (129 < fld v 39 32)) || (r1 && decide (129 < fld v 55 48)) || (r0 && r1 && decide (fld v 39 32 = fld v 55 48))

/-- The bits STALL_ARR_MAP has. -/
def arrMapBits (v : Word) : Word :=
  place 9 0 (fld v 9 0) ||| place 10 10 (fld v 10 10) ||| place 25 16 (fld v 25 16) ||| place 26 26 (fld v 26 26) |||
    place 39 32 (fld v 39 32) ||| place 40 40 (fld v 40 40) ||| place 55 48 (fld v 55 48) ||| place 56 56 (fld v 56 56)

def State.arrMapWrite (s : State) (priv : Priv) (ps : Nat) (v : Word) : State × Status :=
  if priv ≠ .tack then (s, St.privilege)
  else if arrMapBad v then (s, St.badParam)
  else if (s.stall ps).arr.inflight ≠ [] then (s, St.arrayBusy)
  else (s.setScsr ps 0x1420 (arrMapBits v), St.ok)

def execArrMapWrite (priv : Priv) (ps : Nat) (v : Word) (s : State) : Out :=
  .next (if (s.stall ps).pstate ≠ .run then s else let (t, st) := s.arrMapWrite priv ps v; t.respond st)

end Sys2Proof.Machine
end

