-- ==== Sys2Proof/Machine/Sync.lean ====
section
/-! DEFINITION. The sync units: objects, waiters, their commands, locks and barriers, cross-device barriers, and the deadlock
detector (R348 to R368). -/

namespace Sys2Proof.Machine

/-! ### Operands and registers (R352, R366, R367) -/

/-- Operand fields of the sync commands. -/
def syncFields : List (Nat × Nat × Nat) :=
  [(8, 6, 0), (8, 15, 8), (12, 31, 0), (16, 21, 0), (20, 31, 0), (24, 63, 0), (32, 31, 0)]

/-- KEY and VOTE belong to XBARRIVE only. -/
def syncOpFields (op : Nat) : List (Nat × Nat × Nat) := if op = 0xA5 then syncFields else syncFields.take 5

/-- Waiters queued on an object of a stall. -/
def Stall.waitersOf (t : Stall) (i : Nat) : Nat := (t.waiters.filter (fun w => w.obj = i)).length

/-- STALL_SYNC_OBJ of an object. -/
def Stall.objWord (t : Stall) (i : Nat) : Word :=
  let o := t.obj i
  place 2 0 o.kind ||| place 3 3 (b2n o.abandoned) ||| place 4 4 (b2n o.held) ||| place 15 8 (min 255 (t.waitersOf i)) |||
  place 31 16 o.count ||| place 63 32 o.value

/-- STALL_SYNC_STAT. -/
def Stall.syncStat (t : Stall) : Word := place 8 0 t.waiters.length ||| place 31 16 t.retries

/-- The object that STALL_SYNC_SEL selects. -/
def State.syncSel (s : State) (ps : Nat) : Nat := fld (s.scsr ps 0x1900) 6 0

/-- A write of STALL_SYNC_OBJ (R366). -/
def State.syncObjWrite (s : State) (priv : Priv) (ps : Nat) (v : Word) : State × Status :=
  let i := s.syncSel ps
  if priv = .task then (s, St.privilege)
  else if 5 ≤ fld v 2 0 ∨ (fld v 2 0 = 4 ∧ !decide (1 ≤ fld v 31 16 ∧ fld v 31 16 ≤ 256)) then (s, St.badParam)
  else if (s.stall ps).waitersOf i ≠ 0 then (s, St.syncBusy)
  else (s.modStall ps (fun t => t.setObj i { t.obj i with
      kind := fld v 2 0, abandoned := bit v 3, held := bit v 4, count := fld v 31 16, value := fld v 63 32 }), St.ok)

/-- A write of STALL_SYNC_OWN (DESIGN CHOICE, log 39). -/
def State.syncOwnWrite (s : State) (priv : Priv) (ps : Nat) (v : Word) : State × Status :=
  let i := s.syncSel ps
  if priv = .task then (s, St.privilege)
  else if (s.stall ps).waitersOf i ≠ 0 then (s, St.syncBusy)
  else (s.modStall ps (fun t => t.setObj i { t.obj i with tenant := fld v 15 0 }), St.ok)

def execSyncObjWrite (priv : Priv) (ps : Nat) (v : Word) (s : State) : Out :=
  .next (if (s.stall ps).pstate ≠ .run then s else let (t, st) := s.syncObjWrite priv ps v; t.respond st)

/-! ### Grants (R351, R356, R359) -/

/-- The owner's answer starts back to the issuing stall (DESIGN CHOICE, log 39). -/
def State.syncAnswer (s : State) (ps : Nat) (st : Status) (w0 w1 : Word) (res : Bool) : State :=
  s.modStall ps (fun t => { t with sync := t.sync.map (fun c => { c with ph := .answer st w0 w1 res }) })

/-- SYNC_LOCK for the grant of an abandoned lock. -/
def lockWord (ls i old new : Nat) : Word :=
  place 7 0 ls ||| place 14 8 i ||| place 31 16 old ||| place 47 32 new ||| place 61 61 1 ||| place 63 63 1

/-- Whether a wait of a command is met by an object. -/
def SyncObj.meets (o : SyncObj) (c : SyncCmd) : Bool :=
  match o.kind with
  | 1 => decide ((o.value + 2 ^ 32 - c.val % 2 ^ 32) % 2 ^ 32 < 2 ^ 31)
  | 2 => decide (c.val ≤ o.value)
  | 3 => !o.held
  | _ => false

/-- Grant a wait that is met: the object as the grant leaves it, and the answer. -/
def SyncObj.grant (o : SyncObj) (ls i : Nat) (c : SyncCmd) (byLs : Nat) : SyncObj × Status × Word × Bool :=
  match o.kind with
  | 2 => ({ o with value := o.value - c.val }, St.ok, 0, false)
  | 3 =>
    let n := { o with held := true, value := c.lst.task % 65536 + byLs % 256 * 65536 }
    if o.abandoned then (n, St.syncAbandoned, lockWord ls i (o.value % 65536) c.lst.task, true) else (n, St.ok, 0, false)
  | _ => (o, St.ok, 0, false)

/-- Serve the waiters of an object in arrival order; one that cannot be satisfied blocks the rest (R349). -/
def State.serveObj (s : State) (o i : Nat) : Nat → State
  | 0 => s
  | n + 1 =>
    let t := s.stall o
    match t.waiters.find? (fun w => decide (w.obj = i)) with
    | none => s
    | some w =>
      match (s.stall w.ps).sync with
      | none => s
      | some c =>
        if (t.obj i).kind ≠ 4 && (t.obj i).meets c then
          let (x, st, w0, res) := (t.obj i).grant (s.lsNum o) i c (s.lsNum w.ps)
          let s := s.modStall o (fun t => { (t.setObj i x) with waiters := t.waiters.filter (fun y => y ≠ w) })
          (s.syncAnswer w.ps st w0 0 res).serveObj o i n
        else s

/-- Every waiter of a barrier is granted with GEN before the advance (R359). -/
def State.openBar (s : State) (o i gen : Nat) : State :=
  let ws := (s.stall o).waiters.filter (fun w => w.obj = i)
  let s := ws.foldl (fun s w => s.syncAnswer w.ps St.ok (BitVec.ofNat 64 gen) 0 true) s
  s.modStall o (fun t => { (t.setObj i { t.obj i with value := (gen + 1) % 65536 * 65536 }) with
    waiters := t.waiters.filter (fun w => w.obj ≠ i) })

/-- Remove a waiter; a BARRIVE leaves ARRIVED (R354, R355). -/
def State.withdraw (s : State) (ps : Nat) (c : SyncCmd) : State :=
  let o := s.psOf c.ls
  let t := s.stall o
  if t.waiters.any (fun w => decide (w.ps = ps)) then
    let s := s.modStall o (fun t =>
      let t := if c.op = 0xA4 then t.setObj c.index { t.obj c.index with value := (t.obj c.index).value - 1 } else t
      { t with waiters := t.waiters.filter (fun w => w.ps ≠ ps) })
    s.serveObj o c.index 256
  else s

/-! ### The owner's decision (R350, R351, R353) -/

/-- Kinds that an opcode accepts. -/
def kindOk (op kind : Nat) : Bool :=
  match op with
  | 0xA0 => decide (kind = 1 ∨ kind = 2)
  | 0xA1 => decide (kind = 1 ∨ kind = 2)
  | 0xA2 => decide (kind = 3)
  | 0xA3 => decide (kind = 3)
  | 0xA4 => decide (kind = 4)
  | _ => true

/-- Checks that the owner makes: the SEM part of check 3, and checks 4 to 7. -/
def SyncObj.check (o : SyncObj) (c : SyncCmd) : Status :=
  firstFail [
    (decide (c.op = 0xA1 ∧ o.kind = 2 ∧ c.val = 0), St.badParam),
    (!kindOk c.op o.kind, St.syncKind),
    (decide (c.lst.priv = .task ∧ c.lst.tenant ≠ o.tenant), St.syncTenant),
    (decide (c.op = 0xA3) && (!o.held || decide (o.value % 65536 ≠ c.lst.task)), St.syncNotOwner),
    (decide (c.op = 0xA2) && o.held && decide (o.value % 65536 = c.lst.task), St.syncRelock)]

/-- Queue a command as a waiter, or refuse it for want of an entry (R349). -/
def State.blockOn (s : State) (ps o : Nat) (c : SyncCmd) : State :=
  let start := if c.start = 0 then s.clk else c.start
  if 256 ≤ (s.stall o).waiters.length then
    let s := s.modStall o (fun t => { t with retries := satAdd 0xFFFF t.retries 1 })
    s.modStall ps (fun t => { t with sync := some { c with ph := .retry, start := start } })
  else
    let s := s.modStall o (fun t =>
      let t := if c.op = 0xA4 then t.setObj c.index { t.obj c.index with value := (t.obj c.index).value + 1 } else t
      { t with waiters := t.waiters ++ [{ obj := c.index, ps := ps }] })
    s.modStall ps (fun t => { t with sync := some { c with ph := if c.pausing || c.aborting then .withdrawing else .waiting, start := start } })

/-- The owner decides a command (DESIGN CHOICE, log 39). -/
def State.syncDecide (s : State) (ps : Nat) (c : SyncCmd) : State :=
  let o := s.psOf c.ls
  let x := (s.stall o).obj c.index
  let st := x.check c
  if st ≠ St.ok then s.syncAnswer ps st 0 0 false
  else
    match c.op with
    | 0xA0 =>
      if x.kind = 2 ∧ 2 ^ 32 ≤ x.value + c.val then s.syncAnswer ps St.syncOverflow 0 0 false
      else
        let s := s.modStall o (fun t => t.setObj c.index { x with value := (x.value + c.val) % 2 ^ 32 })
        (s.syncAnswer ps St.ok 0 0 false).serveObj o c.index 256
    | 0xA3 =>
      let s := s.modStall o (fun t => t.setObj c.index { x with held := false, abandoned := x.abandoned && decide (c.val % 2 = 0) })
      (s.syncAnswer ps St.ok 0 0 false).serveObj o c.index 256
    | 0xA4 =>
      if x.count ≤ x.value % 65536 + 1 then
        (s.openBar o c.index (x.value / 65536)).syncAnswer ps St.ok (BitVec.ofNat 64 (x.value / 65536)) 0 true
      else s.blockOn ps o c
    | 0xA6 => s.syncAnswer ps St.ok ((s.stall o).objWord c.index) (BitVec.ofNat 64 x.tenant) true
    | _ =>
      if (s.stall o).waitersOf c.index = 0 && x.meets c then
        let (n, st, w0, res) := x.grant (s.lsNum o) c.index c (s.lsNum ps)
        (s.modStall o (fun t => t.setObj c.index n)).syncAnswer ps st w0 0 res
      else s.blockOn ps o c

/-! ### Cross-device barriers: slots (R360, R364, R367) -/

def xbarCfg (b : Nat) : Nat := syncBase + 0x100 + b * 0x20
def State.xbarEn (s : State) (b : Nat) : Bool := bit (s.dcsr (xbarCfg b)) 16
def State.xbarMaster (s : State) (b : Nat) : Nat := fld (s.dcsr (xbarCfg b)) 13 0
def State.xbarN (s : State) (b : Nat) : Nat := fld (s.dcsr (xbarCfg b + 8)) 14 0
def State.xbarKey (s : State) (b : Nat) : Word := s.dcsr (xbarCfg b + 16)
def State.xbarLog2 (s : State) (b : Nat) : Nat := fld (s.dcsr (xbarCfg b + 8)) 39 32

/-- SYNC_XBARb_STAT (DESIGN CHOICE, log 40). -/
def Xbar.stat (x : Xbar) : Word :=
  place 14 0 x.cur.length ||| place 30 16 x.nxt.length ||| place 47 32 x.lastStatus.toNat

/-- SYNC_XBARb_CFG as it reads, with IS_MASTER. -/
def State.xbarCfgRead (s : State) (b : Nat) : Word :=
  s.dcsr (xbarCfg b) ||| place 17 17 (b2n (s.devidValid && decide (s.xbarMaster b = s.devid)))

def deadlineOk (n : Nat) : Bool := decide (n = 0 ∨ (16 ≤ n ∧ n ≤ 34))

/-- A write of a slot's CFG, CFG2 or KEY, at its offset in the SYNC block (DESIGN CHOICE, log 40). -/
def State.xbarWrite (s : State) (priv : Priv) (off : Nat) (v : Word) : State × Status :=
  let b := (off - 0x100) / 0x20
  let en := s.xbarEn b
  let cfg := s.dcsr (xbarCfg b)
  let keep := v &&& (place 13 0 0x3FFF ||| place 16 16 1 ||| place 63 32 (2 ^ 32 - 1))
  let n := s.xbarN b
  if priv = .task then (s, St.privilege)
  else if off < 0x100 ∨ 0x300 ≤ off ∨ 0x18 ≤ off % 0x20 then (s, St.ok)
  else
    match off % 0x20 with
    | 0 =>
      if !en ∧ bit v 16 ∧ !(decide (1 ≤ n ∧ n ≤ 16384 ∧ fld (s.dcsr (xbarCfg b + 8)) 29 16 < n) && deadlineOk (s.xbarLog2 b)) then (s, St.badParam)
      else if en ∧ bit v 16 ∧ keep ≠ cfg then (s, St.syncBusy)
      else (s.setDcsr (xbarCfg b) keep, St.ok)
    | 8 =>
      if en then (s, St.syncBusy)
      else (s.setDcsr (xbarCfg b + 8) (v &&& (place 14 0 0x7FFF ||| place 29 16 0x3FFF ||| place 39 32 0xFF)), St.ok)
    | _ =>
      if en then (s, St.syncBusy)
      else (s.setDcsr (xbarCfg b + 16) v |>.setXbar b { s.xbar b with cur := [], nxt := [], firstAt := none, nextAt := none }, St.ok)

def execXbarCfgWrite (priv : Priv) (off : Nat) (v : Word) (s : State) : Out :=
  .next (let (t, st) := s.xbarWrite priv off v; t.respond st)

/-- The result words of XBARRIVE. -/
def XWords (r : XResult) : Word × Word :=
  (place 31 0 r.vand.toNat ||| place 63 32 r.vor.toNat, place 15 0 r.nmiss ||| place 31 16 r.low ||| place 47 32 r.status.toNat)

/-- An arrival packet (R360). -/
def State.arrivalPkt (s : State) (c : SyncCmd) : Packet :=
  let b := c.index
  { typ := 0x30, priv := c.lst.priv, dst := s.xbarMaster b, src := s.devid, group := fld (s.dcsr (xbarCfg b)) 63 48,
    body := .arrival b (fld (s.dcsr (xbarCfg b + 8)) 29 16) c.key c.vote }

/-- XBARRIVE after its checks: a kept release completes it, or its arrival goes to the master. -/
def State.xbarrive (s : State) (ps : Nat) (c : SyncCmd) : State :=
  let x := s.xbar c.index
  let put := fun (s : State) (ph : SyncPh) => s.modStall ps (fun t => { t with sync := some { c with ph := ph, start := s.clk } })
  match x.kept with
  | some (k, r) =>
    if k = c.key then
      let (w0, w1) := XWords r
      put (s.setXbar c.index { x with kept := none }) (.answer r.status w0 w1 true)
    else if s.devidValid then (put s .atMaster).gateSubmit (ps / 72) (.xbar ps) (s.arrivalPkt c)
    else put s (.answer St.linkNoRoute 0 0 false)
  | none =>
    if s.devidValid then (put s .atMaster).gateSubmit (ps / 72) (.xbar ps) (s.arrivalPkt c)
    else put s (.answer St.linkNoRoute 0 0 false)

/-! ### Taking a command (R350, R353) -/

/-- Checks 1 and 3 of the issuing stall, and for XBARRIVE those of its slot. -/
def State.syncCheck (s : State) (l : QList) (cmd : Nat) : Status :=
  let op := rf cmd 0 7 0
  let i := rf cmd 8 6 0
  let r := rf cmd 16 21 0
  firstFail [
    (resSet cmd (envFields ++ syncOpFields op), St.reservedSet),
    (decide (op = 0xA5 ∧ 15 < i) || decide (r % 16 ≠ 0) || decide (0x3FFFF0 < r), St.badParam),
    (decide (op = 0xA5) && !s.xbarEn i, St.syncKind),
    (decide (op = 0xA5 ∧ l.priv = .task ∧ l.tenant ≠ fld (s.dcsr (xbarCfg i)) 47 32), St.syncTenant)]

/-- The head command of the SYNC queue, when it has the opcode: checked here, then sent to its owner. An object of the own
stall is decided at once. -/
def State.syncTake (s : State) (ps op : Nat) : State :=
  match s.headCmd ps 4 with
  | none => s
  | some (l, idx) =>
    let w := s.cmdWord ps l idx 0
    if bits w 7 0 ≠ op ∨ !s.unitReady ps 4 l idx then s
    else if !s.scrGood ps (l.off + 64 + 64 * idx) 64 then s.cmdFail ps 4 St.rasScratchUe
    else
      let cmd := s.cmdNat ps l idx
      let e := envOf w
      let st := s.syncCheck l cmd
      if st ≠ St.ok then s.cmdFail ps 4 st
      else
        let c : SyncCmd := { idx := idx, lst := l, op := op, index := rf cmd 8 6 0, ls := rf cmd 8 15 8, val := rf cmd 12 31 0,
                             result := rf cmd 16 21 0, tmo := rf cmd 20 31 0, key := BitVec.ofNat 64 (rf cmd 24 63 0),
                             vote := BitVec.ofNat 32 (rf cmd 32 31 0), postEn := e.postEn, postEv := e.postEv, ph := .toOwner, start := 0 }
        let s := s.modStall ps (fun t => { t with sync := some c })
        if op = 0xA5 then s.xbarrive ps c else if s.psOf c.ls = ps then s.syncDecide ps c else s

def execSpost (ps : Nat) (s : State) : Out := .next ((s.syncTake ps 0xA0).kickAll ps)
def execSwait (ps : Nat) (s : State) : Out := .next ((s.syncTake ps 0xA1).kickAll ps)
def execLacq (ps : Nat) (s : State) : Out := .next ((s.syncTake ps 0xA2).kickAll ps)
def execLrel (ps : Nat) (s : State) : Out := .next ((s.syncTake ps 0xA3).kickAll ps)
def execBarrive (ps : Nat) (s : State) : Out := .next ((s.syncTake ps 0xA4).kickAll ps)
def execXbarrive (ps : Nat) (s : State) : Out := .next ((s.syncTake ps 0xA5).kickAll ps)
def execSread (ps : Nat) (s : State) : Out := .next ((s.syncTake ps 0xA6).kickAll ps)

/-- SYNC_REQUEST_ARRIVE: a command of stall `ps` reaches its owner, which must be in RUN. -/
def execSyncRequestArrive (ps : Nat) (s : State) : Out :=
  .next (match (s.stall ps).sync with
    | some c => if c.ph = .toOwner ∧ (s.stall (s.psOf c.ls)).pstate = .run then s.syncDecide ps c else s
    | none => s)

/-! ### Completion (R350, R352, R356, R364) -/

/-- A paused or aborted SYNC queue has no command left: an abort ends the list. -/
def State.syncEnd (s : State) (ps : Nat) : State :=
  let x := s.queue ps 4
  if x.aborting ∧ (s.stall ps).sync = none then s.cmdFail ps 4 St.aborted else s

/-- The answer reaches the issuing unit. -/
def State.syncDone (s : State) (ps : Nat) (c : SyncCmd) (st : Status) (w0 w1 : Word) (res : Bool) : State :=
  let s := s.modStall ps (fun t => { t with sync := none })
  let s := if res ∧ c.result ≠ 0 then
      s.scrWrite ps c.result (leBytes 8 w0.toNat ++ (if c.op = 0xA5 ∨ c.op = 0xA6 then leBytes 8 w1.toNat else [])) else s
  let s := if st = St.syncAbandoned then s.modDcsr syncBase (fun w => overrun w w0) else s
  let s := if st = St.ok ∨ st = St.syncAbandoned ∨ (c.op = 0xA5 ∧ res) then s.perf ps 0x81 (some c.lst.priv) (some 4) none 1 else s
  (if st = St.ok then s.cmdOk ps 4 c.postEn c.postEv else s.cmdFail ps 4 st).syncEnd ps

/-- SYNC_ANSWER_ARRIVE (DESIGN CHOICE, log 39). -/
def execSyncAnswerArrive (ps : Nat) (s : State) : Out :=
  .next (match (s.stall ps).sync with
    | some c => (match c.ph with
      | .answer st w0 w1 res => if (s.stall ps).pstate ≠ .run then s else ((s.syncDone ps c st w0 w1 res).kickAll ps)
      | _ => s)
    | none => s)

/-- SYNC_WAIT_TIMEOUT (R354). -/
def execSyncWaitTimeout (ps : Nat) (s : State) : Out :=
  .next (match (s.stall ps).sync with
    | some c =>
      if c.tmo = 0 ∨ s.clk < c.start + 2 * c.tmo ∨ !(decide (c.ph = .waiting ∨ c.ph = .retry ∨ c.ph = .atMaster)) then s
      else ((s.withdraw ps c).syncDone ps c St.syncWaitTimeout 0 0 false).kickAll ps
    | none => s)

/-- SYNC_WAIT_RETRY: a refused wait is sent again (R349). -/
def execSyncWaitRetry (ps : Nat) (s : State) : Out :=
  .next (match (s.stall ps).sync with
    | some c =>
      if c.ph ≠ .retry then s
      else
        let c := { c with ph := .toOwner }
        let s := s.modStall ps (fun t => { t with sync := some c })
        if s.psOf c.ls = ps then s.syncDecide ps c else s
    | none => s)

/-- SYNC_WITHDRAW_ARRIVE: the withdrawal of a PAUSE or ABORT takes effect; a grant decided before it prevails (R355). -/
def execSyncWithdrawArrive (ps : Nat) (s : State) : Out :=
  .next (match (s.stall ps).sync with
    | some c => if c.ph ≠ .withdrawing then s
      else (((s.withdraw ps c).modStall ps (fun t => { t with sync := none })).syncEnd ps).rearm
    | none => s)

/-- PAUSE or ABORT of the SYNC queue while a command is in its unit (R355). -/
def State.syncWithdraw (s : State) (ps : Nat) (abort : Bool) : State :=
  match (s.stall ps).sync with
  | none => s
  | some c =>
    let c := { c with pausing := c.pausing || !abort, aborting := c.aborting || abort }
    let drop := fun (s : State) => s.modStall ps (fun t => { t with sync := none })
    let put := fun (s : State) (ph : SyncPh) => s.modStall ps (fun t => { t with sync := some { c with ph := ph } })
    match c.ph with
    | .waiting => if s.psOf c.ls = ps then drop (s.withdraw ps c) else put s .withdrawing
    | .retry => drop s
    | .atMaster => drop s
    | ph => put s ph

/-! ### Locks of a task or stall that ends (R357) -/

/-- Held locks that a test names become abandoned, and go to the next waiter. -/
def State.abandon (s : State) (hit : Nat → Bool) : State :=
  s.stalls.foldl (fun s p => p.2.objs.foldl (fun s o =>
    if o.2.kind = 3 ∧ o.2.held ∧ hit o.2.value then
      (s.modStall p.1 (fun t => t.setObj o.1 { t.obj o.1 with held := false, abandoned := true })).serveObj p.1 o.1 256
    else s) s) s

/-- SYNC_TASKEND. -/
def State.taskEnd (s : State) (priv : Priv) (v : Word) : State × Status :=
  if priv = .task then (s, St.privilege) else (s.abandon (fun x => decide (x % 65536 = fld v 15 0)), St.ok)

def execSyncTaskendWrite (priv : Priv) (v : Word) (s : State) : Out :=
  .next (let (t, st) := s.taskEnd priv v; t.respond st)

/-- The tack room has fenced an owner LS without migrating its task. -/
def State.abandonLs (s : State) (ls : Nat) : State := s.abandon (fun x => decide (x / 65536 % 256 = ls))

def execSyncLockRead (priv : Priv) (s : State) : Out := .next (s.readDev priv syncBase)

/-! ### Cross-device barriers: the master and the members (R361 to R364) -/

/-- A release packet to a member. -/
def State.releaseTo (s : State) (b : Nat) (key : Word) (r : XResult) (dev : Nat) : State :=
  s.gateSubmit 0 .release { typ := 0x31, priv := .kernel, dst := dev, src := s.devid, group := fld (s.dcsr (xbarCfg b)) 63 48,
                            body := .release b key r }

/-- Arrivals in ascending rank order. -/
def byRank (a : Arrival) : List Arrival → List Arrival
  | [] => [a]
  | x :: l => if a.rank < x.rank then a :: x :: l else x :: byRank a l

/-- The master releases its key with a result to every member that has arrived (DESIGN CHOICE, log 40). -/
def State.xbarRelease (s : State) (b : Nat) (st : Status) : State :=
  let x := s.xbar b
  let n := s.xbarN b
  let k := s.xbarKey b
  let miss := (List.range n).filter (fun r => !x.cur.any (fun a => a.rank = r))
  let (free, s) := s.fresh
  let r : XResult := { vand := x.cur.foldl (fun v a => v &&& a.vote) (BitVec.allOnes 32), vor := x.cur.foldl (fun v a => v ||| a.vote) 0,
                       nmiss := miss.length, low := match miss with | m :: _ => m | [] => free.toNat % 65536, status := st }
  let s := x.cur.foldl (fun s a => s.releaseTo b k r a.dev) s
  (s.setXbar b { x with cur := x.nxt, nxt := [], firstAt := x.nextAt, nextAt := none, lastKey := some k, lastRes := some r,
                        lastStatus := st }).setDcsr (xbarCfg b + 16) (k + 1)

/-- Release keys whose every rank has arrived: the next key may be complete as well. -/
def State.xbarFull (s : State) (b : Nat) : Nat → State
  | 0 => s
  | n + 1 => if s.xbarN b ≤ (s.xbar b).cur.length then (s.xbarRelease b St.ok).xbarFull b n else s

/-- What the master answers an arrival for one of its two keys. -/
def arriveIn (l : List Arrival) (a : Arrival) : List Arrival × Status :=
  if l.any (fun x => decide (x.dev = a.dev)) then (l, St.ok)
  else if l.any (fun x => decide (x.rank = a.rank)) then (l, St.syncRankClash)
  else (byRank a l, St.ok)

/-- The master processes one arrival (R361) (DESIGN CHOICE, log 39 and 40). -/
def State.xbarArrive (s : State) (b : Nat) (a : Arrival) (key : Word) : State × Status :=
  let x := s.xbar b
  let k := s.xbarKey b
  if !s.xbarEn b then (s, St.syncKind)
  else if key = k then
    let (l, st) := arriveIn x.cur a
    ((s.setXbar b { x with cur := l, firstAt := if x.firstAt = none then some s.clk else x.firstAt }).xbarFull b 2, st)
  else if key = k + 1 then
    let (l, st) := arriveIn x.nxt a
    (s.setXbar b { x with nxt := l, nextAt := if x.nextAt = none then some s.clk else x.nextAt }, st)
  else if key + 1 = k ∧ x.lastKey = some key then
    (match x.lastRes with
     | some r => (s.releaseTo b key r a.dev, St.ok)
     | none => (s, St.syncKeyStale))
  else if key.toNat < k.toNat then (s, St.syncKeyStale)
  else (s, St.syncKeyAhead)

/-- XBAR_ARRIVAL. -/
def execXbarArrival (gate : Nat) (s : State) : Out :=
  .next (match (s.gate gate).take (fun p => decide (p.typ = 0x30)) with
    | none => s
    | some (p, g) =>
      let s := s.setGate gate g
      match p.body with
      | .arrival b rank key vote =>
        let (s, st) := s.xbarArrive (b % 16) { rank := rank, dev := p.src, vote := vote } key
        s.reply gate p st
      | _ => s.reply gate p St.syncKind)

/-- A release reaches this device: a waiting XBARRIVE with its key completes, or the slot keeps it, unless `taken` (R364). -/
def State.xbarDeliver (s : State) (b : Nat) (key : Word) (r : XResult) (taken : Bool) : State :=
  let (w0, w1) := XWords r
  let hit := s.stalls.filterMap (fun p => match p.2.sync with
    | some c => if c.op = 0xA5 ∧ c.ph = .atMaster ∧ c.index = b ∧ c.key = key then some p.1 else none
    | none => none)
  let s := s.setXbar b { s.xbar b with lastStatus := r.status }
  if hit = [] ∧ !taken then s.setXbar b { s.xbar b with kept := some (key, r) }
  else hit.foldl (fun s ps => s.syncAnswer ps r.status w0 w1 true) s

/-- XBAR_DEADLINE (R363). -/
def execXbarDeadline (slot : Nat) (s : State) : Out :=
  .next (let n := s.xbarLog2 slot
    match (s.xbar slot).firstAt with
    | some t =>
      if !s.xbarEn slot ∨ n = 0 ∨ s.clk < t + 2 ^ n ∨ s.xbarN slot ≤ (s.xbar slot).cur.length then s
      else (s.xbarRelease slot St.syncBarMissing).xbarFull slot 2
    | none => s)

/-! ### The deadlock detector (R365) -/

/-- A stall's sync command waits. -/
def SyncCmd.waits (c : SyncCmd) : Bool :=
  match c.ph with
  | .waiting => true
  | .retry => true
  | .atMaster => true
  | .withdrawing => true
  | _ => false

/-- How a queue stands for the detector: blocked, idle, or neither. -/
def State.queueStuck (s : State) (ps q : Nat) : Option Bool :=
  match s.queueState ps q with
  | .idle => some false
  | .waitEv => some true
  | .running => if q = 4 ∧ ((s.stall ps).sync.map SyncCmd.waits).getD false then some true else none
  | _ => none

/-- Stalls of a domain. -/
def State.domain (s : State) (d : Nat) : List Nat :=
  s.stalls.filterMap (fun p => if fld (s.scsr p.1 0x1918) 5 0 = d then some p.1 else none)

/-- A domain is blocked, and no command of it has completed. -/
def State.domStuck (s : State) (l : List Nat) : Bool :=
  let qs := l.flatMap (fun ps => (List.range 5).map (fun q => s.queueStuck ps q))
  qs.all Option.isSome && qs.any (fun x => decide (x = some true)) && l.all (fun ps => !(s.stall ps).moved)

def State.dldLim (s : State) (d : Nat) : Nat := Map.get (fun _ => 0x1000) s.dldLimit d

/-- DLD_SAMPLE. -/
def State.dldSample (s : State) : State :=
  let s := ((List.range 63).map (· + 1)).foldl (fun s d =>
    let l := s.domain d
    let n := if s.dldLim d ≠ 0 ∧ s.domStuck l then Map.get zeroN s.dld d + 1 else 0
    let s := { s with dld := Map.set zeroN s.dld d n }
    if n ≠ 0 ∧ n = s.dldLim d then s.orDev (syncBase + 0x20) (place d d 1) else s) s
  s.stalls.foldl (fun s p => s.modStall p.1 (fun t => { t with moved := false })) s

def execDldSample (s : State) : Out := .next s.dldSample

end Sys2Proof.Machine
end

