-- ==== Sys2Proof/Machine/QueueCtl.lean ====
section
/-! DEFINITION. Queue control, doorbells, quotas and event counter writes (R108, R123, R130 to R137, R205, R355). -/

namespace Sys2Proof.Machine

/-! ### Queue control (R130) -/

/-- Set while PAUSE is under way: held statuses and waiting data are discarded with their slots (R119, R130). -/
def State.dropLanded (s : State) (ps q : Nat) : State :=
  let x := s.queue ps q
  let s := x.ctxs.foldl (fun s c => c.parts.foldl (fun s p => match p.st with
    | .waiting n => s.freeSlot ps n
    | .held _ n => if n = 255 then s else s.dropHeld ps q n c.lst.priv
    | _ => s) s) s
  s.modQueue ps q (fun x => { x with ctxs := x.ctxs.map (fun c => { c with parts := c.parts.map (fun p => match p.st with
    | .waiting _ => { p with st := .todo }
    | .held _ _ => { p with st := .todo }
    | _ => p) }) })

/-- Nothing of a queue is in progress. -/
def State.queueQuiet (s : State) (ps q : Nat) : Bool :=
  let t := s.stall ps
  match q with
  | 2 => decide (t.arr.inflight = [])
  | 4 => decide (t.sync = none)
  | _ => decide (t.slotsOf q = 0)

/-- PAUSE. -/
def State.queuePause (s : State) (ps q : Nat) : State × Status :=
  if (s.queue ps q).state ≠ .running then (s, St.engQstate)
  else
    let s := s.modQueue ps q (fun x => { x with pausing := true })
    (if q = 4 then s.syncWithdraw ps false else if q = 2 then s else s.dropLanded ps q, St.ok)

/-- PAUSED, once nothing of the queue is in progress: its commands restart at the boundary (DEDUCED, log 33). -/
def State.queuePaused (s : State) (ps q : Nat) : State :=
  let x := s.queue ps q
  if x.state = .running ∧ x.pausing ∧ s.queueQuiet ps q then
    s.setQueue ps q { x.again with state := .paused, pausing := false }
  else s

/-- The pager's fault of a queue that software takes out of FAULTED. -/
def State.dropFault (s : State) (ps q : Nat) : State :=
  { s with pfaults := s.pfaults.filter (fun f => decide (f.who ≠ .inl (ps, q))) }

/-- RESUME (DEDUCED, log 33). -/
def State.queueResume (s : State) (ps q : Nat) : State × Status :=
  let x := s.queue ps q
  match x.state with
  | .paused => (s.setQueue ps q { x with state := if x.lists = [] then .idle else .running }, St.ok)
  | .faulted => ((s.dropFault ps q).resumeFaulted ps q, St.ok)
  | .stopped => (s.setQueue ps q { x with state := if x.lists = [] then .idle else .running }, St.ok)
  | _ => (s, St.engQstate)

/-- ABORT (DEDUCED, log 33). -/
def State.queueAbort (s : State) (ps q : Nat) : State × Status :=
  let x := s.queue ps q
  if x.state = .faulted then ((s.dropFault ps q).cmdFail ps q x.fstatus, St.ok)
  else if x.state ≠ .running ∧ x.state ≠ .paused then (s, St.engQstate)
  else if x.lists = [] then (s.setQueue ps q { x with state := .stopped, pausing := false }, St.ok)
  else
    let s := s.setQueue ps q { x with aborting := true }
    match q with
    | 2 => ((s.arrStop ps).cmdFail ps 2 St.aborted, St.ok)
    | 4 => ((s.syncWithdraw ps true).syncEnd ps, St.ok)
    | _ => ((s.dropLanded ps q).abortEnd ps q, St.ok)

/-- FLUSH: every list completes with ABORTED, its DONE_IDX the command it would have started with (DEDUCED, log 33). -/
def State.queueFlush (s : State) (ps q : Nat) : State × Status :=
  let x := s.queue ps q
  if x.state ≠ .stopped then (s, St.engQstate)
  else
    let s := x.lists.foldl (fun s l =>
      s.listDone ps q St.aborted (if headerOk l.off then rf (s.scrRec ps l.off) 4 15 0 else 0) .stopped) s
    (s.modQueue ps q (fun x => { x with state := .idle }), St.ok)

/-- What a queue control bit does. -/
def State.queueCtlBit (s : State) (ps q b : Nat) : State × Status :=
  match b with
  | 1 => s.queuePause ps q
  | 2 => s.queueResume ps q
  | 4 => s.queueAbort ps q
  | _ => s.queueFlush ps q

/-- A write of STALL_QCTLq (R130, R138), after which the stall's engines go on. -/
def State.queueCtl (s : State) (priv : Priv) (ps q b : Nat) : State × Status :=
  if priv = .task then (s, St.privilege)
  else if b ≠ 1 ∧ b ≠ 2 ∧ b ≠ 4 ∧ b ≠ 8 then (s, St.badParam)
  else
    let (t, st) := s.queueCtlBit ps q b
    if st = St.ok then (t.kickAll ps, st) else (s, st)

/-- A control write by register access. -/
def State.queueCtlNow (s : State) (priv : Priv) (ps q b : Nat) : State :=
  if (s.stall ps).pstate ≠ .run then s
  else let (t, st) := s.queueCtl priv ps q b; t.respond st

def execQueuePause (priv : Priv) (ps q : Nat) (s : State) : Out := .next (s.queueCtlNow priv ps q 1)
def execQueueResume (priv : Priv) (ps q : Nat) (s : State) : Out := .next (s.queueCtlNow priv ps q 2)
def execQueueAbort (priv : Priv) (ps q : Nat) (s : State) : Out := .next (s.queueCtlNow priv ps q 4)
def execQueueFlush (priv : Priv) (ps q : Nat) (s : State) : Out := .next (s.queueCtlNow priv ps q 8)
def execQueuePaused (ps q : Nat) (s : State) : Out := .next ((s.queuePaused ps q).rearm)

/-! ### Doorbells (R133, R134, R137) -/

/-- The queue that a doorbell entry names, and the list that it queues: a TASK list's window is its own stall (R105). -/
def dbQueue (w : Word) : Nat := fld w 26 24
def dbList (ps : Nat) (w : Word) : QList :=
  { off := fld w 21 0, priv := if bit w 28 then .kernel else .task, task := fld w 47 32, tenant := fld w 63 48,
    dwinLo := stallWin ps, dwinHi := stallWin ps + 0x100000000, seq := 0 }

/-- The head entry's queue has no room. -/
def Stall.headBlocked (t : Stall) : Bool :=
  match t.db with
  | w :: _ => (t.queue (dbQueue w)).full
  | [] => false

/-- A write of STALL_DOORBELL (DEDUCED, log 33). -/
def State.doorbellWrite (s : State) (priv : Priv) (ps : Nat) (v : Word) : State × Status :=
  if priv = .task then (s, St.privilege)
  else if 5 ≤ dbQueue v then (s, St.badParam)
  else if 32 ≤ (s.stall ps).db.length then (s.orStall ps 0x218 2, St.engDoorbellFull)
  else (s.modStall ps (fun t => { t with db := t.db ++ [v] }), St.ok)

def execDoorbellWrite (priv : Priv) (ps : Nat) (v : Word) (s : State) : Out :=
  .next (if (s.stall ps).pstate ≠ .run then s else let (t, st) := s.doorbellWrite priv ps v; t.respond st)

/-- DOORBELL_MOVE: the head entry enters its queue, or blocks. -/
def execDoorbellMove (ps : Nat) (s : State) : Out :=
  .next (match (s.stall ps).db with
    | [] => s
    | w :: rest =>
      if (s.stall ps).pstate ≠ .run || (s.stall ps).headBlocked then s
      else
        let s := s.modStall ps (fun t => { t with db := rest, dbell := false })
        (s.enqueue ps (dbQueue w) (dbList ps w)).rearm)

/-- DBELL_BLOCK_TIMEOUT: the head entry has been blocked for more than 1,024 NCLK. -/
def execDbellBlockTimeout (ps : Nat) (s : State) : Out :=
  .next (if (s.stall ps).headBlocked then s.modStall ps (fun t => { t with dbell := true }) else s)

/-- STALL_DB_STAT. -/
def Stall.dbStat (t : Stall) : Word := place 5 0 t.db.length ||| place 8 8 (b2n t.headBlocked)

/-! ### Quotas and event counters (R108, R123) -/

/-- A write of STALL_SLOT_CFG. -/
def State.slotCfg (s : State) (priv : Priv) (ps : Nat) (v : Word) : State × Status :=
  if priv = .task then (s, St.privilege)
  else if 48 < fld v 5 0 + fld v 13 8 + fld v 21 16 then (s, St.engSlotQuota)
  else (s.setScsr ps 0x200 (place 5 0 (fld v 5 0) ||| place 13 8 (fld v 13 8) ||| place 21 16 (fld v 21 16)), St.ok)

def execSlotCfgWrite (priv : Priv) (ps : Nat) (v : Word) (s : State) : Out :=
  .next (if (s.stall ps).pstate ≠ .run then s else let (t, st) := s.slotCfg priv ps v; t.respond st)

/-- A write of STALL_EVe; `posts` posts that land in the same ACLK are added to the value. -/
def State.evWrite (s : State) (priv : Priv) (ps e : Nat) (v : Word) (posts : Nat) : State × Status :=
  if priv = .task then (s, St.privilege)
  else ((s.setScsr ps (0x300 + e * 8) (place 15 0 (fld v 15 0 + posts))).kickAll ps, St.ok)

def execEvWrite (priv : Priv) (ps e : Nat) (v : Word) (posts : Nat) (s : State) : Out :=
  .next (if (s.stall ps).pstate ≠ .run then s else let (t, st) := s.evWrite priv ps e v posts; t.respond st)

/-- STALL_QPOSq. -/
def Queue.pos (x : Queue) : Word :=
  let prog := match x.ctxs with
    | c :: _ => if c.fail.isNone then c.args.prog c.next else x.prog
    | [] => x.prog
  place 15 0 x.cmdIdx ||| place 63 32 prog

end Sys2Proof.Machine
end

