-- ==== Sys2Proof/Machine/Training.lean ====
section
/-! DEFINITION. The pass interlock and the training registers (R405 to R410, R428 to R433). -/

namespace Sys2Proof.Machine

/-- A list of the stream is at the head of some queue (R408). -/
def State.streamAtHead (s : State) (ps k : Nat) : Bool :=
  (List.range 5).any (fun q => match (s.queue ps q).lists.head? with
    | some l => decide (s.streamOf ps l.task = some k)
    | none => false)

/-- STALL_TR_PASS.BLOCKQ: queues whose head list the interlock holds (R407). -/
def State.blockQ (s : State) (ps : Nat) : Nat :=
  (List.range 5).foldl (fun n q => if (s.queue ps q).state = .running ∧ s.passHeld ps q then n + 2 ^ q else n) 0

/-- STALL_TR_PASS as it reads. -/
def State.trPass (s : State) (ps : Nat) : Word := setFld (s.scsr ps 0x1A00) 12 8 (s.blockQ ps)

/-- The interlock may switch (R408, R409). -/
def State.passReady (s : State) (ps : Nat) : Bool :=
  let w := s.scsr ps 0x1A00
  let cur := fld w 0 0
  !s.streamBusy ps cur && (decide (cur = 0) || bit w 4) &&
  (if bit w 1 then !s.streamAtHead ps cur && s.streamAtHead ps (1 - cur) else bit w 3)

/-- PASS_SWITCH: CUR changes, PEND clears, SWITCHES advances; from F to B clears FOK (R408 to R410). -/
def execPassSwitch (ps : Nat) (s : State) : Out :=
  .next (if (s.stall ps).pstate ≠ .run || !s.passReady ps then s
    else
      let w := s.scsr ps 0x1A00
      let cur := fld w 0 0
      let w := setFld (setFld w 0 0 (1 - cur)) 3 3 0
      let w := setFld w 63 32 (fld w 63 32 + 1)
      s.setScsr ps 0x1A00 (if cur = 0 then setFld w 4 4 0 else w))

/-- A write of FLIP (R409). -/
def State.passFlip (s : State) (priv : Priv) (ps : Nat) : State × Status :=
  let w := s.scsr ps 0x1A00
  let st := firstFail [
    (decide (priv = .task), St.privilege),
    (bit w 1, St.badParam),
    (bit w 3, St.trainBusy),
    (bit w 0 && !bit w 4, St.trainPassOrder)]
  if st ≠ St.ok then (s, st) else (s.setScsr ps 0x1A00 (setFld w 3 3 1), St.ok)

/-- DEDUCED, log 34. -/
def execPassFlip (priv : Priv) (ps : Nat) (s : State) : Out :=
  .next (if (s.stall ps).pstate ≠ .run then s else let (t, st) := s.passFlip priv ps; t.respond st)

/-- A write of CUR and AUTO; one with FLIP set requests a switch (R433) (DEDUCED, log 34). -/
def State.trPassWrite (s : State) (priv : Priv) (ps : Nat) (v : Word) : State × Status :=
  if priv = .task then (s, St.privilege)
  else if bit v 2 then s.passFlip priv ps
  else if s.streamBusy ps 0 || s.streamBusy ps 1 || decide (s.blockQ ps ≠ 0) then (s, St.trainBusy)
  else (s.modScsr ps 0x1A00 (fun w => setFld w 1 0 (fld v 1 0)), St.ok)

def execTrPassWrite (priv : Priv) (ps : Nat) (v : Word) (s : State) : Out :=
  .next (if (s.stall ps).pstate ≠ .run then s else let (t, st) := s.trPassWrite priv ps v; t.respond st)

/-- A write of STALL_TR_STREAM (R405). -/
def State.trStreamWrite (s : State) (priv : Priv) (ps : Nat) (v : Word) : State × Status :=
  let f := fld v 15 0
  let b := fld v 31 16
  let u := fld v 47 32
  if priv = .task then (s, St.privilege)
  else if bit v 63 ∧ (f = b ∨ f = u ∨ b = u) then (s, St.badParam)
  else if (List.range 3).any (s.streamBusy ps) then (s, St.trainBusy)
  else (s.setScsr ps 0x1A08 (place 47 0 (fld v 47 0) ||| place 63 63 (fld v 63 63)), St.ok)

def execTrStreamWrite (priv : Priv) (ps : Nat) (v : Word) (s : State) : Out :=
  .next (if (s.stall ps).pstate ≠ .run then s else let (t, st) := s.trStreamWrite priv ps v; t.respond st)

/-- Flush every triple and wait for its writes (R429, R430) (DEDUCED, log 34). -/
def State.flushTriples (s : State) (ps : Nat) : State :=
  let s := (s.stall ps).triples.foldl (fun s t => s.flushTriple ps t) s
  (s.stall ps).flushing.foldl (fun s _ => s.flushDone ps false) s

/-- A write of STALL_TR_STEP: every triple goes under the old value, and FOK is set (R410, R430) (DEDUCED, log 34). -/
def State.trStepWrite (s : State) (priv : Priv) (ps : Nat) (v : Word) : State × Status :=
  if priv = .task then (s, St.privilege)
  else (((s.flushTriples ps).setScsr ps 0x1A10 v).modScsr ps 0x1A00 (fun w => setFld w 4 4 1), St.ok)

def execTrStepWrite (priv : Priv) (ps : Nat) (v : Word) (s : State) : Out :=
  .next (if (s.stall ps).pstate ≠ .run then s else let (t, st) := s.trStepWrite priv ps v; t.respond st)

/-- A write of STALL_TR_FLUSH completes when every triple has been written. -/
def State.trFlush (s : State) (priv : Priv) (ps : Nat) : State × Status :=
  if priv = .task then (s, St.privilege) else (s.flushTriples ps, St.ok)

def execStatsFlush (priv : Priv) (ps : Nat) (s : State) : Out :=
  .next (if (s.stall ps).pstate ≠ .run then s else let (t, st) := s.trFlush priv ps; t.respond st)

/-- STATS_FLUSH_COMPLETE: the oldest flush in flight ends (R429). -/
def execStatsFlushComplete (ps : Nat) (ue : Bool) (s : State) : Out := .next (s.flushDone ps ue)

end Sys2Proof.Machine
end

