-- ==== Sys2Proof/Machine/Comb.lean ====
section
/-! DEFINITION. The combiners: the ring, contributions, exact accumulation, rounding, results, deadlines, and DIGEST
(R369 to R398, R403, R451). -/

namespace Sys2Proof.Machine

/-! ### The shape of a reduction (R369 to R371, R387) -/

def Red.nb (r : Red) : Nat := cdiv r.nelem 512
def Red.sb (r : Red) : Nat := cdiv r.nb r.nmemb
/-- Rank that owns a block. -/
def Red.ownerOf (r : Red) (b : Nat) : Nat := b / r.sb
/-- Blocks that a rank owns. -/
def Red.ownedBy (r : Red) (k : Nat) : List Nat :=
  (List.range (min ((k + 1) * r.sb) r.nb - k * r.sb)).map (· + k * r.sb)
/-- Blocks of this device that its combiner n sums, ascending. -/
def Red.ownedComb (r : Red) (n : Nat) : List Nat := (r.ownedBy r.rank).filter (fun b => b % 4 = n)
/-- Elements of a block. -/
def Red.elems (r : Red) (b : Nat) : Nat := min 512 (r.nelem - 512 * b)
/-- Packet positions that a format needs for a block: halves of an FP32 block, one packet for BF16 (R371). -/
def Red.halves (r : Red) (f32 : Bool) (b : Nat) : List Bool := if f32 ∧ 256 < r.elems b then [false, true] else [false]
def elemSize (f32 : Bool) : Nat := if f32 then 4 else 2
def Red.blk (r : Red) (b : Nat) : Blk := Map.get (fun _ => {}) r.blks b
def Red.setBlk (r : Red) (b : Nat) (x : Blk) : Red := { r with blks := Map.set (fun _ => {}) r.blks b x }
/-- Packets counted at a position. -/
def Blk.count (x : Blk) (half : Bool) : Nat := if half then x.n1 else x.n0
def Blk.open_ (x : Blk) : Bool := decide (x.st = .opn)
/-- Accumulator slots of a reduction in combiner n. -/
def Red.slots (r : Red) (n : Nat) : Nat := (r.blks.filter (fun p => p.1 % 4 = n ∧ p.2.slot)).length
/-- Whether a block of this device's shard is admitted: no further than WINDOW owned blocks from BASE, and a block without a
slot only while the reduction holds fewer than WINDOW (R387) (DESIGN CHOICE, log 41). -/
def Red.admits (r : Red) (b : Nat) : Bool :=
  let own := r.ownedComb (b % 4)
  match own.findIdx? (· = b) with
  | some i => decide (i < (own.findIdx? (fun c => (r.blk c).open_)).getD own.length + r.window) &&
      (!(r.blk b).open_ || (r.blk b).slot || decide (r.slots (b % 4) < r.window))
  | none => false
/-- Blocks not yet written locally, nor reported BAD. -/
def Red.left (r : Red) : Nat := r.nb - r.written.length

/-- Accumulator slots of a combiner in use. -/
def State.combSlots (s : State) (n : Nat) : Nat :=
  s.reds.foldl (fun k r => k + r.slots n) 0

/-- COMB_STAT and COMB_REDs. -/
def State.combStat (s : State) (n : Nat) : Word := place 9 0 (s.combSlots n) ||| place 20 16 s.reds.length
def State.combRed (s : State) (k : Nat) : Word :=
  match s.reds.find? (fun r => r.slot = k) with
  | some r =>
    let st := if r.state = .held then 2 else if r.left = 0 then 3 else 1
    place 15 0 r.rid ||| place 23 16 r.epoch ||| place 26 24 st ||| place 63 32 r.left
  | none => 0

def State.red (s : State) (rid epoch : Nat) : Option Red := s.reds.find? (fun r => r.rid = rid ∧ r.epoch = epoch)
def State.setRed (s : State) (r : Red) : State :=
  { s with reds := s.reds.map (fun x => if x.rid = r.rid ∧ x.epoch = r.epoch then r else x) }
/-- Set a bit of COMB_ERR in all four combiners. -/
def State.combErrAll (s : State) (v : Word) : State := (List.range 4).foldl (fun s n => s.orDev (combBase n + 8) v) s

/-! ### The ring (R380) -/

def State.ringEntry (s : State) (idx : Nat) : Nat :=
  fld (s.dcsr (combBase 0 + 0x100)) 44 12 * 4096 + idx % max 1 (fld (s.dcsr (combBase 0 + 0x108)) 12 0) * 64

/-- Write STATUS, then DONE, of an entry, and take it out of those in progress. -/
def State.ringDone (s : State) (idx : Nat) (st : Status) : State :=
  let a := s.ringEntry idx
  let w := s.memLe a 4
  let s := (s.devWrite a (leBytes 4 (w % 256 + 256 + bits w 15 9 * 512 + st.toNat * 65536))).1
  { s with ring := s.ring.filter (fun j => j.idx ≠ idx) }

/-- An entry as its words. -/
structure RingEnt where
  idx : Nat
  /-- Status of reading it. -/
  st : Status
  op : Nat
  w : Nat → Nat

/-- The next entry, when the ring runs and fewer than 64 are in progress. -/
def State.ringHead (s : State) : Option RingEnt :=
  let size := fld (s.dcsr (combBase 0 + 0x108)) 12 0
  if size = 0 ∨ s.combHead = fld (s.dcsr (combBase 0 + 0x110)) 31 0 ∨ 64 ≤ s.ring.length then none
  else
    let (st, bs) := s.devRead (s.ringEntry s.combHead) 64
    some { idx := s.combHead, st := st, op := if st = St.ok then bits (leNat (bs.take 8)) 3 0 else 0,
           w := fun k => leNat ((bs.drop (8 * k)).take 8) }

def RingEnt.rid (e : RingEnt) : Nat := bits (e.w 0) 47 32
def RingEnt.epoch (e : RingEnt) : Nat := bits (e.w 0) 55 48
def RingEnt.action (e : RingEnt) : Nat := bits (e.w 0) 57 56

/-- A reserved bit of an entry is set (R380, R451). -/
def RingEnt.resBad (e : RingEnt) : Bool :=
  decide (bits (e.w 0) 7 4 ≠ 0 ∨ bits (e.w 0) 15 10 ≠ 0 ∨ bits (e.w 0) 63 58 ≠ 0 ∨ e.w 6 ≠ 0 ∨ e.w 7 ≠ 0) ||
  (if e.op = 5 then decide (bits (e.w 1) 63 49 ≠ 0 ∨ bits (e.w 3) 63 48 ≠ 0 ∨ bits (e.w 4) 63 45 ≠ 0 ∨ bits (e.w 5) 63 16 ≠ 0)
   else decide (e.w 3 ≠ 0 ∨ e.w 4 ≠ 0 ∨ e.w 5 ≠ 0))

/-- Take the head entry when its operation is one of those named. A malformed one is reported and not run. -/
def State.ringTake (s : State) (ops : List Nat) (run : State → RingEnt → State) : State :=
  match s.ringHead with
  | none => s
  | some e =>
    if !ops.contains e.op then s
    else
      let s := { s with combHead := (s.combHead + 1) % 2 ^ 32 }
      (if e.st ≠ St.ok then s.ringDone e.idx e.st
       else if e.resBad || decide (e.op = 0 ∨ 5 < e.op) then (s.orDev (combBase 0 + 8) 4).ringDone e.idx St.combRing
       else run s e).rearm

/-- A write of COMB_RING_TAIL. -/
def State.ringTail (s : State) (priv : Priv) (v : Word) : State × Status :=
  if priv = .task then (s, St.privilege) else (s.setDcsr (combBase 0 + 0x110) (place 31 0 (fld v 31 0)), St.ok)

def execCombRingTailWrite (priv : Priv) (v : Word) (s : State) : Out :=
  .next (let (t, st) := s.ringTail priv v; t.respond st)

/-! ### OPEN (R377, R378, R381) -/

/-- Fields of a descriptor that are out of range, or reserved bits that are set (DESIGN CHOICE, log 41). -/
def descBad (d : Nat) : Bool :=
  let nelem := rf d 0 31 0
  let nmemb := rf d 0x0C 14 0
  resSet d [(0, 31, 0), (4, 31, 0), (8, 23, 0), (0x0C, 14, 0), (0x10, 63, 0), (0x18, 14, 0), (0x18, 25, 16), (0x1C, 31, 0),
    (0x20, 44, 0), (0x28, 48, 0), (0x30, 31, 0), (0x34, 15, 0)] ||
  decide (rf d 4 7 7 ≠ 0 ∨ nelem = 0 ∨ 2 ^ 31 < nelem ∨ 1 < rf d 4 1 0 ∨ 1 < rf d 4 3 2 ∨ toSigned 8 (rf d 4 15 8) < -64 ∨
    63 < toSigned 8 (rf d 4 15 8) ∨ rf d 8 23 0 = 0 ∨ nmemb = 0 ∨ 16384 < nmemb ∨ nmemb ≤ rf d 0x18 14 0 ∨
    rf d 0x18 25 16 = 0 ∨ 512 < rf d 0x18 25 16 ∨ rf d 0x20 44 0 % 64 ≠ 0)

/-- The reduction that a descriptor describes. -/
def State.redOf (s : State) (e : RingEnt) (d : Nat) (bytes : List Byte) (members : List Nat) : Red :=
  let dl := rf d 0x1C 31 0 * 4096
  { rid := e.rid, epoch := e.epoch, entry := e.idx, nelem := rf d 0 31 0, fmt32 := decide (rf d 4 1 0 = 1),
    rfmt32 := decide (rf d 4 3 2 = 1), mean := decide (rf d 4 4 4 = 1), nanProp := decide (rf d 4 5 5 = 1),
    compat := decide (rf d 4 6 6 = 1), sexp := toSigned 8 (rf d 4 15 8), group := rf d 4 31 16, ncontrib := rf d 8 23 0,
    nmemb := rf d 0x0C 14 0, step := rf d 0x10 63 0, rank := rf d 0x18 14 0, window := rf d 0x18 25 16,
    deadline := rf d 0x1C 31 0, members := members, res := rf d 0x28 48 0, task := rf d 0x30 15 0, tenant := rf d 0x30 31 16,
    tok := if rf d 0x34 15 15 = 1 then some (rf d 0x34 7 0, rf d 0x34 14 8) else none, dchk := crc32c (bytes.take 24) % 65536,
    slot := ((List.range 16).find? (fun k => !s.reds.any (fun r => r.slot = k))).getD 0,
    contribAt := s.clk + dl, resultAt := s.clk + 2 * dl }

/-- 16-bit numbers of a byte list. -/
def halfWords : List Byte → List Nat
  | a :: b :: l => (a.toNat + 256 * b.toNat) :: halfWords l
  | _ => []

def State.combOpen (s : State) (e : RingEnt) : State :=
  let addr := e.w 1
  if s.reds.any (fun r => r.rid = e.rid) then s.ringDone e.idx St.combRidBusy
  else if addr % 64 ≠ 0 then s.ringDone e.idx St.combDesc
  else
    let (st, bs) := s.devRead addr 64
    let d := leNat bs
    if st ≠ St.ok then s.ringDone e.idx st
    else if descBad d then s.ringDone e.idx St.combDesc
    else
      let (st, ms) := s.devRead (rf d 0x20 44 0) (2 * rf d 0x0C 14 0)
      let members := halfWords ms
      if st ≠ St.ok then s.ringDone e.idx st
      else if members.getD (rf d 0x18 14 0) 0x10000 ≠ s.devid then s.ringDone e.idx St.combDesc
      else if 16 ≤ s.reds.length ∨ 512 < s.reds.foldl (fun n r => n + r.window) 0 + rf d 0x18 25 16 then
        s.ringDone e.idx St.combOpenLimit
      else
        { s with
          reds := s.reds ++ [s.redOf e d bs members]
          opened := Map.set zeroN s.opened e.rid (max (Map.get zeroN s.opened e.rid) (e.epoch + 1))
          ring := s.ring ++ [{ idx := e.idx, op := 1, rid := e.rid, epoch := e.epoch, addr := addr }] }

/-- COMB_OPEN: also the row that reports an entry with an undefined operation, or one that cannot be read (DESIGN CHOICE, log 41). -/
def execCombOpen (s : State) : Out := .next (s.ringTake ([0, 1] ++ (List.range 10).map (· + 6)) State.combOpen)

/-! ### The end of a reduction (R383, R392, R393) -/

/-- The reduction is no longer open: its entry and those of its pushes complete. -/
def State.redEnd (s : State) (r : Red) (st push : Status) : State :=
  let jobs := s.ring.filter (fun j => j.op = 2 ∧ j.rid = r.rid ∧ j.epoch = r.epoch)
  let s := jobs.foldl (fun s j => s.ringDone j.idx push) s
  let s := { s with
    reds := s.reds.filter (fun x => !(decide (x.rid = r.rid ∧ x.epoch = r.epoch)))
    ended := Map.set zeroN s.ended r.rid (max (Map.get zeroN s.ended r.rid) (r.epoch + 1)) }
  s.ringDone r.entry st

/-- A packet of a reduction for another member. -/
def State.combPkt (s : State) (r : Red) (typ dst block : Nat) (half : Bool) (st : Status) (data : List Byte)
    (spdev : Nat := 0) (spnan : Bool := false) (spinf : Bool := false) (bad : Bool := false) : Packet :=
  { typ := typ, priv := .kernel, dst := dst, src := s.devid, group := r.group, status := st, data := data, len := data.length,
    body := .comb r.rid r.epoch block half r.dchk spdev spnan spinf bad }

/-- Other members in ascending rank order. -/
def Red.others (r : Red) : List Nat := r.members.zipIdx.filterMap (fun p => if p.2 = r.rank then none else some p.1)

/-- The native late end: no block closes with a result; RABORT goes to every member (R393). -/
def State.lateEnd (s : State) (r : Red) (rabort : Bool) : State :=
  let s := (s.combErrAll 0x10).stepEvent r.step none 0x10 none
  let s := if rabort ∧ s.devidValid then
      r.others.foldl (fun s d => s.gateSubmit 0 (.comb r.rid none) (s.combPkt r 0x22 d 0 false St.ok [])) s else s
  s.redEnd r St.combLate St.combLate

/-- ABORT (R383) (DESIGN CHOICE, log 41). -/
def State.combAbort (s : State) (e : RingEnt) : State :=
  match s.red e.rid e.epoch with
  | none => s.ringDone e.idx St.combNotOpen
  | some r => (s.redEnd r St.aborted St.aborted).ringDone e.idx St.ok

def execCombAbort (s : State) : Out := .next (s.ringTake [3] State.combAbort)

/-! ### Accumulation (R373) -/

/-- A contribution element as an FP32 code. -/
def asFp32 (f32 : Bool) (c : Nat) : Nat := if f32 then c else c * 65536

/-- Add one element to its accumulator. -/
def Acc.add (x : Acc) (c : Nat) : Acc :=
  match fp32.decode c with
  | .nan => { x with nan := true }
  | .inf n => if n then { x with ninf := true } else { x with pinf := true }
  | .fin n m e => { x with a := x.a + sigAt n m e (-149) }

/-- Elements of a byte list. -/
def elemsOf (f32 : Bool) : Nat → List Byte → List Nat
  | 0, _ => []
  | n + 1, l => if l.length < elemSize f32 then [] else
      asFp32 f32 (leNat (l.take (elemSize f32))) :: elemsOf f32 n (l.drop (elemSize f32))

/-- Count one packet of a block: its elements, or the BAD mark of one with a status (R373, R396, R397). -/
def Red.accumulate (r : Red) (b : Nat) (half : Bool) (dev : Nat) (st : Status) (data : List Byte) : Red :=
  let x := r.blk b
  let x := { x with slot := true, n0 := x.n0 + b2n (!half), n1 := x.n1 + b2n half }
  if st ≠ St.ok then r.setBlk b { x with bad := true }
  else
    let cs := elemsOf r.fmt32 (r.elems b) data
    let at0 := if half then 256 else 0
    let acc := cs.zipIdx.foldl (fun m c => Map.mod (fun _ => ({} : Acc)) m (at0 + c.2) (fun a => a.add c.1)) x.acc
    let isN := cs.any (fun c => (fp32.decode c).isNaN)
    let isI := cs.any (fun c => (fp32.decode c).isInf)
    r.setBlk b { x with acc := acc, nanDev := if isN then min x.nanDev dev else x.nanDev,
                        infDev := if isI then min x.infDev dev else x.infDev }

/-! ### Rounding and results (R376, R390, R396) -/

def Red.rfmt (r : Red) : FFmt := if r.rfmt32 then fp32 else bf16

/-- The result of one element, from `n` counted contributions. -/
def Red.round (r : Red) (n : Nat) (a : Acc) : Nat :=
  let f := r.rfmt
  if a.nan || (a.pinf && a.ninf) then f.nanCode
  else if a.pinf then f.infCode
  else if a.ninf then f.sign true + f.infCode
  else if r.mean ∧ n = 0 then 0
  else
    let v := Num.ofInt a.a (r.sexp - 149) false
    (ieeeRound f 0 false (if r.mean then (Num.div v (.fin false n 0)).1 else v)).1

/-- Result codes of a block. -/
def Red.results (r : Red) (b : Nat) : List Nat :=
  let x := r.blk b
  (List.range (r.elems b)).map (fun i => r.round (x.count (r.fmt32 && decide (256 ≤ i))) (Map.get (fun _ => {}) x.acc i))

/-- Step events of a block's specials: NaN, infinity, and POL_ABORT under ABORT. -/
def State.specials (s : State) (r : Red) (nan inf : Bool) (dev : Nat) : State :=
  let ab := if (nan || inf) && !r.nanProp then 8 else 0
  let s := if nan then s.stepEvent r.step none (2 + ab) (some dev) else s
  if inf then s.stepEvent r.step none (4 + ab) none else s

/-- A block has been written locally or reported BAD. -/
def Red.mark (r : Red) (b : Nat) (bad : Bool) : Red :=
  { r with written := if r.written.contains b then r.written else b :: r.written, anyBad := r.anyBad || bad }

/-- RES can be written now: a stall that sleeps holds an access to its scratch (R527) (DEDUCED, log 42). -/
def State.unitAwake (s : State) (addr : Nat) : Bool :=
  match localRegion addr with
  | some (.scratch ps _) => decide ((s.stall ps).pstate = .run)
  | _ => true

/-- Write results at this device; a failed write leaves the block BAD here (DESIGN CHOICE, log 41). -/
def State.putRes (s : State) (r : Red) (b : Nat) (half : Bool) (data : List Byte) : State × Bool :=
  let z := elemSize r.rfmt32
  match s.unitWrite .kernel r.task r.tenant (r.res + b * 512 * z + (if half then 256 * z else 0)) data with
  | some (s, st) => (s, decide (st = St.ok))
  | none => (s, false)

/-- Close a block: round, write, and send to every other member (R390). -/
def State.closeBlk (s : State) (rid epoch b : Nat) (how : BlkSt) : State :=
  match s.red rid epoch with
  | none => s
  | some r =>
    let x := r.blk b
    let z := elemSize r.rfmt32
    let cs := r.results b
    let bytes := cs.flatMap (leBytes z)
    let nan := !x.bad && cs.any (fun c => (r.rfmt.decode c).isNaN)
    let inf := !x.bad && cs.any (fun c => (r.rfmt.decode c).isInf)
    let dev := if nan ∧ x.acc.any (fun a => a.2.nan) then x.nanDev else x.infDev
    let (s, ok) := if x.bad then (s, false) else s.putRes r b false bytes
    let s := s.specials r nan inf dev
    let s := if ok then s else s.stepEvent r.step none 0x20 none
    let pk := fun (d : Nat) =>
      if x.bad then [s.combPkt r 0x21 d b false St.ok [] 0 false false true]
      else (r.halves r.rfmt32 b).map (fun h =>
        s.combPkt r 0x21 d b h St.ok (if h then bytes.drop 1024 else bytes.take 1024) dev nan inf false)
    let out := if s.devidValid then r.others.flatMap pk else []
    let r := (r.setBlk b { st := how, n0 := x.n0, n1 := x.n1, slot := decide (out ≠ []) }).mark b (!ok)
    let s := s.setRed { r with copies := r.copies + out.length }
    out.foldl (fun s p => s.gateSubmit (b % 4) (.comb rid none) p) s

/-- Every expected position holds NCONTRIB packets. -/
def Red.full (r : Red) (b : Nat) : Bool :=
  (r.halves r.fmt32 b).all (fun h => decide (r.ncontrib ≤ (r.blk b).count h))

/-- A combiner decides a contribution for a block of this device: the answer, or none where it is refused for now (R386). -/
def State.contribute (s : State) (r : Red) (b : Nat) (half : Bool) (dev : Nat) (st : Status) (data : List Byte) :
    State × Option Status :=
  let c := combBase (b % 4)
  let x := r.blk b
  if !r.admits b then (s.bumpDev (c + 0x18) 1, none)
  else if x.st = .closedCount then (s, some St.combExtra)
  else if x.st = .closedDeadline then (s.bumpDev (c + 0x20) 1, some St.ok)
  else if !(r.halves r.fmt32 b).contains half ∨ r.ncontrib ≤ x.count half then (s, some St.combExtra)
  else
    let r := r.accumulate b half dev st data
    let n := if st = St.ok then data.length / elemSize r.fmt32 else 0
    let s := (s.setRed r).modDcsr (c + 0x30) (fun w => place 47 0 (satAdd (2 ^ 48 - 1) (fld w 47 0) n))
    (if r.full b then s.closeBlk r.rid r.epoch b .closedCount else s, some St.ok)

/-! ### PUSH (R382, R397, R398) -/

/-- Blocks of a push in the order of its owners, from the next rank on. -/
def Red.pushOrder (r : Red) : List Nat :=
  (List.range r.nmemb).flatMap (fun i => r.ownedBy ((r.rank + 1 + i) % r.nmemb))

def State.combPush (s : State) (e : RingEnt) : State :=
  match s.red e.rid e.epoch with
  | none => s.ringDone e.idx St.combNotOpen
  | some r => { s with ring := s.ring ++ [{ idx := e.idx, op := 2, rid := e.rid, epoch := e.epoch, addr := e.w 1, blocks := r.pushOrder }] }

def execCombPush (s : State) : Out := .next (s.ringTake [2] State.combPush)

def State.modJob (s : State) (idx : Nat) (f : RingJob → RingJob) : State :=
  { s with ring := s.ring.map (fun j => if j.idx = idx then f j else j) }

/-- The first failing status stays. -/
def RingJob.fail (j : RingJob) (st : Status) : RingJob := if j.status = St.ok then { j with status := st } else j

/-- A push completes when every block has been accumulated or acknowledged. -/
def State.pushEnd (s : State) (idx : Nat) : State :=
  match s.ring.find? (fun j => j.idx = idx) with
  | some j => if j.op = 2 ∧ j.blocks = [] ∧ j.unacked = 0 then s.ringDone idx j.status else s
  | none => s

/-- A block of a push that a combiner may read next: one of this device waits for its admission. -/
def Red.pushable (r : Red) (comb b : Nat) : Bool := decide (b % 4 = comb) && (decide (r.ownerOf b ≠ r.rank) || r.admits b)

/-- DESIGN CHOICE, log 41. -/
def State.nextPush (s : State) (comb : Nat) : Option (RingJob × Red × Nat) :=
  s.ring.findSome? (fun j =>
    if j.op ≠ 2 then none
    else match s.red j.rid j.epoch with
      | none => none
      | some r => (j.blocks.find? (r.pushable comb)).map (fun b => (j, r, b)))

/-- PUSH_READ_COMPLETE: a block has been read, or its read has failed (R397). -/
def State.pushRead (s : State) (comb : Nat) (ue : Bool) : State :=
  match s.nextPush comb with
  | none => s
  | some (j, r, b) =>
    let z := elemSize r.fmt32
    match s.unitRead .kernel r.task r.tenant (j.addr + b * 512 * z) (r.elems b * z) with
    | none => s
    | some (s, st, data) =>
      let st := if ue ∧ st = St.ok then St.memUe else st
      let data := if st = St.ok then data else []
      let part := fun (h : Bool) => if !r.fmt32 then data else if h then data.drop 1024 else data.take 1024
      let s := s.modJob j.idx (fun j => { j with blocks := j.blocks.erase b })
      let s := if st ≠ St.ok then s.modJob j.idx (fun j => j.fail st) else s
      let s := (r.halves r.fmt32 b).foldl (fun s h =>
        if r.ownerOf b = r.rank then
          match s.red r.rid r.epoch with
          | some r =>
            let (s, a) := s.contribute r b h s.devid st (part h)
            if a = some St.ok then s else s.modJob j.idx (fun j => j.fail St.combExtra)
          | none => s
        else if !s.devidValid then s.modJob j.idx (fun j => j.fail St.linkNoRoute)
        else
          let s := s.modJob j.idx (fun j => { j with unacked := j.unacked + 1 })
          s.gateSubmit (b % 4) (.comb r.rid (some j.idx)) (s.combPkt r 0x20 (r.members.getD (r.ownerOf b) 0) b h st (part h))) s
      s.pushEnd j.idx

def execPushReadComplete (comb : Nat) (ue : Bool) (s : State) : Out :=
  .next (match s.nextPush comb with
    | some (_, r, _) => if s.unitAwake r.res then (s.pushRead comb ue).rearm else s
    | none => s)

/-! ### Packets (R386, R391, R395, R398) -/

/-- The first three rows of R386: an answer, with what it counts, or the open reduction. -/
def State.combLookup (s : State) (n : Nat) (p : Packet) (rid epoch dchk : Nat) : (State × Option Status) ⊕ Red :=
  let ended := Map.get zeroN s.ended rid
  if Map.get zeroN s.opened rid < epoch + 1 then .inl (s, none)
  else
    match s.reds.find? (fun r => r.rid = rid) with
    | some r =>
      if epoch < r.epoch ∨ epoch + 1 ≤ ended ∨ epoch ≠ r.epoch then .inl (s.bumpDev (combBase n + 0x20) 1, some St.ok)
      else if p.group ≠ r.group ∨ dchk ≠ r.dchk then .inl (s.orDev (combBase n + 8) 2, some St.combDchk)
      else .inr r
    | none => .inl (s.bumpDev (combBase n + 0x20) 1, some St.ok)

/-- Answer a combiner packet: ACK with a status, or NAK_RNR. -/
def State.combReply (s : State) (gate : Nat) (p : Packet) : Option Status → State
  | some st => s.reply gate p st
  | none => s.toGate gate { s.responseTo p St.ok [] with typ := 0x12 }

/-- Take a combiner packet of a type from a gate and handle it (DESIGN CHOICE, log 41). -/
def State.combTake (s : State) (gate typ : Nat)
    (f : State → Red → Packet → Nat → Bool → State × Option Status) : State :=
  match (s.gate gate).take (fun p => p.typ = typ) with
  | none => s
  | some (p, g) =>
    let t := s.setGate gate g
    match p.body with
    | .comb rid epoch block half dchk _ _ _ _ =>
      let (u, a) := match t.combLookup (block % 4) p rid epoch dchk with
        | .inl x => x
        | .inr r => f t r p block half
      (u.combReply gate p a).rearm
    | _ => t.reply gate p St.unsupported

/-- The accumulator words that a contribution reads (R375) (DESIGN CHOICE, log 41). -/
def State.accEcc (s : State) (r : Red) (b : Nat) (e : Ecc) : State :=
  match e with
  | .clean => s
  | .corrected => (s.bumpDev (combBase (b % 4) + 0x10) 1).detect St.combContribUe 10 0 4 (b % 4)
  | .uncorrectable =>
    let s := (s.orDev (combBase (b % 4) + 8) 1).detect St.combContribUe 10 1 4 (b % 4)
    s.setRed (r.setBlk b { r.blk b with bad := true })

def execContrib (gate : Nat) (ecc : Ecc) (s : State) : Out :=
  .next (s.combTake gate 0x20 (fun s r p b half =>
    let s := if r.admits b && (r.blk b).open_ then s.accEcc r b ecc else s
    let r := (s.red r.rid r.epoch).getD r
    s.contribute r b half p.src p.status p.data))

/-- A member takes a RESULT packet (R391). -/
def State.takeResult (s : State) (r : Red) (p : Packet) (b : Nat) (half : Bool) : State × Option Status :=
  match p.body with
  | .comb _ _ _ _ _ spdev spnan spinf bad =>
    if r.written.contains b then (s, some St.ok)
    else if bad then
      ((s.stepEvent r.step none 0x20 none).setRed (r.mark b true), some St.ok)
    else
      let (s, ok) := s.putRes r b half p.data
      let s := s.specials r spnan spinf spdev
      let s := if ok then s else s.stepEvent r.step none 0x20 none
      let got := r.half.contains (b * 2 + b2n (!half)) || decide ((r.halves r.rfmt32 b).length = 1)
      let r := { r with half := if got then r.half.filter (fun k => k / 2 ≠ b) else (b * 2 + b2n half) :: r.half,
                        anyBad := r.anyBad || !ok }
      (s.setRed (if got then r.mark b (!ok) else r), some St.ok)
  | _ => (s, some St.ok)

def execResult (gate : Nat) (s : State) : Out :=
  .next (if s.reds.all (fun r => s.unitAwake r.res) then s.combTake gate 0x21 State.takeResult else s)

def execRabort (gate : Nat) (s : State) : Out :=
  .next (s.combTake gate 0x22 (fun s r _ _ _ => (s.lateEnd r false, some St.ok)))

/-- A status that the links report (R347). -/
def isLinkStatus (st : Status) : Bool := decide (st.toNat / 256 = 0x11)

/-- A tracked combiner packet has been answered, or has failed (R390, R398). -/
def State.combAnswered (s : State) (p : Packet) (entry : Option Nat) (st : Status) : State :=
  match p.body with
  | .comb rid epoch b _ _ _ _ _ _ =>
    match entry with
    | some idx =>
      if s.ring.any (fun j => j.idx = idx ∧ j.op = 2 ∧ j.rid = rid ∧ j.epoch = epoch) then
        let s := s.modJob idx (fun j => { (if st = St.ok then j else j.fail st) with unacked := j.unacked - 1 })
        let s := match s.red rid epoch with
          | some r => if isLinkStatus st ∧ !r.compat then s.stepEvent r.step none 0x10 none else s
          | none => s
        (s.pushEnd idx).rearm
      else s
    | none =>
      match s.red rid epoch with
      | none => s
      | some r =>
        if p.typ ≠ 0x21 then s
        else
          let same := fun (q : Packet) => decide (q.typ = 0x21) && (match q.body with
            | .comb i e c _ _ _ _ _ _ => decide (i = rid ∧ e = epoch ∧ c = b)
            | _ => false)
          let more := (List.range 4).any (fun n => (s.gate n).entries.any (fun t => same t.2.pkt) ||
            (s.gate n).waitq.any (fun w => same w.2))
          let r := { r with copies := r.copies - 1 }
          s.setRed (if more then r else r.setBlk b { r.blk b with slot := false })
  | _ => s

/-! ### Completion (R392) -/

/-- The completion token: an SPOST of 1 under TENANT; one that is refused sets COMB_ERR.RING. -/
def State.postToken (s : State) (ls i tenant : Nat) : State :=
  let o := s.psOf ls
  let x := (s.stall o).obj i
  if kindOk 0xA0 x.kind ∧ x.tenant = tenant ∧ !(x.kind = 2 ∧ 2 ^ 32 ≤ x.value + 1) then
    (s.modStall o (fun t => t.setObj i { x with value := (x.value + 1) % 2 ^ 32 })).serveObj o i 256
  else s.orDev (combBase 0 + 8) 4

/-- REDUCTION_COMPLETE. -/
def execReductionComplete (rid : Nat) (s : State) : Out :=
  .next (match s.reds.find? (fun r => r.rid = rid) with
    | none => s
    | some r =>
      if r.left ≠ 0 ∨ r.copies ≠ 0 ∨ s.ring.any (fun j => j.op = 2 ∧ j.rid = r.rid ∧ j.epoch = r.epoch) then s
      else
        let s := s.redEnd r (if r.late then St.combLate else if r.anyBad then St.combContribUe else St.ok) St.aborted
        (match r.tok with
          | some (ls, i) => s.postToken ls i r.tenant
          | none => s).rearm)

/-! ### Deadlines and DECIDE (R384, R393, R394) -/

/-- Owned blocks not yet closed. -/
def Red.openOwned (r : Red) : List Nat := (r.ownedBy r.rank).filter (fun b => (r.blk b).open_)

/-- Close the owned blocks with the packets counted (compatibility row of R393). -/
def State.dropClose (s : State) (r : Red) : State :=
  r.openOwned.foldl (fun s b =>
    let miss := (r.halves r.fmt32 b).foldl (fun n h => n + (r.ncontrib - (r.blk b).count h)) 0
    ((s.bumpDev (combBase (b % 4) + 0x28) miss).stepEvent r.step none 0x40 none).closeBlk r.rid r.epoch b .closedDeadline) s

/-- The reduction enters HELD, with its event (R393, R501) (DEDUCED, log 45). -/
def State.hold (s : State) (r : Red) : State :=
  ((s.setRed { r with state := .held }).combErrAll 8).event
    { code := 3, d0 := place 15 0 r.rid ||| place 23 16 r.epoch, d1 := BitVec.ofNat 64 r.step }

/-- COMB_CONTRIB_DEADLINE. -/
def execCombContribDeadline (rid : Nat) (s : State) : Out :=
  .next (match s.reds.find? (fun r => r.rid = rid) with
    | none => s
    | some r =>
      if r.deadline = 0 ∨ r.contribDone ∨ r.state ≠ .opn ∨ s.clk < r.contribAt ∨ !s.unitAwake r.res then s
      else
        let r := { r with contribDone := true }
        let s := s.setRed r
        if r.openOwned = [] then s
        else (if s.hostMode 2 then s.hold r else if r.compat then s.dropClose r else s.lateEnd r true).rearm)

/-- COMB_RESULT_DEADLINE. -/
def execCombResultDeadline (rid : Nat) (s : State) : Out :=
  .next (match s.reds.find? (fun r => r.rid = rid) with
    | none => s
    | some r =>
      if r.deadline = 0 ∨ r.state ≠ .opn ∨ s.clk < r.resultAt ∨ r.left = 0 then s
      else (if s.hostMode 2 ∧ !r.dropped then s.hold r else s.lateEnd r false).rearm)

/-- DECIDE with one of the actions named. -/
def State.decide_ (s : State) (actions : List Nat) (f : State → Red → State) : State :=
  match s.ringHead with
  | none => s
  | some e =>
    if e.op = 4 ∧ e.st = St.ok ∧ !actions.contains e.action then s
    else s.ringTake [4] (fun s e =>
      if e.action = 3 then (s.orDev (combBase 0 + 8) 4).ringDone e.idx St.combRing
      else match s.red e.rid e.epoch with
        | some r => if r.state = .held then (f s r).ringDone e.idx St.ok else s.ringDone e.idx St.combNotHeld
        | none => s.ringDone e.idx St.combNotHeld)

/-- DECIDE_LATE; also the row that reports the undefined action. -/
def execDecideLate (s : State) : Out := .next (s.decide_ [0, 3] (fun s r => s.lateEnd r true))

def execDecideDrop (s : State) : Out :=
  .next (s.decide_ [1] (fun s r =>
    let r := { r with state := .opn, contribDone := true, dropped := true, resultAt := s.clk + r.deadline * 4096 }
    (s.setRed r).dropClose r))

def execDecideExtend (s : State) : Out :=
  .next (s.decide_ [2] (fun s r =>
    s.setRed { r with state := .opn, contribDone := false, contribAt := s.clk + r.deadline * 4096,
                      resultAt := s.clk + 2 * r.deadline * 4096 }))

/-! ### DIGEST (R451) -/

def State.combDigest (s : State) (e : RingEnt) : State :=
  if e.w 3 = 0 ∨ e.w 4 % 32 ≠ 0 then (s.orDev (combBase 0 + 8) 4).ringDone e.idx St.combRing
  else { s with ring := s.ring ++ [{ idx := e.idx, op := 5, rid := 0, epoch := 0, addr := e.w 1, len := e.w 3, out := e.w 4, task := e.w 5 }] }

/-- DIGEST: at most four run at once (DESIGN CHOICE, log 41). -/
def execDigest (s : State) : Out :=
  .next (if 4 ≤ (s.ring.filter (fun j => j.op = 5)).length then s else s.ringTake [5] State.combDigest)

/-- DIGEST_COMPLETE: the bytes have been read. -/
def execDigestComplete (idx : Nat) (ue : Bool) (s : State) : Out :=
  .next (match s.ring.find? (fun j => j.idx = idx ∧ j.op = 5) with
    | none => s
    | some j =>
      match s.unitRead .kernel j.task 0 j.addr j.len with
      | none => s
      | some (s, st, bs) =>
        let st := if ue ∧ st = St.ok then St.memUe else st
        (if st ≠ St.ok then s.ringDone idx st
         else let (s, st) := s.devWrite j.out (sha256 bs); s.ringDone idx st).rearm)

/-! ### Counters (R403) -/

def execAccCeRead (priv : Priv) (comb : Nat) (s : State) : Out := .next (s.readDev priv (combBase comb + 0x10))
def execNakCntRead (priv : Priv) (comb : Nat) (s : State) : Out := .next (s.readDev priv (combBase comb + 0x18))
def execDiscardCntRead (priv : Priv) (comb : Nat) (s : State) : Out := .next (s.readDev priv (combBase comb + 0x20))
def execDropCntRead (priv : Priv) (comb : Nat) (s : State) : Out := .next (s.readDev priv (combBase comb + 0x28))
def execElemCntRead (priv : Priv) (comb : Nat) (s : State) : Out := .next (s.readDev priv (combBase comb + 0x30))

end Sys2Proof.Machine
end

