-- ==== Sys2Proof/Machine/Commit.lean ====
section
/-! DEFINITION. The commit controller: step records, votes, decisions, flips, the journal, checkpoints and their restore
(R435 to R461). -/

namespace Sys2Proof.Machine

/-! ### Registers of the round -/

def cmtBase : Nat := combBase 0 + 0x400
def State.cmtStep (s : State) : Nat := fld (s.dcsr (cmtBase + 0x08)) 55 0
def State.cmtAttempt (s : State) : Nat := fld (s.dcsr (cmtBase + 0x08)) 63 56
def State.cmtKey (s : State) : Word := s.dcsr (cmtBase + 0x10)
def State.cmtCfg (s : State) : Word := s.dcsr (cmtBase + 0x18)
def State.cmtSlot (s : State) : Nat := fld s.cmtCfg 3 0
def State.cmtTable (s : State) : Nat := fld (s.dcsr (cmtBase + 0x38)) 44 12 * 4096
def State.cmtEntries (s : State) : Nat := fld (s.dcsr (cmtBase + 0x38)) 63 48
def State.cmtJrnl (s : State) : Nat := fld (s.dcsr (cmtBase + 0x40)) 44 6 * 64

def cmtNum : CmtSt → Nat
  | .idle => 0 | .opn => 1 | .preparing => 2 | .voted => 3 | .doubt => 4 | .flipping => 5 | .committed => 6 | .aborted => 7

/-- COMB_CMT_STAT and COMB_CK_STAT. -/
def State.cmtStat (s : State) : Word :=
  place 2 0 (cmtNum s.cmt.state) ||| place 4 4 (b2n s.cmt.dec) ||| place 5 5 (b2n s.cmt.next) ||| place 31 16 s.cmt.status.toNat
def State.ckStat (s : State) : Word := place 1 0 s.cmt.ckState ||| place 31 16 s.cmt.ckStatus.toNat

/-- Set bits of COMB_CMT_EVT, with the CMT event (R501). -/
def State.cmtEvt (s : State) (v : Word) : State :=
  let s := s.orDev (cmtBase + 0x50) v
  (s.event { code := 10, d0 := s.cmtStat, d1 := s.dcsr (cmtBase + 0x50) }).rearm

def State.setCmt (s : State) (c : Cmt) : State := { s with cmt := c }

/-! ### The journal (R448) -/

/-- The journal block. -/
def journal (phase attempt step : Nat) (key : Word) (vote : Nat) : List Byte :=
  let h := leBytes 8 (phase + attempt * 256) ++ leBytes 8 step ++ leBytes 8 key.toNat ++ leBytes 4 vote
  h ++ leBytes 4 (crc32c h) ++ List.replicate 32 0

def State.writeJournal (s : State) (phase : Nat) (vote : BitVec 32) : State :=
  (s.devWrite s.cmtJrnl (journal phase s.cmtAttempt s.cmtStep s.cmtKey vote.toNat)).1

/-! ### Records and votes (R435, R438, R441) -/

/-- Flags of the record of the round's step. -/
def State.cmtRec (s : State) : Word := s.dcsr (combBase 0 + 0x508 + s.cmtStep % 4 * 0x10)

/-- The record is clean (R438). -/
def State.recClean (s : State) : Bool :=
  let w := s.cmtRec
  !bit w 3 && !bit w 4 && !bit w 5 && !bit w 7 && (bit s.cmtCfg 4 || !bit w 6)

/-- The vote from PREPARING (R441). -/
def State.voteWord (s : State) : BitVec 32 :=
  let w := s.cmtRec
  BitVec.ofNat 32 (1 + 2 * b2n s.recClean + 4 * b2n (bit w 3) + 8 * b2n (bit w 4 || bit w 5 || bit w 7) +
    16 * fld s.cmtCfg 4 4 + 256 * s.cmtAttempt + 65536 * (s.cmtStep % 65536))

/-- Journal and send a vote under the current key; the controller is then VOTED. -/
def State.sendVote (s : State) (vote : BitVec 32) (log : Bool) : State :=
  let b := s.cmtSlot
  let s := if log then s.writeJournal 2 vote else s
  let s := s.setCmt { s.cmt with state := .voted, votedAt := s.clk, vote := vote }
  if s.devidValid then
    s.gateSubmit 0 .vote { typ := 0x30, priv := .kernel, dst := s.xbarMaster b, src := s.devid, group := fld (s.dcsr (xbarCfg b)) 63 48,
                           body := .arrival b (fld (s.dcsr (xbarCfg b + 8)) 29 16) s.cmtKey vote }
  else s

/-- A ring entry that has not been taken belongs to the step. -/
def State.ringStep (s : State) (step idx : Nat) : Bool :=
  let (st, bs) := s.devRead (s.ringEntry idx) 64
  let w := leNat bs
  let op := bits w 3 0
  if st ≠ St.ok then false
  else if op = 1 then
    let (st, d) := s.devRead (rf w 8 63 0) 64
    decide (st = St.ok ∧ rf (leNat d) 0x10 63 0 = step)
  else if op = 2 then (match s.red (bits w 47 32) (bits w 55 48) with
    | some r => decide (r.step = step)
    | none => false)
  else false

/-- Condition 1 of R441: no OPEN or PUSH entry of the step is left. -/
def State.ringClear (s : State) (step : Nat) : Bool :=
  let size := fld (s.dcsr (combBase 0 + 0x108)) 12 0
  let n := min size ((fld (s.dcsr (combBase 0 + 0x110)) 31 0 + 2 ^ 32 - s.combHead) % 2 ^ 32)
  !s.ring.any (fun j => decide (j.op = 1 ∨ j.op = 2) && (match s.red j.rid j.epoch with
    | some r => decide (r.step = step)
    | none => false)) &&
  !(List.range n).any (fun i => s.ringStep step ((s.combHead + i) % 2 ^ 32))

/-- The conditions of R441 in PREPARING. -/
def State.voteReady (s : State) : Bool :=
  s.ringClear s.cmtStep && !s.stalls.any (fun p => s.streamBusy p.1 2) && decide (s.cmt.ckState = 0)

/-- CMT_VOTE. -/
def execCmtVote (s : State) : Out :=
  .next (if s.cmt.state = .preparing ∧ s.voteReady then s.sendVote s.voteWord true else s)

/-! ### Decisions (R442 to R446) -/

/-- After an abort: journal, NEXT, key and event. -/
def State.decideAbort (s : State) (skip : Bool) (st : Status) : State :=
  let s := s.writeJournal 5 s.cmt.vote
  let st := if s.cmtAttempt = 255 ∧ !skip then St.cmtAttempts else st
  ((s.setCmt { s.cmt with state := .aborted, dec := false, next := skip, status := st }).setDcsr (cmtBase + 0x10) (s.cmtKey + 1)).cmtEvt 1

/-- After a commit: the flips begin. -/
def State.decideCommit (s : State) : State :=
  let s := s.writeJournal 3 s.cmt.vote
  s.setCmt { s.cmt with state := .flipping, dec := true, next := false, status := St.ok, finishing := false }

/-- The decision of R442: commit, and skip. -/
def decision (cfg : Word) (r : XResult) : Bool × Bool :=
  let a := r.vand.toNat
  let o := r.vor.toNat
  let agree := decide ((a ^^^ o) &&& 0xFFFFFF10 = 0)
  let ready := decide (a % 4 = 3)
  let commit := if bit cfg 4 then
      decide (r.status = St.ok ∨ r.status = St.syncBarMissing) && decide (r.nmiss ≤ fld cfg 23 8) && agree && ready
    else decide (r.status = St.ok ∧ r.nmiss = 0) && agree && ready
  (commit, !commit && bit cfg 5 && decide (r.nmiss = 0 ∧ bits o 2 2 = 1 ∧ bits o 3 3 = 0))

/-- The controller awaits a release of a slot and key. -/
def State.cmtAwaits (s : State) (b : Nat) (key : Word) : Bool :=
  decide (s.cmt.state = .voted ∨ s.cmt.state = .doubt) && decide (b = s.cmtSlot) && decide (key = s.cmtKey)

/-- The release of the round reaches the controller. -/
def State.cmtRelease (s : State) (r : XResult) : State :=
  let (w0, w1) := XWords r
  let s := s.setCmt { s.cmt with res0 := w0, res1 := w1 }
  let (commit, skip) := decision s.cmtCfg r
  if commit then s.decideCommit else s.decideAbort skip St.cmtAbort

/-- XBAR_RELEASE: the member's side of a release, acknowledged; the controller takes that of its round. -/
def execXbarRelease (gate : Nat) (s : State) : Out :=
  .next (match (s.gate gate).take (fun p => decide (p.typ = 0x31)) with
    | none => s
    | some (p, g) =>
      let s := s.setGate gate g
      match p.body with
      | .release b key r =>
        let mine := s.cmtAwaits (b % 16) key
        let s := s.xbarDeliver (b % 16) key r mine
        (if mine then s.cmtRelease r else s).reply gate p St.ok
      | _ => s.reply gate p St.ok)

/-- The master has answered the vote: a refusal of the key is an abort (R442) (DESIGN CHOICE, log 40). -/
def State.voteAnswered (s : State) (st : Status) : State :=
  if st.toNat / 256 = 0x12 ∧ (s.cmt.state = .voted ∨ s.cmt.state = .doubt) then s.decideAbort false st else s

/-- CMT_DOUBT. -/
def execCmtDoubt (s : State) : Out :=
  .next (if s.cmt.state ≠ .voted ∨ s.clk < s.cmt.votedAt + 2 ^ fld s.cmtCfg 31 24 then s
    else (s.setCmt { s.cmt with state := .doubt, status := St.cmtDoubt }).cmtEvt 2)

/-- Flip one entry that the step registered: CUR inverted and CSTEP = STEP; whether its read failed (R443, R449). -/
def State.flipEntry (s : State) (ue : List Nat) (h : Nat) : State × Bool :=
  let a := s.cmtTable + h * 64
  let (st, bs) := s.devRead a 64
  if st ≠ St.ok ∨ ue.contains h then (s, true)
  else
    let e := leNat bs
    let mine : Bool := decide (rf e 8 0 0 = 1 ∧ rf e 0 47 0 = s.cmtStep % 2 ^ 40 + s.cmtAttempt * 2 ^ 40)
    if !mine || (s.cmt.finishing && decide (rf e 0x28 63 0 = s.cmtStep)) then (s, false)
    else
      let w1 := leNat ((bs.drop 8).take 8) ^^^ 2
      ((s.devWrite a (bs.take 8 ++ leBytes 8 w1 ++ (bs.drop 16).take 24 ++ leBytes 8 s.cmtStep ++ bs.drop 48)).1, false)

/-- CMT_FLIP_COMPLETE: `ue` are the entries whose read met a fresh uncorrectable error. -/
def execCmtFlipComplete (ue : List Nat) (s : State) : Out :=
  .next (if s.cmt.state ≠ .flipping then s
    else
      let (s, bad) := (List.range s.cmtEntries).foldl (fun (p : State × Bool) h =>
        let (t, b) := p.1.flipEntry ue h
        (t, p.2 || b)) (s, false)
      let s := s.writeJournal 4 s.cmt.vote
      let s := s.setCmt { s.cmt with state := .committed, status := if bad then St.cmtFlipUe else St.ok, finishing := false }
      (s.setDcsr (cmtBase + 0x10) (s.cmtKey + 1)).cmtEvt 1)

/-! ### Commands (R440, R449) -/

/-- The state admits OPEN and register writes. -/
def State.cmtFree (s : State) : Bool := decide (s.cmt.state = .idle ∨ s.cmt.state = .committed ∨ s.cmt.state = .aborted)

/-- A drain starts with the OPEN of a step (R453) (DESIGN CHOICE, log 43). -/
def State.drainDue (s : State) : Bool :=
  let w := s.dcsr (cmtBase + 0x58)
  let k := fld w 31 8
  bit w 0 && (decide (k ≠ 0 ∧ s.cmtStep % k = 0 ∧ s.cmt.ckLstep ≠ s.cmtStep) || s.cmt.ckRetry)

def State.cmtOpen (s : State) : State × Status :=
  if !s.cmtFree then (s, St.cmtState)
  else if s.cmtStep = 0 ∨ s.cmtEntries = 0 ∨ s.cmtJrnl = 0 ∨ !s.xbarEn s.cmtSlot then (s, St.cmtConfig)
  else
    let k := combBase 0 + 0x500 + s.cmtStep % 4 * 0x10
    let s := (s.setDcsr k (s.dcsr (cmtBase + 0x08))).setDcsr (k + 8) 0x3FFF0001
    let s := s.writeJournal 1 0
    let w := s.dcsr (cmtBase + 0x58)
    let s := if s.hostMode 3 then
        (if bit w 0 ∧ fld w 31 8 ≠ 0 ∧ s.cmtStep % fld w 31 8 = 0 then s.event { code := 4, d0 := BitVec.ofNat 64 s.cmtStep } else s)
      else if s.drainDue then s.setCmt { s.cmt with ckState := 1, ckStep := s.cmtStep }
      else s
    (s.setCmt { s.cmt with state := .opn, vote := 0 }, St.ok)

def State.cmtPrepare (s : State) : State × Status :=
  if s.cmt.state = .opn then (s.setCmt { s.cmt with state := .preparing }, St.ok) else (s, St.cmtState)

def State.cmtAbort (s : State) : State × Status :=
  if s.cmt.state = .opn ∨ s.cmt.state = .preparing then (s.sendVote 0 true, St.ok) else (s, St.cmtState)

def State.cmtResolve (s : State) (dec : Bool) : State × Status :=
  if s.cmt.state ≠ .doubt then (s, St.cmtState)
  else (if dec then s.decideCommit else s.decideAbort false St.cmtAbort, St.ok)

/-- DESIGN CHOICE, log 43. -/
def State.cmtFinish (s : State) : State × Status :=
  if s.cmt.state ≠ .idle then (s, St.cmtState)
  else
    let (st, bs) := s.devRead s.cmtJrnl 64
    let j := leNat bs
    let phase := rf j 0 7 0
    if st ≠ St.ok then (s, st)
    else if phase = 0 ∨ 5 < phase ∨ rf j 0x18 63 32 ≠ crc32c (bs.take 28) then (s, St.cmtNoJournal)
    else
      let s := s.setDcsr (cmtBase + 0x08) (place 55 0 (rf j 8 55 0) ||| place 63 56 (rf j 0 15 8))
      let s := s.setDcsr (cmtBase + 0x10) (BitVec.ofNat 64 (rf j 0x10 63 0))
      let vote := BitVec.ofNat 32 (rf j 0x18 31 0)
      let next := fun (s : State) (c : CmtSt) (dec : Bool) =>
        (s.setCmt { s.cmt with state := c, dec := dec, vote := vote }).setDcsr (cmtBase + 0x10) (s.cmtKey + 1)
      (match phase with
        | 1 => s.sendVote 0 true
        | 2 => s.sendVote vote false
        | 3 => s.setCmt { s.cmt with state := .flipping, dec := true, vote := vote, status := St.ok, finishing := true }
        | 4 => next s .committed true
        | _ => next s .aborted false, St.ok)

/-- A write of COMB_CMT_CTL. -/
def State.cmtCtl (s : State) (priv : Priv) (cmd : Nat) (dec : Bool) : State × Status :=
  if priv = .task then (s, St.privilege)
  else
    match cmd with
    | 1 => s.cmtOpen
    | 2 => s.cmtPrepare
    | 3 => s.cmtAbort
    | 4 => s.cmtResolve dec
    | 5 => s.cmtFinish
    | _ => (s, St.badParam)

/-- A command by register write. -/
def State.cmtNow (s : State) (priv : Priv) (cmd : Nat) (dec : Bool) : State :=
  let (t, st) := s.cmtCtl priv cmd dec
  t.respond st

def execCmtOpen (priv : Priv) (s : State) : Out := .next (s.cmtNow priv 1 false)
def execCmtPrepare (priv : Priv) (s : State) : Out := .next (s.cmtNow priv 2 false)
def execCmtAbort (priv : Priv) (s : State) : Out := .next (s.cmtNow priv 3 false)
def execCmtResolve (priv : Priv) (dec : Bool) (s : State) : Out := .next (s.cmtNow priv 4 dec)
def execCmtFinish (priv : Priv) (s : State) : Out := .next (s.cmtNow priv 5 false)
def execSsLostRead (priv : Priv) (s : State) : Out := .next (s.readDev priv (combBase 0 + 0x540))

/-- A write of a register of R461 (DESIGN CHOICE, log 43). -/
def State.cmtWrite (s : State) (priv : Priv) (off : Nat) (v : Word) : State × Status :=
  let o := combBase 0 + off
  let keep := (findReg combRegs off).map (fun k => k.afterWrite (s.dcsr o) v)
  let held := decide (off = 0x408 ∨ off = 0x410 ∨ off = 0x418 ∨ off = 0x438 ∨ off = 0x458)
  if priv = .task then (s, St.privilege)
  else if off = 0x418 ∧ (fld v 31 24 < 20 ∨ 40 < fld v 31 24) then (s, St.badParam)
  else if off = 0x458 ∧ bit v 0 ∧ fld v 31 8 = 0 then (s, St.badParam)
  else if off = 0x460 ∧ fld v 29 0 ≠ 0 then (s, St.badParam)
  else if off = 0x468 ∧ 16 < fld v 52 48 then (s, St.badParam)
  else if held && !s.cmtFree then (s, St.cmtState)
  else ((s.setDcsr o (keep.getD 0)).rearm, St.ok)

/-! ### Checkpoints (R453 to R457) -/

/-- The group state section (R455). -/
def State.groupBytes (s : State) : List Byte :=
  let regs := fun (base stride n : Nat) (offs : List Nat) =>
    (List.range n).flatMap (fun k => offs.flatMap (fun o => leBytes 8 (s.dcsr (base + k * stride + o)).toNat))
  let route := (List.range 16384).flatMap (fun d => leBytes 4 (Map.get zeroW s.routes d).toNat)
  let gate := regs (gateBase 0) 0 1 [0, 8]
  let rwin := regs (gateBase 0 + 0x100) 0x18 64 [0, 8, 0x10]
  let xbar := (List.range 16).flatMap (fun b => [0, 8, 0x10].flatMap (fun o => leBytes 8 (s.dcsr (xbarCfg b + o)).toNat) ++ List.replicate 8 0)
  let cmt := regs cmtBase 0 1 [0x18, 0x10, 0x48, 0x58]
  let l := route ++ gate ++ rwin ++ xbar ++ cmt
  l ++ List.replicate (131072 - l.length) 0

/-- Whether a drain goes on at the unit whose loft address is `la`: not after a read error there, nor after a program failure that
leaves no reserve block, which retires the segment (R316, R457). -/
def State.ckUnit (s : State) (la start : Nat) (fail : Option DrainFail) : State × Bool :=
  match fail with
  | none => (s, true)
  | some f =>
    if la ≠ start + f.unit * 65536 then (s, true)
    else match f.chan with
      | none => (s, false)
      | some c =>
        let (t, ok) := s.reserve c
        if ok then (t, true) else (t.setSeg (la / 2 ^ 30) .retired, false)

/-- Write one part of a checkpoint, padded to whole units; it ends where a segment that it enters is not ERASED. -/
def State.ckPart (s : State) (start : Nat) (fail : Option DrainFail) (la : Nat) (bytes : List Byte) : Nat → State × Status
  | 0 => (s, St.ok)
  | n + 1 =>
    if loftEnd ≤ la ∨ (la % 2 ^ 30 = 0 ∧ s.seg (la / 2 ^ 30) ≠ .erased) then (s, St.cmtCkptSpace)
    else
      let (s, ok) := s.ckUnit la start fail
      if !ok then (s, St.cmtCkptFault)
      else
        let s := { s with loft := writeBytes s.loft la (bytes.take 65536 ++ List.replicate (65536 - bytes.length) 0) }
        (s.setSeg (la / 2 ^ 30) (.opn (la % 2 ^ 30 / 65536 + 1))).ckPart start fail (la + 65536) (bytes.drop 65536) n

/-- Append a part to a drain under way: state, next loft address, status. -/
def ckPut (start : Nat) (fail : Option DrainFail) (x : State × Nat × Status) (bytes : List Byte) : State × Nat × Status :=
  if x.2.2 ≠ St.ok then x
  else
    let n := cdiv bytes.length 65536
    let (s, st) := x.1.ckPart start fail x.2.1 bytes n
    (s, x.2.1 + n * 65536, st)

/-- One handle of a drain: its copy is read, digested and written; its manifest entry. -/
def ckHandle (start : Nat) (fail : Option DrainFail) (x : (State × Nat × Status) × List Byte) (h : Nat) :
    (State × Nat × Status) × List Byte :=
  let s := x.1.1
  if x.1.2.2 ≠ St.ok then x
  else
    let (st, bs) := s.devRead (s.cmtTable + h * 64) 64
    let e := leNat bs
    if st ≠ St.ok then ((s, x.1.2.1, St.cmtCkptFault), x.2)
    else if rf e 8 0 0 = 0 then x
    else
      let len := rf e 0x20 47 0
      match s.unitRead .kernel (fld (s.dcsr (cmtBase + 0x58)) 63 48) 0 (if rf e 8 1 1 = 0 then rf e 0x10 48 0 else rf e 0x18 48 0) len with
      | none => ((s, x.1.2.1, St.cmtCkptFault), x.2)
      | some (s, st, data) =>
        if st ≠ St.ok then ((s, x.1.2.1, St.cmtCkptFault), x.2)
        else
          let ent := leBytes 8 (h + len * 65536) ++ leBytes 8 x.1.2.1 ++ leBytes 8 (rf e 0x28 55 0) ++ sha256 data ++ List.replicate 8 0
          (ckPut start fail (s, x.1.2.1, St.ok) data, x.2 ++ ent)

/-- The whole drain: state, status, the manifest's address and the end (DESIGN CHOICE, log 43). -/
def State.drain (s : State) (fail : Option DrainFail) : State × Status × Nat × Nat :=
  let la := fld (s.dcsr (cmtBase + 0x60)) 47 0
  let sw := s.dcsr (cmtBase + 0x68)
  let (st, sec) := s.devRead (fld sw 44 16 * 65536) (fld sw 52 48 * 65536)
  let group := s.groupBytes ++ sec
  if st ≠ St.ok then (s, St.cmtCkptFault, 0, 0)
  else if la % 2 ^ 30 ≠ 0 then (s, St.cmtCkptSpace, 0, 0)
  else
    let (x, ents) := (List.range s.cmtEntries).foldl (ckHandle la fail) (ckPut la fail (s, la, St.ok) group, [])
    let head := leBytes 8 (0x60 + ents.length / 64 * 65536) ++ leBytes 8 s.cmt.ckStep ++ leBytes 8 la ++ sha256 group ++ List.replicate 8 0
    let y := ckPut la fail x (head ++ ents)
    (y.1, y.2.2, x.2.1, y.2.1)

/-- CKPT_DRAIN_END: the drain has ended, complete or not (R454, R457) (DESIGN CHOICE, log 43). -/
def execCkptDrainEnd (fail : Option DrainFail) (s : State) : Out :=
  .next (if s.cmt.ckState = 0 then s
    else
      let la := fld (s.dcsr (cmtBase + 0x60)) 47 0
      let (s, st, man, last) := s.drain fail
      if st = St.ok then
        let segs := (List.range (cdiv (last - la) (2 ^ 30))).map (· + la / 2 ^ 30)
        let s := segs.foldl (fun s g => s.setSeg g .sealed) s
        let s := s.setDcsr (cmtBase + 0x60) (BitVec.ofNat 64 (cdiv last (2 ^ 30) * 2 ^ 30))
        (s.setCmt { s.cmt with ckState := 0, ckStatus := St.ok, ckRetry := false, ckLast := man, ckLstep := s.cmt.ckStep }).cmtEvt 4
      else (s.setCmt { s.cmt with ckState := 0, ckStatus := st, ckRetry := true }).cmtEvt 8)

/-! ### Restore of the group state (R459) -/

/-- Read bytes of the loft, unit by unit: the first status that fails. -/
def State.loftBytes (s : State) (la : Nat) : Nat → Status × List Byte
  | 0 => (St.ok, [])
  | n + 1 =>
    let st := s.loftFault la
    if st ≠ St.ok then (st, [])
    else
      let (st, l) := s.loftBytes (la + 65536) n
      (st, readBytes s.loft la 65536 ++ l)

/-- Write the registers of R455 from a group state section. -/
def State.putGroup (s : State) (bs : List Byte) : State :=
  let w := fun (o : Nat) => BitVec.ofNat 64 (leNat ((bs.drop o).take 8))
  let s := { s with routes := (List.range 16384).foldl (fun m d =>
    Map.set zeroW m d (BitVec.ofNat 64 (leNat ((bs.drop (4 * d)).take 4) &&& 0x7F7F7F7F))) s.routes }
  let s := (List.range 4).foldl (fun s n =>
    let s := (s.setDcsr (gateBase n) (w 0x10000)).setDcsr (gateBase n + 8) (w 0x10008)
    (List.range 192).foldl (fun s k => s.setDcsr (gateBase n + 0x100 + 8 * k) (w (0x10010 + 8 * k))) s) s
  let s := (List.range 16).foldl (fun s b => (List.range 3).foldl (fun s k =>
    s.setDcsr (xbarCfg b + 8 * k) (w (0x10610 + 32 * b + 8 * k))) s) s
  ([0x18, 0x10, 0x48, 0x58].zipIdx).foldl (fun s o => s.setDcsr (cmtBase + o.1) (w (0x10810 + 8 * o.2))) s

/-- The restore of step 2 of R459, from the manifest's loft address (DESIGN CHOICE, log 43). -/
def State.groupRestore (s : State) (man : Nat) : State × Status :=
  let (st, h) := s.loftBytes man 1
  let m := leNat (h.take 128)
  let start := rf m 0x10 47 0
  let stop := if rf m 0 31 16 = 0 then man else rf m 0x48 47 0
  if st ≠ St.ok then (s, st)
  else if rf m 0 7 0 ≠ 0x60 ∨ start % 65536 ≠ 0 ∨ stop < start + 131072 then (s, St.badParam)
  else
    let (st, g) := s.loftBytes start ((stop - start) / 65536)
    if st ≠ St.ok then (s, st)
    else if sha256 g ≠ (h.drop 0x18).take 32 then (s, St.cmtDigest)
    else (s.putGroup g, St.ok)

end Sys2Proof.Machine
end

