-- ==== Sys2Proof/Machine/Arb.lean ====
section
/-! DEFINITION. Lottery arbiters and the registers of the interrupt controller (R463 to R477). -/

namespace Sys2Proof.Machine

/-! ### Instances and draws (R463 to R468) -/

/-- Instances of a kind. -/
def arbCount (kind : Nat) : Nat :=
  match kind with
  | 0 => 272 | 1 => 32 | 2 => 18432 | _ => 0

def arbKey (kind inst : Nat) : Nat := kind * 65536 + inst

/-- One step of the 32-bit Galois register x^32 + x^22 + x^2 + x + 1, shifting right (PRESUMED, log 44). -/
def lfsrStep (l : BitVec 32) : BitVec 32 := if l.getLsbD 0 then (l >>> 1) ^^^ 0x80200003 else l >>> 1

/-- Tickets of a class. -/
def State.tickets (s : State) (kind c : Nat) : Nat := fld (s.dcsr (arbBase + 0x10 + 8 * kind)) (8 * c + 7) (8 * c)

/-- Privileged classes (R464). -/
def arbPriv (kind c : Nat) : Bool := decide (c = 7) || (decide (kind = 0) && decide (c = 2 ∨ c = 6))

/-- Insert in ascending order, once. -/
def insertAsc (a : Nat) : List Nat → List Nat
  | [] => [a]
  | b :: l => if a < b then a :: b :: l else if a = b then b :: l else b :: insertAsc a l

/-- Indices of a class among the raised requesters, ascending. -/
def raisedOf (raised : List (Nat × Nat)) (c : Nat) : List Nat :=
  raised.foldl (fun l r => if r.1 = c then insertAsc r.2 l else l) []

/-- The winner of a draw (R465) (PRESUMED, log 44). -/
def State.arbWinner (s : State) (kind : Nat) (lfsr : BitVec 32) (raised : List (Nat × Nat)) : Option (Nat × Nat) :=
  let hi := lfsr.toNat / 65536
  let lo := lfsr.toNat % 65536
  let cs := (List.range 8).filter (fun c => raised.any (fun r => r.1 = c))
  let t := cs.foldl (fun n c => n + s.tickets kind c) 0
  let x := hi * t / 65536
  let c? := if 0 < t then
      (cs.find? (fun c => decide (x < ((cs.filter (· ≤ c)).foldl (fun n d => n + s.tickets kind d) 0))))
    else cs[hi * cs.length / 65536]?
  match c? with
  | none => none
  | some c =>
    let l := raisedOf raised c
    (l[lo * l.length / 65536]?).map (fun i => (c, i))

/-- One cycle of an arbiter with the requests raised in it (R465 to R469). -/
def State.arbCycle (s : State) (kind : Nat) (a : ArbInst) (raised : List (Nat × Nat)) : ArbInst :=
  let ignored := match a.ignored with
    | some r => if raised.contains r then some r else none
    | none => none
  let raised := raised.filter (fun r => decide (some r ≠ ignored))
  let a := { a with ignored := ignored }
  let step := fun (b : ArbInst) => { b with lfsr := lfsrStep a.lfsr }
  -- A draw among `l`: its winner holds the grant in the next cycle; with nobody raised the grant parks.
  let draw := fun (l : List (Nat × Nat)) =>
    if a.frozen then step { a with granted := false, wait := 0 }
    else match s.arbWinner kind a.lfsr l with
      | some w => step { a with owner := some w, granted := true, wait := if a.owner = some w then a.wait + 1 else 0 }
      | none => step { a with granted := false, wait := 0 }
  match a.owner, a.granted with
  | some o, true =>
    let others := raised.filter (· ≠ o)
    if arbPriv kind o.1 then
      if raised.contains o then step { a with wait := if others = [] then 0 else a.wait + 1 } else draw others
    else if raised.contains o then draw others
    else draw raised
  | some o, false =>
    if raised = [o] then
      (if a.frozen then step a else step { a with granted := arbPriv kind o.1, wait := 0 })
    else draw raised
  | none, _ => draw raised

/-- ARB_DRAW: one cycle of an instance (PRESUMED, log 44). -/
def execArbDraw (kind inst : Nat) (raised : List (Nat × Nat)) (s : State) : Out :=
  .next (if arbCount kind ≤ inst then s
    else s.setArb (arbKey kind inst) (s.arbCycle kind (s.arb (arbKey kind inst)) raised))

/-! ### Registers (R469, R476) -/

/-- The instance that ARB_CTL selects. -/
def State.arbSel (s : State) : ArbInst :=
  let w := s.dcsr arbBase
  s.arb (arbKey (fld w 1 0) (fld w 22 8))

/-- ARB_CTL and ARB_STAT as they read. -/
def State.arbCtl (s : State) : Word := setFld (s.dcsr arbBase) 31 31 (b2n s.arbSel.frozen)
def State.arbStat (s : State) : Word :=
  let a := s.arbSel
  let o := a.owner.getD (0, 0)
  place 0 0 (b2n a.frozen) ||| place 1 1 (b2n (!a.granted)) ||| place 2 2 (b2n (a.granted && arbPriv (fld (s.dcsr arbBase) 1 0) o.1)) |||
    place 10 8 o.1 ||| place 21 16 o.2

/-- A write of ARB_CTL. -/
def State.arbFreeze (s : State) (priv : Priv) (v : Word) : State × Status :=
  if priv ≠ .tack then (s, St.privilege)
  else if arbCount (fld v 1 0) ≤ fld v 22 8 then (s, St.badParam)
  else
    let k := arbKey (fld v 1 0) (fld v 22 8)
    ((s.setDcsr arbBase (place 1 0 (fld v 1 0) ||| place 22 8 (fld v 22 8))).setArb k { s.arb k with frozen := bit v 31 }, St.ok)

def execArbFreeze (priv : Priv) (v : Word) (s : State) : Out := .next (let (t, st) := s.arbFreeze priv v; t.respond st)

/-- Every LFSR loaded from a seed; the other parts of each instance stay. -/
def State.arbSeed (s : State) (priv : Priv) (v : Word) : State × Status :=
  if priv ≠ .tack then (s, St.privilege)
  else
    let seed := fld v 31 0
    let keys := [0, 1, 2].flatMap (fun k => (List.range (arbCount k)).map (arbKey k))
    let arbs := keys.filterMap (fun k =>
      let a := { s.arb k with lfsr := lfsrSeed seed k }
      if a = arbDflt k then none else some (k, a))
    (({ s with arbs := arbs }).setDcsr (arbBase + 0x28) (place 31 0 seed), St.ok)

def execArbSeedWrite (priv : Priv) (v : Word) (s : State) : Out := .next (let (t, st) := s.arbSeed priv v; t.respond st)

/-- A write of a ticket register: KERNEL leaves the bytes of privileged classes unchanged. -/
def State.arbTickets (s : State) (priv : Priv) (kind : Nat) (v : Word) : State × Status :=
  let o := arbBase + 0x10 + 8 * kind
  match priv with
  | .task => (s, St.privilege)
  | .tack => (s.setDcsr o v, St.ok)
  | .kernel =>
    (s.setDcsr o ((List.range 8).foldl (fun w c => if arbPriv kind c then w else setFld w (8 * c + 7) (8 * c) (fld v (8 * c + 7) (8 * c))) (s.dcsr o)), St.ok)

def execWdogRecRead (priv : Priv) (s : State) : Out := .next (s.readDev priv (arbBase + 0x38))
def execWdogCntRead (priv : Priv) (s : State) : Out := .next (s.readDev priv (arbBase + 0x40))

/-! ### The interrupt controller's registers (R474, R477) -/

def State.intcEoi (s : State) (priv : Priv) (v : Word) : State × Status :=
  if priv = .task then (s, St.privilege)
  else if 1151 < fld v 10 0 then (s, St.badParam)
  else ({ s with deliv := s.deliv.filter (fun n => decide (n ≠ fld v 10 0)) }, St.ok)

def execIntcEoiWrite (priv : Priv) (v : Word) (s : State) : Out := .next (let (t, st) := s.intcEoi priv v; t.respond st)

def State.swiWrite (s : State) (priv : Priv) (set : Bool) (v : Word) : State × Status :=
  if priv = .task then (s, St.privilege)
  else (({ s with swi := if set then s.swi ||| v else s.swi &&& ~~~v }).rearm, St.ok)

def execSwiSet (priv : Priv) (v : Word) (s : State) : Out := .next (let (t, st) := s.swiWrite priv true v; t.respond st)
def execSwiClr (priv : Priv) (v : Word) (s : State) : Out := .next (let (t, st) := s.swiWrite priv false v; t.respond st)

/-- INTC_STAT, and INTC_SRCs as it reads. -/
def State.intcStat (s : State) : Word := place 10 0 s.pendingSrcs.length
def State.srcRead (s : State) (n : Nat) : Word :=
  s.srcReg n ||| place 1 1 (b2n (s.asserted n)) ||| place 2 2 (b2n (s.deliv.contains n))

end Sys2Proof.Machine
end

