-- ==== Sys2Proof/Machine/Perf.lean ====
section
/-! DEFINITION. Writes of the performance counter registers (R559 to R569). -/

namespace Sys2Proof.Machine

/-- ZERO clears all ten counters and STALL_PERF_OVF (R562). -/
def State.perfZero (s : State) (ps : Nat) : State :=
  ([0x1C08, 0x1C10, 0x1C18] ++ (List.range 8).map (fun n => 0x1C48 + n * 0x10)).foldl (fun s o => s.setScsr ps o 0) s

/-- A write of STALL_PERF_CTL. -/
def State.perfCtl (s : State) (priv : Priv) (ps : Nat) (v : Word) : State × Status :=
  if priv = .task then (s, St.privilege)
  else
    let s := s.setScsr ps 0x1C00 (v &&& 3)
    (if bit v 2 then s.perfZero ps else s, St.ok)

def execPerfEnable (priv : Priv) (ps : Nat) (v : Word) (s : State) : Out :=
  .next (if (s.stall ps).pstate ≠ .run then s else let (t, st) := s.perfCtl priv ps v; t.respond st)

def execPerfZero (priv : Priv) (ps : Nat) (s : State) : Out :=
  .next (if (s.stall ps).pstate ≠ .run then s else let (t, st) := s.perfCtl priv ps (s.scsr ps 0x1C00 ||| 4); t.respond st)

/-- Why a write of STALL_PERF_CFGn is refused: RESERVED_SET, PERF_EVENT, PERF_FILTER (R569, R570). -/
def State.perfCfgBad (s : State) (ps n : Nat) (v : Word) : Status :=
  if v &&& ~~~0xFFFF1FFF ≠ 0 then St.reservedSet
  else if fld v 7 0 = 0xE0 ∧ n = 0 then St.perfEvent
  else
    match perfAttrs (fld v 7 0) with
    | none => St.perfEvent
    | some (p, r, a) =>
      if (!p && decide (fld v 11 9 ≠ 7)) || (!r && decide (fld v 31 16 ≠ 0xFFFF)) || (bit v 12 && (!a || decide ((s.scsr ps 0x1C28) ≤ (s.scsr ps 0x1C20)))) then
        St.perfFilter
      else St.ok

def State.perfCfg (s : State) (priv : Priv) (ps n : Nat) (v : Word) : State × Status :=
  if priv = .task then (s, St.privilege)
  else
    let st := s.perfCfgBad ps n v
    if st = St.ok then (s.setScsr ps (0x1C40 + n * 0x10) v, st) else (s, st)

def execPerfCfgWrite (priv : Priv) (ps n : Nat) (v : Word) (s : State) : Out :=
  .next (if (s.stall ps).pstate ≠ .run then s else let (t, st) := s.perfCfg priv ps n v; t.respond st)

/-- PERF_COUNTER_WRAP: a counter at its top that counts one more event wraps, with its carry (R561). -/
def execPerfCounterWrap (ps n : Nat) (s : State) : Out :=
  .next (if bit (s.scsr ps 0x1C00) 0 ∧ (s.stall ps).pstate = .run ∧ bit (s.scsr ps (0x1C40 + n * 0x10)) 8 ∧
      fld (s.scsr ps (0x1C48 + n * 0x10)) 47 0 = 2 ^ 48 - 1 then s.perfAdd ps 8 n 1 else s)

end Sys2Proof.Machine
end

