-- ==== Sys2Proof/Machine/GroomCsr.lean ====
section
/-! DEFINITION. The registers of a groom, as its CSR instructions and its page reach them (R95 to R97). -/

namespace Sys2Proof.Machine

/-- GROOM_SELF (R97, R98) (DESIGN CHOICE, log 61). -/
def State.groomSelf (s : State) (gi : Nat) : Word :=
  place 3 0 (gi % 16) ||| place 11 4 (s.lsNum (gi / 16)) ||| place 20 12 (gi / 16) ||| place 37 24 s.devid

/-- The word that GROOM_DBG_SEL selects (R97) (DESIGN CHOICE, log 5). -/
def Groom.dbgRead (g : Groom) : Word :=
  let sel := g.reg 0xA0
  let n := fld sel 6 2
  match fld sel 1 0 with
  | 0 => if n = 0 then 0 else Map.get zeroW g.x n
  | 1 => BitVec.ofNat 64 ((Map.get (fun _ => 0) g.v n : BitVec 512).toNat >>> (64 * fld sel 9 7))
  | 2 => if n = 0 then BitVec.allOnes 64 else if n < 8 then Map.get zeroW g.p n else 0
  | _ => BitVec.ofNat 64 g.pc

/-- DESIGN CHOICE, log 5. -/
def Groom.dbgWrite (g : Groom) (w : Word) : Groom :=
  let sel := g.reg 0xA0
  let n := fld sel 6 2
  match fld sel 1 0 with
  | 0 => g.put (.x n w)
  | 1 =>
    let k := 64 * fld sel 9 7
    let old : BitVec 512 := Map.get (fun _ => 0) g.v n
    g.put (.v n ((old &&& ~~~((BitVec.allOnes 64).setWidth 512 <<< k)) ||| (w.setWidth 512 <<< k)))
  | 2 => if n < 8 then g.put (.p n w) else g
  | _ => { g with pc := fld w 21 2 * 4 }

/-- Whether a register offset is listed (R83, R97). -/
def groomListed (o : Nat) : Bool := (findReg groomRegs o).isSome

/-- The value of a groom register. -/
def State.groomRead (s : State) (gi o : Nat) : Word :=
  let g := s.groom gi
  match o with
  | 0x00 => place 1 0 (privNum g.priv) ||| place 2 2 (b2n g.ie) ||| place 3 3 (b2n g.exl) ||| place 4 4 (b2n g.halted)
            ||| place 5 5 (b2n g.vdirty)
  | 0x80 => s.groomSelf gi
  | 0x88 => BitVec.ofNat 64 s.clk
  | 0x90 => g.instret
  | 0xA8 => g.dbgRead
  | _ => g.reg o

/-- Clear the predictor (R65) (PRESUMED, log 15). -/
def Groom.clearPredictor (g : Groom) : Groom := { g with ctr := [], btb := [], ras := [] }

/-- Reset state of a groom: halted at KERNEL, registers zero, CSRs at reset (R95). -/
def State.groomReset (s : State) (gi : Nat) : State := s.setGroom gi { gen := (s.groom gi).gen }

/-- Effect of a write of GROOM_RUNCTL: START_PC, then RESET, HALT or RUN (R95, R97). A reset or halt of a running groom
waits for its retirement boundary; RUN acts on a halted groom. -/
def State.runctl (s : State) (gi : Nat) (v : Word) : State :=
  let s := s.modGroom gi (fun g => g.setReg 0x98 (place 21 2 (fld v 21 2)))
  let g := s.groom gi
  if bit v 62 then (if g.halted then s.groomReset gi else s.setGroom gi { g with haltReq := true, resetReq := true })
  else if bit v 61 then (if g.halted then s else s.setGroom gi { g with haltReq := true })
  else if bit v 60 ∧ g.halted then
    s.setGroom gi { g with halted := false, haltReq := false, wait := .none, priv := .kernel, ie := false, exl := false,
                           pc := fld v 21 2 * 4 }
  else s

/-- A write that RUN refuses (R96). -/
def Groom.runRefused (g : Groom) (v : Word) : Bool := bit v 60 && !bit v 61 && !bit v 62 && !g.halted

/-- What a write does to a groom register, with the field rules of R85 and R97. -/
def State.groomWrite (s : State) (gi o : Nat) (v : Word) : State :=
  match o with
  | 0x00 => s.modGroom gi (fun g => { g with ie := bit v 2, vdirty := g.vdirty && bit v 5 })
  | 0x08 => s.modGroom gi (fun g =>
      g.setReg 0x08 (place 1 0 (if fld v 1 0 ≤ 1 then fld v 1 0 else fld (g.reg 0x08) 1 0) ||| place 3 2 (fld v 3 2)))
  | 0x40 => s.modGroom gi (fun g => (g.setReg 0x40 (place 31 0 (fld v 31 0))).clearPredictor)
  | 0x68 => s.modGroom gi (fun g =>
      g.setReg 0x68 (place 2 0 (if fld v 2 0 ≤ 3 then fld v 2 0 else fld (g.reg 0x68) 2 0) ||| place 3 3 (fld v 3 3)
        ||| place 12 8 (fld v 12 8)))
  | 0x70 => s.modGroom gi (fun g =>
      let g := g.setReg 0x70 (place 0 0 (fld v 0 0))
      if bit v 1 then g.clearPredictor else g)
  | 0x98 => s.runctl gi v
  | 0xA8 => s.modGroom gi (fun g => g.dbgWrite v)
  | _ =>
    match findReg groomRegs o with
    | some r => s.modGroom gi (fun g => g.setReg o (r.afterWrite (g.reg o) v))
    | none => s

/-- Whether a page write needs a halted groom (R96). -/
def needsHalt (o : Nat) : Bool := !(o = 0x98 || o = 0x78 || o = 0x00) && groomListed o

/-- A read through the groom page: status and value (R96, R97). -/
def State.groomPageRead (s : State) (priv : Priv) (gi o : Nat) : Status × Word :=
  if priv = .task then (St.privilege, 0)
  else if !groomListed o then (St.ok, 0)
  else if o = 0xA8 ∧ !(s.groom gi).halted then (St.groomNotHalted, 0)
  else (St.ok, s.groomRead gi o)

/-- A write through the groom page (R96, R97). -/
def State.groomPageWrite (s : State) (priv : Priv) (gi o : Nat) (v : Word) : State × Status :=
  if priv = .task then (s, St.privilege)
  else if !groomListed o then (s, St.ok)
  else if needsHalt o ∧ !(s.groom gi).halted then (s, St.groomNotHalted)
  else if o = 0x98 ∧ (s.groom gi).runRefused v then (s, St.groomAlreadyRunning)
  else (s.groomWrite gi o v, St.ok)

end Sys2Proof.Machine
end

