-- ==== Sys2Proof/Machine/GroomSys.lean ====
section
/-! DEFINITION. The system and command instructions of the grooms, the events of their retirement, and the groom page
(R63, R71 to R74, R82 to R97). -/

namespace Sys2Proof.Machine

/-- Issue an instruction that waits until every earlier one has retired (R83). -/
def State.issueSerial (s : State) (gi : Nat) (f : Groom → IRes) : State :=
  s.issue gi (fun g => if g.rq = [] then f g else .wait)

/-- KERNEL is required (R82). -/
def kernelOnly (g : Groom) (r : IRes) : IRes := if g.priv = .task then .fault 0 St.groomPrivInstr 0 else r

/-- Set what a groom waits for, at the instruction it is at: only a groom that could issue it, with nothing unretired. -/
def State.startWait (s : State) (gi : Nat) (w : GWait) : State :=
  s.modGroom gi (fun g => { g with wait := w })

/-! ### Fences, WFI, ECALL, BREAK, ERET -/

/-- FENCE retires when every earlier load, store and AMO has completed (R71). -/
def execFence (gi : Nat) (_f : FmtR) (s : State) : Out :=
  .next (s.issueSerial gi (fun _ => if s.storesOut gi = 0 then .ok {} else .wait))

/-- IFENCE discards the fetch window after all earlier stores complete (R64). -/
def execIfence (gi : Nat) (_f : FmtR) (s : State) : Out :=
  .next (if s.storesOut gi = 0 ∧ (s.groom gi).rq = [] ∧ (s.groom gi).canIssue ∧ (s.groom gi).fetchOk then
      (s.modGroom gi (fun g => { g with window := [] })).issueSerial gi (fun _ => .ok {})
    else s.issueSerial gi (fun _ => if s.storesOut gi = 0 then .ok {} else .wait))

/-- Whether an instruction that waits may begin: it can issue, nothing is unretired, its fetch is in range and its
privilege suffices. -/
def Groom.mayWait (g : Groom) (kernel : Bool) : Bool :=
  g.canIssue && decide (g.rq = []) && g.fetchOk && (!kernel || decide (g.priv ≠ .task))

/-- WFI retires at once when an interrupt is pending, else waits (R86). -/
def execWfi (gi : Nat) (_f : FmtR) (s : State) : Out :=
  .next (if (s.groom gi).mayWait true ∧ !s.irqFor gi then s.startWait gi .wfi
    else s.issueSerial gi (fun g => kernelOnly g (.ok {})))

/-- WFI_WAKE: a waiting WFI retires when an interrupt is pending (R86). -/
def execWfiWake (gi : Nat) (s : State) : Out :=
  .next (if (s.groom gi).wait = .wfi ∧ s.irqFor gi then s.finishWait gi [] else s)

/-- ECALL: an entry of class 3 from TASK, a tack call at KERNEL (R84, R92). -/
def execEcall (gi : Nat) (_f : FmtR) (s : State) : Out :=
  .next (if (s.groom gi).priv = .task then s.issue gi (fun _ => .fault 3 St.groomEcall 0)
    else if (s.groom gi).mayWait true then s.startWait gi (.tcall s.clk none) else s)

/-- BREAK: an entry of class 4; a double fault while EXL = 1 (R84, R90). -/
def execBrk (gi : Nat) (_f : FmtR) (s : State) : Out :=
  .next (s.issue gi (fun _ => .fault 4 St.groomBreak 0))

/-- ERET restores PRIV, IE and the PC and clears EXL (R85). -/
def execEret (gi : Nat) (_f : FmtR) (s : State) : Out :=
  .next (if (s.groom gi).mayWait true then
      let s := s.modGroom gi (fun g => { g with
        priv := if fld (g.reg 0x08) 1 0 = 0 then .task else .kernel, ie := bit (g.reg 0x08) 2, exl := false,
        pc := fld (g.reg 0x10) 21 2 * 4 })
      s.retireOne gi { seq := 0, pc := 0 }
    else s.issueSerial gi (fun g => kernelOnly g .wait))

/-! ### CSR instructions (R83, R97) -/

/-- Privilege of a CSR access at TASK: five registers may be read and GROOM_FPCTL written. -/
def csrTaskOk (o : Nat) (write : Bool) : Bool :=
  if write then decide (o = 0x68) else decide (o = 0x68 ∨ o = 0x80 ∨ o = 0x88 ∨ o = 0x90 ∨ o = 0x40)

/-- A CSR instruction after its checks: X[RD] takes the old value and the register its new one. GROOM_DBG_DATA answers
only a halted groom, so the instruction has no effect on it; a TASKID write waits for earlier stores (R91) (DESIGN CHOICE, log 5). -/
def State.csrDo (s : State) (gi o rd : Nat) (new : Option (Word → Word)) : State :=
  let old := s.groomRead gi o
  if o = 0xA8 then s.issueSerial gi (fun _ => .ok {})
  else
    match new with
    | none => s.issueSerial gi (fun _ => .x rd old)
    | some f =>
      if o = 0x40 ∧ s.storesOut gi ≠ 0 then s.startWait gi (.taskid rd (f old))
      else (s.issueSerial gi (fun _ => .x rd old)).groomWrite gi o (f old)

/-- A CSR instruction: listed number, then privilege (R83, R89); it waits until every earlier instruction has retired. -/
def State.csrOp (s : State) (gi : Nat) (f : FmtI) (new : Option (Word → Word → Word)) : State :=
  let o := f.imm.toNat % 4096 * 8
  let g := s.groom gi
  if !(g.mayWait false) then s.issueSerial gi (fun _ => .wait)
  else if !groomListed o then s.issueSerial gi (fun _ => .illegal (wordI f 0x31))
  else if g.priv = .task ∧ !csrTaskOk o new.isSome then s.issueSerial gi (fun _ => .fault 0 St.groomPrivInstr 0)
  else
    match g.rx f.ra.toNat with
    | some a => s.csrDo gi o f.rd.toNat (new.map (fun h => h a))
    | none => s

def execCsrr (gi : Nat) (f : FmtI) (s : State) : Out := .next (s.csrOp gi f none)
def execCsrw (gi : Nat) (f : FmtI) (s : State) : Out := .next (s.csrOp gi f (some (fun a _ => a)))
def execCsrs (gi : Nat) (f : FmtI) (s : State) : Out := .next (s.csrOp gi f (some (fun a old => old ||| a)))
def execCsrc (gi : Nat) (f : FmtI) (s : State) : Out := .next (s.csrOp gi f (some (fun a old => old &&& ~~~a)))

/-! ### Command lists (R93, R94) -/

/-- The list a groom enqueues, with what is captured (R105). -/
def Groom.listOf (g : Groom) (off : Nat) : QList :=
  { off := off, priv := g.priv, task := fld (g.reg 0x40) 15 0, tenant := fld (g.reg 0x40) 31 16,
    dwinLo := fld (g.reg 0x58) 48 0, dwinHi := fld (g.reg 0x60) 48 0, seq := 0 }

/-- CMDQ (R93): waits for earlier stores and AMOs, and while the queue is full. -/
def execCmdq (gi : Nat) (f : FmtR) (s : State) : Out :=
  .next (
    let g := s.groom gi
    let q := f.rc.toNat
    if g.mayWait false ∧ q < 5 then
      if s.storesOut gi ≠ 0 then s
      else
        match g.rx f.ra.toNat with
        | some a =>
          if (s.queue (gi / 16) q).full then s.startWait gi (.cmdq f.rd.toNat q a.toNat)
          else
            let n := (s.queue (gi / 16) q).issued + 1
            (s.enqueue (gi / 16) q (g.listOf a.toNat)).issueSerial gi (fun _ => .x f.rd.toNat (BitVec.ofNat 64 n))
        | none => s
    else s.issueSerial gi (fun _ => if 5 ≤ q then .illegal (wordR f 0x32 0x00) else .wait))

/-- CMDQ_ENQUEUE_AFTER_WAIT (R93). -/
def execCmdqEnqueueAfterWait (gi : Nat) (s : State) : Out :=
  .next (
    let g := s.groom gi
    match g.wait with
    | .cmdq rd q off =>
      if (s.queue (gi / 16) q).full then s
      else
        let n := (s.queue (gi / 16) q).issued + 1
        (s.enqueue (gi / 16) q (g.listOf off)).finishWait gi [.x rd (BitVec.ofNat 64 n)]
    | _ => s)

/-- Status that a groom reads for a completed sequence number (R136). -/
def Queue.statusOf (x : Queue) (seq : Nat) : Status :=
  match x.hist.find? (fun h => h.1 = seq) with
  | some h => h.2
  | none => St.engStatusGone

/-- CWAIT (R94). -/
def execCwait (gi : Nat) (f : FmtR) (s : State) : Out :=
  .next (
    let g := s.groom gi
    let q := f.rc.toNat
    if g.mayWait false ∧ q < 5 then
      match g.rx f.ra.toNat, g.rx f.rb.toNat with
      | some a, some b =>
        let x := s.queue (gi / 16) q
        if x.issued < a.toNat then s.issueSerial gi (fun _ => .x f.rd.toNat (St.groomSeqStale.setWidth 64))
        else if a.toNat ≤ x.done then s.issueSerial gi (fun _ => .x f.rd.toNat ((x.statusOf a.toNat).setWidth 64))
        else s.startWait gi (.cwait f.rd.toNat q a b.toNat s.clk)
      | _, _ => s
    else s.issueSerial gi (fun _ => if 5 ≤ q then .illegal (wordR f 0x32 0x01) else .wait))

/-- CWAIT_COMPLETE (R94). -/
def execCwaitComplete (gi : Nat) (s : State) : Out :=
  .next (match (s.groom gi).wait with
    | .cwait rd q seq _ _ =>
      let x := s.queue (gi / 16) q
      if seq.toNat ≤ x.done then s.finishWait gi [.x rd ((x.statusOf seq.toNat).setWidth 64)] else s
    | _ => s)

/-- CWAIT_TIMEOUT (R94): a timeout of 0 never expires. -/
def execCwaitTimeout (gi : Nat) (s : State) : Out :=
  .next (match (s.groom gi).wait with
    | .cwait rd _ _ tmo start =>
      if tmo ≠ 0 ∧ start + tmo < s.clk then s.finishWait gi [.x rd (St.groomWaitTimeout.setWidth 64)] else s
    | _ => s)

/-- CPOLL: the completed-sequence count of queue RC. -/
def execCpoll (gi : Nat) (f : FmtR) (s : State) : Out :=
  .next (s.issueSerial gi (fun _ =>
    if 5 ≤ f.rc.toNat then .illegal (wordR f 0x32 0x02)
    else .x f.rd.toNat (BitVec.ofNat 64 (s.queue (gi / 16) f.rc.toNat).done)))

/-! ### Fetch window, responses, entries -/

/-- GROOM_LINE_FILL: a line enters the window in place of the least recently fetched (R63). -/
def execGroomLineFill (gi line : Nat) (s : State) : Out :=
  .next (if (s.groom gi).halted then s
    else (s.modGroom gi (fun g => { g with window := (line :: g.window.filter (· ≠ line)).take 16 })).perfGroom gi 0x62 (s.groom gi))

/-- The register writes of a load whose data has all arrived. -/
def loadWrites (d : LoadDst) (data : List Byte) (got : Map Byte) : List RegW :=
  match d with
  | .x n k signed =>
    let v := leNat (data.take k)
    [.x n (if signed then BitVec.ofInt 64 (toSigned (8 * k) v) else BitVec.ofNat 64 v)]
  | .v n _ _ => [.v n (BitVec.ofNat 512 (leNat (readBytes got 0 64)))]

/-- Bytes of a response that its mask selects. -/
def maskedBytes (m : Option Nat) (lane : Nat) (data : List Byte) : List (Nat × Byte) :=
  (data.zipIdx).filterMap (fun p => if (match m with | some k => k.testBit p.2 | none => true) then some (lane + p.2, p.1) else none)

/-- A response meets its retire queue entry: data, or a precise fault at the lowest failing lane (R72). -/
def RetEntry.answer (e : RetEntry) (r : Req) : RetEntry :=
  match e.dst with
  | none => e
  | some d =>
    let each := match d with | .v _ _ b => b | _ => true
    let isV := match d with | .v _ _ _ => true | _ => false
    if r.status ≠ St.ok then
      let f : GFault := { cls := 1, status := r.status, eval := BitVec.ofNat 64 (if each then r.addr else r.addr - r.part),
                          epc := e.pc, lane := r.part }
      { e with left := e.left - 1
               fault := match e.fault with
                 | some g => if r.part < g.lane then some f else some g
                 | none => some f }
    else
      let got := if isV then (maskedBytes r.mask r.part (r.data.take r.len)).foldl (fun m p => Map.put m p.1 p.2) e.got else e.got
      if e.left = 1 ∧ e.fault = none then { e with left := 0, got := got, writes := loadWrites d r.data got, dst := none }
      else { e with left := e.left - 1, got := got }

/-- GROOM_LOAD_RESPONSE (R72). -/
def execGroomLoadResponse (gi req : Nat) (s : State) : Out :=
  .next (match s.req req with
    | some r =>
      match r.src, r.phase with
      | .groomLoad i seq, .arrived =>
        if i = gi then
          let s := s.setReq req none
          let s := s.modGroom gi (fun g => { g with rq := g.rq.map (fun e => if e.seq = seq then e.answer r else e) })
          s.settle gi 33
        else s
      | _, _ => s
    | none => s)

/-- GROOM_STORE_COMPLETE (R73). -/
def execGroomStoreComplete (gi req : Nat) (s : State) : Out :=
  .next (match s.req req with
    | some r =>
      if r.src = .groomStore gi ∧ r.phase = .arrived then
        let s := s.setReq req none
        if r.status = St.ok then s
        else s.modGroom gi (fun g => { g with asyncErr := g.asyncErr ++ [(r.status, r.addr - r.part)] })
      else s
    | none => s)

/-- Whether a 32-bit word is a defined encoding, operands apart (R77, R79). -/
def definedWord (w : BitVec 32) : Bool :=
  let opc := w.toNat % 64
  let fn := w.toNat / 2 ^ 26
  match opc with
  | 0x01 => decide (fn ≤ 0x12 ∨ (0x14 ≤ fn ∧ fn ≤ 0x17))
  | 0x14 => decide (fn ≤ 0x05)
  | 0x20 => decide (fn ≤ 0x12)
  | 0x21 => decide (fn ≤ 0x10 ∨ fn = 0x18 ∨ fn = 0x19 ∨ (0x20 ≤ fn ∧ fn ≤ 0x23))
  | 0x24 => decide (fn = 0) | 0x25 => decide (fn = 0) | 0x26 => decide (fn = 0) | 0x27 => decide (fn = 0)
  | 0x28 => decide (fn ≤ 0x03 ∨ (0x08 ≤ fn ∧ fn ≤ 0x0B) ∨ (0x10 ≤ fn ∧ fn ≤ 0x13))
  | 0x29 => decide (fn ≤ 0x02 ∨ (0x08 ≤ fn ∧ fn ≤ 0x0A) ∨ (0x10 ≤ fn ∧ fn ≤ 0x12) ∨ (0x18 ≤ fn ∧ fn ≤ 0x1A))
  | 0x30 => decide (fn ≤ 0x05)
  | 0x32 => decide (fn ≤ 0x02)
  | _ => decide ((0x02 ≤ opc ∧ opc ≤ 0x13) ∨ (0x18 ≤ opc ∧ opc ≤ 0x1F) ∨ opc = 0x22 ∨ opc = 0x23 ∨ opc = 0x31)

/-- EXCEPTION_ENTRY: the first of R87 that holds at a retirement boundary; with none, an undefined word at the PC (DESIGN CHOICE, log 14). -/
def execExceptionEntry (gi : Nat) (und : Option (BitVec 32)) (s : State) : Out :=
  .next (
    let g := s.groom gi
    if g.halted || g.inCall then s
    else
      match g.rq with
      | e :: _ =>
        match e.fault with
        | some f => if e.left = 0 then s.takeFault gi f else s
        | none => if g.asyncErr.isEmpty then s else s.takeAsync gi
      | [] =>
        if !g.asyncErr.isEmpty then s.takeAsync gi
        else
          match s.started.find? (fun d => s.gctx d.g = gi) with
          | some d => s.deliver d
          | none =>
            match und with
            | some w => if definedWord w then s else s.issue gi (fun _ => .illegal w.toNat)
            | none => s)

/-! ### Tack calls (R92, R520, R555) -/

/-- The tack room finishes serving a call of this code. -/
def State.serveCall (s : State) (gi code : Nat) (f : Groom → State × Status × Option Word) : State :=
  let g := s.groom gi
  match g.wait with
  | .tcall t none =>
    if Map.get zeroW g.x 1 = BitVec.ofNat 64 code then
      let (s, st, v) := f g
      s.modGroom gi (fun g => { g with wait := .tcall t (some (st, v)) })
    else s
  | _ => s

/-- X[n] of a groom at rest. -/
def Groom.xn (g : Groom) (n : Nat) : Nat := (Map.get zeroW g.x n).toNat

/-- The winning bank of the configuration store (R518). -/
def State.winner (s : State) : Option Nat :=
  leastBy (fun b => 2 ^ 64 - (s.bank b).seq) ((List.range 4).filter (fun b => (s.bank b).valid && (s.bank b).sigOk))

/-- CFG_READ (R520): a record whose signature fails is ignored (R518). -/
def execCfgRead (gi : Nat) (s : State) : Out :=
  .next (s.serveCall gi 0x0101 (fun g =>
    let recs := match s.winner with | some b => (s.bank b).recs | none => []
    let l := recs.filter (fun r => r.sigOk && decide (r.typ = g.xn 2))
    match l[g.xn 3]? with
    | none => (s, St.storeNoRecord, none)
    | some r =>
      let bs := r.bytes.take (g.xn 5)
      if 0x400000 < g.xn 4 + bs.length then (s, St.badParam, none)
      else (s.scrWrite (gi / 16) (g.xn 4) bs, St.ok, some (BitVec.ofNat 64 bs.length))))

/-- PWR_READ (R520). -/
def execPwrRead (gi : Nat) (s : State) : Out :=
  .next (s.serveCall gi 0x0102 (fun _ => (s, St.ok, some s.pwrStat)))

/-- A measurement register takes SHA-256 of itself and a value (R555). -/
def State.extendM (s : State) (n : Nat) (v : List Byte) : State :=
  let old : BitVec 256 := Map.get (fun _ => 0) s.tack.meas n
  let new := sha256 (leBytes 32 old.toNat ++ v)
  { s with tack := { s.tack with meas := Map.set (fun _ => 0) s.tack.meas n (BitVec.ofNat 256 (leNat new)) } }

/-- MEAS_EXTEND (R555). -/
def execMeasExtend (gi : Nat) (s : State) : Out :=
  .next (s.serveCall gi 0x0201 (fun g =>
    if g.xn 2 < 4 ∨ 7 < g.xn 2 ∨ 0x400000 < g.xn 3 + 32 then (s, St.badParam, none)
    else (s.extendM (g.xn 2) (s.scrRead (gi / 16) (g.xn 3) 32), St.ok, none)))

/-- Call codes that the tack room serves. -/
def callKnown (c : Word) : Bool := decide (c = 0x0101 ∨ c = 0x0102 ∨ c = 0x0201)

/-- TACK_CALL_ANSWER: X1 takes the status and X2 the result; an unknown code is UNSUPPORTED (R12, R92). -/
def execTackCallAnswer (gi : Nat) (s : State) : Out :=
  .next (
    let g := s.groom gi
    match g.wait with
    | .tcall _ (some (st, v)) =>
      s.finishWait gi ((RegW.x 1 (st.setWidth 64)) :: (match v with | some w => [RegW.x 2 w] | none => []))
    | .tcall _ none =>
      if callKnown (Map.get zeroW g.x 1) then s else s.finishWait gi [.x 1 (St.unsupported.setWidth 64)]
    | _ => s)

/-- TACK_CALL_TIMEOUT: 2,500,000 NCLK without an answer (R92). -/
def execTackCallTimeout (gi : Nat) (s : State) : Out :=
  .next (match (s.groom gi).wait with
    | .tcall t _ =>
      if t + 2500000 ≤ s.clk then s.finishWait gi [.x 1 (St.groomTcallTimeout.setWidth 64)] else s
    | _ => s)

/-! ### Run control and debug (R95 to R97) -/

/-- A page write and its completion. -/
def State.pageWrite (s : State) (priv : Priv) (gi o : Nat) (v : Word) : State :=
  let (t, st) := s.groomPageWrite priv gi o v
  t.respond st

def execRunctlRun (priv : Priv) (gi : Nat) (v : Word) (s : State) : Out :=
  .next (s.pageWrite priv gi 0x98 (v ||| place 60 60 1))
def execRunctlHalt (priv : Priv) (gi : Nat) (v : Word) (s : State) : Out :=
  .next (s.pageWrite priv gi 0x98 (v ||| place 61 61 1))
def execRunctlReset (priv : Priv) (gi : Nat) (v : Word) (s : State) : Out :=
  .next (s.pageWrite priv gi 0x98 (v ||| place 62 62 1))

/-- GROOM_HALT_TAKES_EFFECT: at a boundary that no earlier event of R87 wins, outside a tack call and a CSR load, once
every store has completed; outstanding loads are discarded and a waiting instruction is abandoned (R87, R95). -/
def execGroomHaltTakesEffect (gi : Nat) (s : State) : Out :=
  .next (
    let g := s.groom gi
    if !g.haltReq || g.halted || g.faultWaits || g.inCall || s.csrLoadOut gi || decide (s.storesOut gi ≠ 0) then s
    else
      let s := s.discard gi
      let s := s.modGroom gi (fun x => { x with halted := true, haltReq := false, resetReq := false, pc := g.oldestPc })
      if g.resetReq then s.groomReset gi else s)

/-- GROOM_DBG_DATA_ACCESS (R96). -/
def execGroomDbgDataAccess (priv : Priv) (gi : Nat) (w : Option Word) (s : State) : Out :=
  .next (match w with
    | none =>
      let (st, v) := s.groomPageRead priv gi 0xA8
      s.respond st v
    | some v => s.pageWrite priv gi 0xA8 v)

/-- PREDICTOR_FLUSH: the write of GROOM_PREDCTL with FLUSH = 1 (R65, R96), which keeps STATIC as it stands. -/
def execPredictorFlush (priv : Priv) (gi : Nat) (s : State) : Out :=
  .next (s.pageWrite priv gi 0x70 ((s.groom gi).reg 0x70 ||| 2))

/-- GROOM_TASKID_WRITE: a CSR write that waited for earlier stores takes effect, after any store error has been taken;
otherwise a write through the page (R91, R96). -/
def execGroomTaskidWrite (priv : Priv) (gi : Nat) (v : Word) (s : State) : Out :=
  .next (match (s.groom gi).wait with
    | .taskid rd w =>
      if s.storesOut gi = 0 ∧ (s.groom gi).asyncErr = [] then
        (s.finishWait gi [.x rd (s.groomRead gi 0x40)]).groomWrite gi 0x40 w
      else s
    | _ => s.pageWrite priv gi 0x40 v)

end Sys2Proof.Machine
end

