-- ==== Sys2Proof/Machine/Power.lean ====
section
/-! DEFINITION. Coolant, supply, package reset, bring-up, the configuration store, power caps and power states
(R20 to R23, R505 to R533). -/

namespace Sys2Proof.Machine

/-! ### Coolant (R20 to R23): hundredths of a degree and of a litre per minute -/

/-- Stop conditions of supply, return and flow. -/
def stopsSup (t : Int) : Bool := decide (t < 1500 ∨ 5500 < t)
def stopsRet (t : Int) : Bool := decide (6500 < t)
def stopsFlow (f : Nat) : Bool := decide (f < 300)

/-- The COOL_WARN row; a stop condition counts as one until it has been held for its time. -/
def warns (sup ret : Int) (flow : Nat) (wet : Bool) : Bool :=
  decide (4500 < sup ∨ sup < 1500 ∨ 5800 < ret ∨ flow < 600) || wet

/-- The normal row. -/
def coolNormal (sup ret : Int) (flow : Nat) (wet : Bool) : Bool :=
  decide (1800 ≤ sup ∧ sup ≤ 3500 ∧ ret ≤ 5000 ∧ 800 ≤ flow) && !wet

/-- The COOL_DEGRADED row: outside the normal row and no more severe one. -/
def degrades (sup ret : Int) (flow : Nat) (wet : Bool) : Bool := !coolNormal sup ret flow wet && !warns sup ret flow wet

/-- The condition of the COOL_DEGRADED row, whether or not a more severe row applies as well: its cap waits for this to be absent (R21). -/
def degradeCond (sup ret : Int) (flow : Nat) : Bool :=
  decide ((1500 ≤ sup ∧ sup < 1800) ∨ (3500 < sup ∧ sup ≤ 4500) ∨ (5000 < ret ∧ ret ≤ 5800) ∨ (600 ≤ flow ∧ flow < 800))

/-- Consecutive samples, up to a limit. -/
def streak (top n : Nat) (c : Bool) : Nat := if c then min top (n + 1) else 0

/-- A sample of the four quantities, every 1 ms. -/
def Pwr.sample (p : Pwr) (sup ret : Int) (flow : Nat) (wet : Bool) : Pwr :=
  let w := warns sup ret flow wet
  let d := degrades sup ret flow wet
  { p with
    tsup := sup, tret := ret, flow := flow, wet := wet,
    stopSup := streak 2000 p.stopSup (stopsSup sup), stopRet := streak 2000 p.stopRet (stopsRet ret),
    stopFlow := streak 2000 p.stopFlow (stopsFlow flow), stopLeak := streak 100 p.stopLeak wet,
    coolWarn := p.coolWarn || w, coolDeg := p.coolDeg || d,
    warnAbsent := streak 10000 p.warnAbsent (!w), degAbsent := streak 10000 p.degAbsent (!degradeCond sup ret flow),
    degradedMs := p.degradedMs + b2n d }

def State.coolantSample (s : State) (sup ret : Int) (flow : Nat) (wet : Bool) : State :=
  let p := s.pwr
  let s := ({ s with pwr := p.sample sup ret flow wet } : State).capChange
  let s := if !p.coolDeg && s.pwr.coolDeg then s.powerEvent 1 else s
  if !p.coolWarn && s.pwr.coolWarn then s.powerEvent 2 else s

def execCoolantSample (supply ret : Int) (flow : Nat) (wet : Bool) (s : State) : Out := .next (s.coolantSample supply ret flow wet)

/-- COOL_CAP_LIFT: each cap after its own 10 s. -/
def execCoolCapLift (s : State) : Out :=
  .next (
    let w := s.pwr.coolWarn && decide (10000 ≤ s.pwr.warnAbsent)
    let d := s.pwr.coolDeg && decide (10000 ≤ s.pwr.degAbsent)
    if !w && !d then s
    else (({ s with pwr := { s.pwr with coolWarn := s.pwr.coolWarn && !w, coolDeg := s.pwr.coolDeg && !d } } : State).capChange).powerEvent 6)

/-! ### Package reset (R507, R511, R521 to R523) -/

/-- What a package reset leaves: the reset state, with what is not volatile, what the tack rooms keep while powered, and the
modules in their bays. Main memory survives when its modules stayed in self-refresh (DESIGN CHOICE, log 56). -/
def State.clearPackage (s : State) (kept : Bool) : State :=
  { State.reset with
    pending := s.pending, resp := s.resp, free := s.free, banks := s.banks,
    segs := s.segs, loft := s.loft, loftChans := s.loftChans,
    chans := s.chans.foldl (fun m e => Map.set chanDflt m e.1 { chanDflt e.1 with dimm := e.2.dimm }) [],
    capLog2 := s.capLog2, slowMem := s.slowMem,
    mem := if kept then s.mem else [], memUe := if kept then s.memUe else [],
    pwr := { s.pwr with phase := 0, failStep := 0, bootStatus := 0, tms := 0, stopping := none, supplyCap := false, stable := 0,
                        below320 := false, coolStopped := false, yret := 0, deep := false, duty := 64 },
    tack := { active := s.tack.active, takeovers := s.tack.takeovers, log := s.tack.log, agg := s.tack.agg, lost := s.tack.lost,
              age := s.tack.age, corrected := s.tack.corrected, needed := s.tack.needed } }

/-- The package is reset with a cause; PWR_RESET counts it (DESIGN CHOICE, log 56). -/
def State.packageReset (s : State) (cause : Nat) (kept : Bool) : State :=
  let k := kept && s.pwr.dimmSupply
  let t := s.clearPackage k
  { t with pwr := { t.pwr with cause := cause, memKept := k, dimmSupply := true, resets := satAdd 0xFFFF t.pwr.resets 1 } }

/-- A stop sequence starts unless one already runs. -/
def State.stopFor (s : State) (cause : Nat) : State :=
  if s.pwr.stopping.isSome ∨ s.pwr.coolStopped then s else { s with pwr := { s.pwr with stopping := some cause } }

/-- COOL_STOP: once a stop condition has been held, the stop sequence runs and the package stays unpowered. The tack rooms
keep their sessions and commands (DESIGN CHOICE, log 56). -/
def execCoolStop (s : State) : Out :=
  .next (
    let p := s.pwr
    if p.coolStopped || !decide (2000 ≤ p.stopSup ∨ 2000 ≤ p.stopRet ∨ 2000 ≤ p.stopFlow ∨ 100 ≤ p.stopLeak) then s
    else
      let t := s.clearPackage true
      (({ t with sess := s.sess, nextSess := s.nextSess, cpq := s.cpq, longs := s.longs, outbox := s.outbox,
                 pwr := { t.pwr with coolStopped := true } } : State).powerEvent 3))

/-- DIMM_SUPPLY_REMOVE: past 95 °C or 600 s in self-refresh. -/
def execDimmSupplyRemove (_over95 : Bool) (s : State) : Out :=
  .next (if s.pwr.coolStopped || s.pwr.stopping.isSome then { s with pwr := { s.pwr with dimmSupply := false } } else s)

/-- COOL_CLEAR's effect: an accepted clear resets the package with cause COOL_STOP (R22, R23). -/
def State.coolClear (s : State) : State × Status :=
  let p := s.pwr
  if !coolNormal p.tsup p.tret p.flow p.wet then (s, St.coolantLimit)
  else if p.coolStopped then (s.packageReset 2 true, St.ok)
  else (s, St.ok)

def execRefLoss (s : State) : Out := .next (({ s with pwr := { s.pwr with refOk := false } } : State).stopFor 3)
def execPllUnlock (die : Nat) (s : State) : Out :=
  .next (({ s with pwr := { s.pwr with plls := s.pwr.plls &&& ~~~(BitVec.ofNat 12 (2 ^ die)) } } : State).stopFor 4)

/-- DCLINK_SAMPLE (R521), every 2 µs, in units of 0.1 V. -/
def State.dclinkSample (s : State) (dv : Nat) : State :=
  let warn := decide (dv < 3600) && (!s.pwr.supplyCap || decide (3600 ≤ s.pwr.dclink))
  let s : State := { s with pwr := { s.pwr with
    dclink := dv, supplyCap := s.pwr.supplyCap || decide (dv < 3600),
    below320 := s.pwr.below320 || decide (dv < 3200), stable := streak 5000 s.pwr.stable (decide (3700 < dv)) } }
  let s := if warn then ((s.pwrEvt 1).capChange).powerEvent 4 else s
  if dv < 3200 then s.stopFor 1 else s

def execDclinkSample (dv : Nat) (s : State) : Out := .next (s.dclinkSample dv)

/-- SUPPLY_OK: 10 ms above 370 V without interruption, never below 320 V. -/
def execSupplyOk (s : State) : Out :=
  .next (if s.pwr.supplyCap && decide (5000 ≤ s.pwr.stable) && !s.pwr.below320 then
      (((({ s with pwr := { s.pwr with supplyCap := false } } : State).pwrEvt 2).capChange).powerEvent 5)
    else s)

/-- PACKAGE_RESET ends a stop sequence (R522, R523). -/
def execPackageReset (kept : Bool) (s : State) : Out :=
  .next (match s.pwr.stopping with
    | some c => if s.pwr.coolStopped then s else s.packageReset c kept
    | none => s)

/-! ### Configuration store (R516 to R519) -/

/-- Exactly n bytes of a byte list (DESIGN CHOICE, log 57). -/
def fixLen (n : Nat) (l : List Byte) : List Byte := l.take n ++ List.replicate (n - l.length) 0

/-- A signature of 17,088 bytes under the identity key, with a context string (R554, R556) (DESIGN CHOICE, log 57 and 58). -/
def signed (context l : List Byte) : List Byte := fixLen 17088 (Config.sign (context ++ l))

/-- A record as the store holds it, signed under context XWK-REC and padded to 64 bytes. -/
def StoreRec.stored (r : StoreRec) : List Byte :=
  let b := leBytes 2 r.typ ++ leBytes 2 r.bytes.length ++ r.bytes
  let b := b ++ signed [0x58, 0x57, 0x4B, 0x2D, 0x52, 0x45, 0x43] b
  b ++ List.replicate ((64 - b.length % 64) % 64) 0

/-- The body of a bank, and its header. -/
def Bank.body (b : Bank) : List Byte := b.image ++ b.recs.flatMap StoreRec.stored
/-- DESIGN CHOICE, log 57. -/
def Bank.header (b : Bank) : List Byte :=
  let h := leBytes 4 0x5358434B ++ leBytes 4 1 ++ leBytes 8 b.seq ++ leBytes 4 b.body.length ++ leBytes 4 b.image.length
  h ++ leBytes 4 (crc32c (h ++ b.body)) ++ List.replicate 36 0

/-- Records of a type whose signature verifies. -/
def Bank.ofType (b : Bank) (t : Nat) : List StoreRec := b.recs.filter (fun r => r.sigOk && decide (r.typ = t))
def State.records (s : State) (t : Nat) : List StoreRec := match s.winner with | some b => (s.bank b).ofType t | none => []

/-- Of the two banks of a device, the one with the lower SEQ: an invalid one counts as none. -/
def State.olderBank (s : State) (d : Nat) : Nat :=
  let q := fun i => if (s.bank i).valid then (s.bank i).seq + 1 else 0
  if q (2 * d) ≤ q (2 * d + 1) then 2 * d else 2 * d + 1

/-- A store update: a new bank in the older bank of NOR0, then of NOR1 (R519). -/
def State.storeWrite (s : State) (b : Bank) : State :=
  let n := match s.winner with | some w => (s.bank w).seq + 1 | none => 1
  let b := { b with valid := true, seq := n }
  let i := s.olderBank 0
  let j := s.olderBank 1
  (s.setBank i b).setBank j b

/-- Copy the winner into the older bank of a device that does not hold it (R518). -/
def State.storeRepair (s : State) : State :=
  match s.winner with
  | none => s
  | some w =>
    let b := s.bank w
    (List.range 2).foldl (fun s d =>
      if (List.range 2).any (fun k => (s.bank (2 * d + k)).valid && decide ((s.bank (2 * d + k)).seq = b.seq)) then s
      else (s.setBank (s.olderBank d) b).pwrEvt 8) s

/-- PWR_STORE_STAT. -/
def State.storeStat (s : State) : Word :=
  let valid := (List.range 4).foldl (fun n i => n + b2n (s.bank i).valid * 2 ^ i) 0
  match s.winner with
  | none => place 7 4 valid
  | some w =>
    let q := (s.bank w).seq
    let holds := fun d => (List.range 2).any (fun k => (s.bank (2 * d + k)).valid && decide ((s.bank (2 * d + k)).seq = q))
    place 0 0 (w % 2) ||| place 1 1 (b2n (holds 0 && holds 1)) ||| place 7 4 valid ||| place 63 16 q

/-! ### Bring-up (R508 to R513) -/

/-- A step fails and leaves the device in it (R509). -/
def State.bootFail (s : State) (step : Nat) (st : Status) : State :=
  { s with pwr := { s.pwr with failStep := step, bootStatus := st }, tack := { s.tack with outOfService := true } }

/-- The unused spare that replaces a failed stall: of the same yard, else the lowest PS (R37). -/
def spareFor (free : Nat → Bool) (ps : Nat) : Option Nat :=
  let of := fun y => ((List.range 8).map (· + y * 72 + 64)).filter free
  match of (ps / 72) with
  | x :: _ => some x
  | [] => ((List.range 4).flatMap of).head?

/-- Stalls that start-up makes active, given those that failed (R37). -/
def activeStalls (bad : List Nat) : List Nat :=
  let used := (List.range 288).foldl (fun used ps =>
    if bad.contains ps ∧ ps % 72 < 64 then
      match spareFor (fun x => !bad.contains x && !used.contains x) ps with
      | some x => x :: used
      | none => used
    else used) []
  (List.range 288).filter (fun ps => !bad.contains ps && (decide (ps % 72 < 64) || used.contains ps))

/-- Open the 16 nodes of a stall. -/
def State.unfence (s : State) (ps : Nat) : State :=
  (List.range 16).foldl (fun s g => s.modNode (ps * 16 + g) (fun n => { n.setReg 8 (setFld (n.reg 8) 1 0 0) with fenced := false })) s

/-- Close the 16 nodes of a stall. -/
def State.fence (s : State) (ps : Nat) (svc : Bool) : State :=
  (List.range 16).foldl (fun s g => s.modNode (ps * 16 + g) (fun n =>
    { n.setReg 8 (setFld (n.reg 8) 1 0 (1 + 2 * b2n svc)) with fenced := true })) s

/-- Step 4: what the self-test repairs: bypass in STALL_ARR_MAP, the repair bank, and dead routers with their detours (R51 to R55, R163, R173). -/
def State.bootRepairs (s : State) (info : BootInfo) : State :=
  let s := info.arrMaps.foldl (fun s e => if 288 ≤ e.1 ∨ arrMapBad e.2 then s else s.setScsr e.1 0x1420 (arrMapBits e.2)) s
  let s := info.tileBanks.foldl (fun s e => if 288 ≤ e.1 ∨ 64 ≤ e.2 then s else s.modStall e.1 (fun t => { t with bank := some e.2 })) s
  let deads := info.deadNodes.filter (· < 4608)
  if deads.isEmpty then s else (deads.foldl State.markDead s).installDetours

/-- Step 4: the stalls that fail, those with a dead router among them (R51). -/
def failedStalls (info : BootInfo) : List Nat := (info.badStalls ++ info.deadNodes.map (· / 16)).filter (· < 288)

/-- Step 4: sparing, LS numbers and fences (R37, R38, R48). -/
def State.bootStalls (s : State) (bad : List Nat) : State :=
  let act := activeStalls bad
  if act.length < 256 then s.bootFail 4 St.stupStalls
  else
    let s := (List.range 288).foldl (fun s ps => s.setHealth ps
      (if bad.contains ps then .failed else if act.contains ps then .active else .spare)) s
    let s := act.zipIdx.foldl (fun s e => s.setLs e.2 e.1) s
    act.foldl State.unfence s

/-- Assign the channels of a shed: a spare takes the logical channel of one that is not good (R508) (DESIGN CHOICE, log 57). -/
def assignChans (good : Nat → Bool) : List Nat → List Nat → List (Nat × Nat)
  | [], _ => []
  | lc :: ls, spares =>
    if good lc then (lc, lc) :: assignChans good ls spares
    else match spares with
      | x :: xs => (x, lc) :: assignChans good ls xs
      | [] => assignChans good ls []

/-- Step 5 in one shed. -/
def State.bootShed (s : State) (n : Nat) (bad : List Nat) : State :=
  let good := fun i => !bad.contains (n * 34 + i) && (match (s.chan (n * 34 + i)).dimm with | some d => d.supported | none => false)
  let asg := assignChans good (List.range 32) ([32, 33].filter good)
  if asg.length < 32 then s.bootFail 5 St.stupChannels
  else (List.range 34).foldl (fun s i =>
    let c := s.chan (n * 34 + i)
    match asg.find? (fun e => e.1 = i) with
    | some e => s.setChan (n * 34 + i) { c with state := 0, lc := e.2 }
    | none => s.setChan (n * 34 + i) { c with state := if c.dimm.isNone then 4 else if good i then 1 else 6, lc := 0 }) s

/-- Step 5: speed, capacity, channels, and zeros on a cold start (R26, R508). -/
def State.bootMemory (s : State) (bad : List Nat) : State :=
  let ds := (List.range 136).filterMap (fun ch => (s.chan ch).dimm)
  let s : State := { s with
    slowMem := ds.any (fun d => d.slow)
    capLog2 := match ds with | d :: l => l.foldl (fun n d => min n d.capLog2) d.capLog2 | [] => s.capLog2
    mem := if s.pwr.memKept then s.mem else [], memUe := if s.pwr.memKept then s.memUe else [] }
  (List.range 4).foldl (fun s n => s.bootShed n bad) s

/-- Step 2: the winning bank, its records of step 2 and the measurements (R508, R518, R555) (DESIGN CHOICE, log 57). -/
def State.bootImage (s : State) (info : BootInfo) : State :=
  match s.winner with
  | none => s.bootFail 2 St.stupNoImage
  | some w =>
    if !info.pufOk then s.bootFail 2 St.stupNoImage
    else
      let b := s.bank w
      let s : State := { s with tack := { s.tack with active := false, standbyOk := info.standbyOk, fwver0 := b.fwver, fwver1 := b.fwver,
                                                      svn := b.svn, minsvn := b.svn } }
      let s := match b.ofType 3 with
        | r :: _ => (s.setDcsr (hostifBase + 0x18) (BitVec.ofNat 64 (leNat (r.bytes.take 8)) &&& 0x770FFF0FFF)).setDcsr hostifBase
            (BitVec.ofNat 64 (leNat (r.bytes.drop 8) % 128))
        | [] => s
      let s := (s.extendM 0 Config.romVersion).extendM 0 b.header
      let s := s.extendM 1 (sha256 b.image)
      b.recs.foldl (fun s r => s.extendM 2 (sha256 (leBytes 2 r.typ ++ leBytes 2 r.bytes.length ++ r.bytes))) s

/-- Step 7: the device ID, and the store once PHASE is 7 (R513, R518, R555). -/
def State.bootId (s : State) : State :=
  let s := match s.records 1 with
    | r :: _ => s.setGates 0 (place 13 0 (leNat (r.bytes.take 2)) ||| place 15 15 1)
    | [] => s
  (s.extendM 3 (leBytes 2 (s.dcsr hostifBase).toNat)).storeRepair

/-- Step 1 holds the device until rails, reference and PLLs are good. -/
def State.bootRails (s : State) (ok : Bool) : State := if ok then { s with pwr := { s.pwr with refOk := true, plls := 0xFFF } } else s

/-- BRINGUP_STEP_END: what the next step does when it ends (DESIGN CHOICE, log 57). -/
def State.bootStep (s : State) (info : BootInfo) : State :=
  let k := s.pwr.phase + 1
  let s : State := { s with pwr := { s.pwr with tms := s.pwr.tms + info.ms } }
  let t : State := match k with
    | 1 => s.bootRails info.railsOk
    | 2 => s.bootImage info
    | 3 => if info.diesOk then s else s.bootFail 3 St.stupDieMissing
    | 4 => (s.bootRepairs info).bootStalls (failedStalls info)
    | 5 => s.bootMemory info.badBays
    | 6 => (List.range 32).foldl (fun s p => s.modPort p (fun x => { x with listening := decide (x.state = .training) })) s
    | 7 => s.bootId
    | _ => s
  if t.pwr.failStep ≠ 0 ∨ (k = 1 ∧ !info.railsOk) then t else { t with pwr := { t.pwr with phase := k } }

def execBringupStepEnd (info : BootInfo) (s : State) : Out :=
  .next (if !s.pwr.inlet || s.pwr.coolStopped || s.pwr.stopping.isSome || decide (s.pwr.failStep ≠ 0) || decide (7 ≤ s.pwr.phase) then s
    else s.bootStep info)

/-- INLET_POWER_ON: a cold start; resets are counted from here. -/
def execInletPowerOn (s : State) : Out :=
  .next (if s.pwr.inlet then s
    else
      let t := s.clearPackage false
      { t with pwr := { inlet := true, resets := 1 }, tack := { t.tack with takeovers := 0, log := [], agg := [], lost := 0 } })

/-! ### Views of the PWR block (R532) -/

def State.pwrReset (s : State) : Word := place 3 0 s.pwr.cause ||| place 4 4 (b2n s.pwr.memKept) ||| place 31 16 s.pwr.resets
def State.pwrBoot (s : State) : Word :=
  place 3 0 s.pwr.phase ||| place 7 4 s.pwr.failStep ||| place 31 16 s.pwr.bootStatus.toNat ||| place 63 32 s.pwr.tms
/-- PWR_CLK_STAT: the DDR5 PHY PLLs stand with the sheds' bits, the SerDes PLLs with the gates'. -/
def State.clkStat (s : State) : Word :=
  let p := s.pwr.plls.toNat
  place 0 0 (b2n s.pwr.refOk) ||| place 12 1 p ||| place 13 13 (b2n (decide (bits p 7 4 = 15))) ||| place 14 14 (b2n (decide (bits p 11 8 = 15)))
/-- PWR_PS_STAT. -/
def State.psStat (s : State) : Word :=
  let n := fun (p : PState) => (s.stalls.filter (fun e => decide (e.2.pstate = p))).length
  place 8 0 (n .gated) ||| place 24 16 (n .sret) ||| place 35 32 s.pwr.yret.toNat ||| place 40 40 (b2n s.pwr.deep)

/-! ### Caps (R524) -/

/-- POWER_MEASURE: package and inlet power, and DUTY. While a cap binds, how far the manager throttles is open. -/
def execPowerMeasure (pkg inlet : Nat) (s : State) : Out :=
  .next (
    let s : State := { s with pwr := { s.pwr with pkgW := pkg, inletW := inlet } }
    if pkg ≤ s.cap.1 ∧ s.pwr.duty = 64 then s
    else
      let (v, s) := s.fresh
      { s with pwr := { s.pwr with duty := v.toNat % 64 + 1 } })

/-- A host cap, in W; 0 removes it. -/
def capOk (v : Nat) : Bool := decide (v = 0 ∨ (1000 ≤ v ∧ v ≤ 3900))

/-- PWR_CAP_HOST (R524, R532). -/
def State.capHostWrite (s : State) (priv : Priv) (v : Word) : State × Status :=
  if priv ≠ .tack then (s, St.privilege)
  else if !capOk (fld v 15 0) then (s, St.badParam)
  else ((s.setDcsr (pwrBase + 0x18) (place 15 0 (fld v 15 0))).capChange, St.ok)

def execPwrCapHostWrite (priv : Priv) (v : Word) (s : State) : Out := .next (let (t, st) := s.capHostWrite priv v; t.respond st)

/-! ### Power states (R526 to R533) -/

/-- Wake times of states 1 to 4, in ACLK (R526). -/
def wakeAclk : Nat → Nat
  | 1 => 63 | 2 => 6250 | 3 => 250000 | 4 => 3750000 | _ => 0

/-- Minimum time to the next known event of states 1 to 4, in ACLK (R532). -/
def psMin (w : Word) : Nat → Nat
  | 1 => fld w 15 8 * 64
  | 2 => fld w 31 16 * 1024
  | 3 => fld w 47 32 * 1024
  | 4 => fld w 63 48 * 65536
  | _ => 0

/-- PWR_PS_CFG (R532) (DESIGN CHOICE, log 56). -/
def State.psCfgWrite (s : State) (priv : Priv) (v : Word) : State × Status :=
  if priv = .task then (s, St.privilege)
  else if 4 < fld v 2 0 ∨ [1, 2, 3, 4].any (fun k => decide (psMin v k < wakeAclk k)) then (s, St.badParam)
  else (s.setDcsr (pwrBase + 0x20) (v &&& 0xFFFFFFFFFFFFFF07), St.ok)

def execPsCfgWrite (priv : Priv) (v : Word) (s : State) : Out := .next (let (t, st) := s.psCfgWrite priv v; t.respond st)

/-- A queue is IDLE, in WAIT_EV, or waiting in a sync command (R527). -/
def State.queueIdle (s : State) (ps q : Nat) : Bool :=
  match s.queueState ps q with
  | .idle => true
  | .waitEv => true
  | .running => match (s.stall ps).sync with
    | some c => decide (q = 4) && decide (c.ph = .waiting ∨ c.ph = .atMaster)
    | none => false
  | _ => false

def Groom.resting (g : Groom) : Bool := g.halted || decide (g.wait = .wfi)

def State.stallIdle (s : State) (ps : Nat) : Bool :=
  (List.range 5).all (s.queueIdle ps) && decide ((s.stall ps).slots = [] ∧ (s.stall ps).db = []) &&
  (List.range 16).all (fun g => (s.groom (ps * 16 + g)).resting)

/-- Active stalls of a yard, and of the device. -/
def State.yardStalls (s : State) (y : Nat) : List Nat := ((List.range 72).map (· + y * 72)).filter (fun ps => decide (s.healthOf ps = .active))
def State.activePs (s : State) : List Nat := (List.range 4).flatMap s.yardStalls

def State.deviceIdle (s : State) : Bool :=
  s.activePs.all s.stallIdle && decide (s.reds = [] ∧ s.jobs.all (fun j => j.res.isSome) ∧ s.cmt.ckState ≠ 1 ∧ s.longs = []) &&
  (List.range 4).all (fun n => !(s.shed n).mig.active)

/-- The earlier of two known events. -/
def sooner : Option Nat → Option Nat → Option Nat
  | some a, some b => some (min a b)
  | some a, none => some a
  | none, b => b

/-- ACLK to the next known event of a stall; none when there is none (R528). -/
def State.nextEvent (s : State) (ps : Nat) : Option Nat :=
  let w := s.scsr ps 0x1B00
  let a := if bit w 63 then some (fld w 39 0) else none
  let b := match (s.stall ps).sync with
    | some c => if c.tmo ≠ 0 ∧ (c.ph = .waiting ∨ c.ph = .atMaster) then some ((c.start + 2 * c.tmo - s.clk) / 2) else none
    | none => none
  (List.range 16).foldl (fun n g => match (s.groom (ps * 16 + g)).wait with
    | .cwait _ _ _ tmo start => if tmo = 0 then n else sooner n (some ((start + tmo - s.clk) / 2))
    | _ => n) (sooner a b)

def State.nextOf (s : State) (l : List Nat) : Option Nat := l.foldl (fun n ps => sooner n (s.nextEvent ps)) none

/-- ACLK to the next known event of the device: with the vote limit of a controller in VOTED. -/
def State.nextDevice (s : State) : Option Nat :=
  sooner (s.nextOf s.activePs)
    (if s.cmt.state = .voted then some ((s.cmt.votedAt + 2 ^ fld (s.dcsr (combBase 0 + 0x418)) 31 24 - s.clk) / 2) else none)

/-- A state is allowed by MAXSTATE and by the time to the next event (R529). -/
def State.psAllowed (s : State) (k : Nat) (t : Option Nat) : Bool :=
  let w := s.dcsr (pwrBase + 0x20)
  decide (k ≤ fld w 2 0) && (match t with | some n => decide (psMin w k ≤ n) | none => true)

def State.setPs (s : State) (l : List Nat) (p : PState) : State := l.foldl (fun s ps => s.modStall ps (fun t => { t with pstate := p })) s

/-- Whether a yard is retained. -/
def State.yardRet (s : State) (y : Nat) : Bool := s.pwr.yret.getLsbD y

/-- PSTATE_ENTER in hardware mode: the deepest state allowed (R529). -/
def State.psEnterHw (s : State) : PwrUnit → State
  | .stall ps =>
    let t := s.nextEvent ps
    let now := (s.stall ps).pstate
    if s.healthOf ps ≠ .active ∨ !s.stallIdle ps ∨ now = .yret ∨ now = .deep then s
    else if s.psAllowed 2 t then s.setPs [ps] .sret
    else if s.psAllowed 1 t then s.setPs [ps] .gated
    else s
  | .yard y =>
    let l := s.yardStalls y
    if 4 ≤ y ∨ s.pwr.deep ∨ !l.all s.stallIdle ∨ !s.psAllowed 3 (s.nextOf l) then s
    else let t := s.setPs l .yret; { t with pwr := { t.pwr with yret := t.pwr.yret ||| BitVec.ofNat 4 (2 ^ y) } }
  | .device =>
    if !s.deviceIdle ∨ !s.psAllowed 4 s.nextDevice then s
    else let t := s.setPs s.activePs .deep; { t with pwr := { t.pwr with yret := 15, deep := true } }

/-- PSTATE_ENTER in host-assisted mode: a hint, and the ceiling (R531). -/
def State.psEnterHost (s : State) : PwrUnit → State
  | .stall ps =>
    let now := (s.stall ps).pstate
    if s.healthOf ps ≠ .active ∨ !s.stallIdle ps ∨ now = .yret ∨ now = .deep then s
    else
      let s := s.event { code := 5, d0 := BitVec.ofNat 64 (s.lsNum ps)
                         d1 := BitVec.ofNat 64 (match s.nextEvent ps with | some n => min n 0xFFFFFFFF | none => 0xFFFFFFFF) }
      match (s.stall ps).ceiling with
      | 0 => s
      | 1 => s.setPs [ps] .gated
      | _ => s.setPs [ps] .sret
  | .yard y =>
    let l := s.yardStalls y
    if 4 ≤ y ∨ s.pwr.deep ∨ !l.all (fun ps => s.stallIdle ps && decide (3 ≤ (s.stall ps).ceiling)) then s
    else let t := s.setPs l .yret; { t with pwr := { t.pwr with yret := t.pwr.yret ||| BitVec.ofNat 4 (2 ^ y) } }
  | .device =>
    if !s.deviceIdle ∨ !s.activePs.all (fun ps => decide ((s.stall ps).ceiling = 4)) then s
    else let t := s.setPs s.activePs .deep; { t with pwr := { t.pwr with yret := 15, deep := true } }

def execPstateEnter (unit : PwrUnit) (s : State) : Out := .next (if s.hostMode 4 then s.psEnterHost unit else s.psEnterHw unit)

/-- A unit wakes: its stalls run. -/
def State.wakeDevice (s : State) : State :=
  let t := s.setPs s.activePs .run
  { t with pwr := { t.pwr with yret := 0, deep := false } }
def State.wakeYard (s : State) (y : Nat) : State :=
  let t := s.setPs (s.yardStalls y) .run
  { t with pwr := { t.pwr with yret := t.pwr.yret &&& ~~~(BitVec.ofNat 4 (2 ^ y)) } }

/-- The smallest unit that must wake for a stall to run. -/
def State.wakeStall (s : State) (ps : Nat) : State :=
  match (s.stall ps).pstate with
  | .deep => s.wakeDevice
  | .yret => s.wakeYard (ps / 72)
  | _ => s.setPs [ps] .run

/-- Whether a known event is no further away than a wake time. -/
def dueIn (t : Option Nat) (k : Nat) : Bool := match t with | some n => decide (n ≤ wakeAclk k) | none => false

def psNum : PState → Nat
  | .run => 0 | .gated => 1 | .sret => 2 | .yret => 3 | .deep => 4

/-- PSTATE_PLANNED_WAKE: at the event time less the wake time (R529). -/
def execPstatePlannedWake (unit : PwrUnit) (s : State) : Out :=
  .next (match unit with
    | .stall ps =>
      let k := psNum (s.stall ps).pstate
      if k ≠ 0 ∧ k < 3 ∧ dueIn (s.nextEvent ps) k then s.wakeStall ps else s
    | .yard y => if s.yardRet y ∧ !s.pwr.deep ∧ dueIn (s.nextOf (s.yardStalls y)) 3 then s.wakeYard y else s
    | .device => if s.pwr.deep ∧ dueIn s.nextDevice 4 then s.wakeDevice else s)

/-- Count an unplanned wake of stalls (DESIGN CHOICE, log 56). -/
def State.unplannedWake (s : State) (l : List Nat) : State :=
  l.foldl (fun s ps => s.modStall ps (fun t => { t with unplanned := (t.unplanned + 1) % 2 ^ 32 })) s

/-- PSTATE_WAKE: any other wake cause (R529, R530). -/
def execPstateWake (unit : PwrUnit) (_cause : WakeCause) (s : State) : Out :=
  .next (match unit with
    | .stall ps => if (s.stall ps).pstate = .run then s else (s.unplannedWake [ps]).wakeStall ps
    | .yard y => if s.yardRet y then
        (let t := s.unplannedWake (s.yardStalls y); if s.pwr.deep then t.wakeDevice else t.wakeYard y) else s
    | .device => if s.pwr.deep then (s.unplannedWake s.activePs).wakeDevice else s)

/-- PWR_NEXT_EXPIRE: VALID clears when the count is 0 (R533). -/
def execPwrNextExpire (ps : Nat) (s : State) : Out :=
  .next (let w := s.scsr ps 0x1B00
    if bit w 63 ∧ fld w 39 0 = 0 then s.setScsr ps 0x1B00 0 else s)

/-- STALL_PWR_STAT. -/
def Stall.pwrStat (t : Stall) : Word := place 2 0 (psNum t.pstate) ||| place 10 8 t.ceiling ||| place 47 16 t.unplanned

/-- PSTATE_SET's effect (R531). -/
def State.pstateSet (s : State) (ls st : Nat) : State × Status :=
  if fld (s.dcsr (pwrBase + 0x20)) 2 0 < st ∨ (st = 4 ∧ ls ≠ 0xFF) then (s, St.pwrState)
  else if ls = 0xFF then (s.activePs.foldl (fun s ps => s.modStall ps (fun t => { t with ceiling := st })) s, St.ok)
  else (s.modStall (s.psOf ls) (fun t => { t with ceiling := st }), St.ok)

/-! ### Beacons (R513) -/

/-- BEACON_SEND: once every 1 ms on a port that carries traffic; the payload is 32 bytes, link-local. -/
def State.beaconBytes (s : State) (p : Nat) : List Byte :=
  leBytes 8 Config.serial.toNat ++ leBytes 4 (s.devid + b2n s.devidValid * 2 ^ 15 + p * 2 ^ 16) ++ leBytes 4 s.pwr.resets ++ List.replicate 16 0

def State.beaconPacket (s : State) (p : Nat) : Packet :=
  { typ := 0x40, priv := .tack, hops := 0, dst := 0, src := s.devid, len := 32, data := s.beaconBytes p }

/-- DESIGN CHOICE, log 57. -/
def execBeaconSend (port : Nat) (s : State) : Out :=
  .next (if (s.port port).carries ∧ 6 ≤ s.pwr.phase then s.modPort port (fun x => { x with wire := x.wire ++ [s.beaconPacket port] }) else s)

/-- BEACON: loops back are discarded; one with IDV = 1 names the peer. -/
def execBeacon (port : Nat) (serial : Word) (devid : BitVec 14) (idv : Bool) (s : State) : Out :=
  .next (if !(s.port port).carries ∨ serial = Config.serial ∨ !idv then s
    else s.modPort port (fun x => { x with peer := devid.toNat, peerValid := true, beaconAt := s.clk }))

/-- PEER_TIMEOUT: 4 ms, 10,000,000 NCLK, without a beacon. -/
def execPeerTimeout (port : Nat) (s : State) : Out :=
  .next (if (s.port port).peerValid ∧ (s.port port).beaconAt + 10000000 ≤ s.clk then
      s.modPort port (fun x => { x with peerValid := false })
    else s)

end Sys2Proof.Machine
end

