-- ==== Sys2Proof/Machine/Ras.lean ====
section
/-! DEFINITION. Error records and triage, the tack rooms, live sparing, ageing, and host module and link events
(R535 to R549, R25, R325, R512, R557). -/

namespace Sys2Proof.Machine

/-! ### Error records (R540) -/

/-- The four words of a record. -/
def ErrRec.word (r : ErrRec) : Nat → Word
  | 0 => place 15 0 r.status.toNat ||| place 23 16 r.cls ||| place 25 24 r.sev ||| place 31 28 r.unit ||| place 63 32 r.id
  | 1 => place 48 0 r.addr ||| place 63 48 r.task
  | 2 => BitVec.ofNat 64 r.cycle
  | 3 => place 15 0 r.sub ||| place 31 16 r.action
  | _ => 0

/-- The ERROR event of a record (R498, R541) (DESIGN CHOICE, log 53). -/
def State.errorEvent (s : State) (r : ErrRec) : State :=
  s.event { code := 6, d0 := r.word 0, d1 := r.word 1, d2 := r.word 2, d3 := r.word 3 }

/-- SPARE_NEEDED (R541, R545, R548). -/
def State.spareNeeded (s : State) (unit id days : Nat) : State :=
  let s : State := { s with tack := { s.tack with needed := (s.tack.needed ++ [(unit, id, days)]) } }
  s.event { code := 7, d0 := BitVec.ofNat 64 unit, d1 := BitVec.ofNat 64 id, d2 := BitVec.ofNat 64 days }

def State.modTack (s : State) (f : Tack → Tack) : State := { s with tack := f s.tack }

/-- A sparing is decided, once (DESIGN CHOICE, log 54). -/
def State.decideSpare (s : State) (j : SpareJob) : State :=
  if s.tack.todo.any (fun x => decide (x.kind = j.kind ∧ x.ps = j.ps ∧ x.sub = j.sub)) then s
  else s.modTack (fun t => { t with todo := t.todo ++ [j] })

/-! ### Triage (R541) -/

/-- 24 hours of NCLK. -/
def dayNclk : Nat := 216000000000000

/-- Detections of a status at a unit within the last 24 hours, this one included; `sub` distinguishes columns and banks. -/
def State.countSeen (s : State) (r : ErrRec) (bySub : Bool) : Nat :=
  (s.tack.seen.filter (fun e => decide (e.1 = r.status ∧ e.2.1 = r.id ∧ s.clk < e.2.2.2 + dayNclk) &&
    (!bySub || decide (e.2.2.1 = r.sub)))).length

/-- What the table asks for a record, if its count has been reached. -/
def State.triageJob (s : State) (r : ErrRec) : Option SpareJob :=
  if r.sev = 0 then none
  else if r.status = St.arrayParity ∧ 2 ≤ s.countSeen r true then some { kind := 0, ps := r.id, sub := r.sub, status := r.status }
  else if r.status = St.arrayResidue ∧ 2 ≤ s.countSeen r false then some { kind := 3, ps := r.id, status := r.status }
  else if r.status = St.tileDataUe ∧ r.unit = 1 ∧ 2 ≤ s.countSeen r true then some { kind := 2, ps := r.id, sub := r.sub, status := r.status }
  else if (r.status = St.rasScratchUe ∧ r.unit = 1 ∧ 3 ≤ s.countSeen r false) ∨
      (r.status = St.rasGroomCheck ∧ 2 ≤ s.countSeen r false) ∨ (r.status = St.rasCtrlParity ∧ r.unit = 1) then
    some { kind := 1, ps := r.id, status := r.status }
  else if r.status = St.netNodeDead ∧ r.unit = 8 then
    (if s.healthOf (giAt r.id / 16) = .active then some { kind := 1, ps := giAt r.id / 16, status := r.status } else none)
  else none

/-- Unit kind of a job as R540 codes it. -/
def SpareJob.unit (j : SpareJob) : Nat := if j.kind = 0 then 0 else 1

/-- ERROR_RECORD: the active tack room takes the oldest record, triages it and logs it; during a takeover records wait (DESIGN CHOICE, log 53). -/
def State.triage (s : State) : State :=
  match s.tack.agg with
  | [] => s
  | r :: l =>
    if s.tack.takeover then s
    else
      let s := s.modTack (fun t => { t with agg := l, seen := (t.seen.filter (fun e => decide (s.clk < e.2.2.2 + dayNclk))) ++
        [(r.status, r.id, r.sub, s.clk)] })
      let s := if r.sev = 0 then s.modTack (fun t => { t with corrected := Map.mod zeroN t.corrected (r.unit * 2 ^ 32 + r.id) (· + 1) }) else s
      let job := s.triageJob r
      let hw := !s.hostMode 5
      let act := if r.action ≠ 0 then r.action else if !hw then 6 else if job.isSome && !s.hostMode 6 then 2 else 0
      let r := { r with action := act }
      let s := if s.tack.log.length < 1024 then s.modTack (fun t => { t with log := t.log ++ [r] })
        else s.modTack (fun t => { t with lost := satAdd 0xFFFF t.lost 1 })
      let s := s.errorEvent r
      match job with
      | some j => if !hw then s else if s.hostMode 6 then s.spareNeeded j.unit j.ps 0 else s.decideSpare j
      | none => s

/-- DESIGN CHOICE, log 53. -/
def execErrorRecord (s : State) : Out := .next s.triage

/-- ELOG_POP: KERNEL and TACK (R557). -/
def State.elogPop (s : State) (priv : Priv) (v : Word) : State × Status :=
  if priv = .task then (s, St.privilege)
  else (if bit v 0 then s.modTack (fun t => { t with log := t.log.drop 1 }) else s, St.ok)

/-- DESIGN CHOICE, log 53. -/
def execElogPop (priv : Priv) (s : State) : Out := .next (let (t, st) := s.elogPop priv 1; t.respond st)

/-! ### Tack rooms (R542) -/

/-- TACK_HEARTBEAT: three in a row missed, or a lockstep error, declare the primary failed (DESIGN CHOICE, log 55). -/
def execTackHeartbeat (arrived lockstep : Bool) (s : State) : Out :=
  .next (
    let m := if arrived then 0 else s.tack.missed + 1
    let fails := (lockstep || decide (3 ≤ m)) && s.tack.standbyOk && !s.tack.takeover
    let s := s.modTack (fun t => { t with missed := min 3 m, takeover := t.takeover || fails })
    if fails then s.report { status := St.ok, cls := 12, sev := 2, unit := 5, id := b2n s.tack.active } else s)

/-- TACK_CTL (R557). -/
def State.tackCtl (s : State) (priv : Priv) (v : Word) : State × Status :=
  if priv ≠ .tack then (s, St.privilege)
  else if !bit v 0 then (s, St.ok)
  else if !s.tack.standbyOk then (s, St.rasStandbyDown)
  else (s.modTack (fun t => { t with takeover := true }), St.ok)

def execTackTakeoverRequest (priv : Priv) (s : State) : Out := .next (let (t, st) := s.tackCtl priv 1; t.respond st)

/-- The views of the TACK block. -/
def State.tackStat (s : State) : Word :=
  place 0 0 (b2n s.tack.active) ||| place 1 1 (b2n s.tack.standbyOk) ||| place 2 2 (b2n s.tack.takeover) ||| place 31 16 s.tack.takeovers
def State.elogStat (s : State) : Word := place 10 0 s.tack.log.length ||| place 47 32 s.tack.lost
def State.elogWord (s : State) (w : Nat) : Word := match s.tack.log with | r :: _ => r.word w | [] => 0

/-- Repair columns left in a stall. -/
def colsLeft (map : Word) : Nat := 2 - b2n (bit map 10) - b2n (bit map 26)

def State.paddock (s : State) : Word :=
  let stalls := ((List.range 288).filter (fun ps => decide (s.healthOf ps = .spare))).length
  let ch := (List.range 4).foldl (fun n k => n + min 3 ((List.range 34).filter (fun i => decide ((s.chan (k * 34 + i)).state = 1))).length * 4 ^ k) 0
  let lanes := ((List.range 32).filter (fun p => !(s.port p).spareUsed)).length
  let cols := s.activePs.foldl (fun n ps => min n (colsLeft (s.scsr ps 0x1420))) 2
  place 5 0 stalls ||| place 15 8 ch ||| place 21 16 lanes ||| place 24 24 (b2n s.tack.standbyOk) ||| place 33 32 cols

/-! ### Live sparing (R543 to R545) -/

def SpareJob.same (a b : SpareJob) : Bool := decide (a.kind = b.kind ∧ a.ps = b.ps ∧ a.sub = b.sub)
def State.putJob (s : State) (j : SpareJob) : State := s.modTack (fun t => { t with todo := t.todo.map (fun x => if x.same j then j else x) })
def State.dropJob (s : State) (j : SpareJob) : State := s.modTack (fun t => { t with todo := t.todo.filter (fun x => !x.same j) })
def State.findJob (s : State) (kind ps sub : Nat) : Option SpareJob :=
  s.tack.todo.find? (fun x => decide (x.kind = kind ∧ x.ps = ps ∧ x.sub = sub))

/-- Give a long halter command its result (R489). -/
def State.longEnd (s : State) (l : Option (Nat × Nat)) (st : Status) (data : List Byte := []) : State :=
  match l with
  | none => s
  | some (a, b) => { s with longs := s.longs.map (fun c =>
      if c.cmd.session = a ∧ c.cmd.seq = b ∧ c.res.isNone then { c with res := some (st, data) } else c) }

/-- PAUSE of the queues of a job that run, and of what is then already quiet. -/
def State.jobPause (s : State) (j : SpareJob) (qs : List Nat) : State × SpareJob :=
  let new := qs.filter (fun q => decide ((s.queue j.ps q).state = .running) && !(s.queue j.ps q).pausing)
  let s := new.foldl (fun s q => (s.queuePause j.ps q).1) s
  let s := qs.foldl (fun s q => s.queuePaused j.ps q) s
  (s, { j with started := true, paused := (j.paused ++ new).eraseDups })

/-- No queue of a job is still running. -/
def State.jobQuiet (s : State) (ps : Nat) (qs : List Nat) : Bool := qs.all (fun q => decide ((s.queue ps q).state ≠ .running))

/-- RESUME of the queues that a job paused, at another stall when it has moved. -/
def State.jobResume (s : State) (ps : Nat) (qs : List Nat) : State :=
  qs.foldl (fun s q => if (s.queue ps q).state = .paused then (s.queueResume ps q).1 else s) s

/-- Freeze or release the arbiters of a stall's scratch banks (R469). -/
def State.freezeStall (s : State) (ps : Nat) (on : Bool) : State :=
  (List.range 64).foldl (fun s b => let k := arbKey 2 (ps * 64 + b); s.setArb k { s.arb k with frozen := on }) s

/-- A stall fails: another job takes its place, and with no spare left it stays fenced (R545) (DESIGN CHOICE, log 54). -/
def State.stallFails (s : State) (j : SpareJob) : State :=
  let s := s.dropJob j
  match s.findJob 1 j.ps 0 with
  | some k => if k.long.isNone then s.putJob { k with long := j.long } else s
  | none => s.decideSpare { j with kind := 1, sub := 0, started := false }

/-- COLUMN_SPARE: PAUSE, STALL_ARR_MAP, RESUME. Without a repair column left the stall has failed (DESIGN CHOICE, log 54). -/
def State.columnSpare (s : State) (j : SpareJob) : State :=
  let m := s.scsr j.ps 0x1420
  if (bit m 10 && decide (fld m 9 0 = j.sub)) || (bit m 26 && decide (fld m 25 16 = j.sub)) then (s.dropJob j).longEnd j.long St.ok
  else if colsLeft m = 0 then s.stallFails j
  else
    let (s, j) := s.jobPause j [2]
    if !s.jobQuiet j.ps [2] ∨ (s.stall j.ps).arr.inflight ≠ [] then s.putJob j
    else
      let m := if bit m 10 then m ||| place 25 16 j.sub ||| place 26 26 1 else setFld m 10 0 (j.sub + 1024)
      let s := (s.setScsr j.ps 0x1420 m).jobResume j.ps j.paused
      let s := s.errorEvent { status := j.status, cls := 2, sev := 1, unit := 0, id := j.ps, sub := j.sub, action := 2, cycle := s.clk }
      ((s.dropJob j).longEnd j.long St.ok).kickAll j.ps

def execColumnSpare (ps col : Nat) (s : State) : Out :=
  .next (if (s.stall ps).pstate ≠ .run ∨ s.tack.takeover then s else match s.findJob 0 ps col with | some j => s.columnSpare j | none => s)

/-- BANK_SPARE: every queue paused, the bank moved to the repair bank (R163). A repair bank in use fails the stall (DESIGN CHOICE, log 54). -/
def State.bankSpare (s : State) (j : SpareJob) : State :=
  if (s.stall j.ps).bank = some j.sub then s.dropJob j
  else if (s.stall j.ps).bank.isSome then s.stallFails j
  else
    let (s, j) := s.jobPause j (List.range 5)
    if !s.jobQuiet j.ps (List.range 5) then s.putJob j
    else
      let s := (s.modStall j.ps (fun t => { t with bank := some j.sub })).jobResume j.ps j.paused
      let s := s.errorEvent { status := j.status, cls := 3, sev := 1, unit := 1, id := j.ps, sub := j.sub, action := 2, cycle := s.clk }
      (s.dropJob j).kickAll j.ps

def execBankSpare (ps bank : Nat) (s : State) : Out :=
  .next (if (s.stall ps).pstate ≠ .run ∨ s.tack.takeover then s else match s.findJob 2 ps bank with | some j => s.bankSpare j | none => s)

/-- ARRAY_SELF_TEST: the columns found failing are spared; none, or more than repair columns left, spare the stall (R541) (DESIGN CHOICE, log 54). -/
def State.selfTest (s : State) (j : SpareJob) (failing : List Nat) : State :=
  let (s, j) := s.jobPause j [2]
  if !s.jobQuiet j.ps [2] then s.putJob j
  else
    let s := s.dropJob j
    let cols := (failing.filter (· < 514)).eraseDups
    if cols = [] ∨ colsLeft (s.scsr j.ps 0x1420) < cols.length then
      s.decideSpare { j with kind := 1, sub := 0, started := false }
    else
      let s := cols.foldl (fun s c => s.decideSpare { kind := 0, ps := j.ps, sub := c, status := j.status }) s
      (s.jobResume j.ps j.paused).kickAll j.ps

def execArraySelfTest (ps : Nat) (failing : List Nat) (s : State) : Out :=
  .next (if (s.stall ps).pstate ≠ .run ∨ s.tack.takeover then s else match s.findJob 3 ps 0 with | some j => s.selfTest j failing | none => s)

/-- What the copy of R544 carries to the new stall: all of it but the translation buffer and the new stall's own array map and
spared bank. A scan parity error loses the array (DESIGN CHOICE, log 54). -/
def Stall.movedTo (a b : Stall) (lost : Bool) : Stall :=
  { a with xbuf := [], misses := [], slots := [], pstate := .run, bank := b.bank,
           arr := if lost then { lost := true } else a.arr,
           csr := Map.set (resetOf stallRegs) a.csr 0x1420 (Map.get (resetOf stallRegs) b.csr 0x1420) }

/-- The requests of a stall's grooms and slots are complete. -/
def State.stallQuiet (s : State) (ps : Nat) : Bool :=
  !s.reqs.any (fun e => match e.2 with
    | some r => (match r.src with
      | .groomLoad gi _ => decide (gi / 16 = ps)
      | .groomStore gi => decide (gi / 16 = ps)
      | .slot p _ => decide (p = ps)
      | .gone => false)
    | none => false)

/-- Steps 2 to 4 of R544: the copy, the LS and the fences (DESIGN CHOICE, log 54). -/
def State.moveStall (s : State) (j : SpareJob) (t : Nat) (lost : Bool) : State :=
  let a := s.stall j.ps
  let s := s.setStall t (a.movedTo (s.stall t) lost)
  let s := (List.range 16).foldl (fun s g => (s.setGroom (t * 16 + g) (s.groom (j.ps * 16 + g))).setGroom (j.ps * 16 + g) {}) s
  let s := s.setStall j.ps {}
  let s := match s.lsOf j.ps with | some ls => s.setLs ls t | none => s
  let s := ((s.setHealth j.ps .failed).setHealth t .active)
  let s : State := { s with pfaults := s.pfaults.map (fun f => match f.who with
    | .inl (p, q) => if p = j.ps then { f with who := .inl (t, q) } else f
    | .inr _ => f) }
  let s := (s.fence j.ps false).unfence t
  let s := s.jobResume t j.paused
  let s := j.halted.foldl (fun s g => s.modGroom (t * 16 + g) (fun x => { x with halted := false })) s
  let s := s.errorEvent { status := j.status, cls := 0, sev := 1, unit := 1, id := j.ps, action := 2, cycle := s.clk }
  (((s.dropJob j).longEnd j.long St.ok).freezeStall j.ps false).kickAll t

/-- STALL_SPARE_MOVE: HALT and PAUSE first; once grooms are halted and queues paused, S is fenced and moved. With no spare left S
stays fenced (R545). -/
def State.stallSpare (s : State) (j : SpareJob) (lost : Bool) : State :=
  let running := (List.range 16).filter (fun g => !(s.groom (j.ps * 16 + g)).halted)
  let s := if j.started then s else s.freezeStall j.ps true
  let j := if j.started then j else { j with halted := running }
  let s := running.foldl (fun s g => s.modGroom (j.ps * 16 + g) (fun x => { x with haltReq := true })) s
  let (s, j) := s.jobPause j (List.range 5)
  if running ≠ [] ∨ !s.jobQuiet j.ps (List.range 5) ∨ !s.stallQuiet j.ps then s.putJob j
  else
    match spareFor (fun x => decide (s.healthOf x = .spare)) j.ps with
    | some t => s.moveStall j t lost
    | none =>
      let s := ((s.setHealth j.ps .failed).fence j.ps false).spareNeeded 1 j.ps 0
      let s := match s.lsOf j.ps with | some ls => s.abandonLs ls | none => s
      ((s.dropJob j).longEnd j.long St.rasNoSpare).freezeStall j.ps false

def execStallSpareMove (ps : Nat) (scanParity : Bool) (s : State) : Out :=
  .next (match s.findJob 1 ps 0 with
    | some j => if (s.stall ps).pstate ≠ .run ∨ s.healthOf ps ≠ .active ∨ s.tack.takeover then s else s.stallSpare j scanParity
    | none => s)

/-! ### Ageing (R547 to R549) -/

end Sys2Proof.Machine

namespace Sys2Proof

/-- Limit of a monitor's measure, and what a new unit measures: thousandths of a per cent of frequency, mV of eye, errors per day,
tenths of a per cent of rated erases, thousandths of the ESR at shipment. -/
def Monitor.limit : Monitor → Nat
  | .ring _ => 4000 | .eye _ _ => 8 | .hostEye _ => 8 | .dram _ => 1000 | .nand _ => 1000 | .cap => 2000
def Monitor.fresh : Monitor → Nat
  | .cap => 1000 | _ => 0
def Monitor.falls : Monitor → Bool
  | .eye _ _ => true | .hostEye _ => true | _ => false
/-- COOL_DEGRADED counts double for yards and the power stage. -/
def Monitor.heat : Monitor → Bool
  | .ring _ => true | .cap => true | _ => false

/-- UNIT, ID and SUB of a monitor's unit (R540). -/
def Monitor.unitOf : Monitor → Nat × Nat × Nat
  | .ring y => (4, y, 0) | .eye p l => (3, p, l) | .hostEye p => (3, 32 + p, 0) | .dram c => (2, c, 0) | .nand f => (6, f, 0) | .cap => (7, 0, 0)

end Sys2Proof

namespace Sys2Proof.Machine

def Tack.ageOf (t : Tack) (m : Monitor) : AgeUnit := (t.age.find? (fun u => decide (u.mon = m))).getD { mon := m }
def Tack.setAge (t : Tack) (u : AgeUnit) : Tack :=
  if t.age.any (fun x => decide (x.mon = u.mon)) then { t with age := t.age.map (fun x => if x.mon = u.mon then u else x) }
  else { t with age := t.age ++ [u] }

/-- AGE_SAMPLE: hourly; the 24th sample of a day ends it (DESIGN CHOICE, log 55). -/
def AgeUnit.sample (u : AgeUnit) (value degradedMs : Nat) : AgeUnit :=
  if u.cnt < 23 then { u with cnt := u.cnt + 1, sum := u.sum + value }
  else
    let day := u.sum + value
    let last := match u.means with | (a, _) :: _ => a | [] => 0
    let age := last + 86400000 + (if u.mon.heat then degradedMs - u.extra else 0)
    { u with cnt := 0, sum := 0, extra := degradedMs, means := ((age, day) :: u.means).take 90,
             first := if u.means = [] then day else u.first }

def execAgeSample (mon : Monitor) (value : Nat) (s : State) : Out :=
  .next (s.modTack (fun t => t.setAge ((t.ageOf mon).sample value s.pwr.degradedMs)))

/-- Sums for a least-squares line through points (x, y): n, Σx, Σy, Σxy, Σx². -/
def lsSums (l : List (Nat × Nat)) : Int × Int × Int × Int × Int :=
  l.foldl (fun a p => let x : Int := p.1; let y : Int := p.2; (a.1 + 1, a.2.1 + x, a.2.2.1 + y, a.2.2.2.1 + x * y, a.2.2.2.2 + x * x)) (0, 0, 0, 0, 0)

/-- Days until the line reaches the limit: whole days, 0 at the limit, 0xFFFF for a line that never reaches it or for fewer than
14 days of data (DESIGN CHOICE, log 55). -/
def AgeUnit.predict (u : AgeUnit) (extraLimit : Bool) : Nat :=
  let lim : Int := u.mon.limit * 24
  match u.means with
  | [] => if extraLimit then 0 else 0xFFFF
  | (now, y) :: _ =>
    let y : Int := y
    let at_ : Bool := if u.mon.falls then decide (y ≤ lim) else decide (lim ≤ y)
    if extraLimit || at_ then 0
    else if u.means.length < 14 then 0xFFFF
    else
      let (n, sx, sy, sxy, sxx) := lsSums u.means
      let num := n * sxy - sx * sy
      let den := n * sxx - sx * sx
      if den ≤ 0 ∨ (u.mon.falls ∧ 0 ≤ num) ∨ (!u.mon.falls ∧ num ≤ 0) then 0xFFFF
      else
        -- The line is y = (sy × den + num × (n × x − sx)) / (n × den); it meets `lim` at x = (lim × n − sy) × den / (n × num) + sx / n.
        let left := ((lim * n - sy) * den + (sx - (now : Int) * n) * num) / (n * num)
        if left ≤ 0 then 0 else min 0xFFFF (left / 86400000).toNat

/-- Remaining distance to the limit, in thousandths of the range from a new unit to it (DESIGN CHOICE, log 55). -/
def AgeUnit.marginOf (u : AgeUnit) : Nat :=
  match u.means with
  | [] => 1000
  | (_, y) :: _ =>
    let lim := u.mon.limit * 24
    let new := if u.mon.falls then u.first else u.mon.fresh * 24
    if u.mon.falls then (if new ≤ lim then 0 else (y - lim) * 1000 / (new - lim))
    else (lim - y) * 1000 / (lim - new)

/-- A loft channel with at most 1% of its reserve blocks left is at its limit (R316, R547). -/
def State.ageLimit (s : State) : Monitor → Bool
  | .nand f => decide ((s.loftChan f).reserve * 100 ≤ 9024)
  | _ => false

/-- AGE_PREDICT: once a day; below WARN_DAYS a notice, and in hardware mode a channel or lane spared (R548) (DESIGN CHOICE, log 55). -/
def State.agePredict (s : State) (m : Monitor) : State :=
  let u := s.tack.ageOf m
  let d := u.predict (s.ageLimit m)
  let s := s.modTack (fun t => t.setAge { u with days := d, margin := u.marginOf })
  let (kind, id, sub) := m.unitOf
  if fld (s.dcsr 0x48) 15 0 ≤ d then s
  else
    let s := s.spareNeeded kind id d
    if s.hostMode 5 || s.hostMode 6 then s
    else
      match m with
      | .dram ch =>
        match s.spareChan (ch / 34) with
        | some t => if (s.chan ch).state = 0 then s.startMig (ch / 34) (ch % 34) t else s
        | none => s
      | .eye p _ => if (s.port p).state = .up ∧ !(s.port p).spareUsed then s.laneFail p sub else s
      | _ => s

def execAgePredict (mon : Monitor) (s : State) : Out := .next (s.agePredict mon)

/-- Units in ascending DAYS order. -/
def insertAge (u : AgeUnit) : List AgeUnit → List AgeUnit
  | [] => [u]
  | x :: l => if u.days < x.days then u :: x :: l else x :: insertAge u l
def Tack.byDays (t : Tack) : List AgeUnit := t.age.foldl (fun l u => insertAge u l) []

/-- TACK_AGE_MIN. -/
def State.ageMin (s : State) : Word :=
  match s.tack.byDays with
  | u :: _ => place 15 0 u.days ||| place 23 16 u.mon.unitOf.1 ||| place 63 32 u.mon.unitOf.2.1
  | [] => 0xFFFF

/-- Class 3 of TELE_READ (R549). -/
def State.ageRecord (s : State) : List Byte :=
  let l := s.tack.byDays.take 117
  leBytes 2 l.length ++ leBytes 2 0 ++ l.flatMap (fun u =>
    leBytes 1 u.mon.unitOf.1 ++ leBytes 1 0 ++ leBytes 2 u.mon.unitOf.2.2 ++ leBytes 4 u.mon.unitOf.2.1 ++ leBytes 2 u.days ++ leBytes 2 u.margin)

/-! ### Lanes, ports and host modules -/

/-- LANE_LOSS_OF_LOCK: a lane is failing; a second one within 1 µs puts the port DOWN (R323, R325). -/
def State.lossOfLock (s : State) (p l : Nat) (second : Option Nat) : State :=
  let x := s.port p
  let unlock := fun (x : Port) (l : Nat) => { x with lanes := Map.mod (fun _ => ({} : Lane)) x.lanes l (fun y => { y with lock := false, failed := true }) }
  let recent : Bool := match x.lossAt with | some (k, t) => decide (k ≠ l ∧ s.clk < t + 2500) | none => false
  let x := unlock x l
  let x := match second with | some k => unlock x k | none => x
  let s := s.setPort p { x with lossAt := some (l, s.clk) }
  if x.carries && (second.isSome || recent) then s.portDown p 0 else s.laneFail p l

def execLaneLossOfLock (port lane : Nat) (second : Option Nat) (s : State) : Out := .next (s.lossOfLock port lane second)

/-- LINK_SIGNAL_DETECT: a listening port starts its attempts (R512). -/
def execLinkSignalDetect (port : Nat) (s : State) : Out :=
  .next (let x := s.port port
    if x.state = .training ∧ x.listening then s.setPort port { x with listening := false, attempts := 0 } else s)

/-- HOST_MODULE_INSERT (R25): above 12 W, or of no supported PMD, a module stays in low-power mode as unsupported. -/
def execHostModuleInsert (port pmd watts : Nat) (s : State) : Out :=
  .next (let ok := decide (1 ≤ pmd ∧ pmd ≤ 5 ∧ watts ≤ 12)
    s.setHport port { s.hport port with pmd := if ok then pmd else 15, state := if ok then 1 else 0 })

/-- HOST_PORT_LINK_CHANGE (R503): 0 down, 1 training, 2 up; a module that is not supported is never brought up. -/
def execHostPortLinkChange (port state : Nat) (s : State) : Out :=
  .next (let x := s.hport port
    if state = 0 ∨ (state ≤ 2 ∧ 1 ≤ x.pmd ∧ x.pmd ≤ 5) then s.setHport port { x with state := state } else s)

end Sys2Proof.Machine
end

