-- ==== Sys2Proof/Machine/RegWrite.lean ====
section
/-! DEFINITION. Register access: every register as it reads, and what a write of it does (R4 to R8, R13, R571, and the register
tables of the chapters). -/

namespace Sys2Proof.Machine

/-! ### Stall registers -/

/-- STALL_QSTATq, and the other registers of a queue (R138). -/
def State.queueReg (s : State) (ps q o : Nat) : Word :=
  let x := s.queue ps q
  match o with
  | 0x00 => place 2 0 (qstateNum (s.queueState ps q)) ||| place 7 4 x.lists.length |||
      place 13 8 (if q = 2 ∨ q = 4 then 0 else (s.stall ps).slotsOf q)
  | 0x08 => BitVec.ofNat 64 x.issued
  | 0x10 => BitVec.ofNat 64 x.done
  | 0x20 => x.pos
  | 0x28 => place 15 0 x.fstatus.toNat ||| place 31 16 x.fcmd
  | 0x30 => BitVec.ofNat 64 x.faddr
  | _ => 0

/-- The value of a stall register (DESIGN CHOICE, log 61). -/
def State.stallView (s : State) (ps o : Nat) : Word :=
  let t := s.stall ps
  if o < 0x140 then s.queueReg ps (o / 0x40) (o % 0x40)
  else if 0x1000 ≤ o ∧ o < 0x1200 then
    let r := (o - 0x1000) / 0x20
    match o % 0x20 with
    | 0x00 => t.tstat r
    | 0x08 => t.tprog r
    | 0x10 => place 63 0 (t.treg r).mask.toNat
    | 0x18 => place 63 0 ((t.treg r).mask.toNat / 2 ^ 64)
    | _ => 0
  else
    match o with
    | 0x208 => place 5 0 (48 - t.slots.length) ||| place 13 8 (t.slotsOf 0) ||| place 21 16 (t.slotsOf 1) ||| place 29 24 (t.slotsOf 3)
    | 0x248 => t.dbStat
    | 0x1220 => match t.bank with | some b => place 0 0 1 ||| place 6 1 b | none => 0
    | 0x1400 => t.arr.stat
    | 0x1408 => place 63 0 t.arr.vrow.toNat
    | 0x1410 => place 63 0 (t.arr.vrow.toNat / 2 ^ 64)
    | 0x1908 => t.objWord (s.syncSel ps)
    | 0x1910 => place 15 0 (t.obj (s.syncSel ps)).tenant
    | 0x1920 => t.syncStat
    | 0x1A00 => s.trPass ps
    | 0x1B08 => t.pwrStat
    | _ => s.scsr ps o

/-- Registers that a TASK access may reach inside its window: STALL_TR_LGRP, and the counters for a load under USER_RD (R433, R568). -/
def State.taskReg (s : State) (ps o : Nat) (write : Bool) : Bool :=
  decide (o = 0x1A28) || (!write && bit (s.scsr ps 0x1C00) 1 &&
    decide (o = 0x1C08 ∨ o = 0x1C10 ∨ (0x1C40 ≤ o ∧ o < 0x1CC0 ∧ o % 0x10 = 8)))

/-- A read: PRIVILEGE, then the value; what is not listed reads zero (R8, R138). -/
def State.stallRegRead (s : State) (priv : Priv) (dwin : Bool) (ps o : Nat) : State × Status × Word :=
  if priv = .task && !(dwin && s.taskReg ps o false) then (s, St.privilege, 0)
  else match findReg stallRegs o with
    | none => (s, St.ok, 0)
    | some k =>
      let v := s.stallView ps o
      (if k.rc = 0 then s else (s.setScsr ps o (k.afterRead (s.scsr ps o))).rearm, St.ok, v)

/-- A write of a stall register that has no rule of its own. -/
def State.stallPlain (s : State) (priv : Priv) (ps o : Nat) (v : Word) : State × Status :=
  if priv = .task then (s, St.privilege)
  else match findReg stallRegs o with
    | none => (s, St.ok)
    | some k => ((s.setScsr ps o (k.afterWrite (s.scsr ps o) v)).rearm, St.ok)

/-- A write of a stall register. -/
def State.stallRegWrite (s : State) (priv : Priv) (dwin : Bool) (ps o : Nat) (v : Word) : State × Status :=
  if priv = .task ∧ dwin ∧ s.taskReg ps o true then s.stallPlain .kernel ps o v
  else if o < 0x140 ∧ o % 0x40 = 0x18 then s.queueCtl priv ps (o / 0x40) v.toNat
  else if 0x300 ≤ o ∧ o < 0x400 then s.evWrite priv ps ((o - 0x300) / 8) v 0
  else if 0x1000 ≤ o ∧ o < 0x1200 ∧ o % 0x20 = 8 then s.tprogWrite priv ps ((o - 0x1000) / 0x20) v
  else if 0x1C40 ≤ o ∧ o < 0x1CC0 ∧ o % 0x10 = 0 then s.perfCfg priv ps ((o - 0x1C40) / 0x10) v
  else
    match o with
    | 0x200 => s.slotCfg priv ps v
    | 0x240 => s.doorbellWrite priv ps v
    | 0x1420 => s.arrMapWrite priv ps v
    | 0x1908 => s.syncObjWrite priv ps v
    | 0x1910 => s.syncOwnWrite priv ps v
    | 0x1A00 => s.trPassWrite priv ps v
    | 0x1A08 => s.trStreamWrite priv ps v
    | 0x1A10 => s.trStepWrite priv ps v
    | 0x1A30 => if bit v 0 then s.trFlush priv ps else s.stallPlain priv ps o v
    | 0x1C00 => s.perfCtl priv ps v
    | _ => s.stallPlain priv ps o v

/-! ### Device registers -/

/-- The oldest log entry of a shed (R310). -/
def State.elogInfo (s : State) (n : Nat) : Word :=
  let d := s.shed n
  (match d.elog with
    | e :: _ => place 15 0 e.status.toNat ||| place 21 16 e.chan ||| place 24 24 (b2n e.loft) ||| place 25 25 (b2n e.scrub) ||| place 31 31 1
    | [] => 0) ||| place 47 32 d.lost

/-- A SHED register (R310, R316). -/
def State.shedView (s : State) (n o : Nat) : Word :=
  if 0x100 ≤ o ∧ o < 0x430 ∧ (o - 0x100) % 0x18 = 0 then
    let c := s.chan (n * 34 + (o - 0x100) / 0x18)
    place 2 0 c.state ||| place 12 8 (if c.state = 0 ∨ c.state = 2 ∨ c.state = 7 then c.lc else 0)
  else if 0x500 ≤ o ∧ o < 0x520 then
    let c := s.loftChan (n * 4 + (o - 0x500) / 8)
    place 1 0 c.state ||| place 31 16 c.reserve
  else
    match o with
    | 0x00 => place 0 0 (b2n s.slowMem) ||| place 5 4 (s.capLog2 - 36) ||| place 9 8 n
    | 0x28 => place 0 0 (b2n s.xinv.isSome)
    | 0x48 => let m := (s.shed n).mig; place 0 0 (b2n m.active) ||| place 29 4 m.units ||| place 47 32 m.end_.toNat
    | 0x50 => match (s.shed n).elog with | e :: _ => BitVec.ofNat 64 e.addr | [] => 0
    | 0x58 => s.elogInfo n
    | 0x618 => place 31 0 s.ljHead
    | _ => s.dcsr ((if o = 0x08 ∨ o = 0x10 ∨ o = 0x18 ∨ o = 0x30 ∨ o = 0x38 then shedBase 0 else shedBase n) + o)

/-- HOSTIF_PORTn and HOSTIF_SESS (R503). -/
def HPort.reg (x : HPort) : Word := place 1 0 x.state ||| place 7 4 x.pmd ||| place 8 8 (b2n x.paused)
def State.sessCount (s : State) (mgmt : Bool) : Nat := (s.sess.filter (fun p => match p.2 with | some d => d.mgmt == mgmt | none => false)).length
/-- DEDUCED, log 7. -/
def State.cpUsed (s : State) : Nat := s.cpq.length + s.longs.length
def State.sessReg (s : State) : Word :=
  place 6 0 (s.sessCount false + s.sessCount true) ||| place 11 8 (s.sessCount true) ||| place 24 16 s.cpUsed

/-- The value of a register of device CSR space (DESIGN CHOICE, log 61). -/
def State.devView (s : State) (b : DevBlk) (a o : Nat) : Word :=
  match b with
  | .tack =>
    if 0x20 ≤ o ∧ o < 0x40 then s.elogWord ((o - 0x20) / 8)
    else if 0x100 ≤ o ∧ o < 0x200 then
      let m : BitVec 256 := Map.get (fun _ => 0) s.tack.meas ((o - 0x100) / 0x20)
      BitVec.ofNat 64 (m.toNat / 2 ^ (64 * (o % 0x20 / 8)))
    else match o with
      | 0x00 => s.tackStat
      | 0x10 => s.elogStat
      | 0x40 => s.paddock
      | 0x50 => s.ageMin
      | 0x58 => place 31 0 s.tack.svn ||| place 63 32 s.tack.minsvn
      | _ => s.dcsr a
  | .shed n => s.shedView n o
  | .gate n => if o = 0x20 then s.gateStat n else if o = 0x18 then Map.get zeroW s.routes (fld (s.dcsr (gateBase n + 0x10)) 13 0) else s.dcsr a
  | .link p =>
    if 0x40 ≤ o ∧ o < 0x88 then ((s.port p).lane ((o - 0x40) / 8)).reg
    else match o with
      | 0x00 => (s.port p).stat
      | 0x38 => (s.port p).creditReg
      | _ => s.dcsr a
  | .comb n =>
    if 0x200 ≤ o ∧ o < 0x280 then s.combRed ((o - 0x200) / 8)
    else match o with
      | 0x00 => s.combStat n
      | 0x118 => place 31 0 s.combHead
      | 0x420 => s.cmtStat
      | 0x428 => s.cmt.res0
      | 0x430 => s.cmt.res1
      | 0x470 => s.ckStat
      | 0x478 => place 47 0 s.cmt.ckLast
      | 0x480 => place 55 0 s.cmt.ckLstep
      | _ => s.dcsr a
  | .intc => if 0x1000 ≤ o then s.srcRead ((o - 0x1000) / 8) else if o = 8 then s.intcStat else if o = 0x10 ∨ o = 0x18 then s.swi else s.dcsr a
  | .sync =>
    if 0x100 ≤ o then
      let k := (o - 0x100) / 0x20
      (match o % 0x20 with
        | 0x00 => s.xbarCfgRead k
        | 0x18 => (s.xbar k).stat
        | _ => s.dcsr a)
    else if o = 0x18 then BitVec.ofNat 64 (s.dldLim (fld (s.dcsr (syncBase + 0x10)) 5 0)) else s.dcsr a
  | .pwr =>
    match o with
    | 0x00 => s.pwrStat
    | 0x10 => s.pwrReset
    | 0x28 => s.psStat
    | 0x30 => s.clkStat
    | 0x38 => s.storeStat
    | 0x40 => s.pwrBoot
    | _ => s.dcsr a
  | .arb => match o with
    | 0x00 => s.arbCtl
    | 0x08 => s.arbStat
    | _ => s.dcsr a
  | .hostif => match o with
    | 0x08 => (s.hport 0).reg
    | 0x10 => (s.hport 1).reg
    | 0x20 => s.sessReg
    | _ => s.dcsr a

/-- What a read of a device register clears or takes: RC fields, the oldest log entry, AUTOINC (R5, R310, R346). -/
def State.devReadEffect (s : State) (b : DevBlk) (a o : Nat) (k : RegKind) : State :=
  match b with
  | .shed n =>
    if o = 0x58 then s.setShed n { s.shed n with elog := (s.shed n).elog.drop 1, lost := 0 }
    else if k.rc = 0 then s else s.setDcsr a (k.afterRead (s.dcsr a))
  | .gate n => if o = 0x18 then (s.routeAccess .kernel n none).1 else if k.rc = 0 then s else s.setDcsr a (k.afterRead (s.dcsr a))
  | _ => if k.rc = 0 then s else (s.setDcsr a (k.afterRead (s.dcsr a))).rearm

/-- A read of device CSR space. -/
def State.devRegRead (s : State) (priv : Priv) (a : Nat) : State × Status × Word :=
  if priv = .task then (s, St.privilege, 0)
  else match devBlk a with
    | none => (s, St.ok, 0)
    | some (b, o) => match findReg b.regs o with
      | none => (s, St.ok, 0)
      | some k => (s.devReadEffect b a o k, St.ok, s.devView b a o)

/-- A write of a device register that has no rule of its own, at KERNEL or TACK. -/
def State.devPlain (s : State) (a : Nat) (k : RegKind) (v : Word) : State × Status :=
  ((s.setDcsr a (k.afterWrite (s.dcsr a) v)).rearm, St.ok)

/-- A ring size: 0, or a power of two from 16 to 4,096 (R316, R403). -/
def ringSizeOk (n : Nat) : Bool := decide (n = 0) || [16, 32, 64, 128, 256, 512, 1024, 2048, 4096].contains n

/-- Registers of every shed (R310), and the loft job ring (DEDUCED, log 7). -/
def State.shedWrite (s : State) (priv : Priv) (n o : Nat) (k : RegKind) (v : Word) : State × Status :=
  match o with
  | 0x08 => s.devPlain (shedBase 0 + o) k v
  | 0x10 => s.devPlain (shedBase 0 + o) k v
  | 0x18 => s.devPlain (shedBase 0 + o) k v
  | 0x20 => s.xinvWrite priv v
  | 0x30 => s.devPlain (shedBase 0 + o) k v
  | 0x38 => if 6 ≤ fld v 7 0 ∧ fld v 7 0 ≤ 168 then s.devPlain (shedBase 0 + o) k v else (s, St.ok)
  | 0x40 => s.migWrite priv n v
  | 0x608 => if ringSizeOk (fld v 12 0) then s.devPlain (shedBase n + o) k v else (s, St.badParam)
  | 0x610 => s.ljTail priv v
  | _ => s.devPlain (shedBase n + o) k v

/-- GATE registers (R346) (DEDUCED, log 7). -/
def State.gateWrite (s : State) (priv : Priv) (n o : Nat) (k : RegKind) (v : Word) : State × Status :=
  if 0x100 ≤ o then
    (if (o - 0x100) % 0x18 = 0x10 then s.rwinWrite priv ((o - 0x100) / 0x18) v
     else (s.setGates o (k.afterWrite (s.dcsr (gateBase 0 + o)) v), St.ok))
  else match o with
    | 0x00 => if priv = .tack then (s.setGates 0 (v &&& 0xBFFF), St.ok) else (s, St.privilege)
    | 0x08 =>
      if fld v 4 0 = 0 ∨ fld v 15 8 < 20 ∨ 30 < fld v 15 8 ∨ fld v 31 24 = 0 then (s, St.badParam)
      else (s.setGates 8 (v &&& 0xFF00FF1F), St.ok)
    | 0x18 => let (t, st, _) := s.routeAccess priv n (some v); (t, st)
    | _ => s.devPlain (gateBase n + o) k v

/-- SYNC registers (R367). -/
def State.syncWrite (s : State) (priv : Priv) (o : Nat) (k : RegKind) (v : Word) : State × Status :=
  if 0x100 ≤ o then s.xbarWrite priv o v
  else match o with
    | 0x08 => s.taskEnd priv v
    | 0x18 => ({ s with dldLimit := Map.set (fun _ => 0x1000) s.dldLimit (fld (s.dcsr (syncBase + 0x10)) 5 0) (fld v 31 0) }, St.ok)
    | _ => s.devPlain (syncBase + o) k v

/-- COMB registers (R403, R461). -/
def State.combWrite (s : State) (priv : Priv) (n o : Nat) (k : RegKind) (v : Word) : State × Status :=
  match o with
  | 0x108 => if ringSizeOk (fld v 12 0) then s.devPlain (combBase n + o) k v else (s, St.badParam)
  | 0x110 => s.ringTail priv v
  | 0x400 => s.cmtCtl priv (fld v 2 0) (bit v 8)
  | _ => if 0x408 ≤ o ∧ o ≤ 0x468 then s.cmtWrite priv o v else s.devPlain (combBase n + o) k v

/-- HOSTIF_VLAN in range (R503). -/
def vlanOk (v : Word) : Bool := decide (1 ≤ fld v 27 16 ∧ fld v 27 16 ≤ 4094 ∧ fld v 38 36 ≠ fld v 34 32)

/-- A write of device CSR space (R13, and the access rule of each block) (DEDUCED, log 6). -/
def State.devRegWrite (s : State) (priv : Priv) (a : Nat) (v : Word) : State × Status :=
  if priv = .task then (s, St.privilege)
  else match devBlk a with
    | none => (s, St.ok)
    | some (b, o) => match findReg b.regs o with
      | none => (s, St.ok)
      | some k =>
        match b with
        | .tack =>
          (match o with
            | 0x18 => s.elogPop priv v
            | 0x48 => if fld v 15 0 < 1 ∨ 3650 < fld v 15 0 then (s, St.badParam) else s.devPlain a k v
            | 0x08 => s.tackCtl priv v
            | _ => if priv = .tack then s.devPlain a k v else (s, St.privilege))
        | .shed n => s.shedWrite priv n o k v
        | .gate n => s.gateWrite priv n o k v
        | .link p =>
          (match o with
            | 0x08 => s.linkCtl priv p v
            | 0x10 => if fld v 3 0 < 3 ∨ 9 < fld v 3 0 then (s, St.badParam) else s.devPlain a k v
            | _ => s.devPlain a k v)
        | .comb n => s.combWrite priv n o k v
        | .intc =>
          (match o with
            | 0x00 => s.intcEoi priv v
            | 0x10 => s.swiWrite priv true v
            | 0x18 => s.swiWrite priv false v
            | _ => s.devPlain a k v)
        | .sync => s.syncWrite priv o k v
        | .pwr =>
          (match o with
            | 0x18 => s.capHostWrite priv v
            | 0x20 => s.psCfgWrite priv v
            | _ => if priv = .tack then s.devPlain a k v else (s, St.privilege))
        | .arb =>
          (match o with
            | 0x00 => s.arbFreeze priv v
            | 0x10 => s.arbTickets priv 0 v
            | 0x18 => s.arbTickets priv 1 v
            | 0x20 => s.arbTickets priv 2 v
            | 0x28 => s.arbSeed priv v
            | _ => if priv = .tack then s.devPlain a k v else (s, St.privilege))
        | .hostif =>
          if priv ≠ .tack then (s, St.privilege)
          else if o = 0x18 ∧ !vlanOk v then (s, St.badParam)
          else s.devPlain a k v

/-! ### Any register (R571) -/

/-- Whether a register page answers: a stall's own pages wait while it is not in RUN (R530) (DESIGN CHOICE, log 8). -/
def State.regAwake (s : State) : Region → Bool
  | .scsr ps _ => decide ((s.stall ps).pstate = .run)
  | .gpage gi _ => decide ((s.stall (gi / 16)).pstate = .run)
  | .npage _ _ => !s.pwr.deep
  | _ => true

/-- A register read at an 8-byte-aligned place of a region (DEDUCED, log 6). -/
def State.regRead (s : State) (priv : Priv) (dwin : Bool) : Region → State × Status × Word
  | .scsr ps o => s.stallRegRead priv dwin ps o
  | .gpage gi o => let (st, v) := s.groomPageRead priv gi o; (s, st, v)
  | .npage gi o => s.netPageRead priv gi o
  | .dev o => s.devRegRead priv o
  | _ => (s, St.unsupported, 0)

/-- DEDUCED, log 6. -/
def State.regWrite (s : State) (priv : Priv) (dwin : Bool) (v : Word) : Region → State × Status
  | .scsr ps o => s.stallRegWrite priv dwin ps o v
  | .gpage gi o => s.groomPageWrite priv gi o v
  | .npage gi o => s.netPageWrite priv gi o v
  | .dev o => s.devRegWrite priv o v
  | _ => (s, St.unsupported)

/-- The same region at the start of the register that holds its offset. -/
def Region.aligned : Region → Region
  | .scsr ps o => .scsr ps (o / 8 * 8)
  | .gpage gi o => .gpage gi (o / 8 * 8)
  | .npage gi o => .npage gi (o / 8 * 8)
  | .dev o => .dev (o / 8 * 8)
  | r => r

/-- A read of any length: inside one register, the addressed bytes; across registers, UNSUPPORTED. None while the page sleeps (DEDUCED, log 6). -/
def State.csrRead (s : State) (priv : Priv) (dwin : Bool) (addr len : Nat) : Option (State × Status × List Byte) :=
  match localRegion addr with
  | none => some (s, St.memRange, [])
  | some r =>
    if !s.regAwake r then none
    else
      let (t, st, v) := s.regRead priv dwin r.aligned
      if st = St.privilege then some (s, st, [])
      else if len = 0 ∨ 8 < addr % 8 + len then some (s, St.unsupported, [])
      else if st ≠ St.ok then some (s, st, [])
      else some (t, st, ((leBytes 8 v.toNat).drop (addr % 8)).take len)

/-- A write: 8 bytes at a register, or UNSUPPORTED (DEDUCED, log 6). -/
def State.csrWrite (s : State) (priv : Priv) (dwin : Bool) (addr len : Nat) (v : Word) : Option (State × Status) :=
  match localRegion addr with
  | none => some (s, St.memRange)
  | some r =>
    if !s.regAwake r then none
    else
      let (t, st) := s.regWrite priv dwin v r.aligned
      if st = St.privilege then some (s, st)
      else if len ≠ 8 ∨ addr % 8 ≠ 0 then some (s, St.unsupported)
      else some (t, st)

def execRegisterWrite (priv : Priv) (addr len : Nat) (v : Word) (s : State) : Out :=
  .next (match s.csrWrite priv false addr len v with | some (t, st) => t.respond st | none => s)

/-! ### Registers that a read clears, with rows of their own -/

/-- A read of a device register by its address. -/
def State.readReg (s : State) (priv : Priv) (a : Nat) : State := let (t, st, v) := s.devRegRead priv a; t.respond st v

def execElogInfoRead (priv : Priv) (shed : Nat) (s : State) : Out := .next (s.readReg priv (shedBase shed + 0x58))
def execChceRead (priv : Priv) (shed i : Nat) (s : State) : Out := .next (s.readReg priv (shedBase shed + 0x108 + i * 0x18))
def execChueRead (priv : Priv) (shed i : Nat) (s : State) : Out := .next (s.readReg priv (shedBase shed + 0x110 + i * 0x18))
def execMcRecRead (priv : Priv) (n : Nat) (s : State) : Out := .next (s.readReg priv (gateBase n + 0x30))
def execTmoCntRead (priv : Priv) (n : Nat) (s : State) : Out := .next (s.readReg priv (gateBase n + 0x38))
def execRnrCntRead (priv : Priv) (n : Nat) (s : State) : Out := .next (s.readReg priv (gateBase n + 0x40))
def execLinkReplayRead (priv : Priv) (n : Nat) (s : State) : Out := .next (s.readReg priv (linkBase n + 0x20))
def execFecCeRead (priv : Priv) (n : Nat) (s : State) : Out := .next (s.readReg priv (linkBase n + 0x28))
def execFecUeRead (priv : Priv) (n : Nat) (s : State) : Out := .next (s.readReg priv (linkBase n + 0x30))
def execAuthfailCntRead (priv : Priv) (s : State) : Out := .next (s.readReg priv (hostifBase + 0x30))
def execRxdropCntRead (priv : Priv) (s : State) : Out := .next (s.readReg priv (hostifBase + 0x38))

end Sys2Proof.Machine
end

