-- ==== Sys2Proof/Machine/Deliver.lean ====
section
/-! DEFINITION. Packets at the end of their way through the mesh: endpoints, register pages, and the gates' acceptance of global
requests (R43, R47, R50, R331, R337, R341, R343). -/

namespace Sys2Proof.Machine

/-! ### Byte runs -/

/-- Contiguous runs of the byte lanes that a request accesses, as offset and length (R70) (DESIGN CHOICE, log 35). -/
def runsOf (m : Option Nat) (len : Nat) : List (Nat × Nat) :=
  match m with
  | none => if len = 0 then [] else [(0, len)]
  | some k => ((List.range len).filter (fun i => k.testBit i)).foldl (fun l i =>
      match l with
      | (o, n) :: l => if i = o + n then (o, n + 1) :: l else (i, 1) :: (o, n) :: l
      | [] => [(i, 1)]) [] |>.reverse

/-- Put bytes into a byte list at a place. -/
def overlay (l : List Byte) (at_ : Nat) (bs : List Byte) : List Byte := l.take at_ ++ bs ++ l.drop (at_ + bs.length)

/-! ### Units that answer at delivery -/

/-- The debug view of tile storage (R141). -/
def State.tileAccess (s : State) (id : Nat) (r : Req) (ps off : Nat) : State :=
  match r.op with
  | .read =>
    let (s, st, data) := (runsOf r.mask r.len).foldl (fun (p : State × Status × List Byte) x =>
      if p.2.1 ≠ St.ok then p
      else
        let (t, st, bs) := p.1.tileDbgRead ps (off + x.1) x.2 .clean
        (t, st, overlay p.2.2 x.1 bs)) (s, St.ok, List.replicate r.len 0)
    s.answer id r st (if st = St.ok then data else [])
  | _ =>
    let (s, st) := s.tileDbgWrite ps off (lanesOf r.mask (r.data.take r.len))
    s.answer id r st []

/-- A register page (R571). Its stall wakes first (R530). -/
def State.pageAccess (s : State) (id : Nat) (r : Req) : State :=
  let dwin := decide (r.dwinLo ≤ r.addr ∧ r.addr < r.dwinHi)
  match r.op with
  | .read =>
    match s.csrRead r.priv dwin r.addr r.len with
    | some (t, st, bs) => t.answer id r st bs
    | none => s
  | _ =>
    match s.csrWrite r.priv dwin r.addr r.len (BitVec.ofNat 64 (leNat (r.data.take 8))) with
    | some (t, st) => t.answer id r st []
    | none => s

/-! ### The gate takes a global request (R331, R337, R341, R343) -/

/-- Gate behind an edge node (R44). -/
def gateAt (p : Nat) : Nat := p / 64 / 36 * 2 + p % 64 / 32

/-- AMOP of R327. -/
def AmoOp.code (op : AmoOp) : Nat :=
  match op with
  | .addW => 0 | .addD => 1 | .swapW => 2 | .swapD => 3 | .casW => 4 | .casD => 5

/-- The link packet of one run of a request. -/
def Req.packet (r : Req) (run : Nat × Nat) : Packet :=
  let base : Packet :=
    { typ := match r.op with | .read => 1 | .write => 2 | .amo _ => 3
      priv := r.priv, dst := bits r.addr 62 49, src := 0, addr := (r.addr + run.1) % 2 ^ 49
      len := match r.op with | .amo _ => r.data.length | _ => run.2
      group := Config.requestGroup r.task r.tenant % 65536
      amop := match r.op with | .amo op => op.code | _ => 0
      data := match r.op with | .read => [] | .write => (r.data.drop run.1).take run.2 | .amo _ => r.data }
  match r.sig with
  | none => base
  | some g => { base with xfer := g.xfer % 65536, pkt := g.pkt, trk := true, last := g.last, sigaddr := g.sigaddr,
                          sigval := BitVec.ofNat 64 g.sigval }

/-- Another request of the same transfer that has not been sent yet: LAST follows it (R341). -/
def State.lastHeld (s : State) (id : Nat) (r : Req) : Bool :=
  match r.sig with
  | some g => g.last && s.reqs.any (fun e => match e.2 with
      | some o => decide (e.1 ≠ id ∧ o.src.ps = r.src.ps) &&
          decide (o.phase = .issued ∨ o.phase = .walking ∨ o.phase = .mesh) &&
          (match o.sig with | some h => decide (h.xfer = g.xfer) | none => false)
      | none => false)
  | none => false

/-- Free tracker entries of a gate. -/
def Gate.freeTags (g : Gate) : Nat := 8192 - g.entries.length

/-- A multicast write: one copy to each target; its slot is released at once (R343) (DESIGN CHOICE, log 35). -/
def State.mcastAccept (s : State) (n id : Nat) (r : Req) (g : Sig) : State :=
  match r.src with
  | .slot ps slot =>
    let q := (((s.stall ps).slots.find? (fun e => e.1 = slot)).map (·.2.1)).getD 1
    let where_ := (s.queue ps q).partOf slot
    let s := (s.freeSlot ps slot).setReq id none
    let s := match where_ with
      | some (ci, k) => (s.modPart ps q ci k (fun p => { p with st := .issued 255 })).modCtx ps q ci
          (fun c => { c with mcOut := c.mcOut + g.targets.length })
      | none => s
    let s := g.targets.foldl (fun s d =>
      s.gateSubmit n (.copy ps g.xfer g.pkt d) { r.packet (0, r.len) with dst := d }) s
    s.kickAll ps
  | _ => s

/-- A global request at its gate. A full tracker or retention buffer holds it in the mesh (DESIGN CHOICE, log 35). -/
def State.gateAccept (s : State) (n id : Nat) (r : Req) : State :=
  let runs := runsOf r.mask r.len
  if !s.devidValid then s.answer id r St.linkNoRoute []
  else if s.lastHeld id r then s
  else if r.op.isWrite ∧ 8192 ≤ (s.gate n).retained then s
  else
    match r.sig with
    | some g =>
      if g.mcast then (if (s.gate n).freeTags < g.targets.length then s else s.mcastAccept n id r g)
      else if (s.gate n).freeTags = 0 then s
      else (s.setReq id (some { r with phase := .global })).gateSubmit n (.req id) (r.packet (0, r.len))
    | none =>
      if (s.gate n).freeTags < runs.length then s
      else
        let s := s.setReq id (some { r with phase := .global, status := St.ok,
                                             data := if r.op = .read then List.replicate r.len 0 else r.data })
        runs.foldl (fun s x => s.gateSubmit n (.req id) (r.packet x)) s

/-! ### Delivery -/

/-- An older packet of the same requester on its way to the same node goes first (R47) (DEDUCED, log 21). -/
def State.olderOnWay (s : State) (r : Req) : Bool :=
  s.reqs.any (fun e => match e.2 with
    | some o => decide (o.phase = .mesh ∧ o.inj < r.inj ∧ o.path.getLast? = r.path.getLast?) &&
        decide (o.src = r.src ∨ s.owner o.src = s.owner r.src ∧ (s.owner r.src).1 = 0)
    | none => false)

/-- A request at its destination. The checks follow the order of R58. -/
def State.deliverReq (s : State) (id : Nat) (r : Req) : State :=
  let p := r.path.getLastD 0
  let n := s.nodeAt p
  let n1 := s.reqs.foldl (fun k e => match e.2 with | some o => max k o.inj | none => k) 0
  let stop := fun (st : Status) => s.answer id { r with status := 0 } st []
  if s.olderOnWay r then s
  else if isGlobal r.addr then
    (if r.status = St.netFlitUe then stop St.netFlitUe else s.gateAccept (gateAt p) id r)
  else
    match localRegion r.addr with
    | some (.npage _ _) => if r.status = St.netFlitUe then stop St.netFlitUe else s.pageAccess id r
    | some (.scratch _ _) =>
      if n.shut r.priv then stop St.netDestFenced
      else if r.status = St.netFlitUe then stop St.netFlitUe
      else s.setReq id (some { r with phase := .endpoint, inj := n1 + 1 })
    | some (.main _) =>
      if r.status = St.netFlitUe then stop St.netFlitUe else s.setReq id (some { r with phase := .endpoint, inj := n1 + 1 })
    | some (.loft _) =>
      if r.status = St.netFlitUe then stop St.netFlitUe else s.setReq id (some { r with phase := .endpoint, inj := n1 + 1 })
    | some (.tile ps off) =>
      if n.shut r.priv then stop St.netDestFenced
      else if r.status = St.netFlitUe then stop St.netFlitUe
      else if (s.stall ps).pstate ≠ .run then s
      else s.tileAccess id r ps off
    | some (.dev _) => if r.status = St.netFlitUe then stop St.netFlitUe else s.pageAccess id r
    | _ =>
      if n.shut r.priv then stop St.netDestFenced
      else if r.status = St.netFlitUe then stop St.netFlitUe
      else s.pageAccess id r

/-- A response at its requester's port: a fenced port discards it (R50). -/
def State.deliverRsp (s : State) (id : Nat) (r : Req) : State :=
  if r.src = .gone then s.setReq id none
  else if (s.nodeAt (r.path.headD 0)).shut r.priv then s.setReq id (some { r with phase := .lost })
  else s.setReq id (some { r with phase := .arrived, data := if r.status = St.ok then r.data else [] })

/-- NET_DELIVER: a packet that has come to the end of its way (DESIGN CHOICE, log 17). -/
def execNetDeliver (req : Nat) (s : State) : Out :=
  .next (match s.req req with
    | some r =>
      if r.phase = .mesh ∧ r.pos + 1 = r.path.length then (s.deliverReq req r).rearm
      else if r.phase = .back ∧ r.pos = 0 then s.deliverRsp req r
      else s
    | none => s)

end Sys2Proof.Machine
end

