-- ==== Sys2Proof/Machine/GroomVec.lean ====
section
/-! DEFINITION. The integer vector, predicate, permutation and vector memory instructions (R66 to R79). -/

namespace Sys2Proof.Machine

/-! ### Lanes and predicates -/

/-- Element width in bits of an integer EW code (R78). -/
def ewBits (ew : BitVec 2) : Nat := 8 * 2 ^ ew.toNat

/-- Lane i of width w bits. -/
def laneAt (v : BitVec 512) (w i : Nat) : Nat := (v.toNat >>> (i * w)) % 2 ^ w

/-- A register whose lane i, of width w bits, is the i-th number. -/
def laneSum (w : Nat) : List Nat → Nat
  | [] => 0
  | a :: as => a % 2 ^ w + laneSum w as * 2 ^ w
def ofLanes (w : Nat) (l : List Nat) : BitVec 512 := BitVec.ofNat 512 (laneSum w l)

/-- Whether element i of width w bits is active under a predicate (R66). -/
def active (p : Word) (w i : Nat) : Bool := p.getLsbD (i * (w / 8))

/-- A predicate whose element i, of width w bits, has every bit equal to f i (R66). -/
def predOf (w : Nat) (f : Nat → Bool) : Word :=
  BitVec.ofNat 64 (((List.range 64).map (fun b => if f (b / (w / 8)) then 2 ^ b else 0)).foldl (· + ·) 0)

/-- New lanes for VD: active lanes from `f`, which may read the old lane, with flags; the rest keep their values (R67).
`rd` says that active lanes read VD. -/
def Groom.vlanes (g : Groom) (vd : Nat) (pg : BitVec 3) (w : Nat) (rd : Bool) (f : Nat → Nat → Nat × Nat) : IRes :=
  let p := g.rp pg.toNat
  let idx := List.range (512 / w)
  let go := fun old =>
    let rs := idx.map (fun i => if active p w i then f i (laneAt old w i) else (laneAt old w i, 0))
    IRes.ok { writes := [.v vd (ofLanes w (rs.map (·.1)))], flags := rs.foldl (fun a r => a ||| r.2) 0 }
  if rd || idx.any (fun i => !active p w i) then need (g.rv vd) go else go 0

/-- Format V with VA and VB: VD lane = op(width, VA lane, VB lane). -/
def State.vecAB (s : State) (gi : Nat) (f : FmtV) (op : Nat → Nat → Nat → Nat) : State :=
  s.issue gi (fun g => need (g.rv f.va.toNat) (fun a => need (g.rv f.vb.toNat) (fun b =>
    let w := ewBits f.ew
    g.vlanes f.vd.toNat f.pg w false (fun i _ => (op w (laneAt a w i) (laneAt b w i), 0)))))

/-- A predicate result: inactive elements are 0 (R67). VD above 7 names no predicate register. -/
def Groom.predRes (g : Groom) (f : FmtV) (w word : Nat) (r : Nat → Bool) : IRes :=
  if 8 ≤ f.vd.toNat then .illegal word
  else .ok { writes := [.p f.vd.toNat (predOf w (fun i => active (g.rp f.pg.toNat) w i && r i))] }

def State.vcmp (s : State) (gi : Nat) (f : FmtV) (fn : Nat) (c : Nat → Nat → Nat → Bool) : State :=
  s.issue gi (fun g =>
    let w := ewBits f.ew
    if 8 ≤ f.vd.toNat then .illegal (wordV f 0x28 fn)
    else need (g.rv f.va.toNat) (fun a => need (g.rv f.vb.toNat) (fun b =>
      g.predRes f w (wordV f 0x28 fn) (fun i => c w (laneAt a w i) (laneAt b w i)))))

/-- Predicate logic: PG is ignored. -/
def State.predLogic (s : State) (gi : Nat) (f : FmtV) (fn : Nat) (op : Word → Word → Word) : State :=
  s.issue gi (fun g =>
    if 8 ≤ f.vd.toNat ∨ 8 ≤ f.va.toNat ∨ 8 ≤ f.vb.toNat then .illegal (wordV f 0x28 fn)
    else .ok { writes := [.p f.vd.toNat (op (g.rp f.va.toNat) (g.rp f.vb.toNat))] })

/-- Saturation to the signed and the unsigned range of a lane. -/
def satS (w : Nat) (i : Int) : Nat := ofSigned w (max (-(2 ^ (w - 1))) (min (2 ^ (w - 1) - 1) i))
def satU (w : Nat) (n : Nat) : Nat := min (2 ^ w - 1) n

/-! ### Arithmetic -/

def execVadd (gi : Nat) (f : FmtV) (s : State) : Out := .next (s.vecAB gi f (fun _ a b => a + b))
def execVsub (gi : Nat) (f : FmtV) (s : State) : Out := .next (s.vecAB gi f (fun w a b => a + (2 ^ w - b)))
def execVmul (gi : Nat) (f : FmtV) (s : State) : Out := .next (s.vecAB gi f (fun _ a b => a * b))
def execVmulh (gi : Nat) (f : FmtV) (s : State) : Out :=
  .next (s.vecAB gi f (fun w a b => ofSigned w (toSigned w a * toSigned w b / 2 ^ w)))
def execVmulhu (gi : Nat) (f : FmtV) (s : State) : Out := .next (s.vecAB gi f (fun w a b => a * b / 2 ^ w))
def execVmin (gi : Nat) (f : FmtV) (s : State) : Out :=
  .next (s.vecAB gi f (fun w a b => if toSigned w a < toSigned w b then a else b))
def execVmax (gi : Nat) (f : FmtV) (s : State) : Out :=
  .next (s.vecAB gi f (fun w a b => if toSigned w a < toSigned w b then b else a))
def execVminu (gi : Nat) (f : FmtV) (s : State) : Out := .next (s.vecAB gi f (fun _ a b => min a b))
def execVmaxu (gi : Nat) (f : FmtV) (s : State) : Out := .next (s.vecAB gi f (fun _ a b => max a b))
def execVand (gi : Nat) (f : FmtV) (s : State) : Out := .next (s.vecAB gi f (fun _ a b => a &&& b))
def execVor (gi : Nat) (f : FmtV) (s : State) : Out := .next (s.vecAB gi f (fun _ a b => a ||| b))
def execVxor (gi : Nat) (f : FmtV) (s : State) : Out := .next (s.vecAB gi f (fun _ a b => a ^^^ b))
def execVsll (gi : Nat) (f : FmtV) (s : State) : Out := .next (s.vecAB gi f (fun w a b => a * 2 ^ (b % w)))
def execVsrl (gi : Nat) (f : FmtV) (s : State) : Out := .next (s.vecAB gi f (fun w a b => a / 2 ^ (b % w)))
def execVsra (gi : Nat) (f : FmtV) (s : State) : Out :=
  .next (s.vecAB gi f (fun w a b => ofSigned w (toSigned w a / 2 ^ (b % w))))
def execVsadd (gi : Nat) (f : FmtV) (s : State) : Out :=
  .next (s.vecAB gi f (fun w a b => satS w (toSigned w a + toSigned w b)))
def execVsaddu (gi : Nat) (f : FmtV) (s : State) : Out := .next (s.vecAB gi f (fun w a b => satU w (a + b)))
/-- VSEL writes every lane: VA where PG is active, else VB (R67). -/
def execVsel (gi : Nat) (f : FmtV) (s : State) : Out :=
  .next (s.issue gi (fun g => need (g.rv f.va.toNat) (fun a => need (g.rv f.vb.toNat) (fun b =>
    let w := ewBits f.ew
    let p := g.rp f.pg.toNat
    .ok { writes := [.v f.vd.toNat (ofLanes w ((List.range (512 / w)).map (fun i =>
      if active p w i then laneAt a w i else laneAt b w i)))] }))))
def execVmac (gi : Nat) (f : FmtV) (s : State) : Out :=
  .next (s.issue gi (fun g => need (g.rv f.va.toNat) (fun a => need (g.rv f.vb.toNat) (fun b =>
    let w := ewBits f.ew
    g.vlanes f.vd.toNat f.pg w true (fun i d => (d + laneAt a w i * laneAt b w i, 0))))))

/-! ### Comparisons and predicates -/

def execVcmpeq (gi : Nat) (f : FmtV) (s : State) : Out := .next (s.vcmp gi f 0x00 (fun _ a b => decide (a = b)))
def execVcmplt (gi : Nat) (f : FmtV) (s : State) : Out :=
  .next (s.vcmp gi f 0x01 (fun w a b => decide (toSigned w a < toSigned w b)))
def execVcmpltu (gi : Nat) (f : FmtV) (s : State) : Out := .next (s.vcmp gi f 0x02 (fun _ a b => decide (a < b)))
def execVcmple (gi : Nat) (f : FmtV) (s : State) : Out :=
  .next (s.vcmp gi f 0x03 (fun w a b => decide (toSigned w a ≤ toSigned w b)))
def execPand (gi : Nat) (f : FmtV) (s : State) : Out := .next (s.predLogic gi f 0x08 (· &&& ·))
def execPor (gi : Nat) (f : FmtV) (s : State) : Out := .next (s.predLogic gi f 0x09 (· ||| ·))
def execPxor (gi : Nat) (f : FmtV) (s : State) : Out := .next (s.predLogic gi f 0x0A (· ^^^ ·))
def execPandn (gi : Nat) (f : FmtV) (s : State) : Out := .next (s.predLogic gi f 0x0B (fun a b => a &&& ~~~b))
/-- PFROMX copies the bits of X[VA] that lie in active elements (DEDUCED, log 10). -/
def execPfromx (gi : Nat) (f : FmtV) (s : State) : Out :=
  .next (s.issue gi (fun g =>
    if 8 ≤ f.vd.toNat then .illegal (wordV f 0x28 0x10)
    else need (g.rx f.va.toNat) (fun a =>
      .ok { writes := [.p f.vd.toNat (a &&& predOf (ewBits f.ew) (active (g.rp f.pg.toNat) (ewBits f.ew)))] })))
def execPtox (gi : Nat) (f : FmtV) (s : State) : Out :=
  .next (s.issue gi (fun g =>
    if 8 ≤ f.va.toNat then .illegal (wordV f 0x28 0x11) else .x f.vd.toNat (g.rp f.va.toNat)))
def execPcnt (gi : Nat) (f : FmtV) (s : State) : Out :=
  .next (s.issue gi (fun g =>
    let w := ewBits f.ew
    if 8 ≤ f.va.toNat then .illegal (wordV f 0x28 0x12)
    else .x f.vd.toNat (BitVec.ofNat 64 ((List.range (512 / w)).filter (active (g.rp f.va.toNat) w)).length)))
/-- DEDUCED, log 10. -/
def execPsetn (gi : Nat) (f : FmtV) (s : State) : Out :=
  .next (s.issue gi (fun g =>
    let w := ewBits f.ew
    if 8 ≤ f.vd.toNat then .illegal (wordV f 0x28 0x13)
    else need (g.rx f.va.toNat) (fun a => g.predRes f w (wordV f 0x28 0x13) (fun i => decide (i < a.toNat)))))

/-! ### Moves, permutations and reductions -/

def execVbcast (gi : Nat) (f : FmtV) (s : State) : Out :=
  .next (s.issue gi (fun g => need (g.rx f.va.toNat) (fun a =>
    g.vlanes f.vd.toNat f.pg (ewBits f.ew) false (fun _ _ => (a.toNat, 0)))))
/-- A lane number outside the register reads a free value of the lane's width (DESIGN CHOICE, log 12). -/
def execVext (gi : Nat) (f : FmtV) (s : State) : Out :=
  .next (s.issue gi (fun g => need (g.rv f.va.toNat) (fun a => need (g.rx f.vb.toNat) (fun i =>
    let w := ewBits f.ew
    .x f.vd.toNat (BitVec.ofNat 64 (if i.toNat < 512 / w then laneAt a w i.toNat
      else (Config.vextOut f.ew.toNat i).toNat % 2 ^ w))))))
/-- VINS writes the named lane if it is active; a number outside the register names no lane (DEDUCED, log 10). -/
def execVins (gi : Nat) (f : FmtV) (s : State) : Out :=
  .next (s.issue gi (fun g => need (g.rx f.va.toNat) (fun a => need (g.rx f.vb.toNat) (fun i =>
    g.vlanes f.vd.toNat f.pg (ewBits f.ew) true (fun j d => (if j = i.toNat then a.toNat else d, 0))))))
def execVperm (gi : Nat) (f : FmtV) (s : State) : Out :=
  .next (s.issue gi (fun g => need (g.rv f.va.toNat) (fun a => need (g.rv f.vb.toNat) (fun b =>
    let w := ewBits f.ew
    g.vlanes f.vd.toNat f.pg w false (fun i _ => (laneAt a w (laneAt b w i % (512 / w)), 0))))))
def execVslideup (gi : Nat) (f : FmtV) (s : State) : Out :=
  .next (s.issue gi (fun g => need (g.rv f.va.toNat) (fun a => need (g.rx f.vb.toNat) (fun k =>
    let w := ewBits f.ew
    g.vlanes f.vd.toNat f.pg w true (fun i d => (if k.toNat ≤ i then laneAt a w (i - k.toNat) else d, 0))))))
def execVslidedn (gi : Nat) (f : FmtV) (s : State) : Out :=
  .next (s.issue gi (fun g => need (g.rv f.va.toNat) (fun a => need (g.rx f.vb.toNat) (fun k =>
    let w := ewBits f.ew
    g.vlanes f.vd.toNat f.pg w true (fun i d => (if i + k.toNat < 512 / w then laneAt a w (i + k.toNat) else d, 0))))))

/-- Write lane 0 of VD, keeping the others (DEDUCED, log 10). -/
def setLane0 (old : BitVec 512) (w v : Nat) : BitVec 512 :=
  BitVec.ofNat 512 (old.toNat / 2 ^ w * 2 ^ w + v % 2 ^ w)

/-- An integer reduction of the active lanes into lane 0 (R79); `empty` is the result of no lanes. -/
def State.intRed (s : State) (gi : Nat) (f : FmtV) (op : Nat → Nat → Nat → Nat) (empty : Nat) : State :=
  s.issue gi (fun g => need (g.rv f.va.toNat) (fun a => need (g.rv f.vd.toNat) (fun d =>
    let w := ewBits f.ew
    let l := ((List.range (512 / w)).filter (active (g.rp f.pg.toNat) w)).map (laneAt a w)
    .ok { writes := [.v f.vd.toNat (setLane0 d w (match l with
      | [] => empty
      | x :: xs => xs.foldl (op w) x))] })))

def execVredadd (gi : Nat) (f : FmtV) (s : State) : Out := .next (s.intRed gi f (fun _ a b => a + b) 0)
def execVredmax (gi : Nat) (f : FmtV) (s : State) : Out :=
  .next (s.intRed gi f (fun w a b => if toSigned w a < toSigned w b then b else a) (Config.emptyRed 0 f.ew.toNat))
def execVredmin (gi : Nat) (f : FmtV) (s : State) : Out :=
  .next (s.intRed gi f (fun w a b => if toSigned w a < toSigned w b then a else b) (Config.emptyRed 1 f.ew.toNat))

/-! ### Vector memory (R67 to R73) -/

/-- The two 64-byte blocks of a contiguous 64-byte access, each from its first to its last active byte: lane, length
and byte mask (R69, R70). -/
def blockParts (base : Nat) (act : Nat → Bool) : List (Nat × Nat × Nat) :=
  ([base / 64, base / 64 + 1]).filterMap (fun k =>
    let bs := (List.range 64).filter (fun b => act b && decide ((base + b) / 64 = k))
    match bs.head?, bs.getLast? with
    | some lo, some hi => some (lo, hi + 1 - lo, (bs.map (fun b => 2 ^ (b - lo))).foldl (· + ·) 0)
    | _, _ => none)

/-- Bytes of a vector register in lane order. -/
def vBytes (v : BitVec 512) : List Byte := leBytes 64 v.toNat

/-- The bytes of VD that no load supplies, by lane; none are needed when every lane is loaded. -/
def keepBytes (old : BitVec 512) (mask : Word) : Map Byte :=
  (List.range 64).filterMap (fun b => if mask.getLsbD b then none else some (b, BitVec.ofNat 8 (old.toNat >>> (8 * b))))

/-- A load of a vector register in the given parts: lane and address of each active element, or nothing to do (R70). -/
def Groom.vload (g : Groom) (vd : Nat) (mask : Word) (each : Bool) (ls : List LoadOp) : IRes :=
  if ls = [] then .ok {}
  else if mask = BitVec.allOnes 64 then .ok { dst := some (.v vd mask each), loads := ls }
  else need (g.rv vd) (fun old => .ok { dst := some (.v vd mask each), loads := ls, got := keepBytes old mask })

/-- IMM11 × 64, sign-extended (R77). -/
def imm11 (i : BitVec 11) : Word := i.signExtend 64 * 64

/-- VLD: 64 bytes at X[XA] + IMM11 × 64, active lanes only. -/
def execVld (gi : Nat) (f : FmtVM) (s : State) : Out :=
  .next (s.issue gi (fun g => need (g.rx f.xa.toNat) (fun a =>
    let w := ewBits f.ew
    let base := (a + imm11 f.imm).toNat
    let act := fun b => active (g.rp f.pg.toNat) w (b / (w / 8))
    let ps := blockParts base act
    if ps ≠ [] ∧ base % (w / 8) ≠ 0 then .misaligned
    else g.vload f.vd.toNat (predOf 8 act) false
      (ps.map (fun p => { addr := (base + p.1) % 2 ^ 64, len := p.2.1, mask := some p.2.2, lane := p.1 })))))
/-- VST: as VLD, storing V[VD]. -/
def execVst (gi : Nat) (f : FmtVM) (s : State) : Out :=
  .next (s.issue gi (fun g => need (g.rx f.xa.toNat) (fun a => need (g.rv f.vd.toNat) (fun v =>
    let w := ewBits f.ew
    let base := (a + imm11 f.imm).toNat
    let ps := blockParts base (fun b => active (g.rp f.pg.toNat) w (b / (w / 8)))
    if ps ≠ [] ∧ base % (w / 8) ≠ 0 then .misaligned
    else .ok { stores := ps.map (fun p =>
      { addr := (base + p.1) % 2 ^ 64, data := ((vBytes v).drop p.1).take p.2.1, mask := some p.2.2, lane := p.1 }) }))))

/-- Active elements of an access with one address each. -/
def elems (p : Word) (w n : Nat) : List Nat := (List.range n).filter (active p w)

def State.vloadEach (s : State) (gi : Nat) (f : FmtVMX) (opc : Nat) (addr : Groom → Option (Nat → Nat)) (n : Nat) : State :=
  s.issue gi (fun g =>
    if f.top ≠ 0 then .illegal (wordVMX f opc)
    else need (addr g) (fun ad =>
      let w := ewBits f.ew
      let es := elems (g.rp f.pg.toNat) w (min n (512 / w))
      if es.any (fun i => decide (ad i % (w / 8) ≠ 0)) then .misaligned
      else g.vload f.vd.toNat (predOf w (fun i => es.contains i)) true
        (es.map (fun i => { addr := ad i, len := w / 8, lane := i * (w / 8) }))))
def State.vstoreEach (s : State) (gi : Nat) (f : FmtVMX) (opc : Nat) (addr : Groom → Option (Nat → Nat)) (n : Nat) : State :=
  s.issue gi (fun g =>
    if f.top ≠ 0 then .illegal (wordVMX f opc)
    else need (addr g) (fun ad => need (g.rv f.vd.toNat) (fun v =>
      let w := ewBits f.ew
      let es := elems (g.rp f.pg.toNat) w (min n (512 / w))
      if es.any (fun i => decide (ad i % (w / 8) ≠ 0)) then .misaligned
      else .ok { stores := es.map (fun i => { addr := ad i, data := leBytes (w / 8) (laneAt v w i) }) })))

/-- Element i at X[XA] + i × X[XB]. -/
def strided (f : FmtVMX) (g : Groom) : Option (Nat → Nat) :=
  match g.rx f.xa.toNat, g.rx f.xb.toNat with
  | some a, some b => some (fun i => (a.toNat + i * b.toNat) % 2 ^ 64)
  | _, _ => none
/-- Element i at X[XA] + the zero-extended 32-bit lane i of VB. -/
def indexed (f : FmtVMX) (g : Groom) : Option (Nat → Nat) :=
  match g.rx f.xa.toNat, g.rv f.xb.toNat with
  | some a, some b => some (fun i => (a.toNat + laneAt b 32 i) % 2 ^ 64)
  | _, _ => none

def execVlds (gi : Nat) (f : FmtVMX) (s : State) : Out := .next (s.vloadEach gi f 0x24 (strided f) 64)
def execVsts (gi : Nat) (f : FmtVMX) (s : State) : Out := .next (s.vstoreEach gi f 0x25 (strided f) 64)
/-- DEDUCED, log 10. -/
def execVgth (gi : Nat) (f : FmtVMX) (s : State) : Out := .next (s.vloadEach gi f 0x26 (indexed f) 16)
def execVsct (gi : Nat) (f : FmtVMX) (s : State) : Out := .next (s.vstoreEach gi f 0x27 (indexed f) 16)

end Sys2Proof.Machine
end

