-- ==== Sys2Proof/Machine/GroomFloat.lean ====
section
/-! DEFINITION. The float instructions of the grooms (R78 to R82, R208 to R212). -/

namespace Sys2Proof.Machine

/-- The format of a float EW code (R78). -/
def ewFmt (ew : BitVec 2) : FFmt :=
  match ew.toNat with
  | 0 => bf16
  | 1 => fp16
  | 2 => fp32
  | _ => fp64

/-- GROOM_FPCTL.RM and FTZ. -/
def Groom.rm (g : Groom) : Nat := fld (g.reg 0x68) 2 0
def Groom.ftz (g : Groom) : Bool := bit (g.reg 0x68) 3

/-- Rounded sum, product, fused multiply-add and quotient of codes, with flags. -/
def faddC (f : FFmt) (rm : Nat) (ftz : Bool) (a b : Nat) : Nat × Nat :=
  let (v, nv) := Num.add rm (f.read ftz a) (f.read ftz b)
  let (c, fl) := ieeeRound f rm ftz v
  (c, fl + (if nv then fNV else 0))
def fmulC (f : FFmt) (rm : Nat) (ftz : Bool) (a b : Nat) : Nat × Nat :=
  let (v, nv) := Num.mul (f.read ftz a) (f.read ftz b)
  let (c, fl) := ieeeRound f rm ftz v
  (c, fl + (if nv then fNV else 0))
/-- d + a × b with one rounding to `f`; the factors are values already read. -/
def fmaN (f : FFmt) (rm : Nat) (ftz : Bool) (d a b : Num) : Nat × Nat :=
  let (p, nv1) := Num.mul a b
  let (v, nv2) := Num.add rm d p
  let (c, fl) := ieeeRound f rm ftz v
  (c, fl + (if nv2 || (nv1 && (!d.isNaN || Config.fmaNanInvalid)) then fNV else 0))
def fdivC (f : FFmt) (rm : Nat) (ftz : Bool) (a b : Nat) : Nat × Nat :=
  let (v, fl1) := Num.div (f.read ftz a) (f.read ftz b)
  let (c, fl) := ieeeRound f rm ftz v
  (c, fl ||| fl1)
def fsqrtC (f : FFmt) (rm : Nat) (ftz : Bool) (a : Nat) : Nat × Nat :=
  let (v, fl1) := Num.sqrt (f.read ftz a)
  let (c, fl) := ieeeRound f rm ftz v
  (c, fl ||| fl1)
/-- A selected operand: exact, a NaN as the canonical NaN (DEDUCED, log 11). -/
def fpick (f : FFmt) (v : Num) : Nat := (ieeeRound f 0 false v).1

/-- Format V float operation on VA and VB lanes. -/
def State.fltAB (s : State) (gi : Nat) (f : FmtV) (op : FFmt → Nat → Bool → Nat → Nat → Nat × Nat) : State :=
  s.issue gi (fun g => need (g.rv f.va.toNat) (fun a => need (g.rv f.vb.toNat) (fun b =>
    let m := ewFmt f.ew
    g.vlanes f.vd.toNat f.pg m.width false (fun i _ => op m g.rm g.ftz (laneAt a m.width i) (laneAt b m.width i)))))
/-- Float operation on VA lanes alone. -/
def State.fltA (s : State) (gi : Nat) (f : FmtV) (op : FFmt → Nat → Bool → Nat → Nat × Nat) : State :=
  s.issue gi (fun g => need (g.rv f.va.toNat) (fun a =>
    let m := ewFmt f.ew
    g.vlanes f.vd.toNat f.pg m.width false (fun i _ => op m g.rm g.ftz (laneAt a m.width i))))
/-- VD ± VA × VB. -/
def State.fltMac (s : State) (gi : Nat) (f : FmtV) (neg : Bool) : State :=
  s.issue gi (fun g => need (g.rv f.va.toNat) (fun a => need (g.rv f.vb.toNat) (fun b =>
    let m := ewFmt f.ew
    g.vlanes f.vd.toNat f.pg m.width true (fun i d =>
      let x := m.read g.ftz (laneAt a m.width i)
      fmaN m g.rm g.ftz (m.read g.ftz d) (if neg then x.neg else x) (m.read g.ftz (laneAt b m.width i))))))
/-- Widening: 16 FP32 lanes of VD take 16 source lanes from lane `off` (VFMAWL, VFMAWH). -/
def State.fltMacW (s : State) (gi : Nat) (f : FmtV) (fn off : Nat) : State :=
  s.issue gi (fun g =>
    if 2 ≤ f.ew.toNat then .illegal (wordV f 0x21 fn)
    else need (g.rv f.va.toNat) (fun a => need (g.rv f.vb.toNat) (fun b =>
      let m := ewFmt f.ew
      g.vlanes f.vd.toNat f.pg 32 true (fun i d =>
        fmaN fp32 g.rm g.ftz (fp32.read g.ftz d) (m.read g.ftz (laneAt a 16 (i + off))) (m.read g.ftz (laneAt b 16 (i + off)))))))

def execVfadd (gi : Nat) (f : FmtV) (s : State) : Out := .next (s.fltAB gi f faddC)
def execVfsub (gi : Nat) (f : FmtV) (s : State) : Out :=
  .next (s.fltAB gi f (fun m rm z a b =>
    let (v, nv) := Num.add rm (m.read z a) (m.read z b).neg
    let (c, fl) := ieeeRound m rm z v
    (c, fl + (if nv then fNV else 0))))
def execVfmul (gi : Nat) (f : FmtV) (s : State) : Out := .next (s.fltAB gi f fmulC)
def execVfma (gi : Nat) (f : FmtV) (s : State) : Out := .next (s.fltMac gi f false)
def execVfnma (gi : Nat) (f : FmtV) (s : State) : Out := .next (s.fltMac gi f true)
def execVfmawl (gi : Nat) (f : FmtV) (s : State) : Out := .next (s.fltMacW gi f 0x05 0)
def execVfmawh (gi : Nat) (f : FmtV) (s : State) : Out := .next (s.fltMacW gi f 0x06 16)
def execVfdiv (gi : Nat) (f : FmtV) (s : State) : Out := .next (s.fltAB gi f fdivC)
def execVfsqrt (gi : Nat) (f : FmtV) (s : State) : Out := .next (s.fltA gi f fsqrtC)
def execVfmin (gi : Nat) (f : FmtV) (s : State) : Out :=
  .next (s.fltAB gi f (fun m _ z a b => (fpick m (Num.min2 (m.read z a) (m.read z b)), 0)))
def execVfmax (gi : Nat) (f : FmtV) (s : State) : Out :=
  .next (s.fltAB gi f (fun m _ z a b => (fpick m (Num.max2 (m.read z a) (m.read z b)), 0)))
/-- Sign operations: no rounding and no flags. -/
def execVfabs (gi : Nat) (f : FmtV) (s : State) : Out :=
  .next (s.fltA gi f (fun m _ _ a => (a % 2 ^ (m.width - 1), 0)))
def execVfneg (gi : Nat) (f : FmtV) (s : State) : Out :=
  .next (s.fltA gi f (fun m _ _ a => (a ^^^ 2 ^ (m.width - 1), 0)))
def execVfrcpe (gi : Nat) (f : FmtV) (s : State) : Out :=
  .next (s.fltA gi f (fun m _ z a => estimate 0 m f.ew.toNat z a))
def execVfrsqe (gi : Nat) (f : FmtV) (s : State) : Out :=
  .next (s.fltA gi f (fun m _ z a => estimate 1 m f.ew.toNat z a))
def execVfexp2 (gi : Nat) (f : FmtV) (s : State) : Out :=
  .next (s.fltA gi f (fun m _ z a => estimate 2 m f.ew.toNat z a))
def execVflog2 (gi : Nat) (f : FmtV) (s : State) : Out :=
  .next (s.fltA gi f (fun m _ z a => estimate 3 m f.ew.toNat z a))

/-! ### VCVT and VCVTH (R80, R210) -/

/-- Width in bits of a conversion code. -/
def cvtBits (c : Nat) : Nat :=
  match c with
  | 0 => 8 | 1 => 16 | 2 => 32 | 3 => 64 | 4 => 16 | 5 => 16 | 6 => 32 | 7 => 64 | 8 => 8 | 9 => 8 | _ => 4
/-- The float format of a conversion code from 4 to 10. -/
def cvtFmt (c : Nat) : FFmt :=
  match c with
  | 4 => bf16 | 5 => fp16 | 6 => fp32 | 7 => fp64 | 8 => e4m3 | 9 => e5m2 | _ => e2m1

/-- Convert to FP8 or FP4: nearest-even with the saturation of R210. -/
def cvtSat (dst : Nat) (v : Num) : Nat × Nat :=
  let f := cvtFmt dst
  let (c, k, inex) := satRound f v
  match k, v with
  | .nanToZero, _ => (c, fNV)
  | .saturated, .inf _ => (c, Config.satInfFlags dst % 32)
  | .saturated, _ => (c, fOF + fNX)
  | _, .fin n (m + 1) e =>
    let (_, _, _, before, after) := roundTo f 0 n (m + 1) e
    (c, if inex then (if (if Config.tinyBefore then before else after) then fUF else 0) + fNX else 0)
  | _, _ => (c, 0)

/-- A value to an integer of w bits: rounded by RM, then saturated; NaN gives 0. -/
def cvtInt (rm w : Nat) : Num → Nat × Nat
  | .nan => (0, fNV)
  | .inf n => (if n then 2 ^ (w - 1) else 2 ^ (w - 1) - 1, fNV)
  | .fin n m e =>
    let (i, ex) := Num.toInt rm n m e
    let lo : Int := -(2 ^ (w - 1))
    let hi : Int := 2 ^ (w - 1) - 1
    if i < lo ∨ hi < i then (satS w i, fNV) else (ofSigned w i, b2n (!ex))

/-- Convert one element (R80) (DEDUCED, log 11). -/
def convert (src dst rm : Nat) (ftz : Bool) (x : Nat) : Nat × Nat :=
  if src < 4 then
    let i := toSigned (cvtBits src) x
    if dst < 4 then
      let w := cvtBits dst
      if -(2 ^ (w - 1)) ≤ i ∧ i ≤ 2 ^ (w - 1) - 1 then (ofSigned w i, 0)
      else
        let (v, sat) := Config.intNarrow src dst x
        (v % 2 ^ w, if sat then fNV else fNX)
    else
      let v := Num.ofInt i 0 false
      if dst ≤ 7 then ieeeRound (cvtFmt dst) rm ftz v else cvtSat dst v
  else
    let v := (cvtFmt src).read ftz x
    if dst < 4 then cvtInt rm (cvtBits dst) v
    else if dst ≤ 7 then ieeeRound (cvtFmt dst) rm ftz v
    else cvtSat dst v

/-- The register VCVT writes: `n` elements from source element `off`, the rest kept. -/
def cvtVec (src dst rm : Nat) (ftz : Bool) (a d : BitVec 512) (off n : Nat) : BitVec 512 × Nat :=
  let ws := cvtBits src
  let wd := cvtBits dst
  let rs := (List.range n).map (fun i => convert src dst rm ftz (laneAt a ws (i + off)))
  (BitVec.ofNat 512 (d.toNat / 2 ^ (n * wd) * 2 ^ (n * wd) + laneSum wd (rs.map (·.1))), rs.foldl (fun x r => x ||| r.2) 0)

def State.cvt (s : State) (gi : Nat) (f : FmtV) (fn : Nat) (high : Bool) : State :=
  s.issue gi (fun g =>
    let src := f.vb.toNat
    let dst := f.ew.toNat * 8 + f.pg.toNat
    if 10 < src ∨ 10 < dst then .illegal (wordV f 0x21 fn)
    else need (g.rv f.va.toNat) (fun a => need (g.rv f.vd.toNat) (fun d =>
      let ws := cvtBits src
      let n := 512 / max ws (cvtBits dst)
      let half := 512 / ws / 2
      let (v, fl) := cvtVec src dst g.rm g.ftz a d (if high then half else 0) (if high then min n half else n)
      .ok { writes := [.v f.vd.toNat v], flags := fl })))

def execVcvt (gi : Nat) (f : FmtV) (s : State) : Out := .next (s.cvt gi f 0x18 false)
/-- DEDUCED, log 10. -/
def execVcvth (gi : Nat) (f : FmtV) (s : State) : Out := .next (s.cvt gi f 0x19 true)

/-! ### Comparisons and reductions -/

/-- DEDUCED, log 11. -/
def State.fcmp (s : State) (gi : Nat) (f : FmtV) (fn : Nat) (c : Num → Num → Bool) : State :=
  s.issue gi (fun g =>
    if 8 ≤ f.vd.toNat then .illegal (wordV f 0x21 fn)
    else need (g.rv f.va.toNat) (fun a => need (g.rv f.vb.toNat) (fun b =>
      let m := ewFmt f.ew
      g.predRes f m.width (wordV f 0x21 fn) (fun i => c (m.read g.ftz (laneAt a m.width i)) (m.read g.ftz (laneAt b m.width i))))))

def execVfcmpeq (gi : Nat) (f : FmtV) (s : State) : Out := .next (s.fcmp gi f 0x20 Num.eq)
def execVfcmplt (gi : Nat) (f : FmtV) (s : State) : Out := .next (s.fcmp gi f 0x21 Num.lt)
def execVfcmple (gi : Nat) (f : FmtV) (s : State) : Out :=
  .next (s.fcmp gi f 0x22 (fun a b => Num.lt a b || Num.eq a b))
def execVfcmpun (gi : Nat) (f : FmtV) (s : State) : Out :=
  .next (s.fcmp gi f 0x23 (fun a b => a.isNaN || b.isNaN))

/-- One level of the tree of R81: adjacent pairs. -/
def treeLevel (op : Nat → Nat → Nat × Nat) : List Nat → List (Nat × Nat)
  | a :: b :: l => op a b :: treeLevel op l
  | [a] => [(a, 0)]
  | [] => []
/-- The fixed binary tree of R81. -/
def treeFold (op : Nat → Nat → Nat × Nat) : Nat → List Nat → Nat → Nat × Nat
  | 0, l, fl => (l.headD 0, fl)
  | n + 1, l, fl =>
    if l.length ≤ 1 then (l.headD 0, fl)
    else
      let r := treeLevel op l
      treeFold op n (r.map (·.1)) (r.foldl (fun x p => x ||| p.2) fl)

/-- A float reduction into lane 0: inactive lanes enter as `unit`. -/
def State.fltRed (s : State) (gi : Nat) (f : FmtV) (op : FFmt → Nat → Bool → Nat → Nat → Nat × Nat) (unit : FFmt → Nat) : State :=
  s.issue gi (fun g => need (g.rv f.va.toNat) (fun a => need (g.rv f.vd.toNat) (fun d =>
    let m := ewFmt f.ew
    let w := m.width
    let l := (List.range (512 / w)).map (fun i => if active (g.rp f.pg.toNat) w i then laneAt a w i else unit m)
    let (v, fl) := treeFold (op m g.rm g.ftz) 6 l 0
    .ok { writes := [.v f.vd.toNat (setLane0 d w v)], flags := fl })))

def execVfredadd (gi : Nat) (f : FmtV) (s : State) : Out :=
  .next (s.fltRed gi f faddC (fun m => m.sign true))
def execVfredmax (gi : Nat) (f : FmtV) (s : State) : Out :=
  .next (s.fltRed gi f (fun m _ z a b => (fpick m (Num.max2 (m.read z a) (m.read z b)), 0)) (fun m => m.sign true + m.infCode))
def execVfredmin (gi : Nat) (f : FmtV) (s : State) : Out :=
  .next (s.fltRed gi f (fun m _ z a b => (fpick m (Num.min2 (m.read z a) (m.read z b)), 0)) (fun m => m.infCode))

end Sys2Proof.Machine
end

