-- ==== Sys2Proof/Machine/GroomInt.lean ====
section
/-! DEFINITION. The scalar groom instructions (R79): arithmetic, immediates, loads, stores, atomics, branches. -/

namespace Sys2Proof.Machine

/-! ### Operand forms -/

/-- Format R: X[RD] = f(X[RA], X[RB]). -/
def State.aluR (s : State) (gi : Nat) (f : FmtR) (op : Word → Word → Word) : State :=
  s.issue gi (fun g => need (g.rx f.ra.toNat) (fun a => need (g.rx f.rb.toNat) (fun b => .x f.rd.toNat (op a b))))

/-- IMM16, sign-extended (R77). -/
def imm16 (i : BitVec 16) : Word := i.signExtend 64

/-- Format I: X[RD] = f(X[RA], IMM16). -/
def State.aluI (s : State) (gi : Nat) (f : FmtI) (op : Word → Word → Word) : State :=
  s.issue gi (fun g => need (g.rx f.ra.toNat) (fun a => .x f.rd.toNat (op a (imm16 f.imm))))

/-- 64-bit comparisons as a number. -/
def ofBool (b : Bool) : Word := if b then 1 else 0

def countOnes : Nat → Word → Nat
  | 0, _ => 0
  | n + 1, w => b2n (w.getLsbD n) + countOnes n w
/-- Leading zeros of the `n` low bits. -/
def leadZeros : Nat → Word → Nat
  | 0, _ => 0
  | n + 1, w => if w.getLsbD n then 0 else 1 + leadZeros n w

/-- High 64 bits of the signed and of the unsigned product. -/
def mulHigh (a b : Word) : Word := BitVec.ofInt 64 (a.toInt * b.toInt / 2 ^ 64)
def mulHighU (a b : Word) : Word := BitVec.ofNat 64 (a.toNat * b.toNat / 2 ^ 64)
/-- Truncating division; a zero divisor gives all ones and remainder X[RA] (R79). -/
def divS (a b : Word) : Word := if b = 0 then BitVec.allOnes 64 else BitVec.ofInt 64 (a.toInt.tdiv b.toInt)
def divU (a b : Word) : Word := if b = 0 then BitVec.allOnes 64 else BitVec.ofNat 64 (a.toNat / b.toNat)
def remS (a b : Word) : Word := if b = 0 then a else BitVec.ofInt 64 (a.toInt.tmod b.toInt)
def remU (a b : Word) : Word := if b = 0 then a else BitVec.ofNat 64 (a.toNat % b.toNat)

/-- A load of `n` bytes at X[RA] + IMM16 (R69, R79). -/
def State.loadI (s : State) (gi : Nat) (f : FmtI) (n : Nat) (signed : Bool) : State :=
  s.issue gi (fun g => need (g.rx f.ra.toNat) (fun a =>
    let ad := (a + imm16 f.imm).toNat
    if ad % n ≠ 0 then .misaligned
    else .ok { dst := some (.x f.rd.toNat n signed), loads := [{ addr := ad, len := n }] }))

/-- A store of the low `n` bytes of X[RS] at X[RA] + IMM16. -/
def State.storeS (s : State) (gi : Nat) (f : FmtS) (n : Nat) : State :=
  s.issue gi (fun g => need (g.rx f.ra.toNat) (fun a => need (g.rx f.rs.toNat) (fun v =>
    let ad := (a + imm16 f.imm).toNat
    if ad % n ≠ 0 then .misaligned
    else .ok { stores := [{ addr := ad, data := leBytes n v.toNat }] })))

/-- An atomic on `n` bytes at X[RA]: the operand is X[RB], followed for a compare-and-swap by the value X[RC] that it
compares (R75, R79) (DEDUCED, log 9). -/
def State.amoR (s : State) (gi : Nat) (f : FmtR) (op : AmoOp) (n : Nat) : State :=
  s.issue gi (fun g => need (g.rx f.ra.toNat) (fun a => need (g.rx f.rb.toNat) (fun b => need (g.rx f.rc.toNat) (fun c =>
    if a.toNat % n ≠ 0 then .misaligned
    else .ok { dst := some (.x f.rd.toNat n true),
               loads := [{ op := .amo op, addr := a.toNat, len := n, data := leBytes n b.toNat ++ leBytes n c.toNat }] }))))

/-- A conditional branch to PC + OFF16 × 4. -/
def State.branch (s : State) (gi : Nat) (f : FmtB) (c : Word → Word → Bool) : State :=
  s.issue gi (fun g => need (g.rx f.ra.toNat) (fun a => need (g.rx f.rb.toNat) (fun b =>
    let t := ((g.pc : Int) + f.off.toInt * 4) % 0x400000
    .ok { br := some (c a b), npc := if c a b then some t.toNat else none })))

/-! ### Meanings -/

def execAdd (gi : Nat) (f : FmtR) (s : State) : Out := .next (s.aluR gi f (· + ·))
def execSub (gi : Nat) (f : FmtR) (s : State) : Out := .next (s.aluR gi f (· - ·))
def execAnd (gi : Nat) (f : FmtR) (s : State) : Out := .next (s.aluR gi f (· &&& ·))
def execOr (gi : Nat) (f : FmtR) (s : State) : Out := .next (s.aluR gi f (· ||| ·))
def execXor (gi : Nat) (f : FmtR) (s : State) : Out := .next (s.aluR gi f (· ^^^ ·))
def execSll (gi : Nat) (f : FmtR) (s : State) : Out := .next (s.aluR gi f (fun a b => a <<< (b.toNat % 64)))
def execSrl (gi : Nat) (f : FmtR) (s : State) : Out := .next (s.aluR gi f (fun a b => a >>> (b.toNat % 64)))
def execSra (gi : Nat) (f : FmtR) (s : State) : Out := .next (s.aluR gi f (fun a b => a.sshiftRight (b.toNat % 64)))
def execSlt (gi : Nat) (f : FmtR) (s : State) : Out := .next (s.aluR gi f (fun a b => ofBool (a.slt b)))
def execSltu (gi : Nat) (f : FmtR) (s : State) : Out := .next (s.aluR gi f (fun a b => ofBool (a.ult b)))
def execMin (gi : Nat) (f : FmtR) (s : State) : Out := .next (s.aluR gi f (fun a b => if a.slt b then a else b))
def execMax (gi : Nat) (f : FmtR) (s : State) : Out := .next (s.aluR gi f (fun a b => if a.slt b then b else a))
def execMinu (gi : Nat) (f : FmtR) (s : State) : Out := .next (s.aluR gi f (fun a b => if a.ult b then a else b))
def execMaxu (gi : Nat) (f : FmtR) (s : State) : Out := .next (s.aluR gi f (fun a b => if a.ult b then b else a))
/-- CLZ and POPC read X[RA] alone, so they do not wait for X[RB]. -/
def execClz (gi : Nat) (f : FmtR) (s : State) : Out :=
  .next (s.aluR gi { f with rb := 0 } (fun a _ => BitVec.ofNat 64 (leadZeros 64 a)))
def execPopc (gi : Nat) (f : FmtR) (s : State) : Out :=
  .next (s.aluR gi { f with rb := 0 } (fun a _ => BitVec.ofNat 64 (countOnes 64 a)))
def execMul (gi : Nat) (f : FmtR) (s : State) : Out := .next (s.aluR gi f (· * ·))
def execMulh (gi : Nat) (f : FmtR) (s : State) : Out := .next (s.aluR gi f mulHigh)
def execMulhu (gi : Nat) (f : FmtR) (s : State) : Out := .next (s.aluR gi f mulHighU)
def execDiv (gi : Nat) (f : FmtR) (s : State) : Out := .next (s.aluR gi f divS)
def execDivu (gi : Nat) (f : FmtR) (s : State) : Out := .next (s.aluR gi f divU)
def execRem (gi : Nat) (f : FmtR) (s : State) : Out := .next (s.aluR gi f remS)
def execRemu (gi : Nat) (f : FmtR) (s : State) : Out := .next (s.aluR gi f remU)

def execAddi (gi : Nat) (f : FmtI) (s : State) : Out := .next (s.aluI gi f (· + ·))
def execAndi (gi : Nat) (f : FmtI) (s : State) : Out := .next (s.aluI gi f (· &&& ·))
def execOri (gi : Nat) (f : FmtI) (s : State) : Out := .next (s.aluI gi f (· ||| ·))
def execXori (gi : Nat) (f : FmtI) (s : State) : Out := .next (s.aluI gi f (· ^^^ ·))
/-- SHIFTI: IMM16[7:6] is the kind; 0b11 and a non-zero IMM16[15:8] are undefined. -/
def execShifti (gi : Nat) (f : FmtI) (s : State) : Out :=
  .next (s.issue gi (fun g =>
    let i := f.imm.toNat
    if i / 64 % 4 = 3 ∨ i / 256 ≠ 0 then .illegal (wordI f 0x06)
    else need (g.rx f.ra.toNat) (fun a => .x f.rd.toNat
      (match i / 64 with
       | 0 => a <<< (i % 64)
       | 1 => a >>> (i % 64)
       | _ => a.sshiftRight (i % 64)))))
def execLui (gi : Nat) (f : FmtI) (s : State) : Out :=
  .next (s.issue gi (fun _ => if f.ra ≠ 0 then .illegal (wordI f 0x07) else .x f.rd.toNat (imm16 f.imm <<< 16)))
def execShori (gi : Nat) (f : FmtI) (s : State) : Out :=
  .next (s.issue gi (fun g => if f.ra ≠ 0 then .illegal (wordI f 0x0F)
    else need (g.rx f.rd.toNat) (fun d => .x f.rd.toNat ((d <<< 16) ||| f.imm.setWidth 64))))

def execLdb (gi : Nat) (f : FmtI) (s : State) : Out := .next (s.loadI gi f 1 true)
def execLdh (gi : Nat) (f : FmtI) (s : State) : Out := .next (s.loadI gi f 2 true)
def execLdw (gi : Nat) (f : FmtI) (s : State) : Out := .next (s.loadI gi f 4 true)
def execLdd (gi : Nat) (f : FmtI) (s : State) : Out := .next (s.loadI gi f 8 true)
def execLdbu (gi : Nat) (f : FmtI) (s : State) : Out := .next (s.loadI gi f 1 false)
def execLdhu (gi : Nat) (f : FmtI) (s : State) : Out := .next (s.loadI gi f 2 false)
def execLdwu (gi : Nat) (f : FmtI) (s : State) : Out := .next (s.loadI gi f 4 false)
def execStb (gi : Nat) (f : FmtS) (s : State) : Out := .next (s.storeS gi f 1)
def execSth (gi : Nat) (f : FmtS) (s : State) : Out := .next (s.storeS gi f 2)
def execStw (gi : Nat) (f : FmtS) (s : State) : Out := .next (s.storeS gi f 4)
def execStd (gi : Nat) (f : FmtS) (s : State) : Out := .next (s.storeS gi f 8)

/-- AMOs other than the compare-and-swaps do not read X[RC]. -/
def execAmoaddW (gi : Nat) (f : FmtR) (s : State) : Out := .next (s.amoR gi { f with rc := 0 } .addW 4)
def execAmoaddD (gi : Nat) (f : FmtR) (s : State) : Out := .next (s.amoR gi { f with rc := 0 } .addD 8)
def execAmoswapW (gi : Nat) (f : FmtR) (s : State) : Out := .next (s.amoR gi { f with rc := 0 } .swapW 4)
def execAmoswapD (gi : Nat) (f : FmtR) (s : State) : Out := .next (s.amoR gi { f with rc := 0 } .swapD 8)
def execAmocasW (gi : Nat) (f : FmtR) (s : State) : Out := .next (s.amoR gi f .casW 4)
def execAmocasD (gi : Nat) (f : FmtR) (s : State) : Out := .next (s.amoR gi f .casD 8)

def execBeq (gi : Nat) (f : FmtB) (s : State) : Out := .next (s.branch gi f (fun a b => decide (a = b)))
def execBne (gi : Nat) (f : FmtB) (s : State) : Out := .next (s.branch gi f (fun a b => decide (a ≠ b)))
def execBlt (gi : Nat) (f : FmtB) (s : State) : Out := .next (s.branch gi f (fun a b => a.slt b))
def execBge (gi : Nat) (f : FmtB) (s : State) : Out := .next (s.branch gi f (fun a b => !a.slt b))
def execBltu (gi : Nat) (f : FmtB) (s : State) : Out := .next (s.branch gi f (fun a b => a.ult b))
def execBgeu (gi : Nat) (f : FmtB) (s : State) : Out := .next (s.branch gi f (fun a b => !a.ult b))
def execJal (gi : Nat) (f : FmtJ) (s : State) : Out :=
  .next (s.issue gi (fun g =>
    let t := ((g.pc : Int) + f.off.toInt * 4) % 0x400000
    .ok { writes := [.x f.rd.toNat (BitVec.ofNat 64 ((g.pc + 4) % 0x400000))], npc := some t.toNat, push := decide (f.rd = 1) }))
def execJalr (gi : Nat) (f : FmtI) (s : State) : Out :=
  .next (s.issue gi (fun g => need (g.rx f.ra.toNat) (fun a =>
    .ok { writes := [.x f.rd.toNat (BitVec.ofNat 64 ((g.pc + 4) % 0x400000))],
          npc := some (fld (a + imm16 f.imm) 21 2 * 4), ind := true,
          push := decide (f.rd = 1), pop := decide (f.ra = 1 ∧ f.rd = 0) })))

end Sys2Proof.Machine
end

