-- ==== Sys2Proof/Machine/Host.lean ====
section
/-! DEFINITION. Halter: frames, packets, sessions, sequence numbers, replies, events, and the order in which the command processor
takes commands (R479 to R492, R501). -/

namespace Sys2Proof.Machine

/-! ### Frames (R479 to R481) -/

/-- Whether a frame lies outside the subset. -/
def frameBad (vlan : Word) (f : EthFrame) : Bool :=
  let untagged := decide (f.tags = 0 ∨ f.vid = 0)
  decide (9216 < f.bytes ∨ 2 ≤ f.tags ∨ f.kind = .tcp ∨ f.kind = .other) || f.ipExtra ||
  (if f.mgmt then decide (f.tags = 0 ∨ f.vid ≠ fld vlan 27 16 ∨ f.kind = .roce)
   else if fld vlan 11 0 = 0 then !untagged else decide (f.tags = 0 ∨ f.vid ≠ fld vlan 11 0))

/-- ETH_FRAME_RECEIVE. The pause for ROCE_PRIO holds from 1.5 MiB of the buffer down to 1 MiB (DESIGN CHOICE, log 47). -/
def execEthFrameReceive (port : Nat) (f : EthFrame) (s : State) : Out :=
  .next (
    let x := s.hport port
    if x.state ≠ 2 then s
    else if frameBad (s.dcsr (hostifBase + 0x18)) f then s.bumpDev (hostifBase + 0x38) 1
    else
      match f.kind with
      | .roce => s.setHport port { x with paused := if 1572864 < f.roceFill then true else if f.roceFill < 1048576 then false else x.paused }
      | .arp => s.setHport port { x with echoes := x.echoes + 1 }
      | .neighbour => s.setHport port { x with echoes := x.echoes + 1 }
      | .echo => s.setHport port { x with echoes := x.echoes + 1 }
      | _ => s)

/-! ### Packets (R482 to R484) -/

/-- Header fields of a packet; bytes that it lacks count as zero. -/
def hb (l : List Byte) (at_ n : Nat) : Nat := leNat ((l.drop at_).take n)
def hVer (l : List Byte) : Nat := hb l 0 1
def hOpcode (l : List Byte) : Nat := hb l 2 2
def hSession (l : List Byte) : Nat := hb l 4 4
def hSeq (l : List Byte) : Nat := hb l 8 4
def hPlen (l : List Byte) : Nat := hb l 14 2 % 2048

/-- Reserved header bits, and fields that a request sends as 0. -/
def hReserved (l : List Byte) : Bool := decide (hb l 1 1 ≠ 0 ∨ hb l 12 2 ≠ 0 ∨ 2048 ≤ hb l 14 2)

/-- AUTH of a packet under a key. -/
def authOf (key l : List Byte) : List Byte := (hmac key (l.take 16 ++ List.replicate 16 0 ++ l.drop 32)).take 16

/-- A packet of the device: flag bits are REPLY 1, FINAL 2, EVENT 4. Without a key AUTH is zero. -/
def hostPacket (flags opcode session seq : Nat) (st : Status) (data : List Byte) (key : Option (List Byte)) : List Byte :=
  let h := leBytes 1 1 ++ leBytes 1 flags ++ leBytes 2 opcode ++ leBytes 4 session ++ leBytes 4 seq ++ leBytes 2 st.toNat ++
    leBytes 2 data.length
  let p := h ++ List.replicate 16 0 ++ data
  match key with
  | some k => h ++ authOf k p ++ data
  | none => p

/-- The packets of one command (DESIGN CHOICE, log 47). -/
def State.out (s : State) (dst : Nat) (bytes : List Byte) : State := { s with outbox := s.outbox ++ [{ dst := dst, bytes := bytes }] }

/-! ### Opcodes (R493) -/

/-- Defined opcodes; the flag tells long ones. -/
def hostOps : List (Nat × Bool) :=
  [(0x0001, false), (0x0002, false), (0x0003, false), (0x0004, false), (0x0005, false), (0x0006, false), (0x0007, true),
   (0x0101, false), (0x0102, false), (0x0103, true), (0x0104, false), (0x0105, true), (0x0106, false), (0x0107, true),
   (0x0108, false), (0x0109, true), (0x0201, false), (0x0202, false), (0x0203, true), (0x0204, false), (0x0205, false)] ++
  [(0x0301, false), (0x0302, false), (0x0303, false), (0x0304, false), (0x0305, false), (0x0306, false), (0x0401, false),
   (0x0402, false), (0x0403, true), (0x0404, false), (0x0501, false), (0x0502, false), (0x0503, false), (0x0601, false),
   (0x0602, true), (0x0603, true), (0x0604, false), (0x0701, false), (0x0702, false), (0x0703, false)]

def hostOpDefined (op : Nat) : Bool := hostOps.any (fun e => decide (e.1 = op))
def hostOpLong (op : Nat) : Bool := hostOps.any (fun e => decide (e.1 = op) && e.2)

/-- The boot ROM of gate 0 serves halter alone: every bank has failed (R510). -/
def State.romServes (s : State) : Bool := decide (s.pwr.failStep = 2)

/-- Something serves halter: a tack room after step 2, one that COOL_STOP has left powered, or the boot ROM. -/
def State.hostServed (s : State) : Bool := decide (2 ≤ s.pwr.phase) || s.pwr.coolStopped || s.romServes

/-- Opcodes answered before PHASE 7 (R509, R510, R22). -/
def State.earlyOk (s : State) (op : Nat) : Bool :=
  if s.romServes then decide (op = 1 ∨ op = 2 ∨ op = 3 ∨ op = 0x0601 ∨ op = 0x0602)
  else decide (7 ≤ s.pwr.phase) || decide (op = 1 ∨ op = 2 ∨ op = 3 ∨ op = 0x0601 ∨ op = 0x0602 ∨ op = 0x0701) ||
    (s.pwr.coolStopped && decide (op = 0x0501))

/-! ### Replies (R489) -/

def Sess.remember (d : Sess) (seq : Nat) (bytes : List Byte) : Sess :=
  { d with cache := (seq, bytes) :: d.cache.filter (fun e => decide (e.1 ≠ seq ∧ d.n < e.1 + 64)) }

/-- A reply to a command under its session, which caches it; none once the session is gone (R487) (DESIGN CHOICE, log 47). -/
def State.replyTo (s : State) (c : CpCmd) (key : Option (List Byte)) (final : Bool) (st : Status) (data : List Byte) : State :=
  match key with
  | none => s
  | some k =>
    let b := hostPacket (1 + 2 * b2n final) c.opcode c.session c.seq st data (some k)
    let s := match s.session c.session with
      | some d => s.setSession c.session (some (d.remember c.seq b))
      | none => s
    s.out c.src b

/-- The key of a command's session. -/
def State.keyOf (s : State) (c : CpCmd) : Option (List Byte) := (s.session c.session).map (·.key)

/-- Undefined opcodes at the front of the processor's queue are answered as they come up (R490 check 7) (DEDUCED, log 46). -/
def State.skipUndefined (s : State) : Nat → State
  | 0 => s
  | n + 1 =>
    match s.cpq with
    | c :: l => if hostOpDefined c.opcode then s
      else (({ s with cpq := l } : State).replyTo c (s.keyOf c) true St.unsupported []).skipUndefined n
    | [] => s

/-! ### Acceptance (R485, R488, R490, R491) -/

/-- Entries of the command processor that CTRL commands use. -/
def State.ctrlUsed (s : State) : Nat := (s.cpq.filter (fun c => !c.mgmt)).length + (s.longs.filter (fun c => !c.cmd.mgmt)).length

/-- The processor has no entry for a command. -/
def State.cpFull (s : State) (mgmt : Bool) : Bool := decide (256 ≤ s.cpUsed) || (!mgmt && decide (224 ≤ s.ctrlUsed))

def State.cpAccept (s : State) (c : CpCmd) : State :=
  let s := match s.session c.session with
    | some d => s.setSession c.session (some { d with n := c.seq })
    | none => s
    { s with cpq := s.cpq ++ [c] }

/-- Held requests are taken once their turn has come (DEDUCED, log 46). -/
def State.takeHeld (s : State) (sid : Nat) : Nat → State
  | 0 => s
  | k + 1 =>
    match s.session sid with
    | none => s
    | some d =>
      match d.hold.find? (fun c => decide (c.seq = d.n + 1)) with
      | none => s
      | some c =>
        let s := s.setSession sid (some { d with hold := d.hold.filter (fun x => decide (x.seq ≠ c.seq)) })
        if s.cpFull d.mgmt then s.out c.src (hostPacket 3 c.opcode c.session c.seq St.haltBusy [] (some d.key))
        else (s.cpAccept c).takeHeld sid k

/-- Checks 4 to 6 in a session (DEDUCED, log 46). -/
def State.sessionRequest (s : State) (d : Sess) (c : CpCmd) : State :=
  if (c.raw.drop 16).take 16 ≠ authOf d.key c.raw then (s.bumpDev (hostifBase + 0x30) 1).hostErr 1
  else
    let d := { d with lastAt := s.clk }
    let s := s.setSession c.session (some d)
    let refuse := fun (s : State) (st : Status) => s.out c.src (hostPacket 3 c.opcode c.session c.seq st [] (some d.key))
    if c.seq = d.n + 1 then
      if s.cpFull d.mgmt then refuse s St.haltBusy else ((s.cpAccept c).takeHeld c.session 16).skipUndefined 320
    else if d.n + 2 ≤ c.seq ∧ c.seq ≤ d.n + 16 then
      if d.hold.any (fun x => decide (x.seq = c.seq)) then s else s.setSession c.session (some { d with hold := d.hold ++ [c] })
    else if d.n < c.seq + 64 ∧ c.seq ≤ d.n then
      match d.cache.find? (fun e => decide (e.1 = c.seq)) with
      | some e => s.out c.src e.2
      | none => s
    else refuse s St.haltSeq

/-- HALTER_REQUEST: checks 1 to 6. A request is lost during a takeover, and while nothing serves halter (DEDUCED, log 46). -/
def State.halterRequest (s : State) (p : HalterPkt) : State :=
  let s : State := { s with outbox := [] }
  let l := p.bytes
  let refuse := fun (st : Status) => s.out p.src (hostPacket 3 (hOpcode l) (hSession l) (hSeq l) st [] none)
  if s.tack.takeover ∨ !s.hostServed then s
  else if hVer l ≠ 1 then refuse St.haltVersion
  else if l.length ≠ 32 + hPlen l ∨ 1408 < hPlen l then refuse St.haltLen
  else
    let c : CpCmd := { session := hSession l, seq := hSeq l, opcode := hOpcode l, params := l.drop 32, at_ := s.clk, src := p.src,
                       mgmt := p.mgmt, raw := l }
    if c.session = 0 then
      if c.opcode ≠ 1 then refuse St.haltSession
      else if c.seq ≠ 0 then refuse St.haltSeq
      else if s.cpFull p.mgmt then refuse St.haltBusy
      else s.cpAccept c
    else
      match s.session c.session with
      | none => refuse St.haltSession
      | some d => s.sessionRequest d { c with mgmt := d.mgmt }

def execHalterRequest (_port : Nat) (pkt : HalterPkt) (s : State) : Out := .next (s.halterRequest pkt)

/-- HALTER_SEQ_HOLD_EXPIRE: a request held for 100 ms is discarded. -/
def execHalterSeqHoldExpire (session seq : Nat) (s : State) : Out :=
  .next (match s.session session with
    | some d => s.setSession session (some { d with
        hold := d.hold.filter (fun c => decide (c.seq ≠ seq ∨ s.clk < c.at_ + 250000000)) })
    | none => s)

/-- SESSION_TIMEOUT: 60 s without an authenticated packet. -/
def execSessionTimeout (session : Nat) (s : State) : Out :=
  .next (match s.session session with
    | some d => if d.lastAt + 150000000000 ≤ s.clk then s.setSession session none else s
    | none => s)

/-! ### The command processor -/

/-- What a command does after checks 7 to 11. -/
inductive HostRes where
  /-- It waits for a stall to wake. -/
  | wait
  /-- It stays at the head until the answer to its global access has come. -/
  | hold (s : State)
  /-- It ends now, with its status and reply data. -/
  | done (s : State) (st : Status) (data : List Byte)
  /-- A long command goes on, or has its result already. -/
  | started (s : State) (res : Option (Status × List Byte))

/-- How a row is checked. -/
structure HostOp where
  op : Nat
  /-- Marked M. -/
  mgmtOnly : Bool := false
  /-- Reserved parameter fields: first byte and bytes. -/
  rsvd : List (Nat × Nat) := []
  /-- PLEN and parameters are in range. -/
  ok : List Byte → Bool := fun p => decide (p = [])
  /-- A function that is in hardware mode refuses it. -/
  mode : Option Nat := none

/-- Privilege of a command (R486). -/
def CpCmd.priv (c : CpCmd) : Priv := if c.mgmt then .tack else .kernel

/-- The first failing check of 8 to 11, and of the bring-up phase. -/
def State.hostCheck (s : State) (h : HostOp) (c : CpCmd) : Status :=
  if h.mgmtOnly ∧ !c.mgmt then St.privilege
  else if hReserved c.raw ∨ h.rsvd.any (fun f => decide (hb c.params f.1 f.2 ≠ 0)) then St.reservedSet
  else if !h.ok c.params then St.badParam
  else if (match h.mode with | some m => !s.hostMode m | none => false) then St.haltMode
  else if !s.earlyOk h.op then St.stupNotReady
  else St.ok

/-- Take the command at the head of the processor's queue when it has this opcode. The session's key is the one that it had when the
command was taken. -/
def State.hostTake (s : State) (h : HostOp) (run : State → CpCmd → HostRes) : State :=
  match s.cpq with
  | [] => s
  | c :: l =>
    if c.opcode ≠ h.op ∨ s.tack.takeover then s
    else
      let key := s.keyOf c
      let t : State := { s with cpq := l, outbox := [] }
      let st := s.hostCheck h c
      if st ≠ St.ok then (t.replyTo c key true st []).skipUndefined 320
      else
        match run t c with
        | .wait => s
        | .hold u => { u with cpq := c :: l }
        | .done u st data => (u.replyTo c key true st data).skipUndefined 320
        | .started u res =>
          (({ u with longs := u.longs ++ [{ cmd := c, res := res }] } : State).replyTo c key false St.ok []).skipUndefined 320

/-- A row's outcome. -/
def HostRes.ofWrite (x : Option (State × Status)) : HostRes :=
  match x with
  | some (s, st) => .done s st []
  | none => .wait

/-! ### Sessions (R485, R487) -/

/-- Credential records in the order that CRED counts them; the boot ROM takes them from any bank with a valid check (DEDUCED, log 46). -/
def State.creds (s : State) : List StoreRec :=
  if s.romServes then ((List.range 4).filter (fun i => (s.bank i).valid)).flatMap (fun i => (s.bank i).ofType 4) else s.records 4

/-- The rules of R485 that an open must pass: the credential's key and role, AUTH, and a role that matches the address. -/
def State.openKey (s : State) (c : CpCmd) : Option (List Byte) :=
  match s.creds[hb c.params 2 2]? with
  | none => none
  | some r =>
    let key := r.bytes.take 32
    let role := hb c.params 0 1
    if c.session = 0 ∧ (c.raw.drop 16).take 16 = authOf key c.raw ∧ role < 2 ∧ (hb r.bytes 32 1).testBit role ∧
        c.mgmt = decide (role = 1) then some key else none

/-- SESSION_OPEN. Replies without a session carry an AUTH of zero, but for HALT_LIMIT, which the credential's key covers (DEDUCED, log 46). -/
def State.sessionOpen (s : State) (c : CpCmd) : State :=
  let refuse := fun (st : Status) (k : Option (List Byte)) => s.out c.src (hostPacket 3 1 c.session c.seq st [] k)
  match s.openKey c with
  | none => refuse St.haltAuth none
  | some key =>
    let nonce := (c.params.drop 4).take 16
    if hReserved c.raw ∨ hb c.params 1 1 ≠ 0 then refuse St.reservedSet none
    else if c.params.length ≠ 20 then refuse St.badParam none
    else
      match s.sess.findSome? (fun e => match e.2 with
        | some d => if d.hnonce = nonce ∧ d.mgmt = c.mgmt ∧ s.clk < d.openAt + 25000000000 then some d.firstReply else none
        | none => none) with
      | some b => s.out c.src b
      | none =>
        if 64 ≤ s.sessCount false + s.sessCount true ∨ (!c.mgmt ∧ 56 ≤ s.sessCount false) then refuse St.haltLimit (some key)
        else
          let id := s.nextSess
          let dn := fixLen 16 (Config.dnonce s.free)
          let k := hmac key (nonce ++ dn ++ leBytes 4 id)
          let b := hostPacket 3 1 0 0 St.ok (leBytes 4 id ++ dn) (some k)
          let d : Sess := { mgmt := c.mgmt, key := k, src := c.src, hnonce := nonce, openAt := s.clk, firstReply := b, lastAt := s.clk }
          (({ s with nextSess := id + 1, free := s.free + 1 } : State).setSession id (some d)).out c.src b

def execSessionOpen (s : State) : Out :=
  .next (match s.cpq with
    | c :: l => if c.opcode ≠ 1 ∨ s.tack.takeover then s
      else if c.session = 0 then (({ s with cpq := l, outbox := [] } : State).sessionOpen c).skipUndefined 320
      else (({ s with cpq := l, outbox := [] } : State).replyTo c (s.keyOf c) true St.haltAuth []).skipUndefined 320
    | [] => s)

def execSessionClose (s : State) : Out :=
  .next (s.hostTake { op := 2 } (fun t c => .done (t.setSession c.session none) St.ok []))

/-! ### Events (R501) -/

def eventBytes (e : Nat × Event) : List Byte :=
  leBytes 4 e.1 ++ leBytes 2 e.2.code ++ leBytes 2 0 ++ leBytes 8 e.2.d0.toNat ++ leBytes 8 e.2.d1.toNat ++ leBytes 8 e.2.d2.toNat ++
    leBytes 8 e.2.d3.toNat

/-- EVENT_RESEND: the events that are not acknowledged, at most 16, go out (DESIGN CHOICE, log 47). -/
def execEventResend (session : Nat) (s : State) : Out :=
  .next (match s.session session with
    | some d =>
      if s.tack.takeover ∨ !s.hostServed then s
      else { s with outbox := (d.events.take 16).map (fun e =>
        { dst := d.src, bytes := hostPacket 4 0x0780 session 0 St.ok (eventBytes e) (some d.key) }) }
    | none => s)

/-- Acknowledge events; space that frees takes LOST. -/
def Sess.ack (d : Sess) (n : Nat) : Sess :=
  let d := { d with events := d.events.filter (fun e => decide (n < e.1)) }
  if d.lostCnt ≠ 0 ∧ d.events.length < 256 then
    { d with events := d.events ++ [(d.eseq, { code := 0, d0 := BitVec.ofNat 64 d.lostCnt })], eseq := d.eseq + 1, lostCnt := 0 }
  else d

def execEvtSubscribe (s : State) : Out :=
  .next (s.hostTake { op := 0x0702, ok := fun p => decide (p.length = 4) } (fun t c =>
    .done (match t.session c.session with
      | some d => t.setSession c.session (some { d with mask := BitVec.ofNat 32 (hb c.params 0 4) })
      | none => t) St.ok []))

def execEvtAck (s : State) : Out :=
  .next (s.hostTake { op := 0x0703, ok := fun p => decide (p.length = 4) } (fun t c =>
    .done (match t.session c.session with
      | some d => t.setSession c.session (some (d.ack (hb c.params 0 4)))
      | none => t) St.ok []))

end Sys2Proof.Machine
end

