-- ==== Sys2Proof/Machine/HostCmd.lean ====
section
/-! DEFINITION. The halter opcodes (R493, R494, R499, R502, R546, R550 to R556), each taken from the head of the command processor's
queue, and the end of the long ones (R489). -/

namespace Sys2Proof.Machine

/-! ### Device, registers and modes -/

/-- DEV_INFO. -/
def State.devInfo (s : State) : List Byte :=
  leBytes 2 (fld (s.dcsr (gateBase 0)) 15 0) ++ leBytes 1 s.pwr.phase ++ leBytes 1 (2 * b2n s.tack.active) ++ leBytes 4 s.tack.fwver0 ++
  leBytes 4 s.tack.fwver1 ++ leBytes 8 Config.serial.toNat

def execDevInfo (s : State) : Out := .next (s.hostTake { op := 3 } (fun t _ => .done t St.ok t.devInfo))

/-- A register read at a command's privilege, and one of a register behind a closed port (DESIGN CHOICE, log 48). -/
def State.hostCsrRead (s : State) (priv : Priv) (addr : Nat) : Option (State × Status × List Byte) :=
  if s.shutTo priv addr then some (s, St.netDestFenced, []) else s.csrRead priv false addr 8

/-- A register write. -/
def State.hostCsrWrite (s : State) (priv : Priv) (addr : Nat) (v : Word) : Option (State × Status) :=
  if s.shutTo priv addr then some (s, St.netDestFenced) else s.csrWrite priv false addr 8 v

/-- CSR_READ: up to the first read that fails: the state, how many succeeded, that status, and the data. -/
def State.csrReads (s : State) (priv : Priv) (addr : Nat) : Nat → Option (State × Nat × Status × List Byte)
  | 0 => some (s, 0, St.ok, [])
  | n + 1 =>
    match s.hostCsrRead priv addr with
    | none => none
    | some (t, st, bs) =>
      if st ≠ St.ok then some (t, 0, st, [])
      else match t.csrReads priv (addr + 8) n with
        | none => none
        | some (u, k, st, rest) => some (u, k + 1, st, bs ++ rest)

def execCsrRead (s : State) : Out :=
  .next (s.hostTake { op := 4, ok := fun p => decide (p.length = 9 ∧ 1 ≤ hb p 8 1 ∧ hb p 8 1 ≤ 128) } (fun t c =>
    match t.csrReads c.priv (hb c.params 0 8) (hb c.params 8 1) with
    | none => .wait
    | some (u, n, st, bs) => .done u st (leBytes 1 n ++ leBytes 3 0 ++ bs)))

def execCsrWrite (s : State) : Out :=
  .next (s.hostTake { op := 5, ok := fun p => decide (p.length = 16) } (fun t c =>
    HostRes.ofWrite (t.hostCsrWrite c.priv (hb c.params 0 8) (BitVec.ofNat 64 (hb c.params 8 8)))))

/-- MODE_SET writes HOSTIF_MODE, whose bits 15 to 7 are reserved, and extends M3 (R499, R555) (DEDUCED, log 45). -/
def State.modeSet (s : State) (v : Nat) : State := (s.setDcsr hostifBase (BitVec.ofNat 64 v)).extendM 3 (leBytes 2 v)

def execModeSet (s : State) : Out :=
  .next (s.hostTake { op := 6, mgmtOnly := true, ok := fun p => decide (p.length = 2) } (fun t c =>
    if 0x7F < hb c.params 0 2 then .done t St.reservedSet []
    else .done (t.modeSet (hb c.params 0 2)) St.ok (leBytes 2 (t.dcsr hostifBase).toNat)))

/-! ### SPARE_SET (R546) -/

/-- Parameters in range: unit, SUB and ID. -/
def spareSetOk (p : List Byte) : Bool :=
  let sub := hb p 2 2
  let id := hb p 4 4
  decide (p.length = 8) &&
  (match hb p 0 1 with
   | 0 => decide (sub < 514 ∧ id < 288)
   | 1 => decide (sub = 0 ∧ id < 288)
   | 2 => decide (sub = 0 ∧ id < 136)
   | 3 => decide (sub < 8 ∧ id < 32)
   | _ => false)

/-- A sparing for a command: a job of its own, or one that is under way for no other command. -/
def State.spareJob (s : State) (c : CpCmd) (kind ps sub : Nat) : HostRes :=
  match s.findJob kind ps sub with
  | some j => if j.long.isSome then .done s St.rasSpareState [] else .started (s.putJob { j with long := some (c.session, c.seq) }) none
  | none => .started (s.decideSpare { kind := kind, ps := ps, sub := sub, long := some (c.session, c.seq) }) none

/-- A column is already bypassed. -/
def bypassed (map : Word) (col : Nat) : Bool :=
  (bit map 10 && decide (fld map 9 0 = col)) || (bit map 26 && decide (fld map 25 16 = col))

/-- SPARE_SET: the unit's condition, then its spare (DESIGN CHOICE, log 49). -/
def State.spareSet (s : State) (c : CpCmd) : HostRes :=
  let sub := hb c.params 2 2
  let id := hb c.params 4 4
  match hb c.params 0 1 with
  | 0 =>
    if bypassed (s.scsr id 0x1420) sub then .done s St.rasSpareState []
    else if colsLeft (s.scsr id 0x1420) = 0 then .done s St.rasNoSpare []
    else s.spareJob c 0 id sub
  | 1 =>
    if s.healthOf id ≠ .active then .done s St.rasSpareState []
    else if (spareFor (fun x => decide (s.healthOf x = .spare)) id).isNone then .done s St.rasNoSpare []
    else s.spareJob c 1 id 0
  | 2 =>
    if (s.chan id).state ≠ 0 then .done s St.rasSpareState []
    else match s.spareChan (id / 34) with
      | none => .done s St.rasNoSpare []
      | some t => .started (s.startMig (id / 34) (id % 34) t) none
  | _ =>
    let x := s.port id
    if x.state ≠ .up ∨ x.spareUsed then .done s St.rasSpareState []
    else if !x.good.getLsbD 8 then .done s St.rasNoSpare []
    else .started (s.laneFail id sub) (some (St.ok, []))

def execSpareSet (s : State) : Out :=
  .next (s.hostTake { op := 7, mgmtOnly := true, rsvd := [(1, 1)], ok := spareSetOk, mode := some 6 } State.spareSet)

/-! ### Memory, bays and channels -/

/-- A read of a local address for a host: registers in whole (R571). -/
def State.hostRead (s : State) (priv : Priv) (task addr len : Nat) : Option (State × Status × List Byte) :=
  if s.shutTo priv addr then some (s, St.netDestFenced, [])
  else match localRegion addr with
    | some (.tile ps off) => if (s.stall ps).pstate ≠ .run then none else some (s.tileDbgRead ps off len .clean)
    | some (.scsr _ _) => s.csrRead priv false addr len
    | some (.gpage _ _) => s.csrRead priv false addr len
    | some (.npage _ _) => s.csrRead priv false addr len
    | some (.dev _) => s.csrRead priv false addr len
    | _ => s.unitRead priv task 0 addr len

def State.hostWrite (s : State) (priv : Priv) (task addr : Nat) (data : List Byte) : Option (State × Status) :=
  if s.shutTo priv addr then some (s, St.netDestFenced)
  else
    let reg := s.csrWrite priv false addr data.length (BitVec.ofNat 64 (leNat (data.take 8)))
    match localRegion addr with
    | some (.tile ps off) => if (s.stall ps).pstate ≠ .run then none else some (s.tileDbgWrite ps off (data.map some))
    | some (.scsr _ _) => reg
    | some (.gpage _ _) => reg
    | some (.npage _ _) => reg
    | some (.dev _) => reg
    | _ => s.unitWrite priv task 0 addr data

/-- TASK = 0xFFFF asks for an untranslated access, for MGMT alone (R494) (DESIGN CHOICE, log 48). -/
def memPriv (task : Nat) : Priv := if task = 0xFFFF then .tack else .kernel

/-- A global access of a host (R331): a request of gate 0, whose answer ends the command (DESIGN CHOICE, log 48). -/
def State.hostGlobal (s : State) (typ : Nat) (priv : Priv) (task addr len : Nat) (data : List Byte) : HostRes :=
  match s.hostAcc with
  | some a =>
    (match a.res with
     | none => .wait
     | some (st, bs) => .done { s with hostAcc := none } st (if st = St.ok then bs else []))
  | none =>
    if !s.devidValid then .done s St.linkNoRoute []
    else .hold (({ s with hostAcc := some { id := s.nextAcc }, nextAcc := s.nextAcc + 1 } : State).gateSubmit 0 (.host s.nextAcc)
      { typ := typ, priv := priv, dst := bits addr 62 49, src := 0, addr := addr % 2 ^ 49, len := len,
        group := Config.requestGroup task 0 % 65536, data := data })

def memLenOk (p : List Byte) : Bool := decide (1 ≤ hb p 2 2 ∧ hb p 2 2 ≤ 1024)

/-- DESIGN CHOICE, log 48. -/
def execMemRead (s : State) : Out :=
  .next (s.hostTake { op := 0x0101, ok := fun p => decide (p.length = 12) && memLenOk p } (fun t c =>
    let task := hb c.params 0 2
    if task = 0xFFFF ∧ !c.mgmt then .done t St.privilege []
    else if isGlobal (hb c.params 4 8) then t.hostGlobal 1 (memPriv task) task (hb c.params 4 8) (hb c.params 2 2) []
    else match t.hostRead (memPriv task) task (hb c.params 4 8) (hb c.params 2 2) with
      | none => .wait
      | some (u, st, bs) => .done u st (if st = St.ok then bs else [])))

/-- DESIGN CHOICE, log 48. -/
def execMemWrite (s : State) : Out :=
  .next (s.hostTake { op := 0x0102, ok := fun p => decide (p.length = 12 + hb p 2 2) && memLenOk p } (fun t c =>
    let task := hb c.params 0 2
    if task = 0xFFFF ∧ !c.mgmt then .done t St.privilege []
    else if isGlobal (hb c.params 4 8) then
      t.hostGlobal 2 (memPriv task) task (hb c.params 4 8) (hb c.params 2 2) (c.params.drop 12)
    else HostRes.ofWrite (t.hostWrite (memPriv task) task (hb c.params 4 8) (c.params.drop 12))))

/-- BAY_RELEASE (R29): a SPARE bay is RELEASED at once, an ACTIVE one once its channel has migrated. -/
def State.bayRelease (s : State) (bay : Nat) : HostRes :=
  match (s.chan bay).state with
  | 1 => .started (s.setChan bay { s.chan bay with state := 3 }) none
  | 0 =>
    (match s.spareChan (bay / 34) with
     | none => .done s St.bayNoSpare []
     | some t => .started (s.startMig (bay / 34) (bay % 34) t) none)
  | _ => .done s St.bayNotReleasable []

def execBayRelease (s : State) : Out :=
  .next (s.hostTake { op := 0x0103, ok := fun p => decide (p.length = 1 ∧ hb p 0 1 < 136) } (fun t c => t.bayRelease (hb c.params 0 1)))

def execBayState (s : State) : Out :=
  .next (s.hostTake { op := 0x0104, ok := fun p => decide (p.length = 1 ∧ hb p 0 1 < 136) } (fun t c =>
    let x := t.chan (hb c.params 0 1)
    .done t St.ok (leBytes 1 x.state ++ leBytes 1 0 ++ leBytes 2 x.last.toNat)))

/-- A channel of the shed serves a logical channel, or is being made ready for it. -/
def State.lcServed (s : State) (n lc : Nat) : Bool :=
  (List.range 34).any (fun i => let c := s.chan (n * 34 + i); decide (c.lc = lc ∧ (c.state = 0 ∨ c.state = 2 ∨ c.state = 7)))

/-- CHAN_RECLAIM (R294): a SPARE channel takes a failed logical channel; it is zeroed before it serves (DESIGN CHOICE, log 49). -/
def State.chanReclaim (s : State) (n lc : Nat) : HostRes :=
  if s.lcServed n lc then .done s St.badParam []
  else match s.spareChan n with
    | none => .done s St.bayNoSpare []
    | some i => .started (s.setChan (n * 34 + i) { s.chan (n * 34 + i) with state := 7, lc := lc }) none

def execChanReclaim (s : State) : Out :=
  .next (s.hostTake { op := 0x0105, ok := fun p => decide (p.length = 2 ∧ hb p 0 1 < 4 ∧ hb p 1 1 < 32) } (fun t c =>
    t.chanReclaim (hb c.params 0 1) (hb c.params 1 1)))

/-- The end of a reclaim: the logical channel reads zero, and the channel is ACTIVE. -/
def State.reclaimEnd (s : State) (n lc : Nat) : State × Status × List Byte :=
  match (List.range 34).find? (fun i => decide ((s.chan (n * 34 + i)).state = 7 ∧ (s.chan (n * 34 + i)).lc = lc)) with
  | none => (s, St.memMigState, [])
  | some i =>
    let out := fun (a : Nat) => decide (spreadLc a ≠ n * 32 + lc)
    let s : State := { s with mem := s.mem.filter (fun e => out e.1), memUe := s.memUe.filter (fun b => out (b * 64)) }
    (s.setChan (n * 34 + i) { s.chan (n * 34 + i) with state := 0 }, St.ok, leBytes 1 (n * 34 + i))

/-! ### RoCE resources (R495) -/

/-- RKEY of a memory region (DESIGN CHOICE, log 49). -/
def rkeyOf (i : Nat) : Nat := Config.rkeyHigh i % 2 ^ 20 * 4096 + i

/-- A region lies in main memory or in one stall's scratch (R496). -/
def mrOk (addr len : Nat) : Bool :=
  decide (addr + len ≤ 0x200000000000) ||
  (decide (0x400000000000 ≤ addr ∧ addr < 0x400000000000 + 288 * 0x100000000) && decide (addr % 0x100000000 + len ≤ 0x400000))

/-- The lowest of n free entries. -/
def freeEntry {α : Type} (m : Map (Option α)) (base n : Nat) : Option Nat :=
  ((List.range n).map (· + base)).find? (fun i => (Map.get noneOf m i).isNone)

def execMrReg (s : State) : Out :=
  .next (s.hostTake { op := 0x0106, rsvd := [(5, 3)], ok := fun p => decide (p.length = 24 ∧ hb p 4 1 ≤ 3) && mrOk (hb p 8 8) (hb p 16 8) }
    (fun t c =>
      let p := c.params
      match freeEntry t.mrs 0 4096 with
      | none => .done t St.haltLimit []
      | some i => .done { t with mrs := Map.set noneOf t.mrs i (some { task := hb p 0 2, tenant := hb p 2 2, rights := hb p 4 1,
                                                                         addr := hb p 8 8, len := hb p 16 8 }) }
                        St.ok (leBytes 4 (rkeyOf i))))

/-- MR_DEREG: no RoCE operation outlasts its command, so none remains in flight. -/
def execMrDereg (s : State) : Out :=
  .next (s.hostTake { op := 0x0107, ok := fun p => decide (p.length = 4) } (fun t c =>
    let k := hb c.params 0 4
    if (Map.get noneOf t.mrs (k % 4096)).isNone ∨ rkeyOf (k % 4096) ≠ k then .done t St.badParam []
    else .started { t with mrs := Map.set noneOf t.mrs (k % 4096) none } (some (St.ok, []))))

def qpOk (p : List Byte) : Bool :=
  decide (p.length = 36 ∧ hb p 0 1 < 2 ∧ hb p 1 1 ≤ 2 ∧ (hb p 6 2 = 1024 ∨ hb p 6 2 = 2048 ∨ hb p 6 2 = 4096) ∧
    hb p 8 4 < 2 ^ 24 ∧ hb p 12 4 < 2 ^ 24 ∧ hb p 16 4 < 2 ^ 24)

/-- QP_CREATE: queue pair numbers of a port start at 256 × (port + 1) (DESIGN CHOICE, log 49). -/
def execQpCreate (s : State) : Out :=
  .next (s.hostTake { op := 0x0108, ok := qpOk } (fun t c =>
    let p := c.params
    match freeEntry t.qps (256 * (hb p 0 1 + 1)) 256 with
    | none => .done t St.haltLimit []
    | some i => .done { t with qps := Map.set noneOf t.qps i (some { port := hb p 0 1, db := hb p 1 1, task := hb p 2 2, tenant := hb p 4 2,
                                                                       pmtu := hb p 6 2, dqpn := hb p 8 4, spsn := hb p 12 4,
                                                                       dpsn := hb p 16 4, dgid := hb p 20 16 }) }
                      St.ok (leBytes 4 i)))

def execQpDestroy (s : State) : Out :=
  .next (s.hostTake { op := 0x0109, ok := fun p => decide (p.length = 4) } (fun t c =>
    let i := hb c.params 0 4
    if (Map.get noneOf t.qps i).isNone then .done t St.badParam []
    else .started { t with qps := Map.set noneOf t.qps i none } (some (St.ok, []))))

/-! ### Stalls and grooms -/

def execDoorbell (s : State) : Out :=
  .next (s.hostTake { op := 0x0201, rsvd := [(1, 3)], ok := fun p => decide (p.length = 12) } (fun t c =>
    HostRes.ofWrite (t.hostCsrWrite c.priv (stallWin (t.psOf (hb c.params 0 1)) + 0x8000240) (BitVec.ofNat 64 (hb c.params 4 8)))))

/-- GROOM_RUNCTL of groom G, by LS × 16 + g. -/
def State.runctlAddr (s : State) (g : Nat) : Nat := stallWin (s.psOf (g / 16)) + 0xA000098 + g % 16 * 4096

def execGroomRun (s : State) : Out :=
  .next (s.hostTake { op := 0x0202, rsvd := [(2, 2)], ok := fun p => decide (p.length = 8 ∧ hb p 0 2 < 4096 ∧ hb p 4 4 < 2 ^ 22 ∧ hb p 4 4 % 4 = 0) }
    (fun t c => HostRes.ofWrite (t.hostCsrWrite c.priv (t.runctlAddr (hb c.params 0 2)) (BitVec.ofNat 64 (2 ^ 60 + hb c.params 4 4)))))

def execGroomHalt (s : State) : Out :=
  .next (s.hostTake { op := 0x0203, ok := fun p => decide (p.length = 3 ∧ hb p 0 2 < 4096 ∧ hb p 2 1 ≤ 1) } (fun t c =>
    match t.hostCsrWrite c.priv (t.runctlAddr (hb c.params 0 2)) (BitVec.ofNat 64 (2 ^ (61 + hb c.params 2 1))) with
    | none => .wait
    | some (u, st) => if st = St.ok then .started u none else .done u st []))

def execQueueCtl (s : State) : Out :=
  .next (s.hostTake { op := 0x0204, ok := fun p => decide (p.length = 3 ∧ hb p 1 1 < 5 ∧ hb p 2 1 < 4) } (fun t c =>
    let ps := t.psOf (hb c.params 0 1)
    let q := hb c.params 1 1
    match t.hostCsrWrite c.priv (stallWin ps + 0x8000018 + q * 0x40) (BitVec.ofNat 64 (2 ^ hb c.params 2 1)) with
    | none => .wait
    | some (u, st) => .done u st (if st = St.ok then leBytes 1 (qstateNum (u.queueState ps q)) else [])))

def execTaskEnd (s : State) : Out :=
  .next (s.hostTake { op := 0x0205, ok := fun p => decide (p.length = 2) } (fun t c =>
    let (u, st) := t.taskEnd c.priv (BitVec.ofNat 64 (hb c.params 0 2))
    .done u st []))

/-! ### Links, gates and barrier slots -/

/-- NEIGH_READ. -/
def State.neighbours (s : State) : List Byte :=
  (List.range 32).flatMap (fun p => let x := s.port p
    leBytes 1 (portNum x.state) ++ leBytes 1 x.inUse.length ++ leBytes 2 (if x.peerValid then x.peer else 0xFFFF))

def execNeighRead (s : State) : Out := .next (s.hostTake { op := 0x0301 } (fun t _ => .done t St.ok t.neighbours))

/-- DEVID_SET (R514): GATE_DEVID, and a DEVID record in the store (R519) (DESIGN CHOICE, log 49). -/
def State.devidSet (s : State) (id : Nat) : State :=
  let s := s.setGates 0 (place 13 0 id ||| place 15 15 1)
  let r : StoreRec := { typ := 1, bytes := leBytes 2 id, sigOk := true }
  match s.winner with
  | some w => let b := s.bank w; s.storeWrite { b with recs := b.recs.filter (fun x => decide (x.typ ≠ 1)) ++ [r] }
  | none => s

def execDevidSet (s : State) : Out :=
  .next (s.hostTake { op := 0x0302, mgmtOnly := true, ok := fun p => decide (p.length = 2 ∧ hb p 0 2 < 16384) } (fun t c =>
    if t.tack.activating.isSome then .done t St.rasStoreBusy [] else .done (t.devidSet (hb c.params 0 2)) St.ok []))

/-- ROUTE_WRITE: entries in ascending index order. -/
def State.routesWrite (s : State) (first n : Nat) (bs : List Byte) : State :=
  { s with routes := (List.range n).foldl (fun m i =>
      Map.set zeroW m (first + i) (BitVec.ofNat 64 (hb bs (4 * i) 4) &&& 0x7F7F7F7F)) s.routes }

def execRouteWrite (s : State) : Out :=
  .next (s.hostTake { op := 0x0303, mgmtOnly := true, ok := fun p => decide (p.length = 4 + 4 * hb p 2 2 ∧ 1 ≤ hb p 2 2 ∧ hb p 2 2 ≤ 351 ∧
                                                                             hb p 0 2 + hb p 2 2 ≤ 16384) }
    (fun t c => .done (t.routesWrite (hb c.params 0 2) (hb c.params 2 2) (c.params.drop 4)) St.ok []))

/-- RWIN_SET: the three registers of a window together (DESIGN CHOICE, log 49). -/
def State.rwinSet (s : State) (k : Nat) (base len ctl : Word) : State × Status :=
  let put := fun (s : State) (o : Nat) (v : Word) => match findReg gateRegs o with
    | some r => s.setGates o (r.afterWrite (s.dcsr (gateBase 0 + o)) v)
    | none => s
  let t := put (put s (0x100 + k * 0x18) base) (0x108 + k * 0x18) len
  let (u, st) := t.rwinWrite .kernel k ctl
  if st = St.ok then (u, st) else (s, st)

def execRwinSet (s : State) : Out :=
  .next (s.hostTake { op := 0x0304, rsvd := [(1, 3)], ok := fun p => decide (p.length = 28 ∧ hb p 0 1 < 64) } (fun t c =>
    let w := fun i => BitVec.ofNat 64 (hb c.params (4 + 8 * i) 8)
    let (u, st) := t.rwinSet (hb c.params 0 1) (w 0) (w 1) (w 2)
    .done u st []))

/-- XBAR_SET: CFG first when it disables the slot, else last; nothing is written when a write is refused (DESIGN CHOICE, log 49). -/
def State.xbarSet (s : State) (b : Nat) (cfg cfg2 key : Word) : State × Status :=
  let o := 0x100 + b * 0x20
  let l := if bit cfg 16 then [(o + 8, cfg2), (o + 16, key), (o, cfg)] else [(o, cfg), (o + 8, cfg2), (o + 16, key)]
  let (t, st) := l.foldl (fun (x : State × Status) e => if x.2 ≠ St.ok then x else x.1.xbarWrite .kernel e.1 e.2) (s, St.ok)
  if st = St.ok then (t, st) else (s, st)

def execXbarSet (s : State) : Out :=
  .next (s.hostTake { op := 0x0305, rsvd := [(1, 3)], ok := fun p => decide (p.length = 28 ∧ hb p 0 1 < 16) } (fun t c =>
    let w := fun i => BitVec.ofNat 64 (hb c.params (4 + 8 * i) 8)
    let (u, st) := t.xbarSet (hb c.params 0 1) (w 0) (w 1) (w 2)
    .done u st []))

/-- LINK_CTL for a PORT_CTL action. -/
def State.portCtlWord (s : State) (p action lane : Nat) : Word :=
  let w := s.linkCtlNow p
  match action with
  | 0 => w ||| 2
  | 1 => setFld w 0 0 0
  | 2 => setFld w 0 0 1
  | _ => setFld w 7 4 lane ||| 4

def execPortCtl (s : State) : Out :=
  .next (s.hostTake { op := 0x0306, ok := fun p => decide (p.length = 3 ∧ hb p 0 1 < 32 ∧ hb p 1 1 ≤ 3 ∧ hb p 2 1 < 8) } (fun t c =>
    let p := hb c.params 0 1
    let (u, st) := t.linkCtl c.priv p (t.portCtlWord p (hb c.params 1 1) (hb c.params 2 1))
    .done u st (if st = St.ok then leBytes 1 (portNum (u.port p).state) else [])))

/-! ### Commit, checkpoint and recovery -/

def execCmtCmd (s : State) : Out :=
  .next (s.hostTake { op := 0x0401, ok := fun p => decide (p.length = 2 ∧ hb p 1 1 ≤ 1) } (fun t c =>
    let (u, st) := t.cmtCtl c.priv (hb c.params 0 1) (decide (hb c.params 1 1 = 1))
    .done u st (if st = St.ok then leBytes 1 (cmtNum u.cmt.state) ++ leBytes 1 0 ++ leBytes 2 u.cmt.status.toNat else [])))

def execStepRead (s : State) : Out :=
  .next (s.hostTake { op := 0x0402, ok := fun p => decide (p.length = 1 ∧ hb p 0 1 < 4) } (fun t c =>
    let o := combBase 0 + 0x500 + hb c.params 0 1 * 0x10
    .done t St.ok (leBytes 8 (t.dcsr o).toNat ++ leBytes 8 (t.dcsr (o + 8)).toNat)))

/-- DESIGN CHOICE, log 49. -/
def execGroupRestore (s : State) : Out :=
  .next (s.hostTake { op := 0x0403, mgmtOnly := true, ok := fun p => decide (p.length = 8) } (fun t c =>
    let (u, st) := t.groupRestore (hb c.params 0 8)
    .started u (some (st, []))))

def execCkptRead (s : State) : Out :=
  .next (s.hostTake { op := 0x0404 } (fun t _ =>
    .done t St.ok (leBytes 8 (place 47 0 t.cmt.ckLast).toNat ++ leBytes 8 (place 55 0 t.cmt.ckLstep).toNat ++ leBytes 8 t.ckStat.toNat)))

/-! ### Coolant and power -/

def execCoolClear (s : State) : Out :=
  .next (s.hostTake { op := 0x0501, mgmtOnly := true } (fun t _ => let (u, st) := t.coolClear; .done u st []))

def execPowerCap (s : State) : Out :=
  .next (s.hostTake { op := 0x0502, mgmtOnly := true, ok := fun p => decide (p.length = 2) && capOk (hb p 0 2) } (fun t c =>
    let (u, st) := t.capHostWrite .tack (BitVec.ofNat 64 (hb c.params 0 2))
    .done u st []))

def execPstateSet (s : State) : Out :=
  .next (s.hostTake { op := 0x0503, ok := fun p => decide (p.length = 2 ∧ hb p 1 1 ≤ 4), mode := some 4 } (fun t c =>
    let (u, st) := t.pstateSet (hb c.params 0 1) (hb c.params 1 1)
    .done u st []))

/-! ### Firmware (R550 to R552) -/

/-- FW_STAGE: bytes of the staging buffer (DESIGN CHOICE, log 50). -/
def State.fwStage (s : State) (off : Nat) (data : List Byte) : State × Status :=
  if 0x1FFFFC0 < off + data.length then (s, St.rasFwStage)
  else (s.modTack (fun t => { t with staged := writeBytes t.staged off data, stagedLen := max t.stagedLen (off + data.length) }), St.ok)

def execFwStage (s : State) : Out :=
  .next (s.hostTake { op := 0x0601, mgmtOnly := true, rsvd := [(6, 2)],
                      ok := fun p => decide (p.length = 8 + hb p 4 2 ∧ 1 ≤ hb p 4 2 ∧ hb p 4 2 ≤ 1400) } (fun t c =>
    let (u, st) := t.fwStage (hb c.params 0 4) (c.params.drop 8)
    .done u st []))

/-- The records of a package: TYPE:16, RLEN:16 and content, each aligned to 64 bytes; TYPE 0 ends the list. None when one does not
fit (DESIGN CHOICE, log 50). -/
def parseRecs : Nat → List Byte → Option (List StoreRec)
  | 0, _ => some []
  | n + 1, l =>
    let len := 4 + hb l 2 2
    if l = [] ∨ hb l 0 2 = 0 then some []
    else if l.length < len then none
    else (parseRecs n (l.drop ((len + 63) / 64 * 64))).map (fun r => { typ := hb l 0 2, bytes := (l.drop 4).take (hb l 2 2), sigOk := true } :: r)

/-- A staged package. -/
structure FwPkg where
  svn : Nat
  image : List Byte
  recs : List StoreRec
  deriving DecidableEq, Repr

/-- The package, when its header and record lengths are consistent with LEN. -/
def Tack.pkg (t : Tack) (len : Nat) : Option FwPkg :=
  let h := readBytes t.staged 0 64
  let img := hb h 4 4
  let rec_ := hb h 12 4
  if len ≠ t.stagedLen ∨ len < 64 ∨ hb h 0 4 ≠ 0x50574658 ∨ len ≠ 64 + img + rec_ ∨ (img ≠ 0 ∧ img < 29792) then none
  else (parseRecs (rec_ / 64 + 1) (readBytes t.staged (64 + img) rec_)).map (fun r =>
    { svn := hb h 8 4, image := readBytes t.staged 64 img, recs := r })

/-- The checks of R551, in order (DESIGN CHOICE, log 50). -/
def State.fwCheck (s : State) (len : Nat) : Status :=
  match s.tack.pkg len with
  | none => St.rasFwStage
  | some p =>
    if s.tack.activating.isSome then St.rasStoreBusy
    else if !s.tack.standbyOk then St.rasStandbyDown
    else if p.image ≠ [] ∧ !Config.sigVerifies p.image then St.rasFwSig
    else if p.svn < s.tack.minsvn then St.rasFwRollback
    else St.ok

/-- FW_ACTIVATE: after its checks the standby starts the image. -/
def execFwActivate (s : State) : Out :=
  .next (s.hostTake { op := 0x0602, mgmtOnly := true, ok := fun p => decide (p.length = 4) } (fun t c =>
    let st := t.fwCheck (hb c.params 0 4)
    if st ≠ St.ok then .done t st []
    else .started (t.modTack (fun k => { k with activating := some (c.session, c.seq), fwStage := 1, standbyOk := false })) none))

/-! ### Attestation (R556) -/

/-- Bytes 0x000 to 0x16F of the report. -/
def State.reportHead (s : State) (nonce : List Byte) : List Byte :=
  leBytes 4 0x52544158 ++ leBytes 2 1 ++ leBytes 2 0 ++ leBytes 8 Config.serial.toNat ++ leBytes 2 s.devid ++ leBytes 1 (b2n s.devidValid) ++
  leBytes 5 0 ++ leBytes 4 s.tack.fwver0 ++ leBytes 4 s.tack.fwver1 ++ leBytes 4 s.tack.svn ++ leBytes 4 s.tack.minsvn ++
  leBytes 4 s.pwr.resets ++ leBytes 2 (s.dcsr hostifBase).toNat ++ leBytes 2 0 ++ nonce ++
  (List.range 8).flatMap (fun k => let m : BitVec 256 := Map.get (fun _ => 0) s.tack.meas k; leBytes 32 m.toNat) ++
  fixLen 32 Config.identityKey

/-- The report, signed under context XWK-ATT. -/
def State.attestReport (s : State) (nonce : List Byte) : List Byte :=
  let h := s.reportHead nonce
  h ++ signed [0x58, 0x57, 0x4B, 0x2D, 0x41, 0x54, 0x54] h

def execAttest (s : State) : Out :=
  .next (s.hostTake { op := 0x0603, ok := fun p => decide (p.length = 32) } (fun t c =>
    .started (t.modTack (fun k => { k with report := t.attestReport c.params })) (some (St.ok, leBytes 4 17456))))

/-- ATTEST_READ: the report from offset 0, the device certificate from 0x10_0000. -/
def Tack.attestRead (t : Tack) (off : Nat) : List Byte :=
  if off < 0x100000 then (t.report.drop off).take 1404 else (Config.certificate.drop (off - 0x100000)).take 1404

def execAttestRead (s : State) : Out :=
  .next (s.hostTake { op := 0x0604, ok := fun p => decide (p.length = 4) } (fun t c =>
    let l := t.tack.attestRead (hb c.params 0 4)
    .done t St.ok (leBytes 2 l.length ++ leBytes 2 0 ++ l)))

/-! ### Telemetry (R502) -/

/-- A quantity in hundredths, as 16 bits. -/
def centi (t : Int) : Nat := ofSigned 16 t

/-- A class of TELE_READ. -/
def State.telemetry (s : State) : Nat → Option (List Byte)
  | 0 => some (leBytes 2 s.pwr.inletW ++ leBytes 2 s.pwr.pkgW ++ leBytes 2 s.cap.1 ++ leBytes 2 s.pwr.dclink ++ leBytes 2 (centi s.pwr.tsup) ++
      leBytes 2 (centi s.pwr.tret) ++ leBytes 2 s.pwr.flow)
  | 1 => some ((s.evictStopped.take 64).flatMap (fun t => leBytes 2 t ++ leBytes 2 0 ++ ((s.devRead (s.ttEntry t + 4) 4).2)))
  | 2 => some ((List.range 32).flatMap (fun p => leBytes 8 (s.port p).stat.toNat ++ leBytes 4 (fld (s.dcsr (linkBase p + 0x20)) 31 0)))
  | 3 => some s.ageRecord
  | _ => none

def execTeleRead (s : State) : Out :=
  .next (s.hostTake { op := 0x0701, ok := fun p => decide (p.length = 1 ∧ hb p 0 1 ≤ 3) } (fun t c =>
    match t.telemetry (hb c.params 0 1) with
    | some l => .done t St.ok l
    | none => .done t St.badParam []))

/-! ### The end of a long command (R489, R494) -/

/-- Result of a bay that is being released. -/
def State.releaseEnd (s : State) (bay : Nat) : Option (Status × List Byte) :=
  match (s.chan bay).state with
  | 3 => some (St.ok, [])
  | 2 => none
  | _ => some (St.memMigState, [])

/-- A sparing for this command is still to come. -/
def State.sparing (s : State) (c : CpCmd) : Bool := s.tack.todo.any (fun j => decide (j.long = some (c.session, c.seq)))

/-- Whether a long command has ended, with what it leaves. -/
def State.longResult (s : State) (l : LongCmd) : Option (State × Status × List Byte) :=
  let p := l.cmd.params
  match l.res with
  | some (st, d) => some (s, st, d)
  | none =>
    match l.cmd.opcode with
    | 0x0007 =>
      if hb p 0 1 = 2 then (s.releaseEnd (hb p 4 4)).map (fun r => (s, r))
      else if s.sparing l.cmd then none else some (s, St.rasSpareState, [])
    | 0x0103 => (s.releaseEnd (hb p 0 1)).map (fun r => (s, r))
    | 0x0105 => some (s.reclaimEnd (hb p 0 1) (hb p 1 1))
    | 0x0203 => if (s.groom (s.psOf (hb p 0 2 / 16) * 16 + hb p 0 2 % 16)).halted then some (s, St.ok, []) else none
    | 0x0602 => if s.tack.activating.isSome then none else some (s, St.rasFwStart, [])
    | _ => some (s, St.ok, [])

/-- LONG_COMMAND_END: the final reply, cached in its session. -/
def execLongCommandEnd (session seq : Nat) (s : State) : Out :=
  .next (
    let mine := fun (l : LongCmd) => decide (l.cmd.session = session ∧ l.cmd.seq = seq)
    match s.longs.find? mine with
    | none => s
    | some l =>
      if s.tack.takeover ∨ !s.hostServed then s
      else match s.longResult l with
        | none => s
        | some (t, st, d) =>
          ({ t with longs := t.longs.filter (fun x => !mine x), outbox := [] } : State).replyTo l.cmd (t.keyOf l.cmd) true st d)

end Sys2Proof.Machine
end

