-- ==== Sys2Proof/Machine/Remote.lean ====
section
/-! DEFINITION. Global requests at the target, their responses at the source, refusals and probes, time-outs, transfers; the arbiter
watchdog and control-state parity errors (R335 to R341, R470, R537). -/

namespace Sys2Proof.Machine

/-! ### The target (R335, R341) -/

/-- GATE_RWINk_CTL. -/
def rwinCtl (s : State) (k : Nat) : Word := s.dcsr (gateBase 0 + 0x110 + k * 0x18)

/-- Width of an AMO (R327). -/
def amopBytes (c : Nat) : Nat := if c % 2 = 0 then 4 else 8

/-- The operation of an AMOP (R327). -/
def amopOf (c : Nat) : Option AmoOp :=
  match c with
  | 0 => some .addW | 1 => some .addD | 2 => some .swapW | 3 => some .swapD | 4 => some .casW | 5 => some .casD | _ => none

/-- Bytes that a request accesses. -/
def targetLen (p : Packet) : Nat := if p.typ = 3 then amopBytes p.amop else if p.typ = 1 then p.len else p.data.length

/-- A window holds every byte of an access, and for LAST the signal word. -/
def State.windowHolds (s : State) (k : Nat) (p : Packet) : Bool :=
  let (b, n) := s.window k
  bit (rwinCtl s k) 63 && decide (b ≤ p.addr ∧ p.addr + targetLen p ≤ b + n) &&
    (!p.last || decide (b ≤ p.sigaddr ∧ p.sigaddr + 8 ≤ b + n))

/-- Checks 1 to 5: a failing status, NAK_RNR, or the task and tenant of the access. -/
inductive Admit where
  | fail (st : Status)
  | nak
  | ok (task tenant : Nat)
  deriving DecidableEq, Repr

/-- DESIGN CHOICE, log 37. -/
def State.windowCheck (s : State) (p : Packet) : Admit :=
  if p.priv = .tack then .ok 0 0
  else
    match (List.range 64).find? (fun k => s.windowHolds k p) with
    | none => .fail St.linkRemotePerm
    | some k =>
      let c := rwinCtl s k
      if p.priv = .task ∧ p.group ≠ fld c 15 0 then .fail St.linkRemotePerm
      else if !(bit c (if p.typ = 1 then 48 else if p.typ = 2 then 49 else 50)) ∨ (p.last ∧ !bit c 50) then .fail St.linkRemotePerm
      else if p.typ ≠ 1 ∧ !bit c 51 then .nak
      else .ok (fld c 31 16) (fld c 47 32)

/-- A request of the target's own, at its window's task and tenant; a window is open to its stall scratch. -/
def targetReq (p : Packet) (task tenant addr : Nat) (op : MemOp) (len : Nat) (data : List Byte) : Req :=
  { unitReq p.priv task tenant addr op len data with dwinHi := 2 ^ 49 }

/-- The access of a request, in pieces that end at 4 KiB boundaries; none while its stall sleeps. -/
def State.targetPieces (s : State) (p : Packet) (task tenant : Nat) (op : MemOp) :
    Nat → Nat → Nat → List Byte → Option (State × Status × List Byte)
  | 0, _, _, _ => some (s, St.ok, [])
  | fuel + 1, addr, len, data =>
    if len = 0 then some (s, St.ok, [])
    else
      let n := min len (4096 - addr % 4096)
      match s.unitPiece (targetReq p task tenant addr op n (if op = .read then [] else data.take n)) with
      | none => none
      | some (t, st, bs) =>
        if st ≠ St.ok then some (t, st, [])
        else match t.targetPieces p task tenant op fuel (addr + n) (len - n) (data.drop n) with
          | none => none
          | some (u, st, rest) => some (u, st, bs ++ rest)

def State.targetAccess (s : State) (p : Packet) (task tenant : Nat) : Option (State × Status × List Byte) :=
  match p.typ with
  | 1 => s.targetPieces p task tenant .read 3 p.addr p.len []
  | 2 => s.targetPieces p task tenant .write 3 p.addr p.data.length p.data
  | _ =>
    match amopOf p.amop with
    | some op => s.unitPiece (targetReq p task tenant p.addr (.amo op) (amopBytes p.amop) p.data)
    | none => some (s, St.unsupported, [])

/-- A fault that the target's pager serves keeps the request at its gate (R335). -/
def State.pagedAt (s : State) (n : Nat) (p : Packet) (task tenant : Nat) (st : Status) : State :=
  let f : PFault := { who := .inr s.nextReq, va := p.addr, task := task, tenant := tenant, write := decide (p.typ ≠ 1), status := st }
  { s.modGate n (fun g => { g with paged := g.paged ++ [(s.nextReq, p)] }) with pfaults := s.pfaults ++ [f], nextReq := s.nextReq + 1 }

/-- Answer, or leave to the pager. -/
def State.targetEnd (s : State) (n : Nat) (p : Packet) (task tenant : Nat) (st : Status) (data : List Byte) : State :=
  if pagerServes st ∧ !s.hostMode 0 then s.pagedAt n p task tenant st
  else s.reply n p st (if st = St.ok then data else [])

/-- Gate that tracks a transfer (R341). -/
def xferGate (p : Packet) : Nat := (p.src + p.xfer) % 4

def XferEnt.is (e : XferEnt) (p : Packet) : Bool := decide (e.src = p.src ∧ e.xfer = p.xfer)

/-- A packet of a transfer has been written: LAST waits for the others, then the signal is added and LAST acknowledged (DESIGN CHOICE, log 37). -/
def State.xferWritten (s : State) (n : Nat) (p : Packet) (task tenant : Nat) : Option State :=
  let k := xferGate p
  let e := ((s.gate k).xfers.find? (fun e => e.is p)).getD { src := p.src, xfer := p.xfer, at_ := s.clk }
  let e := { e with got := if e.got.contains p.pkt then e.got else p.pkt :: e.got, last := if p.last then some p else e.last }
  let rest := (s.gate k).xfers.filter (fun x => !x.is p)
  let keep := fun (s : State) => s.modGate k (fun g => { g with xfers := rest ++ [e] })
  let drop := fun (s : State) => s.modGate k (fun g => { g with xfers := rest })
  match e.last with
  | some l =>
    if e.got.length = l.pkt + 1 then
      -- The signal is an AMOADD.D in the window of LAST.
      let (task, tenant) := match s.windowCheck l with | .ok a b => (a, b) | _ => (task, tenant)
      match s.unitPiece (targetReq l task tenant l.sigaddr (.amo .addD) 8 (leBytes 8 l.sigval.toNat)) with
      | none => none
      | some (t, st, _) =>
        let t := if p.last then t else t.reply n p St.ok
        some ((if pagerServes st ∧ !t.hostMode 0 then keep t else drop t).targetEnd n l task tenant st [])
    else some (if p.last then keep s else (keep s).reply n p St.ok)
  | none => some ((keep s).reply n p St.ok)

/-- Perform the first request of a type that has come to a gate (DESIGN CHOICE, log 37). -/
def State.targetTake (s : State) (n typ : Nat) : State :=
  match (s.gate n).take (fun p => p.typ = typ) with
  | none => s
  | some (p, g) =>
    let t := s.setGate n g
    match t.windowCheck p with
    | .fail st => t.reply n p st
    | .nak => t.toGate n { t.responseTo p St.ok [] with typ := 0x12 }
    | .ok task tenant =>
      let xs := (t.gate (xferGate p)).xfers
      if p.typ = 2 ∧ p.trk ∧ !xs.any (fun e => e.is p) ∧ 1024 ≤ xs.length then
        t.toGate n { t.responseTo p St.ok [] with typ := 0x12 }
      else
        match t.targetAccess p task tenant with
        | none => s
        | some (u, st, data) =>
          if p.typ = 2 ∧ p.trk ∧ st = St.ok then (u.xferWritten n p task tenant).getD s
          else u.targetEnd n p task tenant st data

def execRd (gate : Nat) (s : State) : Out := .next ((s.targetTake gate 1).rearm)
def execWr (gate : Nat) (s : State) : Out := .next ((s.targetTake gate 2).rearm)
def execAmo (gate : Nat) (s : State) : Out := .next ((s.targetTake gate 3).rearm)

/-- XFER_EXPIRE: LAST has not come within 2 × 2^RTO_LOG2 NCLK of the first packet (R341). -/
def execXferExpire (gate idx : Nat) (s : State) : Out :=
  .next (match (s.gate gate).xfers[idx]? with
    | some e =>
      if e.last ≠ none ∨ s.clk < e.at_ + 2 * 2 ^ fld (s.dcsr (gateBase gate + 8)) 15 8 then s
      else ((s.modGate gate (fun g => { g with xfers := removeAt g.xfers idx })).orDev (gateBase gate + 0x28) 4).rearm
    | none => s)

/-! ### The source (R336, R337, R343, R344) -/

/-- Another packet of the same request is still tracked or waits for the tracker. -/
def State.moreOf (s : State) (o : TrkOwner) : Bool :=
  (List.range 4).any (fun n => (s.gate n).entries.any (fun e => decide (e.2.owner = o)) || (s.gate n).waitq.any (fun w => decide (w.1 = o)))

/-- A packet of a request in flight has been answered: with its last one, the response starts back. -/
def State.reqAnswered (s : State) (id : Nat) (p : Packet) (st : Status) (data : List Byte) : State :=
  match s.req id with
  | none => s
  | some r =>
    if r.phase ≠ .global then s
    else
      let off := (p.addr + 2 ^ 49 - r.addr % 2 ^ 49) % 2 ^ 49
      let r := { r with status := if r.status = St.ok then st else r.status
                        data := match r.op with
                          | .read => if st = St.ok then overlay r.data off data else r.data
                          | .amo _ => data
                          | .write => [] }
      if s.moreOf (.req id) then s.setReq id (some r) else s.answer id r r.status (if r.status = St.ok then r.data else [])

/-- One copy of a multicast write has ended (R343, R344). -/
def State.copyEnded (s : State) (ps xfer pkt target : Nat) (st : Status) : State :=
  let more := (List.range 4).any (fun n =>
    let same := fun (o : TrkOwner) => match o with | .copy a b c _ => decide (a = ps ∧ b = xfer ∧ c = pkt) | _ => false
    (s.gate n).entries.any (fun e => same e.2.owner) || (s.gate n).waitq.any (fun w => same w.1))
  let mine := fun (c : CmdCtx) => match c.args.sig with | some g => g.mcast && decide (g.xfer = xfer) | none => false
  let s := (List.range 5).foldl (fun s q =>
    if ((s.queue ps q).ctxs).any mine then
      s.modQueue ps q (fun x => { x with ctxs := x.ctxs.map (fun c =>
        if mine c then { c with mcOut := c.mcOut - 1, mcFail := if st = St.ok then c.mcFail else target :: c.mcFail
                                parts := if more then c.parts else c.parts.map (fun p =>
                                  if p.kind = .main ∧ p.pkt = pkt ∧ p.st = .issued 255 then { p with st := .landed } else p) }
        else c) })
    else s) s
  s.kickAll ps

/-- What an XBARRIVE learns from the answer to its arrival: a status other than 0x0000 completes it (R361). -/
def State.xbarAnswered (s : State) (ps : Nat) (p : Packet) (st : Status) : State :=
  match p.body, (s.stall ps).sync with
  | .arrival b _ key _, some c =>
    if st ≠ St.ok ∧ c.ph = .atMaster ∧ c.op = 0xA5 ∧ c.index = b ∧ c.key = key then s.syncAnswer ps st 0 0 false else s
  | _, _ => s

/-- The answer to a host's global access: no other one counts for it. -/
def State.hostAnswered (s : State) (id : Nat) (st : Status) (data : List Byte) : State :=
  match s.hostAcc with
  | some a => if a.id = id then { s with hostAcc := some { a with res := some (st, data) } } else s
  | none => s

/-- The use of an answer, or of a status that stands for it. -/
def State.trkUse (s : State) (o : TrkOwner) (p : Packet) (st : Status) (data : List Byte) : State :=
  match o with
  | .req id => s.reqAnswered id p st data
  | .copy ps x k d => s.copyEnded ps x k d st
  | .xbar ps => s.xbarAnswered ps p st
  | .vote => (match p.body with
    | .arrival b _ key _ => if s.cmtAwaits b key then s.voteAnswered st else s
    | _ => s)
  | .release => s
  | .comb _ entry => s.combAnswered p entry st
  | .host id => s.hostAnswered id st data

/-- A tracker entry ends. -/
def State.trkEnd (s : State) (k tag : Nat) (e : Trk) (st : Status) (data : List Byte) : State :=
  (s.modGate k (fun g => g.setEntry tag none)).trkUse e.owner e.pkt st data

/-- Place of a packet in its transfer: packet order, LAST at the end. -/
def pktRank (a : Nat × Trk) : Nat := (b2n a.2.pkt.last * 65536 + a.2.pkt.pkt) * 8192 + a.1

def insertPkt (a : Nat × Trk) : List (Nat × Trk) → List (Nat × Trk)
  | [] => [a]
  | b :: l => if pktRank a < pktRank b then a :: b :: l else b :: insertPkt a l

/-- Entries of the transfer of a packet, in its order. -/
def Gate.transfer (g : Gate) (p : Packet) : List (Nat × Trk) :=
  (g.entries.filter (fun e => sameTransfer p e.2.pkt)).foldl (fun l e => insertPkt e l) []

/-- The probe has been acknowledged: the rest of its transfer is sent again (R336). -/
def State.release (s : State) (k : Nat) (p : Packet) : State :=
  ((s.gate k).transfer p).foldl (fun s e =>
    if e.2.held then
      (s.modGate k (fun g => g.setEntry e.1 (some { e.2 with held := false, probed := false }))).toGate k e.2.pkt
    else s) s

/-- Take a response of a type: an entry that does not match discards it. -/
def State.rspTake (s : State) (n typ : Nat) : State :=
  match (s.gate n).take (fun p => p.typ = typ) with
  | none => s
  | some (p, g) =>
    let t := s.setGate n g
    match t.matchTrk n p with
    | none => t
    | some (k, e) =>
      let t := t.modGate k (fun g => g.setEntry p.tag none)
      let t := if e.probed then t.release k e.pkt else t
      t.trkUse e.owner e.pkt p.status p.data

def execRdRsp (gate : Nat) (s : State) : Out := .next ((s.rspTake gate 0x10).rearm)
def execAck (gate : Nat) (s : State) : Out := .next ((s.rspTake gate 0x11).rearm)

/-- NAK_RNR: the transfer is held at its gate; the probe's interval starts with its first refusal or with that of a probe (R336) (DESIGN CHOICE, log 37). -/
def State.nakTake (s : State) (n : Nat) : State :=
  match (s.gate n).take (fun p => p.typ = 0x12) with
  | none => s
  | some (p, g) =>
    let t := s.setGate n g
    match t.matchTrk n p with
    | none => t
    | some (k, e) =>
      let t := t.bumpDev (gateBase k + 0x40) 1
      if e.held ∧ !e.probed then t
      else
        ((t.gate k).transfer e.pkt).foldl (fun t x =>
          t.modGate k (fun g => g.setEntry x.1 (some { x.2 with held := true, probed := false, heldAt := t.clk }))) t

def execNakRnr (gate : Nat) (s : State) : Out := .next (s.nakTake gate)

/-- RNR_PROBE: after RNR_WAIT × 256 NCLK the lowest held packet of a transfer is sent again (DESIGN CHOICE, log 37). -/
def execRnrProbe (gate tag : Nat) (s : State) : Out :=
  .next (match (s.gate gate).entry tag with
    | some e =>
      let l := ((s.gate gate).transfer e.pkt).filter (fun x => x.2.held)
      let t0 := l.foldl (fun m x => min m x.2.heldAt) e.heldAt
      if !e.held ∨ l.any (fun x => x.2.probed) ∨ l.head?.map (·.1) ≠ some tag ∨
          s.clk < t0 + fld (s.dcsr (gateBase gate + 8)) 31 24 * 256 then s
      else (s.modGate gate (fun g => g.setEntry tag (some { e with probed := true }))).toGate gate e.pkt
    | none => s)

/-- TRACKER_TIMEOUT: LINK_NOT_READY for a packet still refused, else LINK_TIMEOUT (R336, R337). -/
def execTrackerTimeout (gate tag : Nat) (s : State) : Out :=
  .next (match (s.gate gate).entry tag with
    | some e =>
      if s.clk < e.at_ + 2 ^ fld (s.dcsr (gateBase gate + 8)) 15 8 then s
      else if e.held then (s.trkEnd gate tag e St.linkNotReady []).rearm
      else ((s.bumpDev (gateBase gate + 0x38) 1).trkEnd gate tag e St.linkTimeout []).rearm
    | none => s)

/-! ### The arbiter watchdog (R470) -/

/-- A transaction granted and not started: a tracked packet of a port's gate, or a request at an endpoint. -/
def State.wdogEnd (s : State) (kind inst id : Nat) : State :=
  if kind = 1 then
    match (s.gate (inst / 8)).entry id with
    | some e => s.trkEnd (inst / 8) id e St.arbWdog []
    | none => s
  else
    match s.req id with
    | some r => if r.phase = .endpoint then s.answer id r St.arbWdog [] else s
    | none => s

/-- ARB_WATCHDOG_BITE: the owner of 2^20 cycles loses its grant. -/
def State.wdogBite (s : State) (kind inst : Nat) (req : Option Nat) : State :=
  let a := s.arb (arbKey kind inst)
  if arbCount kind ≤ inst ∨ a.wait < 2 ^ 20 then s
  else
    match a.owner with
    | none => s
    | some o =>
      let s := s.setArb (arbKey kind inst) { a with granted := false, owner := none, wait := 0, ignored := some o }
      let s := match req with | some id => s.wdogEnd kind inst id | none => s
      let s := (s.orDev (arbBase + 0x30) 1).bumpDev (arbBase + 0x40) 1
      let rec_ := place 1 0 kind ||| place 22 8 inst ||| place 26 24 o.1 ||| place 37 32 o.2 ||| place 63 63 1
      let s := s.modDcsr (arbBase + 0x38) (fun w => overrun w rec_)
      match kind with
      | 0 => s.detect St.arbWdog 11 1 2 (inst / 2) (inst % 2)
      | 1 => s.detect St.arbWdog 11 1 9 inst
      | _ => s.detect St.arbWdog 11 1 1 (inst / 64)

def execArbWatchdogBite (kind inst : Nat) (req : Option Nat) (s : State) : Out := .next ((s.wdogBite kind inst req).rearm)

/-! ### Control-state parity (R537) -/

/-- A queue's running command, or a request slot's request, or what a shed, gate or combiner held, ends with RAS_CTRL_PARITY (DEDUCED, log 23). -/
def State.parity (s : State) : ParitySite → State
  | .queue ps q =>
    if (s.queue ps q).lists = [] ∨ !decide ((s.queue ps q).state = .running ∨ (s.queue ps q).state = .waitEv) then s
    else
      let s := s.detect St.rasCtrlParity 11 1 1 ps 0 0 (((s.queue ps q).lists.head?.map (·.task)).getD 0)
      match q with
      | 2 => (s.arrFail ps St.rasCtrlParity).rearm
      | 4 => ((s.modStall ps (fun t => { t with sync := none })).cmdFail ps 4 St.rasCtrlParity).rearm
      | _ => (s.cmdFail ps q St.rasCtrlParity).kickAll ps
  | .slot ps slot =>
    match (s.stall ps).slots.find? (fun e => e.1 = slot) with
    | none => s
    | some (_, _, id) =>
      match s.req id with
      | some r => if r.src = .slot ps slot then (s.detect St.rasCtrlParity 11 1 1 ps 0 0 r.task).setReq id (some { r with phase := .arrived, status := St.rasCtrlParity, data := [] }) else s
      | none => s
  | .shed n ids =>
    let s := s.detect St.rasCtrlParity 11 1 2 (n * 34)
    ids.foldl (fun s id => match s.req id with
      | some r => if r.atShed ∧ (s.chanOf (spreadLc r.pa)).map (· / 34) = some n then s.answer id r St.rasCtrlParity [] else s
      | none => s) s
  | .gate n tags =>
    let s := s.detect St.rasCtrlParity 11 1 9 (n * 8)
    (tags.foldl (fun s t => match (s.gate n).entry t with
      | some e => s.trkEnd n t e St.rasCtrlParity []
      | none => s) s).rearm
  | .comb n rids =>
    let s := s.detect St.rasCtrlParity 11 1 9 (n * 8)
    (rids.foldl (fun s i => match s.reds.find? (fun r => r.rid = i) with
      | some r => s.redEnd r St.rasCtrlParity St.rasCtrlParity
      | none => s) s).rearm
  | .router p => s.modNode p (fun m => m.flit s.clk 0 .ctrlParity)

def execCtrlParityError (site : ParitySite) (s : State) : Out :=
  .next (match site with
    | .router p => (s.parity (.router p)).detect St.rasCtrlParity 6 1 8 (nodePos p)
    | x => s.parity x)

end Sys2Proof.Machine
end

