-- ==== Sys2Proof/Machine/Roce.lean ====
section
/-! DEFINITION. RoCE operations of the data plane (R495 to R497). -/

namespace Sys2Proof.Machine

/-- The queue pair that a packet of a port names. -/
def State.qp (s : State) (port qpn : Nat) : Option Qp :=
  match Map.get noneOf s.qps qpn with
  | some q => if q.port = port ∧ (s.hport port).state = 2 then some q else none
  | none => none

/-- The region of an RKEY, when it grants a right (0 read, 1 write) over a range. -/
def State.mrFor (s : State) (rkey right addr len : Nat) : Option Mr :=
  match Map.get noneOf s.mrs (rkey % 4096) with
  | some m => if rkeyOf (rkey % 4096) = rkey ∧ m.rights.testBit right ∧ m.addr ≤ addr ∧ addr + len ≤ m.addr + m.len then some m else none
  | none => none

/-- Answer a packet of a port (DESIGN CHOICE, log 51). -/
def State.roceAnswer (s : State) (port : Nat) (a : RoceAns) : State := s.setHport port { s.hport port with ans := some a }

/-- A fault of an access: a remote-access-error NAK, and RDMA_FAULT (R496) (DESIGN CHOICE, log 51). -/
def State.roceFault (s : State) (port qpn rkey addr : Nat) (st : Status) : State :=
  (s.event { code := 11, d0 := BitVec.ofNat 64 qpn, d1 := BitVec.ofNat 64 rkey, d2 := BitVec.ofNat 64 st.toNat, d3 := BitVec.ofNat 64 addr }).roceAnswer
    port .nakAccess

/-- The data of an RDMA WRITE. None while its stall sleeps; the flag tells that it was written (DESIGN CHOICE, log 51). -/
def State.roceWrite (s : State) (port qpn rkey addr : Nat) (data : List Byte) : Option (State × Bool) :=
  match s.mrFor rkey 1 addr data.length with
  | none => some (s.roceAnswer port .nakAccess, false)
  | some m =>
    match s.unitWrite .kernel m.task m.tenant addr data with
    | none => none
    | some (t, st) => if st = St.ok then some (t, true) else some (t.roceFault port qpn rkey addr st, false)

/-- ROCE_RDMA_WRITE. A packet for no queue pair of the port is dropped. -/
def execRoceRdmaWrite (port qpn rkey addr : Nat) (data : List Byte) (s : State) : Out :=
  .next (match s.qp port qpn with
    | none => s
    | some _ =>
      match s.roceWrite port qpn rkey addr data with
      | none => s
      | some (t, done) => if done then t.roceAnswer port (.ack []) else t)

/-- The doorbell entry of an immediate value (R137, R497); none for a queue code of 5 to 7 or a reserved bit. -/
def immEntry (q : Qp) (imm : BitVec 32) : Option (Nat × Word) :=
  let v := imm.toNat
  if 5 ≤ bits v 10 8 ∨ bits v 11 11 ≠ 0 ∨ bits v 31 28 ≠ 0 then none
  else some (bits v 7 0, place 21 0 (bits v 27 12 * 64) ||| place 26 24 (bits v 10 8) ||| place 28 28 (q.db - 1) ||| place 47 32 q.task |||
    place 63 48 q.tenant)

/-- The doorbell of an RDMA WRITE with immediate, once its data are written. None while the stall sleeps (DESIGN CHOICE, log 51). -/
def State.roceDoorbell (s : State) (port qpn rkey : Nat) (q : Qp) (imm : BitVec 32) : Option State :=
  match immEntry q imm with
  | none => some (s.roceAnswer port .nakInvalid)
  | some (ls, e) =>
    let ps := s.psOf ls
    if s.shutTo .kernel (stallWin ps + 0x8000240) then some (s.roceFault port qpn rkey (stallWin ps + 0x8000240) St.netDestFenced)
    else if (s.stall ps).pstate ≠ .run then none
    else if 32 ≤ (s.stall ps).db.length then some (s.roceAnswer port .rnr)
    else some ((s.doorbellWrite .kernel ps e).1.roceAnswer port (.ack []))

/-- ROCE_WRITE_IMM (R497): the data, then the doorbell, then the acknowledgement. -/
def execRoceWriteImm (port qpn rkey addr : Nat) (data : List Byte) (imm : BitVec 32) (s : State) : Out :=
  .next (match s.qp port qpn with
    | none => s
    | some q =>
      match s.roceWrite port qpn rkey addr data with
      | none => s
      | some (t, done) =>
        if !done then t
        else if q.db = 0 then t.roceAnswer port (.ack [])
        else (t.roceDoorbell port qpn rkey q imm).getD s)

/-- ROCE_RDMA_READ. -/
def execRoceRdmaRead (port qpn rkey addr len : Nat) (s : State) : Out :=
  .next (match s.qp port qpn with
    | none => s
    | some _ =>
      match s.mrFor rkey 0 addr len with
      | none => s.roceAnswer port .nakAccess
      | some m =>
        match s.unitRead .kernel m.task m.tenant addr len with
        | none => s
        | some (t, st, bs) => if st = St.ok then t.roceAnswer port (.ack bs) else t.roceFault port qpn rkey addr st)

/-- ROCE_SEND. -/
def execRoceSend (port qpn : Nat) (s : State) : Out :=
  .next (match s.qp port qpn with
    | none => s
    | some _ => s.roceAnswer port .nakInvalid)

/-- The rate of a queue pair (DESIGN CHOICE, log 51). -/
def State.qpRate (s : State) (port qpn : Nat) (f : Nat → Nat) : State :=
  match s.qp port qpn with
  | none => s
  | some q => { s with qps := Map.set noneOf s.qps qpn (some { q with rate := f q.rate }) }

/-- ROCE_CNP. -/
def execRoceCnp (port qpn : Nat) (s : State) : Out := .next (s.qpRate port qpn (fun r => r / 2))

/-- ROCE_RATE_RECOVER: by 5% of the port rate, up to it. -/
def execRoceRateRecover (port qpn : Nat) (s : State) : Out := .next (s.qpRate port qpn (fun r => min 1000 (r + 50)))

end Sys2Proof.Machine
end

