-- ==== Sys2Proof/Machine/TackHost.lean ====
section
/-! DEFINITION. Takeover of the tack rooms and firmware activation (R492, R542, R552). -/

namespace Sys2Proof.Machine

/-- Set the firmware version of a tack room: false is gate 0. -/
def Tack.setVer (t : Tack) (room : Bool) (v : Nat) : Tack := if room then { t with fwver1 := v } else { t with fwver0 := v }
def Tack.ver (t : Tack) (room : Bool) : Nat := if room then t.fwver1 else t.fwver0

/-- Version of the winning bank's firmware. -/
def State.storeVer (s : State) : Nat := match s.winner with | some w => (s.bank w).fwver | none => 0

/-- An activation ends: its command has a result, and the staged package is gone (DESIGN CHOICE, log 50). -/
def State.fwEnd (s : State) (st : Status) : State :=
  (s.longEnd s.tack.activating st).modTack (fun t => { t with activating := none, fwStage := 0, staged := [], stagedLen := 0 })

/-- Step 4 of R552: the bank that the staged package makes; IMG_LEN = 0 keeps the image. -/
def State.fwWrite (s : State) : State :=
  match s.tack.pkg s.tack.stagedLen, s.winner with
  | some p, some w =>
    let b := s.bank w
    let b := if p.image = [] then { b with recs := p.recs }
      else { b with image := p.image, recs := p.recs, svn := p.svn, fwver := Config.fwVersion p.image, sigOk := true }
    let s := (s.storeWrite b).extendM 1 (sha256 b.image)
    s.modTack (fun t => { t.setVer t.active b.fwver with svn := b.svn, fwStage := 3 })
  | _, _ => s.fwEnd St.rasFwStage

/-- Accepted immediate commands of a takeover are answered with HALT_FAILOVER (R492) (DESIGN CHOICE, log 50). -/
def State.failover (s : State) : State :=
  let cut := s.cpq.filter (fun c => !hostOpLong c.opcode)
  let s : State := { s with cpq := s.cpq.filter (fun c => hostOpLong c.opcode), hostAcc := none, outbox := [] }
  cut.foldl (fun s c =>
    if c.session = 0 then s.out c.src (hostPacket 3 c.opcode c.session c.seq St.haltFailover [] none)
    else s.replyTo c (s.keyOf c) true St.haltFailover []) s

/-- TACK_TAKEOVER: the standby that has declared the primary failed, or that an activation has started, becomes active. -/
def execTackTakeover (s : State) : Out :=
  .next (
    if !s.tack.takeover then s
    else
      let s := s.modTack (fun t => { t with active := !t.active, takeovers := satAdd 0xFFFF t.takeovers 1, standbyOk := false, takeover := false,
                                            missed := 0, restartFails := 0 })
      let s := s.failover
      if s.tack.fwStage = 2 then s.fwWrite else s)

/-- MINSVN becomes the new SVN, and FW_ACTIVATE ends (R552) (DESIGN CHOICE, log 50). -/
def State.fwDone (s : State) : State := (s.modTack (fun t => { t with minsvn := t.svn })).fwEnd St.ok

/-- TACK_RESTART_END. A standby that has started the staged image takes over; another one becomes the mirrored standby. After three
failures a tack room stays off. -/
def execTackRestartEnd (ok : Bool) (s : State) : Out :=
  .next (
    if s.tack.standbyOk ∨ s.tack.takeover ∨ 3 ≤ s.tack.restartFails then s
    else if s.tack.fwStage = 1 then
      (if ok then s.modTack (fun t => { t with standbyOk := true, takeover := true, fwStage := 2 }) else s)
    else if ok then
      let s := s.modTack (fun t => { t.setVer (!t.active) s.storeVer with standbyOk := true, restartFails := 0 })
      if s.tack.fwStage = 3 then s.fwDone else s
    else
      let s := s.modTack (fun t => { t with restartFails := t.restartFails + 1 })
      if s.tack.fwStage = 3 ∧ s.tack.restartFails = 3 then s.fwDone else s)

/-- FW_START_TIMEOUT: a standby that has not come up in 5 s restarts its previous image, and nothing is written. -/
def execFwStartTimeout (s : State) : Out := .next (if s.tack.fwStage = 1 then s.fwEnd St.rasFwStart else s)

end Sys2Proof.Machine
end

