-- ==== Sys2Proof/Machine/Dispatch.lean ====
section
/-! DEFINITION. The dispatch: one arm per command. -/

namespace Sys2Proof.Machine

def exec (i : Instr) (s : State) : Host.Outcome State Fault Refusal :=
  match i with
  | .coolantSample supply ret flow wet => Sys2Proof.Machine.execCoolantSample supply ret flow wet s
  | .coolStop => Sys2Proof.Machine.execCoolStop s
  | .coolCapLift => Sys2Proof.Machine.execCoolCapLift s
  | .dimmSupplyRemove over95 => Sys2Proof.Machine.execDimmSupplyRemove over95 s
  | .latchOpen bay => Sys2Proof.Machine.execLatchOpen bay s
  | .latchClose bay dimm => Sys2Proof.Machine.execLatchClose bay dimm s
  | .admitDone bay ok => Sys2Proof.Machine.execAdmitDone bay ok s
  | .migUnitCopy shed => Sys2Proof.Machine.execMigUnitCopy shed s
  | .migrationDone shed => Sys2Proof.Machine.execMigrationDone shed s
  | .netInject req => Sys2Proof.Machine.execNetInject req s
  | .netHop req flit => Sys2Proof.Machine.execNetHop req flit s
  | .netDeliver req => Sys2Proof.Machine.execNetDeliver req s
  | .netBadTail req => Sys2Proof.Machine.execNetBadTail req s
  | .netKeepalive node dir => Sys2Proof.Machine.execNetKeepalive node dir s
  | .netLinkTimeout node dir => Sys2Proof.Machine.execNetLinkTimeout node dir s
  | .routerMarkDead node => Sys2Proof.Machine.execRouterMarkDead node s
  | .detourInstall => Sys2Proof.Machine.execDetourInstall s
  | .netSweep priv gi v => Sys2Proof.Machine.execNetSweep priv gi v s
  | .netFence priv gi v => Sys2Proof.Machine.execNetFence priv gi v s
  | .netFenceBoundary gi => Sys2Proof.Machine.execNetFenceBoundary gi s
  | .netErrCntRead priv gi => Sys2Proof.Machine.execNetErrCntRead priv gi s
  | .add gi f => Sys2Proof.Machine.execAdd gi f s
  | .sub gi f => Sys2Proof.Machine.execSub gi f s
  | .and gi f => Sys2Proof.Machine.execAnd gi f s
  | .or gi f => Sys2Proof.Machine.execOr gi f s
  | .xor gi f => Sys2Proof.Machine.execXor gi f s
  | .sll gi f => Sys2Proof.Machine.execSll gi f s
  | .srl gi f => Sys2Proof.Machine.execSrl gi f s
  | .sra gi f => Sys2Proof.Machine.execSra gi f s
  | .slt gi f => Sys2Proof.Machine.execSlt gi f s
  | .sltu gi f => Sys2Proof.Machine.execSltu gi f s
  | .min gi f => Sys2Proof.Machine.execMin gi f s
  | .max gi f => Sys2Proof.Machine.execMax gi f s
  | .minu gi f => Sys2Proof.Machine.execMinu gi f s
  | .maxu gi f => Sys2Proof.Machine.execMaxu gi f s
  | .clz gi f => Sys2Proof.Machine.execClz gi f s
  | .popc gi f => Sys2Proof.Machine.execPopc gi f s
  | .mul gi f => Sys2Proof.Machine.execMul gi f s
  | .mulh gi f => Sys2Proof.Machine.execMulh gi f s
  | .mulhu gi f => Sys2Proof.Machine.execMulhu gi f s
  | .div gi f => Sys2Proof.Machine.execDiv gi f s
  | .divu gi f => Sys2Proof.Machine.execDivu gi f s
  | .rem gi f => Sys2Proof.Machine.execRem gi f s
  | .remu gi f => Sys2Proof.Machine.execRemu gi f s
  | .addi gi f => Sys2Proof.Machine.execAddi gi f s
  | .andi gi f => Sys2Proof.Machine.execAndi gi f s
  | .ori gi f => Sys2Proof.Machine.execOri gi f s
  | .xori gi f => Sys2Proof.Machine.execXori gi f s
  | .shifti gi f => Sys2Proof.Machine.execShifti gi f s
  | .lui gi f => Sys2Proof.Machine.execLui gi f s
  | .shori gi f => Sys2Proof.Machine.execShori gi f s
  | .ldb gi f => Sys2Proof.Machine.execLdb gi f s
  | .ldh gi f => Sys2Proof.Machine.execLdh gi f s
  | .ldw gi f => Sys2Proof.Machine.execLdw gi f s
  | .ldd gi f => Sys2Proof.Machine.execLdd gi f s
  | .ldbu gi f => Sys2Proof.Machine.execLdbu gi f s
  | .ldhu gi f => Sys2Proof.Machine.execLdhu gi f s
  | .ldwu gi f => Sys2Proof.Machine.execLdwu gi f s
  | .stb gi f => Sys2Proof.Machine.execStb gi f s
  | .sth gi f => Sys2Proof.Machine.execSth gi f s
  | .stw gi f => Sys2Proof.Machine.execStw gi f s
  | .std gi f => Sys2Proof.Machine.execStd gi f s
  | .amoaddW gi f => Sys2Proof.Machine.execAmoaddW gi f s
  | .amoaddD gi f => Sys2Proof.Machine.execAmoaddD gi f s
  | .amoswapW gi f => Sys2Proof.Machine.execAmoswapW gi f s
  | .amoswapD gi f => Sys2Proof.Machine.execAmoswapD gi f s
  | .amocasW gi f => Sys2Proof.Machine.execAmocasW gi f s
  | .amocasD gi f => Sys2Proof.Machine.execAmocasD gi f s
  | .beq gi f => Sys2Proof.Machine.execBeq gi f s
  | .bne gi f => Sys2Proof.Machine.execBne gi f s
  | .blt gi f => Sys2Proof.Machine.execBlt gi f s
  | .bge gi f => Sys2Proof.Machine.execBge gi f s
  | .bltu gi f => Sys2Proof.Machine.execBltu gi f s
  | .bgeu gi f => Sys2Proof.Machine.execBgeu gi f s
  | .jal gi f => Sys2Proof.Machine.execJal gi f s
  | .jalr gi f => Sys2Proof.Machine.execJalr gi f s
  | .vadd gi f => Sys2Proof.Machine.execVadd gi f s
  | .vsub gi f => Sys2Proof.Machine.execVsub gi f s
  | .vmul gi f => Sys2Proof.Machine.execVmul gi f s
  | .vmulh gi f => Sys2Proof.Machine.execVmulh gi f s
  | .vmulhu gi f => Sys2Proof.Machine.execVmulhu gi f s
  | .vmin gi f => Sys2Proof.Machine.execVmin gi f s
  | .vmax gi f => Sys2Proof.Machine.execVmax gi f s
  | .vminu gi f => Sys2Proof.Machine.execVminu gi f s
  | .vmaxu gi f => Sys2Proof.Machine.execVmaxu gi f s
  | .vand gi f => Sys2Proof.Machine.execVand gi f s
  | .vor gi f => Sys2Proof.Machine.execVor gi f s
  | .vxor gi f => Sys2Proof.Machine.execVxor gi f s
  | .vsll gi f => Sys2Proof.Machine.execVsll gi f s
  | .vsrl gi f => Sys2Proof.Machine.execVsrl gi f s
  | .vsra gi f => Sys2Proof.Machine.execVsra gi f s
  | .vsadd gi f => Sys2Proof.Machine.execVsadd gi f s
  | .vsaddu gi f => Sys2Proof.Machine.execVsaddu gi f s
  | .vsel gi f => Sys2Proof.Machine.execVsel gi f s
  | .vmac gi f => Sys2Proof.Machine.execVmac gi f s
  | .vfadd gi f => Sys2Proof.Machine.execVfadd gi f s
  | .vfsub gi f => Sys2Proof.Machine.execVfsub gi f s
  | .vfmul gi f => Sys2Proof.Machine.execVfmul gi f s
  | .vfma gi f => Sys2Proof.Machine.execVfma gi f s
  | .vfnma gi f => Sys2Proof.Machine.execVfnma gi f s
  | .vfmawl gi f => Sys2Proof.Machine.execVfmawl gi f s
  | .vfmawh gi f => Sys2Proof.Machine.execVfmawh gi f s
  | .vfdiv gi f => Sys2Proof.Machine.execVfdiv gi f s
  | .vfsqrt gi f => Sys2Proof.Machine.execVfsqrt gi f s
  | .vfmin gi f => Sys2Proof.Machine.execVfmin gi f s
  | .vfmax gi f => Sys2Proof.Machine.execVfmax gi f s
  | .vfabs gi f => Sys2Proof.Machine.execVfabs gi f s
  | .vfneg gi f => Sys2Proof.Machine.execVfneg gi f s
  | .vfrcpe gi f => Sys2Proof.Machine.execVfrcpe gi f s
  | .vfrsqe gi f => Sys2Proof.Machine.execVfrsqe gi f s
  | .vfexp2 gi f => Sys2Proof.Machine.execVfexp2 gi f s
  | .vflog2 gi f => Sys2Proof.Machine.execVflog2 gi f s
  | .vcvt gi f => Sys2Proof.Machine.execVcvt gi f s
  | .vcvth gi f => Sys2Proof.Machine.execVcvth gi f s
  | .vfcmpeq gi f => Sys2Proof.Machine.execVfcmpeq gi f s
  | .vfcmplt gi f => Sys2Proof.Machine.execVfcmplt gi f s
  | .vfcmple gi f => Sys2Proof.Machine.execVfcmple gi f s
  | .vfcmpun gi f => Sys2Proof.Machine.execVfcmpun gi f s
  | .vld gi f => Sys2Proof.Machine.execVld gi f s
  | .vst gi f => Sys2Proof.Machine.execVst gi f s
  | .vlds gi f => Sys2Proof.Machine.execVlds gi f s
  | .vsts gi f => Sys2Proof.Machine.execVsts gi f s
  | .vgth gi f => Sys2Proof.Machine.execVgth gi f s
  | .vsct gi f => Sys2Proof.Machine.execVsct gi f s
  | .vcmpeq gi f => Sys2Proof.Machine.execVcmpeq gi f s
  | .vcmplt gi f => Sys2Proof.Machine.execVcmplt gi f s
  | .vcmpltu gi f => Sys2Proof.Machine.execVcmpltu gi f s
  | .vcmple gi f => Sys2Proof.Machine.execVcmple gi f s
  | .pand gi f => Sys2Proof.Machine.execPand gi f s
  | .por gi f => Sys2Proof.Machine.execPor gi f s
  | .pxor gi f => Sys2Proof.Machine.execPxor gi f s
  | .pandn gi f => Sys2Proof.Machine.execPandn gi f s
  | .pfromx gi f => Sys2Proof.Machine.execPfromx gi f s
  | .ptox gi f => Sys2Proof.Machine.execPtox gi f s
  | .pcnt gi f => Sys2Proof.Machine.execPcnt gi f s
  | .psetn gi f => Sys2Proof.Machine.execPsetn gi f s
  | .vbcast gi f => Sys2Proof.Machine.execVbcast gi f s
  | .vext gi f => Sys2Proof.Machine.execVext gi f s
  | .vins gi f => Sys2Proof.Machine.execVins gi f s
  | .vperm gi f => Sys2Proof.Machine.execVperm gi f s
  | .vslideup gi f => Sys2Proof.Machine.execVslideup gi f s
  | .vslidedn gi f => Sys2Proof.Machine.execVslidedn gi f s
  | .vredadd gi f => Sys2Proof.Machine.execVredadd gi f s
  | .vredmax gi f => Sys2Proof.Machine.execVredmax gi f s
  | .vredmin gi f => Sys2Proof.Machine.execVredmin gi f s
  | .vfredadd gi f => Sys2Proof.Machine.execVfredadd gi f s
  | .vfredmax gi f => Sys2Proof.Machine.execVfredmax gi f s
  | .vfredmin gi f => Sys2Proof.Machine.execVfredmin gi f s
  | .fence gi f => Sys2Proof.Machine.execFence gi f s
  | .ifence gi f => Sys2Proof.Machine.execIfence gi f s
  | .wfi gi f => Sys2Proof.Machine.execWfi gi f s
  | .wfiWake gi => Sys2Proof.Machine.execWfiWake gi s
  | .ecall gi f => Sys2Proof.Machine.execEcall gi f s
  | .brk gi f => Sys2Proof.Machine.execBrk gi f s
  | .eret gi f => Sys2Proof.Machine.execEret gi f s
  | .csrr gi f => Sys2Proof.Machine.execCsrr gi f s
  | .csrw gi f => Sys2Proof.Machine.execCsrw gi f s
  | .csrs gi f => Sys2Proof.Machine.execCsrs gi f s
  | .csrc gi f => Sys2Proof.Machine.execCsrc gi f s
  | .cmdq gi f => Sys2Proof.Machine.execCmdq gi f s
  | .cmdqEnqueueAfterWait gi => Sys2Proof.Machine.execCmdqEnqueueAfterWait gi s
  | .cwait gi f => Sys2Proof.Machine.execCwait gi f s
  | .cwaitComplete gi => Sys2Proof.Machine.execCwaitComplete gi s
  | .cwaitTimeout gi => Sys2Proof.Machine.execCwaitTimeout gi s
  | .cpoll gi f => Sys2Proof.Machine.execCpoll gi f s
  | .groomLineFill gi line => Sys2Proof.Machine.execGroomLineFill gi line s
  | .groomLoadResponse gi req => Sys2Proof.Machine.execGroomLoadResponse gi req s
  | .groomStoreComplete gi req => Sys2Proof.Machine.execGroomStoreComplete gi req s
  | .exceptionEntry gi und => Sys2Proof.Machine.execExceptionEntry gi und s
  | .tackCallAnswer gi => Sys2Proof.Machine.execTackCallAnswer gi s
  | .tackCallTimeout gi => Sys2Proof.Machine.execTackCallTimeout gi s
  | .cfgRead gi => Sys2Proof.Machine.execCfgRead gi s
  | .pwrRead gi => Sys2Proof.Machine.execPwrRead gi s
  | .measExtend gi => Sys2Proof.Machine.execMeasExtend gi s
  | .runctlRun priv gi v => Sys2Proof.Machine.execRunctlRun priv gi v s
  | .runctlHalt priv gi v => Sys2Proof.Machine.execRunctlHalt priv gi v s
  | .runctlReset priv gi v => Sys2Proof.Machine.execRunctlReset priv gi v s
  | .groomHaltTakesEffect gi => Sys2Proof.Machine.execGroomHaltTakesEffect gi s
  | .groomDbgDataAccess priv gi w => Sys2Proof.Machine.execGroomDbgDataAccess priv gi w s
  | .predictorFlush priv gi => Sys2Proof.Machine.execPredictorFlush priv gi s
  | .groomTaskidWrite priv gi v => Sys2Proof.Machine.execGroomTaskidWrite priv gi v s
  | .listStart ps q => Sys2Proof.Machine.execListStart ps q s
  | .cmdStart ps q => Sys2Proof.Machine.execCmdStart ps q s
  | .nop ps q => Sys2Proof.Machine.execNop ps q s
  | .ldtile ps => Sys2Proof.Machine.execLdtile ps s
  | .ldscr ps => Sys2Proof.Machine.execLdscr ps s
  | .sttile ps => Sys2Proof.Machine.execSttile ps s
  | .stscr ps => Sys2Proof.Machine.execStscr ps s
  | .gtile ps => Sys2Proof.Machine.execGtile ps s
  | .gscr ps => Sys2Proof.Machine.execGscr ps s
  | .sctile ps => Sys2Proof.Machine.execSctile ps s
  | .scadd ps => Sys2Proof.Machine.execScadd ps s
  | .slotGrant ps want ecc => Sys2Proof.Machine.execSlotGrant ps want ecc s
  | .engRequestComplete ps slot => Sys2Proof.Machine.execEngRequestComplete ps slot s
  | .slotWaitFlag ps slot => Sys2Proof.Machine.execSlotWaitFlag ps slot s
  | .queuePause priv ps q => Sys2Proof.Machine.execQueuePause priv ps q s
  | .queuePaused ps q => Sys2Proof.Machine.execQueuePaused ps q s
  | .queueResume priv ps q => Sys2Proof.Machine.execQueueResume priv ps q s
  | .queueAbort priv ps q => Sys2Proof.Machine.execQueueAbort priv ps q s
  | .queueFlush priv ps q => Sys2Proof.Machine.execQueueFlush priv ps q s
  | .doorbellWrite priv ps v => Sys2Proof.Machine.execDoorbellWrite priv ps v s
  | .doorbellMove ps => Sys2Proof.Machine.execDoorbellMove ps s
  | .dbellBlockTimeout ps => Sys2Proof.Machine.execDbellBlockTimeout ps s
  | .slotCfgWrite priv ps v => Sys2Proof.Machine.execSlotCfgWrite priv ps v s
  | .evWrite priv ps e v posts => Sys2Proof.Machine.execEvWrite priv ps e v posts s
  | .heldDropRead priv ps => Sys2Proof.Machine.execHeldDropRead priv ps s
  | .bankwaitRead priv ps => Sys2Proof.Machine.execBankwaitRead priv ps s
  | .tcfg ps => Sys2Proof.Machine.execTcfg ps s
  | .trel ps => Sys2Proof.Machine.execTrel ps s
  | .tileDebugRead priv ps off len ecc => Sys2Proof.Machine.execTileDebugRead priv ps off len ecc s
  | .tileDebugWrite priv ps off data => Sys2Proof.Machine.execTileDebugWrite priv ps off data s
  | .collectorFallback ps coll => Sys2Proof.Machine.execCollectorFallback ps coll s
  | .tprogWrite priv ps t v => Sys2Proof.Machine.execTprogWrite priv ps t v s
  | .tshapeRecRead priv ps => Sys2Proof.Machine.execTshapeRecRead priv ps s
  | .tileCeRead priv ps => Sys2Proof.Machine.execTileCeRead priv ps s
  | .tileFbRead priv ps => Sys2Proof.Machine.execTileFbRead priv ps s
  | .mma ps => Sys2Proof.Machine.execMma ps s
  | .adrain ps => Sys2Proof.Machine.execAdrain ps s
  | .wsld ps => Sys2Proof.Machine.execWsld ps s
  | .wsmm ps => Sys2Proof.Machine.execWsmm ps s
  | .arrayDrainRowWrite ps fault => Sys2Proof.Machine.execArrayDrainRowWrite ps fault s
  | .arrayCmdComplete ps => Sys2Proof.Machine.execArrayCmdComplete ps s
  | .arrMapWrite priv ps v => Sys2Proof.Machine.execArrMapWrite priv ps v s
  | .arrRescntRead priv ps => Sys2Proof.Machine.execArrRescntRead priv ps s
  | .arrParcntRead priv ps => Sys2Proof.Machine.execArrParcntRead priv ps s
  | .spRecRead priv ps => Sys2Proof.Machine.execSpRecRead priv ps s
  | .spSkipcntRead priv ps => Sys2Proof.Machine.execSpSkipcntRead priv ps s
  | .gthRecRead priv ps => Sys2Proof.Machine.execGthRecRead priv ps s
  | .gthCoalRead priv ps => Sys2Proof.Machine.execGthCoalRead priv ps s
  | .gthOobcntRead priv ps => Sys2Proof.Machine.execGthOobcntRead priv ps s
  | .gthAddrejRead priv ps => Sys2Proof.Machine.execGthAddrejRead priv ps s
  | .scratchAccess req ue => Sys2Proof.Machine.execScratchAccess req ue s
  | .shedRead req ce ue => Sys2Proof.Machine.execShedRead req ce ue s
  | .shedWrite req ce ue retryFail => Sys2Proof.Machine.execShedWrite req ce ue retryFail s
  | .shedAmo req ce ue => Sys2Proof.Machine.execShedAmo req ce ue s
  | .refresh ch sub bank => Sys2Proof.Machine.execRefresh ch sub bank s
  | .scrubRead ch co ecc => Sys2Proof.Machine.execScrubRead ch co ecc s
  | .xlatWalk req => Sys2Proof.Machine.execXlatWalk req s
  | .xlatWalkComplete req ue => Sys2Proof.Machine.execXlatWalkComplete req ue s
  | .xinvStart priv shed v => Sys2Proof.Machine.execXinvStart priv shed v s
  | .xinvComplete => Sys2Proof.Machine.execXinvComplete s
  | .migStart priv shed v => Sys2Proof.Machine.execMigStart priv shed v s
  | .elogInfoRead priv shed => Sys2Proof.Machine.execElogInfoRead priv shed s
  | .chceRead priv shed ch => Sys2Proof.Machine.execChceRead priv shed ch s
  | .chueRead priv shed ch => Sys2Proof.Machine.execChueRead priv shed ch s
  | .xlatMissRead priv ps => Sys2Proof.Machine.execXlatMissRead priv ps s
  | .loftFbRead priv ps => Sys2Proof.Machine.execLoftFbRead priv ps s
  | .pagerDemandAlloc fault => Sys2Proof.Machine.execPagerDemandAlloc fault s
  | .pagerRecall fault => Sys2Proof.Machine.execPagerRecall fault s
  | .pagerMoveComplete fault => Sys2Proof.Machine.execPagerMoveComplete fault s
  | .pagerServiceDone fault => Sys2Proof.Machine.execPagerServiceDone fault s
  | .pagerEvict tenant => Sys2Proof.Machine.execPagerEvict tenant s
  | .agerPass => Sys2Proof.Machine.execAgerPass s
  | .loftRead req => Sys2Proof.Machine.execLoftRead req s
  | .loftPageReadDone page ldpcFail => Sys2Proof.Machine.execLoftPageReadDone page ldpcFail s
  | .ljTailWrite priv v => Sys2Proof.Machine.execLjTailWrite priv v s
  | .loftWrite job progFail => Sys2Proof.Machine.execLoftWrite job progFail s
  | .loftJobRead job => Sys2Proof.Machine.execLoftJobRead job s
  | .loftErase job => Sys2Proof.Machine.execLoftErase job s
  | .loftSeal job => Sys2Proof.Machine.execLoftSeal job s
  | .loftJobDone job => Sys2Proof.Machine.execLoftJobDone job s
  | .loftDeadline ps q => Sys2Proof.Machine.execLoftDeadline ps q s
  | .laneErrorWindow port lanes fecCe fecUe => Sys2Proof.Machine.execLaneErrorWindow port lanes fecCe fecUe s
  | .trainingAttemptEnd port good => Sys2Proof.Machine.execTrainingAttemptEnd port good s
  | .linkEnable priv port en => Sys2Proof.Machine.execLinkEnable priv port en s
  | .linkTrain priv port => Sys2Proof.Machine.execLinkTrain priv port s
  | .linkSpare priv port lane => Sys2Proof.Machine.execLinkSpare priv port lane s
  | .linkPacketReceive port pkt lseq crcOk => Sys2Proof.Machine.execLinkPacketReceive port pkt lseq crcOk s
  | .lctl port msg => Sys2Proof.Machine.execLctl port msg s
  | .lctlCreditReturn port => Sys2Proof.Machine.execLctlCreditReturn port s
  | .linkReplayResend port => Sys2Proof.Machine.execLinkReplayResend port s
  | .gateRoute gate => Sys2Proof.Machine.execGateRoute gate s
  | .rd gate => Sys2Proof.Machine.execRd gate s
  | .wr gate => Sys2Proof.Machine.execWr gate s
  | .amo gate => Sys2Proof.Machine.execAmo gate s
  | .rdRsp gate => Sys2Proof.Machine.execRdRsp gate s
  | .ack gate => Sys2Proof.Machine.execAck gate s
  | .nakRnr gate => Sys2Proof.Machine.execNakRnr gate s
  | .rnrProbe gate tag => Sys2Proof.Machine.execRnrProbe gate tag s
  | .trackerTimeout gate tag => Sys2Proof.Machine.execTrackerTimeout gate tag s
  | .xferExpire gate idx => Sys2Proof.Machine.execXferExpire gate idx s
  | .routeEntryAccess priv gate w => Sys2Proof.Machine.execRouteEntryAccess priv gate w s
  | .rwinCtlWrite priv gate k v => Sys2Proof.Machine.execRwinCtlWrite priv gate k v s
  | .mcRecRead priv n => Sys2Proof.Machine.execMcRecRead priv n s
  | .tmoCntRead priv n => Sys2Proof.Machine.execTmoCntRead priv n s
  | .rnrCntRead priv n => Sys2Proof.Machine.execRnrCntRead priv n s
  | .linkReplayRead priv n => Sys2Proof.Machine.execLinkReplayRead priv n s
  | .fecCeRead priv n => Sys2Proof.Machine.execFecCeRead priv n s
  | .fecUeRead priv n => Sys2Proof.Machine.execFecUeRead priv n s
  | .beaconSend port => Sys2Proof.Machine.execBeaconSend port s
  | .beacon port serial devid idv => Sys2Proof.Machine.execBeacon port serial devid idv s
  | .peerTimeout port => Sys2Proof.Machine.execPeerTimeout port s
  | .spost ps => Sys2Proof.Machine.execSpost ps s
  | .swait ps => Sys2Proof.Machine.execSwait ps s
  | .lacq ps => Sys2Proof.Machine.execLacq ps s
  | .lrel ps => Sys2Proof.Machine.execLrel ps s
  | .barrive ps => Sys2Proof.Machine.execBarrive ps s
  | .xbarrive ps => Sys2Proof.Machine.execXbarrive ps s
  | .sread ps => Sys2Proof.Machine.execSread ps s
  | .syncRequestArrive ps => Sys2Proof.Machine.execSyncRequestArrive ps s
  | .syncAnswerArrive ps => Sys2Proof.Machine.execSyncAnswerArrive ps s
  | .syncWaitTimeout ps => Sys2Proof.Machine.execSyncWaitTimeout ps s
  | .syncWaitRetry ps => Sys2Proof.Machine.execSyncWaitRetry ps s
  | .syncWithdrawArrive ps => Sys2Proof.Machine.execSyncWithdrawArrive ps s
  | .syncTaskendWrite priv v => Sys2Proof.Machine.execSyncTaskendWrite priv v s
  | .syncObjWrite priv ps v => Sys2Proof.Machine.execSyncObjWrite priv ps v s
  | .xbarCfgWrite priv off v => Sys2Proof.Machine.execXbarCfgWrite priv off v s
  | .xbarArrival gate => Sys2Proof.Machine.execXbarArrival gate s
  | .xbarRelease gate => Sys2Proof.Machine.execXbarRelease gate s
  | .xbarDeadline slot => Sys2Proof.Machine.execXbarDeadline slot s
  | .dldSample => Sys2Proof.Machine.execDldSample s
  | .syncLockRead priv => Sys2Proof.Machine.execSyncLockRead priv s
  | .combRingTailWrite priv v => Sys2Proof.Machine.execCombRingTailWrite priv v s
  | .combOpen => Sys2Proof.Machine.execCombOpen s
  | .combPush => Sys2Proof.Machine.execCombPush s
  | .combAbort => Sys2Proof.Machine.execCombAbort s
  | .decideLate => Sys2Proof.Machine.execDecideLate s
  | .decideDrop => Sys2Proof.Machine.execDecideDrop s
  | .decideExtend => Sys2Proof.Machine.execDecideExtend s
  | .digest => Sys2Proof.Machine.execDigest s
  | .pushReadComplete comb ue => Sys2Proof.Machine.execPushReadComplete comb ue s
  | .contrib gate ecc => Sys2Proof.Machine.execContrib gate ecc s
  | .result gate => Sys2Proof.Machine.execResult gate s
  | .rabort gate => Sys2Proof.Machine.execRabort gate s
  | .combContribDeadline rid => Sys2Proof.Machine.execCombContribDeadline rid s
  | .combResultDeadline rid => Sys2Proof.Machine.execCombResultDeadline rid s
  | .reductionComplete rid => Sys2Proof.Machine.execReductionComplete rid s
  | .accCeRead priv n => Sys2Proof.Machine.execAccCeRead priv n s
  | .nakCntRead priv n => Sys2Proof.Machine.execNakCntRead priv n s
  | .discardCntRead priv n => Sys2Proof.Machine.execDiscardCntRead priv n s
  | .dropCntRead priv n => Sys2Proof.Machine.execDropCntRead priv n s
  | .elemCntRead priv n => Sys2Proof.Machine.execElemCntRead priv n s
  | .passSwitch ps => Sys2Proof.Machine.execPassSwitch ps s
  | .passFlip priv ps => Sys2Proof.Machine.execPassFlip priv ps s
  | .trStepWrite priv ps v => Sys2Proof.Machine.execTrStepWrite priv ps v s
  | .trStreamWrite priv ps v => Sys2Proof.Machine.execTrStreamWrite priv ps v s
  | .trPassWrite priv ps v => Sys2Proof.Machine.execTrPassWrite priv ps v s
  | .statsFlush priv ps => Sys2Proof.Machine.execStatsFlush priv ps s
  | .statsFlushComplete ps ue => Sys2Proof.Machine.execStatsFlushComplete ps ue s
  | .trTiedRead priv ps => Sys2Proof.Machine.execTrTiedRead priv ps s
  | .cmtOpen priv => Sys2Proof.Machine.execCmtOpen priv s
  | .cmtPrepare priv => Sys2Proof.Machine.execCmtPrepare priv s
  | .cmtAbort priv => Sys2Proof.Machine.execCmtAbort priv s
  | .cmtResolve priv dec => Sys2Proof.Machine.execCmtResolve priv dec s
  | .cmtFinish priv => Sys2Proof.Machine.execCmtFinish priv s
  | .cmtVote => Sys2Proof.Machine.execCmtVote s
  | .cmtFlipComplete ue => Sys2Proof.Machine.execCmtFlipComplete ue s
  | .cmtDoubt => Sys2Proof.Machine.execCmtDoubt s
  | .ckptDrainEnd fail => Sys2Proof.Machine.execCkptDrainEnd fail s
  | .ssLostRead priv => Sys2Proof.Machine.execSsLostRead priv s
  | .arbDraw kind inst raised => Sys2Proof.Machine.execArbDraw kind inst raised s
  | .arbWatchdogBite kind inst req => Sys2Proof.Machine.execArbWatchdogBite kind inst req s
  | .arbFreeze priv v => Sys2Proof.Machine.execArbFreeze priv v s
  | .arbSeedWrite priv v => Sys2Proof.Machine.execArbSeedWrite priv v s
  | .wdogRecRead priv => Sys2Proof.Machine.execWdogRecRead priv s
  | .wdogCntRead priv => Sys2Proof.Machine.execWdogCntRead priv s
  | .intcDeliveryStart => Sys2Proof.Machine.execIntcDeliveryStart s
  | .intcDeliveryArrive src => Sys2Proof.Machine.execIntcDeliveryArrive src s
  | .intcEoiWrite priv v => Sys2Proof.Machine.execIntcEoiWrite priv v s
  | .swiSet priv v => Sys2Proof.Machine.execSwiSet priv v s
  | .swiClr priv v => Sys2Proof.Machine.execSwiClr priv v s
  | .ethFrameReceive port frame => Sys2Proof.Machine.execEthFrameReceive port frame s
  | .halterRequest port pkt => Sys2Proof.Machine.execHalterRequest port pkt s
  | .halterSeqHoldExpire session seq => Sys2Proof.Machine.execHalterSeqHoldExpire session seq s
  | .sessionTimeout session => Sys2Proof.Machine.execSessionTimeout session s
  | .longCommandEnd session seq => Sys2Proof.Machine.execLongCommandEnd session seq s
  | .sessionOpen => Sys2Proof.Machine.execSessionOpen s
  | .sessionClose => Sys2Proof.Machine.execSessionClose s
  | .devInfo => Sys2Proof.Machine.execDevInfo s
  | .csrRead => Sys2Proof.Machine.execCsrRead s
  | .csrWrite => Sys2Proof.Machine.execCsrWrite s
  | .modeSet => Sys2Proof.Machine.execModeSet s
  | .spareSet => Sys2Proof.Machine.execSpareSet s
  | .memRead => Sys2Proof.Machine.execMemRead s
  | .memWrite => Sys2Proof.Machine.execMemWrite s
  | .bayRelease => Sys2Proof.Machine.execBayRelease s
  | .bayState => Sys2Proof.Machine.execBayState s
  | .chanReclaim => Sys2Proof.Machine.execChanReclaim s
  | .mrReg => Sys2Proof.Machine.execMrReg s
  | .mrDereg => Sys2Proof.Machine.execMrDereg s
  | .qpCreate => Sys2Proof.Machine.execQpCreate s
  | .qpDestroy => Sys2Proof.Machine.execQpDestroy s
  | .doorbell => Sys2Proof.Machine.execDoorbell s
  | .groomRun => Sys2Proof.Machine.execGroomRun s
  | .groomHalt => Sys2Proof.Machine.execGroomHalt s
  | .queueCtl => Sys2Proof.Machine.execQueueCtl s
  | .taskEnd => Sys2Proof.Machine.execTaskEnd s
  | .neighRead => Sys2Proof.Machine.execNeighRead s
  | .devidSet => Sys2Proof.Machine.execDevidSet s
  | .routeWrite => Sys2Proof.Machine.execRouteWrite s
  | .rwinSet => Sys2Proof.Machine.execRwinSet s
  | .xbarSet => Sys2Proof.Machine.execXbarSet s
  | .portCtl => Sys2Proof.Machine.execPortCtl s
  | .cmtCmd => Sys2Proof.Machine.execCmtCmd s
  | .stepRead => Sys2Proof.Machine.execStepRead s
  | .groupRestore => Sys2Proof.Machine.execGroupRestore s
  | .ckptRead => Sys2Proof.Machine.execCkptRead s
  | .coolClear => Sys2Proof.Machine.execCoolClear s
  | .powerCap => Sys2Proof.Machine.execPowerCap s
  | .pstateSet => Sys2Proof.Machine.execPstateSet s
  | .fwStage => Sys2Proof.Machine.execFwStage s
  | .fwActivate => Sys2Proof.Machine.execFwActivate s
  | .attest => Sys2Proof.Machine.execAttest s
  | .attestRead => Sys2Proof.Machine.execAttestRead s
  | .teleRead => Sys2Proof.Machine.execTeleRead s
  | .evtSubscribe => Sys2Proof.Machine.execEvtSubscribe s
  | .evtAck => Sys2Proof.Machine.execEvtAck s
  | .eventResend session => Sys2Proof.Machine.execEventResend session s
  | .roceRdmaWrite port qpn rkey addr data => Sys2Proof.Machine.execRoceRdmaWrite port qpn rkey addr data s
  | .roceWriteImm port qpn rkey addr data imm => Sys2Proof.Machine.execRoceWriteImm port qpn rkey addr data imm s
  | .roceRdmaRead port qpn rkey addr len => Sys2Proof.Machine.execRoceRdmaRead port qpn rkey addr len s
  | .roceSend port qpn => Sys2Proof.Machine.execRoceSend port qpn s
  | .roceCnp port qpn => Sys2Proof.Machine.execRoceCnp port qpn s
  | .roceRateRecover port qpn => Sys2Proof.Machine.execRoceRateRecover port qpn s
  | .authfailCntRead priv => Sys2Proof.Machine.execAuthfailCntRead priv s
  | .rxdropCntRead priv => Sys2Proof.Machine.execRxdropCntRead priv s
  | .inletPowerOn => Sys2Proof.Machine.execInletPowerOn s
  | .bringupStepEnd info => Sys2Proof.Machine.execBringupStepEnd info s
  | .refLoss => Sys2Proof.Machine.execRefLoss s
  | .pllUnlock die => Sys2Proof.Machine.execPllUnlock die s
  | .dclinkSample dv => Sys2Proof.Machine.execDclinkSample dv s
  | .supplyOk => Sys2Proof.Machine.execSupplyOk s
  | .packageReset kept => Sys2Proof.Machine.execPackageReset kept s
  | .powerMeasure pkg inlet => Sys2Proof.Machine.execPowerMeasure pkg inlet s
  | .pstateEnter unit => Sys2Proof.Machine.execPstateEnter unit s
  | .pstatePlannedWake unit => Sys2Proof.Machine.execPstatePlannedWake unit s
  | .pstateWake unit cause => Sys2Proof.Machine.execPstateWake unit cause s
  | .pwrNextExpire ps => Sys2Proof.Machine.execPwrNextExpire ps s
  | .psCfgWrite priv v => Sys2Proof.Machine.execPsCfgWrite priv v s
  | .pwrCapHostWrite priv v => Sys2Proof.Machine.execPwrCapHostWrite priv v s
  | .errorRecord => Sys2Proof.Machine.execErrorRecord s
  | .tackHeartbeat arrived lockstep => Sys2Proof.Machine.execTackHeartbeat arrived lockstep s
  | .tackTakeover => Sys2Proof.Machine.execTackTakeover s
  | .tackTakeoverRequest priv => Sys2Proof.Machine.execTackTakeoverRequest priv s
  | .columnSpare ps col => Sys2Proof.Machine.execColumnSpare ps col s
  | .bankSpare ps bank => Sys2Proof.Machine.execBankSpare ps bank s
  | .stallSpareMove ps scanParity => Sys2Proof.Machine.execStallSpareMove ps scanParity s
  | .arraySelfTest ps failing => Sys2Proof.Machine.execArraySelfTest ps failing s
  | .ageSample mon value => Sys2Proof.Machine.execAgeSample mon value s
  | .agePredict mon => Sys2Proof.Machine.execAgePredict mon s
  | .fwStartTimeout => Sys2Proof.Machine.execFwStartTimeout s
  | .elogPop priv => Sys2Proof.Machine.execElogPop priv s
  | .perfEnable priv ps v => Sys2Proof.Machine.execPerfEnable priv ps v s
  | .perfZero priv ps => Sys2Proof.Machine.execPerfZero priv ps s
  | .perfCfgWrite priv ps n v => Sys2Proof.Machine.execPerfCfgWrite priv ps n v s
  | .perfCounterWrap ps n => Sys2Proof.Machine.execPerfCounterWrap ps n s
  | .registerWrite priv addr len v => Sys2Proof.Machine.execRegisterWrite priv addr len v s
  | .ctrlParityError site => Sys2Proof.Machine.execCtrlParityError site s
  | .laneLossOfLock port lane second => Sys2Proof.Machine.execLaneLossOfLock port lane second s
  | .linkSignalDetect port => Sys2Proof.Machine.execLinkSignalDetect port s
  | .hostModuleInsert port pmd watts => Sys2Proof.Machine.execHostModuleInsert port pmd watts s
  | .hostPortLinkChange port state => Sys2Proof.Machine.execHostPortLinkChange port state s
  | .digestComplete idx ue => Sys2Proof.Machine.execDigestComplete idx ue s
  | .tackRestartEnd ok => Sys2Proof.Machine.execTackRestartEnd ok s

end Sys2Proof.Machine
end

