-- ==== Sys2Proof/Machine/Tick.lean ====
section
/-! DEFINITION. One NCLK: the counts that advance with the clock and with nothing else (R97, R533, R559, R560, R565, R566). -/

namespace Sys2Proof.Machine

/-- The slots of one ACLK inside a stream's window, as event codes and counts (R566). Bubbles of skipped chunks, and masked rows of
a weight-stationary stream, are counted at the window's end (DEDUCED, log 52). -/
def FoldWin.slots (w : FoldWin) (t : Nat) : List (Nat × Nat) :=
  if w.ws then
    (if (t - w.start) % w.iv ≠ 0 then [(0x03, 128), (0x0A, 128)]
     else if (w.stop - w.start) / w.iv - w.masked ≤ (t - w.start) / w.iv then [(0x01, 128), (0x05, w.rows)]
     else [(0x00, w.rows), (0x01, 128 - w.rows)])
  else if w.stop ≤ t + w.skips then [(0x01, 128), (0x05, w.masked), (0x06, w.rows - w.masked)]
  else [(0x00, w.rows - w.masked), (0x01, 128 - (w.rows - w.masked)), (0x05, w.masked)]

/-- The window of a command that an ACLK falls in. -/
def ArrCmd.winAt (c : ArrCmd) (t : Nat) : Option FoldWin := c.wins.find? (fun w => decide (w.start ≤ t ∧ t < w.stop))

/-- Why the array is backend-starved between the windows of its commands in flight (DEDUCED, log 52). -/
def backCode (duty t : Nat) (l : List ArrCmd) : Nat :=
  if duty ≤ t % 64 then 0x0B
  else
    match l.findSome? (fun c => (c.wins.find? (fun w => decide (t < w.start))).map (fun w => (c, w))) with
    | some (c, w) => if c.wins.head? ≠ some w ∨ t + 8 < w.start then 0x07 else 0x09
    | none => if l.any (fun c => !c.drains.isEmpty) then 0x08 else 0x09

/-- The slots of one ACLK of a stall: privilege of the command, event codes and counts (DEDUCED, log 52). -/
def Stall.slotsAt (st : Stall) (duty t : Nat) : Option Priv × List (Nat × Nat) :=
  let l := st.arr.inflight
  match l.findSome? (fun c => (c.winAt t).map (fun w => (c.lst.priv, w.slots t))) with
  | some (p, e) => (some p, e)
  | none =>
    match l with
    | [] => (none, [(0x02, 128)])
    | c :: _ => (some c.lst.priv, [(0x03, 128), (backCode duty t l, 128)])

/-- Whether a stall counts (R559). -/
def State.counting (s : State) (ps : Nat) : Bool := bit (s.scsr ps 0x1C00) 0 && decide ((s.stall ps).pstate = .run)

/-- Slots held by a queue, at one privilege. -/
def State.slotsHeld (s : State) (ps q : Nat) (p : Priv) : Nat :=
  ((s.stall ps).slots.filter (fun e => decide (e.2.1 = q) &&
    (match s.req e.2.2 with | some r => decide (r.priv = p) | none => false))).length

/-- Privilege of a queue's head list. -/
def State.headPriv (s : State) (ps q : Nat) : Option Priv := (s.queue ps q).lists.head?.map (·.priv)

/-- The array's slots of the ACLK that has just ended, with FIX0 and FIX1 (R560). -/
def State.countSlots (s : State) (ps : Nat) : State :=
  let (p, l) := (s.stall ps).slotsAt s.pwr.duty (s.aclk - 1)
  let fed := l.foldl (fun n e => if e.1 = 0 then n + e.2 else n) 0
  let s := (s.modScsr ps 0x1C08 (· + 1)).modScsr ps 0x1C10 (· + BitVec.ofNat 64 fed)
  l.foldl (fun s e => s.perf ps e.1 p none none e.2) s

/-- A sync command waits in the stall's unit. -/
def Stall.syncWaits (t : Stall) : Option Priv :=
  match t.sync with
  | some c => if c.ph = .waiting ∨ c.ph = .atMaster then some c.lst.priv else none
  | none => none

/-- The events of one ACLK of a stall. -/
def State.countAclk (s : State) (ps : Nat) : State :=
  let s := s.countSlots ps
  let s := [0, 1, 3].foldl (fun s q => [Priv.task, Priv.kernel, Priv.tack].foldl (fun s p =>
    s.perf ps 0x24 (some p) (some q) none (s.slotsHeld ps q p)) s) s
  let s := (List.range 5).foldl (fun s q => if s.queueState ps q = .waitEv then s.perf ps 0x26 (s.headPriv ps q) (some q) none 1 else s) s
  match (s.stall ps).syncWaits with
  | some p => s.perf ps 0x80 (some p) (some 4) none 1
  | none => s

/-- One ACLK of a stall: STALL_PWR_NEXT counts down in every power state (DEDUCED, log 52). -/
def State.stallAclk (s : State) (ps : Nat) : State :=
  let w := s.scsr ps 0x1B00
  let s := if bit w 63 ∧ fld w 39 0 ≠ 0 then s.setScsr ps 0x1B00 (w - 1) else s
  if s.counting ps then s.countAclk ps else s

/-- A groom waits in CMDQ or CWAIT. -/
def Groom.cmdWaits (g : Groom) : Bool :=
  match g.wait with
  | .cmdq _ _ _ => true
  | .cwait _ _ _ _ _ => true
  | _ => false

/-- One NCLK of a stall (DEDUCED, log 52). -/
def State.stallNclk (s : State) (ps : Nat) : State :=
  if s.counting ps then
    (List.range 16).foldl (fun s g =>
      let x := s.groom (ps * 16 + g)
      if x.cmdWaits then s.perfGroom (ps * 16 + g) 0x64 x else s) s
  else s

/-- One NCLK; every second one ends an ACLK. Stalls that the state does not list count nothing (DESIGN CHOICE, log 1). -/
def State.tick (s : State) : State :=
  let s : State := { s with clk := s.clk + 1 }
  let s := s.stalls.foldl (fun s e => s.stallNclk e.1) s
  if s.clk % 2 = 0 then s.stalls.foldl (fun s e => s.stallAclk e.1) s else s

end Sys2Proof.Machine
end

