-- ==== Sys2Proof/Safety.lean ====
section
/-! DEFINITION. What counts as a safe state and a safe run of the block. -/

namespace Sys2Proof.Safety

open Sys2Proof.Machine

/-- A command completes: the machine goes on to a next state. -/
def Completes (o : Out) : Prop := ∃ t, o = .next t

/-- Every listed lottery generator holds a non-zero value: an LFSR at zero would draw nothing else for ever (R465, R476). -/
def lotteryOk (s : State) : Bool := s.arbs.all (fun p => decide (p.2.lfsr ≠ 0))

/-- The maps inside a stall have their canonical form. -/
def stallOk (t : Stall) : Bool :=
  Map.wf (fun _ => ({} : Queue)) t.queues && Map.wf (resetOf stallRegs) t.csr && Map.wf (fun _ => ({} : TReg)) t.tregs &&
  Map.wf (fun _ => ({} : SyncObj)) t.objs

/-- The maps that the block is kept in have their canonical form: keys strictly rising, and nothing listed that equals what an
unlisted key reads as. Equal contents are then equal data. -/
structure Canonical (s : State) : Prop where
  mem : Memory.wf s.mem = true
  loft : Memory.wf s.loft = true
  stalls : Map.wf (fun _ => ({} : Stall)) s.stalls = true
  inStalls : ∀ ps, stallOk (s.stall ps) = true
  grooms : Map.wf (fun _ => ({} : Groom)) s.grooms = true
  nodes : Map.wf (fun _ => ({} : Node)) s.nodes = true
  inNodes : ∀ i, Map.wf (resetOf netRegs) (s.node i).csr = true
  reqs : Map.wf noneOf s.reqs = true
  csr : Map.wf devReset s.csr = true
  chans : Map.wf chanDflt s.chans = true
  sheds : Map.wf (fun _ => ({} : Shed)) s.sheds = true
  gates : Map.wf (fun _ => ({} : Gate)) s.gates = true
  ports : Map.wf (fun _ => ({} : Port)) s.ports = true
  xbars : Map.wf (fun _ => ({} : Xbar)) s.xbars = true
  dld : Map.wf zeroN s.dld = true
  routes : Map.wf zeroW s.routes = true
  sess : Map.wf noneOf s.sess = true
  mrs : Map.wf noneOf s.mrs = true
  qps : Map.wf noneOf s.qps = true
  hports : Map.wf (fun _ => ({} : HPort)) s.hports = true
  banks : Map.wf bankDflt s.banks = true
  arbs : Map.wf arbDflt s.arbs = true
  health : Map.wf healthDflt s.health = true
  lsMap : Map.wf lsDflt s.lsMap = true

/-- The invariant of the block: canonical maps, and no dead lottery generator. -/
def Sound (s : State) : Prop := Canonical s ∧ lotteryOk s = true

/-- A run of `n` steps never stops. -/
def RunsFor : Nat → State → Prop
  | 0, _ => True
  | n + 1, s => ∃ t, step s = .next t ∧ RunsFor n t

end Sys2Proof.Safety
end

