-- ==== Sys2Proof/Certificates/Slice0/Obligations.lean ====
section
/-! DEFINITION. The statements for the provers, and the few words they share. -/

namespace Sys2Proof.Claims

open Sys2Proof Sys2Proof.Machine

/-! ### Words shared by the statements about groom instructions -/

/-- Groom `gi` issues its next instruction now, and nothing older is unretired (R59, R88). -/
def ready (s : State) (gi : Nat) : Prop :=
  let g := s.groom gi
  g.halted = false ∧ g.wait = .none ∧ g.rq = [] ∧
    (g.priv = .task → fld (g.reg 0x48) 21 2 * 4 ≤ g.pc ∧ g.pc < fld (g.reg 0x50) 21 2 * 4)

/-- X[n], V[n] and P[n] as an instruction reads them: X0 is zero and P0 is all ones (R66). -/
def xr (s : State) (gi n : Nat) : Word := if n = 0 then 0 else Map.get zeroW (s.groom gi).x n
def vr (s : State) (gi n : Nat) : BitVec 512 := Map.get (fun _ => 0) (s.groom gi).v n
def pr (s : State) (gi n : Nat) : Word := if n = 0 then BitVec.allOnes 64 else Map.get zeroW (s.groom gi).p n

/-- Write a register: X0 and P0 discard the value, and a V or P write sets VDIRTY (R66, R97). -/
def setX (n : Nat) (v : Word) (g : Groom) : Groom := if n = 0 then g else { g with x := Map.set zeroW g.x n v }
def setV (n : Nat) (v : BitVec 512) (g : Groom) : Groom :=
  { g with v := Map.set (fun _ => 0) g.v n v, vdirty := true }
def setP (n : Nat) (v : Word) (g : Groom) : Groom :=
  if n = 0 then { g with vdirty := true } else { g with p := Map.set zeroW g.p n v, vdirty := true }

/-- Float flags are sticky in GROOM_FPCTL bits 12 to 8 (R82). -/
def addFlags (fl : Nat) (g : Groom) : Groom :=
  if fl = 0 then g else g.setReg 0x68 (g.reg 0x68 ||| place 12 8 fl)

/-- The groom moves past one 4-byte instruction, which counts as retired (R62, R97). -/
def moved (g : Groom) : Groom :=
  { g with instret := g.instret + 1, nextSeq := g.nextSeq + 1, pc := (g.pc + 4) % 0x400000 / 4 * 4 }

/-- The state after an instruction that changes its groom by `f` and nothing else: the groom moves on, and its stall's
counters take one GRM_INSTR event (R565). -/
def retired (s : State) (gi : Nat) (f : Groom → Groom) : State :=
  (s.setGroom gi (moved (f (s.groom gi)))).perfGroom gi 0x60 (moved (f (s.groom gi)))

/-- After an instruction that waits outside the retire queue: the same, with the wait ended. -/
def waited (s : State) (gi : Nat) (f : Groom → Groom) : State :=
  let h : Groom := { f { s.groom gi with wait := .none, pc := ((s.groom gi).pc + 4) % 0x400000 } with
                     instret := (s.groom gi).instret + 1 }
  (s.setGroom gi h).perfGroom gi 0x60 h

/-- IMM16 sign-extended (R77). -/
def simm (i : BitVec 16) : Word := i.signExtend 64

end Sys2Proof.Claims

open Sys2Proof Sys2Proof.Machine Sys2Proof.Claims

namespace Sys2Proof.Claims

/-- The format R instructions of R79 with two sources, and what each computes from X[RA] and X[RB]. -/
def aluOps : List ((Nat → FmtR → Instr) × (Word → Word → Word)) :=
  [(.add, (· + ·)), (.sub, (· - ·)), (.and, (· &&& ·)), (.or, (· ||| ·)), (.xor, (· ^^^ ·)),
   (.sll, fun a b => a <<< (b.toNat % 64)), (.srl, fun a b => a >>> (b.toNat % 64)),
   (.sra, fun a b => a.sshiftRight (b.toNat % 64)),
   (.slt, fun a b => if a.toInt < b.toInt then 1 else 0), (.sltu, fun a b => if a.toNat < b.toNat then 1 else 0),
   (.min, fun a b => if a.toInt < b.toInt then a else b), (.max, fun a b => if a.toInt < b.toInt then b else a),
   (.minu, fun a b => if a.toNat < b.toNat then a else b), (.maxu, fun a b => if a.toNat < b.toNat then b else a),
   (.mul, (· * ·)), (.mulh, fun a b => BitVec.ofInt 64 (a.toInt * b.toInt / 2 ^ 64)),
   (.mulhu, fun a b => BitVec.ofNat 64 (a.toNat * b.toNat / 2 ^ 64)),
   (.div, fun a b => if b = 0 then BitVec.allOnes 64 else a.sdiv b),
   (.divu, fun a b => if b = 0 then BitVec.allOnes 64 else a / b),
   (.rem, fun a b => if b = 0 then a else a.srem b), (.remu, fun a b => if b = 0 then a else a % b)]

/-- The format I instructions of R79 whose second operand is the sign-extended IMM16. -/
def aluImmOps : List ((Nat → FmtI → Instr) × (Word → Word → Word)) :=
  [(.addi, (· + ·)), (.andi, (· &&& ·)), (.ori, (· ||| ·)), (.xori, (· ^^^ ·))]

end Sys2Proof.Claims

/-- Two-source arithmetic: X[RD] takes the result and nothing else changes but the pc, the retired count and the
counter of retired instructions; with RD = 0 no register changes (R66, R79). -/
def Sys2Proof.Claims.ScalarArithmeticWritesOnlyRd : Prop :=
  ∀ e ∈ aluOps, ∀ (s : State) (gi : Nat) (f : FmtR), ready s gi →
    exec (e.1 gi f) s = .next (retired s gi (setX f.rd.toNat (e.2 (xr s gi f.ra.toNat) (xr s gi f.rb.toNat))))

/-- CLZ and POPC of X[RA]: the leading zeros, 64 for zero, and the number of one bits (R79). -/
def Sys2Proof.Claims.CountLeadingZerosAndOnes : Prop :=
  ∀ (s : State) (gi : Nat) (f : FmtR), ready s gi →
    (let a := xr s gi f.ra.toNat
     exec (.clz gi f) s = .next (retired s gi (setX f.rd.toNat
       (BitVec.ofNat 64 (if a = 0 then 64 else 63 - Nat.log2 a.toNat)))) ∧
     exec (.popc gi f) s = .next (retired s gi (setX f.rd.toNat
       (BitVec.ofNat 64 ((List.range 64).filter (fun i => a.getLsbD i)).length))))

/-- Immediate arithmetic, shifts by an immediate, LUI and SHORI in their defined forms, and what their undefined forms
raise (R77, R79). -/
def Sys2Proof.Claims.ImmediateArithmetic : Prop :=
  ∀ (s : State) (gi : Nat) (f : FmtI), ready s gi →
    (∀ e ∈ aluImmOps,
      exec (e.1 gi f) s = .next (retired s gi (setX f.rd.toNat (e.2 (xr s gi f.ra.toNat) (simm f.imm))))) ∧
    (f.imm.toNat < 64 →
      exec (.shifti gi f) s = .next (retired s gi (setX f.rd.toNat (xr s gi f.ra.toNat <<< f.imm.toNat)))) ∧
    (64 ≤ f.imm.toNat → f.imm.toNat < 128 →
      exec (.shifti gi f) s = .next (retired s gi (setX f.rd.toNat (xr s gi f.ra.toNat >>> (f.imm.toNat - 64))))) ∧
    (128 ≤ f.imm.toNat → f.imm.toNat < 192 →
      exec (.shifti gi f) s =
        .next (retired s gi (setX f.rd.toNat ((xr s gi f.ra.toNat).sshiftRight (f.imm.toNat - 128))))) ∧
    (f.ra = 0 → exec (.lui gi f) s = .next (retired s gi (setX f.rd.toNat (simm f.imm <<< 16)))) ∧
    (f.ra = 0 → exec (.shori gi f) s =
      .next (retired s gi (setX f.rd.toNat ((xr s gi f.rd.toNat <<< 16) ||| f.imm.setWidth 64))))

namespace Sys2Proof.Claims

/-- Scalar loads: bytes and sign extension (R79). -/
def loadOps : List ((Nat → FmtI → Instr) × Nat × Bool) :=
  [(.ldb, 1, true), (.ldh, 2, true), (.ldw, 4, true), (.ldd, 8, true), (.ldbu, 1, false), (.ldhu, 2, false), (.ldwu, 4, false)]
def storeOps : List ((Nat → FmtS → Instr) × Nat) := [(.stb, 1), (.sth, 2), (.stw, 4), (.std, 8)]
/-- Atomics: bytes, and whether X[RC] is the compare value. -/
def amoOps : List ((Nat → FmtR → Instr) × AmoOp × Nat × Bool) :=
  [(.amoaddW, .addW, 4, false), (.amoaddD, .addD, 8, false), (.amoswapW, .swapW, 4, false), (.amoswapD, .swapD, 8, false),
   (.amocasW, .casW, 4, true), (.amocasD, .casD, 8, true)]

/-- The request that a groom sends for one access, with what R76 and R105 capture from its registers. -/
def groomReq (s : State) (gi : Nat) (src : Src) (op : MemOp) (addr len : Nat) (data : List Byte) (mask : Option Nat) : Req :=
  let g := s.groom gi
  { src := src, priv := g.priv, task := fld (g.reg 0x40) 15 0, tenant := fld (g.reg 0x40) 31 16, addr := addr, op := op,
    len := len, data := data, mask := mask, dwinLo := fld (g.reg 0x58) 48 0, dwinHi := fld (g.reg 0x60) 48 0, at_ := s.clk }

/-- The groom after a load or atomic has issued: one unretired entry that waits for its request, and the pc moved on. -/
def loading (g : Groom) (e : RetEntry) : Groom :=
  { g with rq := [{ e with seq := g.nextSeq, pc := g.pc }], nextSeq := g.nextSeq + 1, pc := (g.pc + 4) % 0x400000 / 4 * 4 }

/-- A request is put at the end of those in flight. -/
def withReq (s : State) (r : Req) : State :=
  { s with reqs := Map.set noneOf s.reqs s.nextReq (some r), nextReq := s.nextReq + 1 }

end Sys2Proof.Claims

/-- An aligned scalar load or atomic issues: one request in flight with the address, width and operands of R79, one
unretired entry that names RD, and no register, memory byte or counter changed (R59, R60, R75). -/
def Sys2Proof.Claims.LoadsAndAtomicsIssueOneRequest : Prop :=
  ∀ (s : State) (gi : Nat), ready s gi → s.csrLoadOut gi = false →
    (∀ e ∈ loadOps, ∀ f : FmtI, ((xr s gi f.ra.toNat + simm f.imm).toNat % e.2.1 = 0) →
      exec (e.1 gi f) s = .next (withReq
        (s.setGroom gi (loading (s.groom gi) { seq := 0, pc := 0, dst := some (.x f.rd.toNat e.2.1 e.2.2), left := 1 }))
        (groomReq s gi (.groomLoad gi (s.groom gi).nextSeq) .read (xr s gi f.ra.toNat + simm f.imm).toNat e.2.1 [] none))) ∧
    (∀ e ∈ amoOps, ∀ f : FmtR, (xr s gi f.ra.toNat).toNat % e.2.2.1 = 0 →
      exec (e.1 gi f) s = .next (withReq
        (s.setGroom gi (loading (s.groom gi) { seq := 0, pc := 0, dst := some (.x f.rd.toNat e.2.2.1 true), left := 1 }))
        (groomReq s gi (.groomLoad gi (s.groom gi).nextSeq) (.amo e.2.1) (xr s gi f.ra.toNat).toNat e.2.2.1
          (leBytes e.2.2.1 (xr s gi f.rb.toNat).toNat ++
           leBytes e.2.2.1 (if e.2.2.2 then xr s gi f.rc.toNat else 0).toNat) none)))

/-- An aligned scalar store retires at once and sends one request with the low bytes of X[RS] at X[RA] + IMM16 (R73, R79). -/
def Sys2Proof.Claims.StoresRetireAndSendOneRequest : Prop :=
  ∀ e ∈ storeOps, ∀ (s : State) (gi : Nat) (f : FmtS), ready s gi → s.storesOut gi < 16 →
    (xr s gi f.ra.toNat + simm f.imm).toNat % e.2 = 0 →
    exec (e.1 gi f) s = .next (withReq (retired s gi id)
      (groomReq s gi (.groomStore gi) .write (xr s gi f.ra.toNat + simm f.imm).toNat e.2
        (leBytes e.2 (xr s gi f.rs.toNat).toNat) none))

namespace Sys2Proof.Claims

/-- Conditional branches and when they are taken (R79). -/
def branchOps : List ((Nat → FmtB → Instr) × (Word → Word → Prop)) :=
  [(.beq, fun a b => a = b), (.bne, fun a b => a ≠ b), (.blt, fun a b => a.toInt < b.toInt), (.bge, fun a b => b.toInt ≤ a.toInt),
   (.bltu, fun a b => a.toNat < b.toNat), (.bgeu, fun a b => b.toNat ≤ a.toNat)]

/-- What stays as it was when an instruction may change only its groom's X registers, pc, retired count and predictor. -/
def sameBut (s t : State) (gi : Nat) : Prop :=
  (t.groom gi).v = (s.groom gi).v ∧ (t.groom gi).p = (s.groom gi).p ∧ (t.groom gi).csr = (s.groom gi).csr ∧
  (t.groom gi).priv = (s.groom gi).priv ∧ (t.groom gi).ie = (s.groom gi).ie ∧ (t.groom gi).exl = (s.groom gi).exl ∧
  (t.groom gi).rq = [] ∧ (t.groom gi).instret = (s.groom gi).instret + 1 ∧
  (∀ gj, gj ≠ gi → t.groom gj = s.groom gj) ∧ t.mem = s.mem ∧ t.reqs = s.reqs ∧ t.csr = s.csr

end Sys2Proof.Claims

/-- A branch goes to PC + OFF16 × 4 when its condition holds and to the next instruction otherwise; JAL and JALR write
the address of the next instruction to X[RD] and jump (R62, R79). -/
def Obligations.BranchesAndJumps : Prop :=
  ∀ (s : State) (gi : Nat), ready s gi → (s.groom gi).pc < 0x400000 → (s.groom gi).pc % 4 = 0 →
    (∀ e ∈ branchOps, ∀ f : FmtB, ∃ t, exec (e.1 gi f) s = .next t ∧ sameBut s t gi ∧ (t.groom gi).x = (s.groom gi).x ∧
      (e.2 (xr s gi f.ra.toNat) (xr s gi f.rb.toNat) →
        ((t.groom gi).pc : Int) = ((s.groom gi).pc + f.off.toInt * 4) % 0x400000) ∧
      (¬ e.2 (xr s gi f.ra.toNat) (xr s gi f.rb.toNat) → (t.groom gi).pc = ((s.groom gi).pc + 4) % 0x400000)) ∧
    (∀ f : FmtJ, ∃ t, exec (.jal gi f) s = .next t ∧ sameBut s t gi ∧
      (t.groom gi).x = (setX f.rd.toNat (BitVec.ofNat 64 (((s.groom gi).pc + 4) % 0x400000)) (s.groom gi)).x ∧
      ((t.groom gi).pc : Int) = ((s.groom gi).pc + f.off.toInt * 4) % 0x400000) ∧
    (∀ f : FmtI, ∃ t, exec (.jalr gi f) s = .next t ∧ sameBut s t gi ∧
      (t.groom gi).x = (setX f.rd.toNat (BitVec.ofNat 64 (((s.groom gi).pc + 4) % 0x400000)) (s.groom gi)).x ∧
      (t.groom gi).pc = (xr s gi f.ra.toNat + simm f.imm).toNat % 0x400000 / 4 * 4)

/-- Scalar arithmetic, counts, and immediate forms of a groom (R66, R77, R79). -/
def Obligations.ScalarComputation : Prop :=
  Claims.ScalarArithmeticWritesOnlyRd ∧ Claims.CountLeadingZerosAndOnes ∧ Claims.ImmediateArithmetic

/-- Scalar loads, atomics and stores of a groom (R59, R60, R73, R75, R79). -/
def Obligations.ScalarMemory : Prop :=
  Claims.LoadsAndAtomicsIssueOneRequest ∧ Claims.StoresRetireAndSendOneRequest

namespace Sys2Proof.Claims

/-- An element's bits are active when PG has the bit of its lowest byte set (R66). -/
def on (s : State) (gi : Nat) (pg : BitVec 3) (w i : Nat) : Bool := (pr s gi pg.toNat).getLsbD (i * (w / 8))

/-- V[VD] takes a register whose lane i, of width w, is `h i`; VDIRTY is set and float flags are added. -/
def vecResult (s : State) (gi : Nat) (c : Instr) (vd : BitVec 5) (w fl : Nat) (h : Nat → Nat) : Prop :=
  ∃ r : BitVec 512, (∀ i, i < 512 / w → laneAt r w i = h i % 2 ^ w) ∧
    exec c s = .next (retired s gi (fun g => addFlags fl (setV vd.toNat r g)))

/-- The lane-by-lane integer instructions of R79: element width, lane of VA, lane of VB. -/
def vecIntOps : List ((Nat → FmtV → Instr) × (Nat → Nat → Nat → Nat)) :=
  [(.vadd, fun _ a b => a + b), (.vsub, fun w a b => a + 2 ^ w - b), (.vmul, fun _ a b => a * b),
   (.vmulh, fun w a b => ofSigned w (toSigned w a * toSigned w b / 2 ^ w)), (.vmulhu, fun w a b => a * b / 2 ^ w),
   (.vmin, fun w a b => if toSigned w a < toSigned w b then a else b),
   (.vmax, fun w a b => if toSigned w a < toSigned w b then b else a),
   (.vminu, fun _ a b => if a < b then a else b), (.vmaxu, fun _ a b => if a < b then b else a),
   (.vand, fun _ a b => a &&& b), (.vor, fun _ a b => a ||| b), (.vxor, fun _ a b => a ^^^ b),
   (.vsll, fun w a b => a * 2 ^ (b % w)), (.vsrl, fun w a b => a / 2 ^ (b % w)),
   (.vsra, fun w a b => ofSigned w (toSigned w a / 2 ^ (b % w))),
   (.vsadd, fun w a b => ofSigned w (max (-(2 ^ (w - 1))) (min (2 ^ (w - 1) - 1) (toSigned w a + toSigned w b)))),
   (.vsaddu, fun w a b => if a + b < 2 ^ w then a + b else 2 ^ w - 1)]

end Sys2Proof.Claims

/-- Integer vector arithmetic: each active lane of V[VD] takes its result and each inactive lane keeps its value, VDIRTY
is set, and nothing else changes (R66, R67, R79). -/
def Sys2Proof.Claims.VectorIntegerLanes : Prop :=
  ∀ e ∈ vecIntOps, ∀ (s : State) (gi : Nat) (f : FmtV), ready s gi →
    (let w := 8 * 2 ^ f.ew.toNat
     vecResult s gi (e.1 gi f) f.vd w 0 (fun i =>
      if on s gi f.pg w i then e.2 w (laneAt (vr s gi f.va.toNat) w i) (laneAt (vr s gi f.vb.toNat) w i)
      else laneAt (vr s gi f.vd.toNat) w i))

/-- VSEL, VMAC and the moves of R79: VSEL writes every lane; VBCAST, VPERM, VINS, the slides and VMAC write active lanes;
VEXT writes X[VD], a free value for a lane number outside the register (log entry 12). -/
def Sys2Proof.Claims.VectorMoves : Prop :=
  ∀ (s : State) (gi : Nat) (f : FmtV), ready s gi →
    (let w := 8 * 2 ^ f.ew.toNat
     let a := vr s gi f.va.toNat
     let b := vr s gi f.vb.toNat
     let d := vr s gi f.vd.toNat
     let k := (xr s gi f.vb.toNat).toNat
     let keep := fun (h : Nat → Nat) i => if on s gi f.pg w i then h i else laneAt d w i
     vecResult s gi (.vsel gi f) f.vd w 0 (fun i => if on s gi f.pg w i then laneAt a w i else laneAt b w i) ∧
     vecResult s gi (.vmac gi f) f.vd w 0 (keep fun i => laneAt d w i + laneAt a w i * laneAt b w i) ∧
     vecResult s gi (.vbcast gi f) f.vd w 0 (keep fun _ => (xr s gi f.va.toNat).toNat) ∧
     vecResult s gi (.vperm gi f) f.vd w 0 (keep fun i => laneAt a w (laneAt b w i % (512 / w))) ∧
     vecResult s gi (.vins gi f) f.vd w 0 (keep fun i => if i = k then (xr s gi f.va.toNat).toNat else laneAt d w i) ∧
     vecResult s gi (.vslideup gi f) f.vd w 0 (keep fun i => if k ≤ i then laneAt a w (i - k) else laneAt d w i) ∧
     vecResult s gi (.vslidedn gi f) f.vd w 0
       (keep fun i => if i + k < 512 / w then laneAt a w (i + k) else laneAt d w i) ∧
     exec (.vext gi f) s = .next (retired s gi (setX f.vd.toNat (BitVec.ofNat 64 (if k < 512 / w then laneAt a w k
       else (Config.vextOut f.ew.toNat (xr s gi f.vb.toNat)).toNat % 2 ^ w)))))

namespace Sys2Proof.Claims

/-- P[VD] takes a predicate whose element i, of width w, has every bit equal to `h i`. -/
def predResult (s : State) (gi : Nat) (c : Instr) (vd : BitVec 5) (w : Nat) (h : Nat → Bool) : Prop :=
  ∃ r : Word, (∀ i, i < 64 → r.getLsbD i = h (i / (w / 8))) ∧ exec c s = .next (retired s gi (setP vd.toNat r))

/-- Integer comparisons (R79). -/
def vcmpOps : List ((Nat → FmtV → Instr) × (Nat → Nat → Nat → Bool)) :=
  [(.vcmpeq, fun _ a b => a == b), (.vcmplt, fun w a b => decide (toSigned w a < toSigned w b)),
   (.vcmpltu, fun _ a b => decide (a < b)), (.vcmple, fun w a b => decide (toSigned w a ≤ toSigned w b))]

/-- Predicate logic, bit by bit (R79). -/
def predOps : List ((Nat → FmtV → Instr) × (Bool → Bool → Bool)) :=
  [(.pand, fun a b => a && b), (.por, fun a b => a || b), (.pxor, fun a b => a ^^ b), (.pandn, fun a b => a && !b)]

end Sys2Proof.Claims

/-- Comparisons write 0 to inactive elements of P[VD]; predicate logic ignores PG; the predicate moves copy, count and
set elements. A form that names a register above P7 raises GROOM_ILLEGAL instead (R66, R67, R79). -/
def Obligations.PredicateResults : Prop :=
  ∀ (s : State) (gi : Nat) (f : FmtV), ready s gi →
    (let w := 8 * 2 ^ f.ew.toNat
     (∀ e ∈ vcmpOps, f.vd.toNat < 8 → predResult s gi (e.1 gi f) f.vd w (fun i =>
       on s gi f.pg w i && e.2 w (laneAt (vr s gi f.va.toNat) w i) (laneAt (vr s gi f.vb.toNat) w i))) ∧
     (∀ e ∈ predOps, f.vd.toNat < 8 → f.va.toNat < 8 → f.vb.toNat < 8 → predResult s gi (e.1 gi f) f.vd 8 (fun i =>
       e.2 ((pr s gi f.va.toNat).getLsbD i) ((pr s gi f.vb.toNat).getLsbD i))) ∧
     (f.vd.toNat < 8 → predResult s gi (.pfromx gi f) f.vd 8 (fun i =>
       (xr s gi f.va.toNat).getLsbD i && on s gi f.pg w (i / (w / 8)))) ∧
     (f.vd.toNat < 8 → predResult s gi (.psetn gi f) f.vd w (fun i =>
       on s gi f.pg w i && decide (i < (xr s gi f.va.toNat).toNat))) ∧
     (f.va.toNat < 8 → exec (.ptox gi f) s = .next (retired s gi (setX f.vd.toNat (pr s gi f.va.toNat)))) ∧
     (f.va.toNat < 8 → exec (.pcnt gi f) s = .next (retired s gi (setX f.vd.toNat (BitVec.ofNat 64
       ((List.range (512 / w)).filter (fun i => (pr s gi f.va.toNat).getLsbD (i * (w / 8)))).length)))))

namespace Sys2Proof.Claims

/-- Active lanes of VA, lowest first. -/
def activeLanes (s : State) (gi : Nat) (f : FmtV) (w : Nat) : List Nat :=
  ((List.range (512 / w)).filter (fun i => on s gi f.pg w i)).map (laneAt (vr s gi f.va.toNat) w)

/-- A reduction writes lane 0 of V[VD] and keeps its other lanes. -/
def redResult (s : State) (gi : Nat) (c : Instr) (f : FmtV) (w fl v : Nat) : Prop :=
  vecResult s gi c f.vd w fl (fun i => if i = 0 then v else laneAt (vr s gi f.vd.toNat) w i)

/-- IEEE 754 values of a format for the float reductions: the neutral codes −0, −∞ and +∞. -/
def fltFmt (ew : BitVec 2) : FFmt := match ew.toNat with | 0 => bf16 | 1 => fp16 | 2 => fp32 | _ => fp64

/-- Adjacent pairs, level by level: the fixed tree of R81 over a list whose length is a power of two. -/
def pairTree (op : Nat → Nat → Nat) : Nat → (Nat → Nat) → Nat → Nat
  | 0, l, i => l i
  | n + 1, l, i => op (pairTree op n l (2 * i)) (pairTree op n l (2 * i + 1))

end Sys2Proof.Claims

/-- Integer reductions over at least one active lane: the sum, the largest and the smallest active lane go to lane 0 and
the other lanes of V[VD] stay; a sum of no lanes is 0 (R79). -/
def Sys2Proof.Claims.IntegerReductions : Prop :=
  ∀ (s : State) (gi : Nat) (f : FmtV), ready s gi →
    (let w := 8 * 2 ^ f.ew.toNat
     let l := activeLanes s gi f w
     redResult s gi (.vredadd gi f) f w 0 l.sum ∧
     (l ≠ [] → ∃ m ∈ l, (∀ a ∈ l, toSigned w a ≤ toSigned w m) ∧ redResult s gi (.vredmax gi f) f w 0 m) ∧
     (l ≠ [] → ∃ m ∈ l, (∀ a ∈ l, toSigned w m ≤ toSigned w a) ∧ redResult s gi (.vredmin gi f) f w 0 m))

/-- Float reductions combine adjacent pairs in a fixed binary tree, with −0, −∞ and +∞ in place of inactive lanes, and write
lane 0 (R81, R82). -/
def Sys2Proof.Claims.FloatReductionsUseFixedTree : Prop :=
  ∀ (s : State) (gi : Nat) (f : FmtV), ready s gi →
    (let m := fltFmt f.ew
     let lane := fun (u : Nat) i => if on s gi f.pg m.width i then laneAt (vr s gi f.va.toNat) m.width i else u
     let g := s.groom gi
     let n := Nat.log2 (512 / m.width)
     (∃ fl, redResult s gi (.vfredadd gi f) f m.width fl
       (pairTree (fun a b => (faddC m g.rm g.ftz a b).1) n (lane (m.sign true)) 0)) ∧
     redResult s gi (.vfredmax gi f) f m.width 0
       (pairTree (fun a b => fpick m (Machine.Num.max2 (m.read g.ftz a) (m.read g.ftz b))) n (lane (m.sign true + m.infCode)) 0) ∧
     redResult s gi (.vfredmin gi f) f m.width 0
       (pairTree (fun a b => fpick m (Machine.Num.min2 (m.read g.ftz a) (m.read g.ftz b))) n (lane m.infCode) 0))

namespace Sys2Proof.Claims

/-- Float operations on lanes of VA and VB: the exact result rounded once to the format, with its flags (R82, R212). -/
def vecFltOps : List ((Nat → FmtV → Instr) × (FFmt → Nat → Bool → Nat → Nat → Nat × Nat)) :=
  [(.vfadd, fun m rm z a b =>
     let r := Machine.Num.add rm (m.read z a) (m.read z b)
     ((ieeeRound m rm z r.1).1, (ieeeRound m rm z r.1).2 + if r.2 then 16 else 0)),
   (.vfsub, fun m rm z a b =>
     let r := Machine.Num.add rm (m.read z a) (m.read z b).neg
     ((ieeeRound m rm z r.1).1, (ieeeRound m rm z r.1).2 + if r.2 then 16 else 0)),
   (.vfmul, fun m rm z a b =>
     let r := Machine.Num.mul (m.read z a) (m.read z b)
     ((ieeeRound m rm z r.1).1, (ieeeRound m rm z r.1).2 + if r.2 then 16 else 0)),
   (.vfdiv, fun m rm z a b =>
     let r := Machine.Num.div (m.read z a) (m.read z b)
     ((ieeeRound m rm z r.1).1, (ieeeRound m rm z r.1).2 ||| r.2)),
   (.vfsqrt, fun m rm z a _ =>
     let r := Machine.Num.sqrt (m.read z a)
     ((ieeeRound m rm z r.1).1, (ieeeRound m rm z r.1).2 ||| r.2)),
   (.vfmin, fun m _ z a b => (fpick m (Machine.Num.min2 (m.read z a) (m.read z b)), 0)),
   (.vfmax, fun m _ z a b => (fpick m (Machine.Num.max2 (m.read z a) (m.read z b)), 0)),
   (.vfabs, fun m _ _ a _ => (a % 2 ^ (m.width - 1), 0)), (.vfneg, fun m _ _ a _ => (a ^^^ 2 ^ (m.width - 1), 0)),
   (.vfrcpe, fun m _ z a _ => estimate 0 m (if m = bf16 then 0 else if m = fp16 then 1 else if m = fp32 then 2 else 3) z a),
   (.vfrsqe, fun m _ z a _ => estimate 1 m (if m = bf16 then 0 else if m = fp16 then 1 else if m = fp32 then 2 else 3) z a),
   (.vfexp2, fun m _ z a _ => estimate 2 m (if m = bf16 then 0 else if m = fp16 then 1 else if m = fp32 then 2 else 3) z a),
   (.vflog2, fun m _ z a _ => estimate 3 m (if m = bf16 then 0 else if m = fp16 then 1 else if m = fp32 then 2 else 3) z a)]

/-- Flags of the active lanes together. -/
def orAll (l : List Nat) : Nat := l.foldl (fun a b => a ||| b) 0

end Sys2Proof.Claims

/-- Float vector operations: each active lane takes its result, rounded by GROOM_FPCTL.RM with FTZ applied, the flags of all
active lanes are added to the sticky flags, and inactive lanes keep their values (R67, R79, R82). -/
def Sys2Proof.Claims.VectorFloatLanes : Prop :=
  ∀ e ∈ vecFltOps, ∀ (s : State) (gi : Nat) (f : FmtV), ready s gi →
    (let m := fltFmt f.ew
     let rm := fld ((s.groom gi).reg 0x68) 2 0
     let z := bit ((s.groom gi).reg 0x68) 3
     let r := fun i => e.2 m rm z (laneAt (vr s gi f.va.toNat) m.width i) (laneAt (vr s gi f.vb.toNat) m.width i)
     vecResult s gi (e.1 gi f) f.vd m.width
      (orAll ((List.range (512 / m.width)).map (fun i => if on s gi f.pg m.width i then (r i).2 else 0)))
      (fun i => if on s gi f.pg m.width i then (r i).1 else laneAt (vr s gi f.vd.toNat) m.width i))

namespace Sys2Proof.Claims

/-- d + a × b of exact values, rounded once to `m`; NV for an invalid product or sum, where a product 0 × ∞ added to a NaN
takes the model's free choice. -/
def fusedC (m : FFmt) (rm : Nat) (z : Bool) (d a b : Machine.Num) : Nat × Nat :=
  let p := Machine.Num.mul a b
  let v := Machine.Num.add rm d p.1
  let r := ieeeRound m rm z v.1
  (r.1, r.2 + if v.2 || (p.2 && (!d.isNaN || Config.fmaNanInvalid)) then 16 else 0)

/-- A multiply-add whose lane i takes `h i`, when active. -/
def fusedLanes (s : State) (gi : Nat) (c : Instr) (f : FmtV) (w : Nat) (h : Nat → Nat × Nat) : Prop :=
  vecResult s gi c f.vd w (orAll ((List.range (512 / w)).map (fun i => if on s gi f.pg w i then (h i).2 else 0)))
    (fun i => if on s gi f.pg w i then (h i).1 else laneAt (vr s gi f.vd.toNat) w i)

end Sys2Proof.Claims

/-- VFMA and VFNMA add ±(VA × VB) to VD with one rounding; VFMAWL and VFMAWH do so in FP32 from the low and the high 16 lanes of
BF16 or FP16 sources (R79, R82). -/
def Sys2Proof.Claims.FusedMultiplyAddRoundsOnce : Prop :=
  ∀ (s : State) (gi : Nat) (f : FmtV), ready s gi →
    (let m := fltFmt f.ew
     let rm := fld ((s.groom gi).reg 0x68) 2 0
     let z := bit ((s.groom gi).reg 0x68) 3
     let a := fun w i => m.read z (laneAt (vr s gi f.va.toNat) w i)
     let b := fun w i => m.read z (laneAt (vr s gi f.vb.toNat) w i)
     let d := fun (n : FFmt) i => n.read z (laneAt (vr s gi f.vd.toNat) n.width i)
     fusedLanes s gi (.vfma gi f) f m.width (fun i => fusedC m rm z (d m i) (a m.width i) (b m.width i)) ∧
     fusedLanes s gi (.vfnma gi f) f m.width (fun i => fusedC m rm z (d m i) (a m.width i).neg (b m.width i)) ∧
     (f.ew.toNat < 2 →
       fusedLanes s gi (.vfmawl gi f) f 32 (fun i => fusedC fp32 rm z (d fp32 i) (a 16 i) (b 16 i)) ∧
       fusedLanes s gi (.vfmawh gi f) f 32 (fun i => fusedC fp32 rm z (d fp32 i) (a 16 (i + 16)) (b 16 (i + 16)))))

namespace Sys2Proof.Claims

/-- Float comparisons (R79): a NaN compares unequal and unordered. -/
def fcmpOps : List ((Nat → FmtV → Instr) × (Machine.Num → Machine.Num → Bool)) :=
  [(.vfcmpeq, Machine.Num.eq), (.vfcmplt, Machine.Num.lt), (.vfcmple, fun a b => Machine.Num.lt a b || Machine.Num.eq a b),
   (.vfcmpun, fun a b => a.isNaN || b.isNaN)]

/-- Element widths of the conversion codes of R80. -/
def codeBits (c : Nat) : Nat := [8, 16, 32, 64, 16, 16, 32, 64, 8, 8, 4].getD c 4

end Sys2Proof.Claims

/-- Float comparisons write 0 to inactive elements; VCVT converts 512 / max(source, destination width) elements from lane 0, VCVTH from
the source's upper half, each by the model's conversion of one element, and the bits of V[VD] above the result stay (R67, R79,
R80). -/
def Sys2Proof.Claims.FloatComparesAndConversions : Prop :=
  ∀ (s : State) (gi : Nat) (f : FmtV), ready s gi →
    (let m := fltFmt f.ew
     let rm := fld ((s.groom gi).reg 0x68) 2 0
     let z := bit ((s.groom gi).reg 0x68) 3
     (∀ e ∈ fcmpOps, f.vd.toNat < 8 → predResult s gi (e.1 gi f) f.vd m.width (fun i =>
       on s gi f.pg m.width i && e.2 (m.read z (laneAt (vr s gi f.va.toNat) m.width i)) (m.read z (laneAt (vr s gi f.vb.toNat) m.width i)))) ∧
     (f.vb.toNat ≤ 10 → f.ew.toNat * 8 + f.pg.toNat ≤ 10 →
       let src := f.vb.toNat
       let dst := f.ew.toNat * 8 + f.pg.toNat
       let n := 512 / max (codeBits src) (codeBits dst)
       let half := 512 / codeBits src / 2
       let cvt := fun (off i : Nat) => convert src dst rm z (laneAt (vr s gi f.va.toNat) (codeBits src) (i + off))
       let res := fun (off k : Nat) i =>
         if i < k then (cvt off i).1 else laneAt (vr s gi f.vd.toNat) (codeBits dst) i
       vecResult s gi (.vcvt gi f) f.vd (codeBits dst) (orAll ((List.range n).map fun i => (cvt 0 i).2)) (res 0 n) ∧
       vecResult s gi (.vcvth gi f) f.vd (codeBits dst) (orAll ((List.range (min n half)).map fun i => (cvt half i).2))
         (res half (min n half))))

/-- Vector integer lanes, and the moves between lanes and registers (R66, R67, R79). -/
def Obligations.VectorIntegersAndMoves : Prop :=
  Claims.VectorIntegerLanes ∧ Claims.VectorMoves

/-- Reductions of integer and of float lanes (R79, R81, R82). -/
def Obligations.VectorReductions : Prop :=
  Claims.IntegerReductions ∧ Claims.FloatReductionsUseFixedTree

/-- Float lanes, fused multiply-add, float compares and conversions (R67, R79, R80, R82). -/
def Obligations.VectorFloats : Prop :=
  Claims.VectorFloatLanes ∧ Claims.FusedMultiplyAddRoundsOnce ∧ Claims.FloatComparesAndConversions

namespace Sys2Proof.Claims

/-- Requests put at the end of those in flight, in order. -/
def withReqs (s : State) (l : List Req) : State := l.foldl withReq s

/-- A vector load issues: `parts` are lane, address, length and byte mask of its requests, `m` its loaded byte lanes. -/
def vecLoadIssues (s : State) (gi : Nat) (c : Instr) (vd : BitVec 5) (m : Word) (each : Bool)
    (parts : List (Nat × Nat × Nat × Option Nat)) : Prop :=
  exec c s = .next (if parts = [] then retired s gi id else
    withReqs (s.setGroom gi (loading (s.groom gi)
        { seq := 0, pc := 0, dst := some (.v vd.toNat m each), left := parts.length,
          got := if m = BitVec.allOnes 64 then [] else keepBytes (vr s gi vd.toNat) m }))
      (parts.map (fun p => { groomReq s gi (.groomLoad gi (s.groom gi).nextSeq) .read p.2.1 p.2.2.1 [] p.2.2.2 with part := p.1 })))

/-- Active elements of an access with one address each, and whether all are aligned. -/
def eachOn (s : State) (gi : Nat) (f : FmtVMX) (n : Nat) : List Nat :=
  (List.range (min n (512 / (8 * 2 ^ f.ew.toNat)))).filter (fun i => on s gi f.pg (8 * 2 ^ f.ew.toNat) i)
def eachAligned (s : State) (gi : Nat) (f : FmtVMX) (n : Nat) (ad : Nat → Nat) : Prop :=
  ∀ i ∈ eachOn s gi f n, ad i % 2 ^ f.ew.toNat = 0

/-- Addresses of the elements of VLDS and VSTS, and of VGTH and VSCT (R79). -/
def stridedAt (s : State) (gi : Nat) (f : FmtVMX) (i : Nat) : Nat :=
  ((xr s gi f.xa.toNat).toNat + i * (xr s gi f.xb.toNat).toNat) % 2 ^ 64
def indexedAt (s : State) (gi : Nat) (f : FmtVMX) (i : Nat) : Nat :=
  ((xr s gi f.xa.toNat).toNat + laneAt (vr s gi f.xb.toNat) 32 i) % 2 ^ 64

/-- One load per active element, each with its own address. -/
def eachLoads (s : State) (gi : Nat) (c : Instr) (f : FmtVMX) (n : Nat) (ad : Nat → Nat) : Prop :=
  ∃ m : Word, (∀ b, b < 64 → (m.getLsbD b = true ↔ b / 2 ^ f.ew.toNat ∈ eachOn s gi f n)) ∧
    vecLoadIssues s gi c f.vd m true ((eachOn s gi f n).map (fun i => (i * 2 ^ f.ew.toNat, ad i, 2 ^ f.ew.toNat, none)))

/-- One store per active element, in ascending order, after the instruction has retired. -/
def eachStores (s : State) (gi : Nat) (c : Instr) (f : FmtVMX) (n : Nat) (ad : Nat → Nat) : Prop :=
  exec c s = .next (withReqs (retired s gi id) ((eachOn s gi f n).map (fun i =>
    groomReq s gi (.groomStore gi) .write (ad i) (2 ^ f.ew.toNat)
      (leBytes (2 ^ f.ew.toNat) (laneAt (vr s gi f.vd.toNat) (8 * 2 ^ f.ew.toNat) i)) none)))

/-- The requests of a contiguous 64-byte access at `base`: one for each 64-byte block it touches, from its first to its last
active byte (R69, R70). -/
def blockReqs (s : State) (gi : Nat) (f : FmtVM) (base : Nat) : List (Nat × Nat × Nat) :=
  blockParts base (fun b => on s gi f.pg (8 * 2 ^ f.ew.toNat) (b / 2 ^ f.ew.toNat))

end Sys2Proof.Claims

/-- VLD and VST access the 64 bytes at X[XA] + IMM11 × 64, split at a 64-byte boundary, in their active lanes; with no active
lane they access nothing (R69, R70, R77, R79). -/
def Sys2Proof.Claims.ContiguousVectorMemory : Prop :=
  ∀ (s : State) (gi : Nat) (f : FmtVM), ready s gi → s.csrLoadOut gi = false → s.storesOut gi < 16 →
    (let base := (xr s gi f.xa.toNat + f.imm.signExtend 64 * 64).toNat
     base % 2 ^ f.ew.toNat = 0 →
     (∃ m : Word, (∀ b, b < 64 → m.getLsbD b = on s gi f.pg (8 * 2 ^ f.ew.toNat) (b / 2 ^ f.ew.toNat)) ∧
       vecLoadIssues s gi (.vld gi f) f.vd m false
         ((blockReqs s gi f base).map (fun p => (p.1, (base + p.1) % 2 ^ 64, p.2.1, some p.2.2)))) ∧
     exec (.vst gi f) s = .next (withReqs (retired s gi id) ((blockReqs s gi f base).map (fun p =>
       { groomReq s gi (.groomStore gi) .write ((base + p.1) % 2 ^ 64) (min p.2.1 (64 - p.1))
           (((leBytes 64 (vr s gi f.vd.toNat).toNat).drop p.1).take p.2.1) (some p.2.2) with part := p.1 }))))

/-- VLDS and VGTH send one load, and VSTS and VSCT one store, for each active element, at X[XA] + i × X[XB] or at X[XA] plus
the zero-extended 32-bit lane i of the index register (R70, R73, R79). -/
def Sys2Proof.Claims.StridedAndIndexedVectorMemory : Prop :=
  ∀ (s : State) (gi : Nat) (f : FmtVMX), ready s gi → s.csrLoadOut gi = false → s.storesOut gi < 16 → f.top = 0 →
    (eachAligned s gi f 64 (stridedAt s gi f) →
      eachLoads s gi (.vlds gi f) f 64 (stridedAt s gi f) ∧ eachStores s gi (.vsts gi f) f 64 (stridedAt s gi f)) ∧
    (eachAligned s gi f 16 (indexedAt s gi f) →
      eachLoads s gi (.vgth gi f) f 16 (indexedAt s gi f) ∧ eachStores s gi (.vsct gi f) f 16 (indexedAt s gi f))

namespace Sys2Proof.Claims

/-- The groom after an entry of class `cls`: EPC, ECAUSE, EVAL (but for an interrupt) and ESTATUS are written, and it goes on
at KERNEL with interrupts off at `pc` (R84, R97). -/
def enteredGroom (g : Groom) (cls : Nat) (st : Status) (ev : Option Word) (epc : Nat) (async : Bool) (pc : Nat) : Groom :=
  let a := (g.setReg 0x10 (place 21 2 (epc / 4))).setReg 0x18 (place 15 0 st.toNat ||| place 18 16 cls)
  let b := match ev with | some v => a.setReg 0x20 v | none => a
  { b.setReg 0x08 (place 1 0 (privNum g.priv) ||| place 2 2 (b2n g.ie) ||| place 3 3 (b2n async)) with
    priv := .kernel, ie := false, exl := true, pc := pc, rq := [], wait := .none }

/-- A groom enters an exception: its next state is `h`, and other grooms, memory and the device's registers stay. -/
def enters (s : State) (gi : Nat) (c : Instr) (h : Groom) : Prop :=
  ∃ t, exec c s = .next t ∧ t.groom gi = h ∧ (∀ gj, gj ≠ gi → t.groom gj = s.groom gj) ∧ t.mem = s.mem ∧ t.csr = s.csr ∧
    t.tack = s.tack

/-- KVBASE plus the entry offset of a class (R84). -/
def entryPc (g : Groom) (cls : Nat) : Nat := (fld (g.reg 0x28) 21 9 * 512 + cls * 64) % 0x400000 / 4 * 4

/-- Forms that raise a precise exception at issue, with status and GROOM_EVAL (R69, R77, R79). -/
def faultForms (gi : Nat) : List (Instr × Status × Nat) :=
  let v : FmtV := { vd := 9, va := 1, vb := 2, pg := 0, ew := 2 }
  let w := fun (opc fn : Nat) => opc + 9 * 2 ^ 6 + 1 * 2 ^ 11 + 2 * 2 ^ 16 + 2 * 2 ^ 24 + fn * 2 ^ 26
  [(.lui gi { rd := 1, ra := 1, imm := 5 }, St.groomIllegal, 0x07 + 1 * 2 ^ 6 + 1 * 2 ^ 11 + 5 * 2 ^ 16),
   (.shori gi { rd := 1, ra := 1, imm := 5 }, St.groomIllegal, 0x0F + 1 * 2 ^ 6 + 1 * 2 ^ 11 + 5 * 2 ^ 16),
   (.shifti gi { rd := 1, ra := 1, imm := 0xC0 }, St.groomIllegal, 0x06 + 1 * 2 ^ 6 + 1 * 2 ^ 11 + 0xC0 * 2 ^ 16),
   (.vcmpeq gi v, St.groomIllegal, w 0x28 0), (.pand gi v, St.groomIllegal, w 0x28 8), (.psetn gi v, St.groomIllegal, w 0x28 0x13),
   (.vfcmpun gi v, St.groomIllegal, w 0x21 0x23), (.vfmawl gi v, St.groomIllegal, w 0x21 5),
   (.ldw gi { rd := 1, ra := 0, imm := 2 }, St.groomMisaligned, 0), (.ldd gi { rd := 1, ra := 0, imm := 4 }, St.groomMisaligned, 0),
   (.std gi { rs := 1, ra := 0, imm := 4 }, St.groomMisaligned, 0), (.sth gi { rs := 1, ra := 0, imm := 1 }, St.groomMisaligned, 0)]

end Sys2Proof.Claims

/-- Undefined and misaligned forms, BREAK, and ECALL at TASK enter their exception at KVBASE plus the class's offset, saving the pc,
the cause and the status; while EXL = 1 the groom halts instead (R84, R89, R90). -/
def Obligations.PreciseExceptionEntry : Prop :=
  ∀ (s : State) (gi : Nat) (f : FmtR), ready s gi →
    (let g := s.groom gi
     (g.exl = false →
       (∀ e ∈ faultForms gi, enters s gi e.1 (enteredGroom g 0 e.2.1 (some (BitVec.ofNat 64 e.2.2)) g.pc false (entryPc g 0))) ∧
       enters s gi (.brk gi f) (enteredGroom g 4 St.groomBreak (some 0) g.pc false (entryPc g 4)) ∧
       (g.priv = .task → enters s gi (.ecall gi f)
         (enteredGroom { g with instret := g.instret + 1 } 3 St.groomEcall (some 0) ((g.pc + 4) % 0x400000) false (entryPc g 3)))) ∧
     (g.exl = true →
       ∃ t, exec (.brk gi f) s = .next t ∧ t.groom gi = { g with halted := true, haltReq := false } ∧
         (s.tack.agg.length < 1024 → ∃ r, t.tack.agg = s.tack.agg ++ [r] ∧ r.status = St.groomDoubleFault)))

/-- Vector loads and stores: contiguous, strided and indexed (R69, R70, R73, R77, R79). -/
def Obligations.VectorMemory : Prop :=
  Claims.ContiguousVectorMemory ∧ Claims.StridedAndIndexedVectorMemory

namespace Sys2Proof.Claims

/-- GROOM registers that an instruction at TASK may read and write (R83). -/
def mayAccess (s : State) (gi o : Nat) (write : Bool) : Prop :=
  (s.groom gi).priv ≠ .task ∨ (if write then o = 0x68 else o ∈ [0x40, 0x68, 0x80, 0x88, 0x90])

end Sys2Proof.Claims

/-- FENCE and IFENCE retire once no store of the groom is outstanding, IFENCE with an empty fetch window; WFI retires at once
when an interrupt is pending, else it waits, and WFI_WAKE ends that wait (R64, R71, R86). -/
def Sys2Proof.Claims.FencesAndWaitForInterrupt : Prop :=
  ∀ (s : State) (gi : Nat) (f : FmtR),
    (ready s gi → s.storesOut gi = 0 →
      exec (.fence gi f) s = .next (retired s gi id) ∧
      exec (.ifence gi f) s = .next (retired s gi (fun g => { g with window := [] }))) ∧
    (ready s gi → s.storesOut gi ≠ 0 → exec (.fence gi f) s = .next s ∧ exec (.ifence gi f) s = .next s) ∧
    (ready s gi → (s.groom gi).priv ≠ .task →
      (s.irqFor gi = true → exec (.wfi gi f) s = .next (retired s gi id)) ∧
      (s.irqFor gi = false → exec (.wfi gi f) s = .next (s.setGroom gi { s.groom gi with wait := .wfi }))) ∧
    ((s.groom gi).halted = false → (s.groom gi).wait = .wfi → s.irqFor gi = true →
      exec (.wfiWake gi) s = .next (waited s gi id))

/-- ERET restores PRIV, IE and the PC from ESTATUS and EPC and clears EXL (R85). At KERNEL an ECALL starts a tack call; the
tack room's answer ends it with the status in X1 and a result in X2, an unknown code with UNSUPPORTED, and 2,500,000 NCLK without an
answer with GROOM_TCALL_TIMEOUT (R92). -/
def Sys2Proof.Claims.ReturnAndTackCalls : Prop :=
  ∀ (s : State) (gi : Nat) (f : FmtR),
    (let g := s.groom gi
     (ready s gi → g.priv ≠ .task →
       exec (.eret gi f) s = .next (
         let h : Groom := { g with priv := if fld (g.reg 0x08) 1 0 = 0 then .task else .kernel, ie := bit (g.reg 0x08) 2,
                                   exl := false, pc := fld (g.reg 0x10) 21 2 * 4, instret := g.instret + 1 }
         (s.setGroom gi h).perfGroom gi 0x60 h) ∧
       exec (.ecall gi f) s = .next (s.setGroom gi { g with wait := .tcall s.clk none })) ∧
     (∀ t0 st v, g.halted = false → g.wait = .tcall t0 (some (st, some v)) →
       exec (.tackCallAnswer gi) s = .next (waited s gi (fun g => setX 2 v (setX 1 (st.setWidth 64) g)))) ∧
     (∀ t0 st, g.halted = false → g.wait = .tcall t0 (some (st, none)) →
       exec (.tackCallAnswer gi) s = .next (waited s gi (setX 1 (st.setWidth 64)))) ∧
     (∀ t0, g.halted = false → g.wait = .tcall t0 none → Map.get zeroW g.x 1 ∉ [0x0101, 0x0102, 0x0201] →
       exec (.tackCallAnswer gi) s = .next (waited s gi (setX 1 (St.unsupported.setWidth 64)))) ∧
     (∀ t0 a, g.halted = false → g.wait = .tcall t0 a → t0 + 2500000 ≤ s.clk →
       exec (.tackCallTimeout gi) s = .next (waited s gi (setX 1 (St.groomTcallTimeout.setWidth 64)))))

/-- The three calls the tack room serves: the configuration record, PWR_STAT and a measurement extension (R520, R555). Each leaves its
answer with the waiting groom. -/
def Sys2Proof.Claims.TackRoomServesCalls : Prop :=
  ∀ (s : State) (gi t0 : Nat), (s.groom gi).wait = .tcall t0 none →
    (let g := s.groom gi
     let xn := fun n => (Map.get zeroW g.x n).toNat
     (Map.get zeroW g.x 1 = 0x0102 →
       exec (.pwrRead gi) s = .next (s.setGroom gi { g with wait := .tcall t0 (some (St.ok, some s.pwrStat)) })) ∧
     (Map.get zeroW g.x 1 = 0x0101 → ∀ b r, s.winner = some b →
       ((s.bank b).recs.filter (fun r => r.sigOk && decide (r.typ = xn 2)))[xn 3]? = some r → xn 4 + (r.bytes.take (xn 5)).length ≤ 0x400000 →
       exec (.cfgRead gi) s = .next (let t := s.scrWrite (gi / 16) (xn 4) (r.bytes.take (xn 5))
         t.setGroom gi { g with wait := .tcall t0 (some (St.ok, some (BitVec.ofNat 64 (r.bytes.take (xn 5)).length))) })) ∧
     (Map.get zeroW g.x 1 = 0x0201 → 4 ≤ xn 2 → xn 2 ≤ 7 → xn 3 + 32 ≤ 0x400000 →
       let old : BitVec 256 := Map.get (fun _ => 0) s.tack.meas (xn 2)
       let new := sha256 (leBytes 32 old.toNat ++ s.scrRead (gi / 16) (xn 3) 32)
       exec (.measExtend gi) s = .next ({ s with tack := { s.tack with
         meas := Map.set (fun _ => 0) s.tack.meas (xn 2) (BitVec.ofNat 256 (leNat new)) } }.setGroom gi
           { g with wait := .tcall t0 (some (St.ok, none)) })))

/-- CSR instructions on a listed register that the privilege allows: X[RD] takes the old value, and CSRW, CSRS and CSRC then write the
operand, set its bits or clear its bits under the register's field rules; an unlisted number and a register that TASK may not access
enter an exception (R83, R89, R97). GROOM_DBG_DATA answers no running groom, and a TASKID write waits for earlier stores (log entry 5). -/
def Sys2Proof.Claims.CsrInstructions : Prop :=
  ∀ (s : State) (gi : Nat) (f : FmtI), ready s gi →
    (let o := f.imm.toNat % 4096 * 8
     let old := s.groomRead gi o
     let a := xr s gi f.ra.toNat
     (groomListed o = true → o ≠ 0xA8 → mayAccess s gi o false →
       exec (.csrr gi f) s = .next (retired s gi (setX f.rd.toNat old))) ∧
     (groomListed o = true → o ≠ 0xA8 → mayAccess s gi o true → (o = 0x40 → s.storesOut gi = 0) →
       exec (.csrw gi f) s = .next ((retired s gi (setX f.rd.toNat old)).groomWrite gi o a) ∧
       exec (.csrs gi f) s = .next ((retired s gi (setX f.rd.toNat old)).groomWrite gi o (old ||| a)) ∧
       exec (.csrc gi f) s = .next ((retired s gi (setX f.rd.toNat old)).groomWrite gi o (old &&& ~~~a))) ∧
     (groomListed o = false → (s.groom gi).exl = false →
       enters s gi (.csrr gi f) (enteredGroom (s.groom gi) 0 St.groomIllegal
         (some (BitVec.ofNat 64 (0x31 + f.rd.toNat * 2 ^ 6 + f.ra.toNat * 2 ^ 11 + f.imm.toNat * 2 ^ 16))) (s.groom gi).pc false
         (entryPc (s.groom gi) 0))) ∧
     (groomListed o = true → ¬ mayAccess s gi o true → (s.groom gi).exl = false →
       enters s gi (.csrw gi f) (enteredGroom (s.groom gi) 0 St.groomPrivInstr (some 0) (s.groom gi).pc false (entryPc (s.groom gi) 0))))

namespace Sys2Proof.Claims

/-- A list enqueued by a groom: the privilege, task, tenant and window captured (R105), with the next sequence number; an idle queue
starts. -/
def enqueued (s : State) (gi q off : Nat) : State :=
  let g := s.groom gi
  let x := s.queue (gi / 16) q
  let l : QList := { off := off, priv := g.priv, task := fld (g.reg 0x40) 15 0, tenant := fld (g.reg 0x40) 31 16,
                     dwinLo := fld (g.reg 0x58) 48 0, dwinHi := fld (g.reg 0x60) 48 0, seq := x.issued + 1,
                     lgrp := fld (s.scsr (gi / 16) 0x1A28) 5 0 }
  s.setQueue (gi / 16) q { x with lists := x.lists ++ [l], issued := x.issued + 1,
                                  state := if x.state = .idle then .running else x.state }

end Sys2Proof.Claims

/-- CMDQ enqueues a list on a queue with room and writes its sequence number to X[RD]; on a full queue it waits, and enqueues once a
place is free (R93, R105). CPOLL reads the completed count. -/
def Sys2Proof.Claims.GroomEnqueuesLists : Prop :=
  ∀ (s : State) (gi : Nat) (f : FmtR),
    (let q := f.rc.toNat
     let x := s.queue (gi / 16) q
     (ready s gi → s.storesOut gi = 0 → q < 5 → x.lists.length < 8 →
       exec (.cmdq gi f) s = .next (retired (enqueued s gi q (xr s gi f.ra.toNat).toNat) gi (setX f.rd.toNat (BitVec.ofNat 64 (x.issued + 1))))) ∧
     (ready s gi → s.storesOut gi = 0 → q < 5 → 8 ≤ x.lists.length →
       exec (.cmdq gi f) s = .next (s.setGroom gi { s.groom gi with wait := .cmdq f.rd.toNat q (xr s gi f.ra.toNat).toNat })) ∧
     (ready s gi → q < 5 → exec (.cpoll gi f) s = .next (retired s gi (setX f.rd.toNat (BitVec.ofNat 64 x.done))))) ∧
    (∀ rd q off, (s.groom gi).halted = false → (s.groom gi).wait = .cmdq rd q off → (s.queue (gi / 16) q).lists.length < 8 →
      exec (.cmdqEnqueueAfterWait gi) s =
        .next (waited (enqueued s gi q off) gi (setX rd (BitVec.ofNat 64 ((s.queue (gi / 16) q).issued + 1)))))

/-- CWAIT of a list not yet issued writes GROOM_SEQ_STALE, of a completed list its status (or ENG_STATUS_GONE once forgotten), and
otherwise waits until the list completes or its timeout passes (R94, R136). -/
def Sys2Proof.Claims.GroomWaitsForLists : Prop :=
  ∀ (s : State) (gi : Nat) (f : FmtR),
    (let st := fun (x : Queue) (n : Nat) => ((x.hist.find? (fun h => h.1 = n)).map (·.2)).getD St.engStatusGone
     let q := f.rc.toNat
     let x := s.queue (gi / 16) q
     let n := (xr s gi f.ra.toNat).toNat
     (ready s gi → q < 5 →
       (x.issued < n → exec (.cwait gi f) s = .next (retired s gi (setX f.rd.toNat (St.groomSeqStale.setWidth 64)))) ∧
       (n ≤ x.issued → n ≤ x.done → exec (.cwait gi f) s = .next (retired s gi (setX f.rd.toNat ((st x n).setWidth 64)))) ∧
       (n ≤ x.issued → x.done < n → exec (.cwait gi f) s = .next (s.setGroom gi { s.groom gi with
         wait := .cwait f.rd.toNat q (xr s gi f.ra.toNat) (xr s gi f.rb.toNat).toNat s.clk }))) ∧
     (∀ rd q (w : Word) tmo t0, (s.groom gi).halted = false → (s.groom gi).wait = .cwait rd q w tmo t0 →
       (w.toNat ≤ (s.queue (gi / 16) q).done →
         exec (.cwaitComplete gi) s = .next (waited s gi (setX rd ((st (s.queue (gi / 16) q) w.toNat).setWidth 64)))) ∧
       (tmo ≠ 0 → t0 + tmo < s.clk →
         exec (.cwaitTimeout gi) s = .next (waited s gi (setX rd (St.groomWaitTimeout.setWidth 64))))))

/-- A line fill brings its line to the front of the 16-line window and counts; a load's response with status 0 writes its register
when it is the oldest unretired instruction, and a failed one enters class 1 with the access address at the next exception entry; a
store's completion frees its request, and a failed one is an asynchronous error (R63, R72, R73, R84). -/
def Obligations.FillsResponsesAndAsyncErrors : Prop :=
  ∀ (s : State) (gi : Nat),
    (let g := s.groom gi
     (∀ line, g.halted = false → exec (.groomLineFill gi line) s = .next
       ((s.setGroom gi { g with window := (line :: g.window.filter (fun l => decide (l ≠ line))).take 16 }).perfGroom gi 0x62 g)) ∧
     (∀ req r e n k sg, s.req req = some r → r.src = .groomLoad gi e.seq → r.phase = .arrived → g.halted = false → g.rq = [e] →
       e.dst = some (.x n k sg) → e.left = 1 → e.fault = none → e.flags = 0 → e.stores = [] →
       (r.status = St.ok →
         let v := leNat (r.data.take k)
         ∃ t, exec (.groomLoadResponse gi req) s = .next t ∧ t.groom gi =
           { setX n (if sg then BitVec.ofInt 64 (toSigned (8 * k) v) else BitVec.ofNat 64 v) g with rq := [], instret := g.instret + 1 } ∧
           t.mem = s.mem ∧ t.reqs = Map.set noneOf s.reqs req none) ∧
       (r.status ≠ St.ok → ∃ t, exec (.groomLoadResponse gi req) s = .next t ∧ (t.groom gi).x = g.x ∧
         (t.groom gi).rq = [{ e with left := 0, fault := some { cls := 1, status := r.status, eval := BitVec.ofNat 64 r.addr, epc := e.pc, lane := r.part } }])) ∧
     (∀ e es ft, g.halted = false → (∀ a b, g.wait ≠ .tcall a b) → g.exl = false → g.rq = e :: es → e.fault = some ft → e.left = 0 → ft.cls ≠ 3 →
       enters s gi (.exceptionEntry gi none) (enteredGroom g ft.cls ft.status (some ft.eval) ft.epc false (entryPc g ft.cls))) ∧
     (∀ req r, s.req req = some r → r.src = .groomStore gi → r.phase = .arrived →
       exec (.groomStoreComplete gi req) s = .next (if r.status = St.ok then s.setReq req none
         else (s.setReq req none).setGroom gi { g with asyncErr := g.asyncErr ++ [(r.status, r.addr - r.part)] })) ∧
     (∀ st a l, g.halted = false → (∀ a b, g.wait ≠ .tcall a b) → g.exl = false → g.rq = [] → g.asyncErr = (st, a) :: l →
       enters s gi (.exceptionEntry gi none) (enteredGroom { g with asyncErr := l } 2 st (some (BitVec.ofNat 64 a)) g.pc true (entryPc g 2))))

namespace Sys2Proof.Claims

/-- The register access returns this status, value and bytes to its sender. -/
def answered (s : State) (st : Status) (v : Word) (b : List Byte) : State :=
  { s with resp := { status := st, data := v, bytes := b } }

end Sys2Proof.Claims

/-- Run control and debug of a groom through its page by a privileged sender: RUN starts a halted groom at START_PC at KERNEL, HALT
asks a running one to halt and the halt then takes effect, RESET of a halted groom clears its context; GROOM_DBG_DATA, the predictor
flush and GROOM_TASKID need a halted groom, and TASK is refused (R87, R95, R96, R97). -/
def Sys2Proof.Claims.GroomRunControl : Prop :=
  ∀ (s : State) (gi : Nat) (v : Word), Map.wf (fun _ => ({} : Groom)) s.grooms = true →
    (let g := s.groom gi
     let g' := g.setReg 0x98 (place 21 2 (fld v 21 2))
     (∀ p, p ≠ Priv.task → g.halted = true → bit v 61 = false → bit v 62 = false →
       exec (.runctlRun p gi v) s = .next (answered (s.setGroom gi { g' with
         halted := false, haltReq := false, wait := .none, priv := .kernel, ie := false, exl := false, pc := fld v 21 2 * 4 }) St.ok 0 [])) ∧
     (∀ p, p ≠ Priv.task → g.halted = false → bit v 62 = false →
       exec (.runctlHalt p gi v) s = .next (answered (s.setGroom gi { g' with haltReq := true }) St.ok 0 [])) ∧
     (∀ p, p ≠ Priv.task → g.halted = true →
       exec (.runctlReset p gi v) s = .next (answered (s.setGroom gi { gen := g.gen }) St.ok 0 [])) ∧
     (g.haltReq = true → g.halted = false → g.wait = .none → g.rq = [] → g.asyncErr = [] → s.csrLoadOut gi = false → s.storesOut gi = 0 → g.resetReq = false →
       ∃ t, exec (.groomHaltTakesEffect gi) s = .next t ∧ t.groom gi = { g with halted := true, haltReq := false } ∧ t.mem = s.mem) ∧
     (∀ p, p ≠ Priv.task → g.halted = true →
       exec (.groomDbgDataAccess p gi none) s = .next (answered s St.ok g.dbgRead []) ∧
       exec (.predictorFlush p gi) s = .next (answered (s.setGroom gi
         { g.setReg 0x70 (place 0 0 (fld (g.reg 0x70) 0 0)) with ctr := [], btb := [], ras := [] }) St.ok 0 []) ∧
       ((∀ rd w, g.wait ≠ .taskid rd w) → exec (.groomTaskidWrite p gi v) s = .next (answered (s.setGroom gi
         { g.setReg 0x40 (place 31 0 (fld v 31 0)) with ctr := [], btb := [], ras := [] }) St.ok 0 []))) ∧
     (∀ p, p ≠ Priv.task → g.halted = false →
       exec (.groomDbgDataAccess p gi none) s = .next (answered s St.groomNotHalted 0 []) ∧
       exec (.predictorFlush p gi) s = .next (answered s St.groomNotHalted 0 [])) ∧
     exec (.runctlRun .task gi v) s = .next (answered s St.privilege 0 []) ∧
     (∀ rd w, g.halted = false → g.wait = .taskid rd w → s.storesOut gi = 0 → g.asyncErr = [] →
       exec (.groomTaskidWrite .kernel gi v) s = .next ((waited s gi (setX rd (g.reg 0x40))).groomWrite gi 0x40 w)))

/-- Fences and WFI, return from an exception, tack calls and what the tack room answers (R64, R71, R85, R86, R92, R520, R555). -/
def Obligations.FencesWaitsAndTackCalls : Prop :=
  Claims.FencesAndWaitForInterrupt ∧ Claims.ReturnAndTackCalls ∧ Claims.TackRoomServesCalls

/-- The groom's own register instructions, and run control through its page (R83, R87, R89, R95 to R97). -/
def Obligations.GroomRegistersAndRunControl : Prop :=
  Claims.CsrInstructions ∧ Claims.GroomRunControl

/-- CMDQ enqueues a list, and CWAIT waits for one (R93, R94, R105, R136). -/
def Obligations.GroomListCommands : Prop :=
  Claims.GroomEnqueuesLists ∧ Claims.GroomWaitsForLists

namespace Sys2Proof.Claims

/-- No load, store or gather command of a stall has started. -/
def noneStarted (s : State) (ps : Nat) : Prop := ∀ q ∈ [0, 1, 3], (s.queue ps q).ctxs = []

/-- The maps that a stall is kept in have their canonical form. -/
def tidy (s : State) (ps : Nat) : Prop :=
  Map.wf (fun _ => ({} : Stall)) s.stalls = true ∧ Map.wf (fun _ => ({} : Queue)) (s.stall ps).queues = true

/-- Sources that ended re-arm their delivery (R474). -/
def rearmed (s : State) : State := { s with deliv := s.deliv.filter s.asserted }

/-- The head list of a queue runs and stands at command `idx`, not the last, whose opcode is `op`. -/
def atCommand (s : State) (ps q op : Nat) (l : QList) (n idx : Nat) : Prop :=
  let x := s.queue ps q
  x.state = .running ∧ x.lists.head? = some l ∧ x.count = some n ∧ x.cmdIdx = idx ∧ idx + 1 < n ∧ x.pausing = false ∧
    x.aborting = false ∧ (s.stall ps).pstate = .run ∧ s.cmdWord ps l idx 0 % 256 = op

/-- The queue has moved to the next command of the same list, with nothing started. -/
def pastCommand (s t : State) (ps q idx : Nat) : Prop :=
  (t.queue ps q).cmdIdx = idx + 1 ∧ (t.queue ps q).ctxs = [] ∧ (t.queue ps q).lists = (s.queue ps q).lists ∧
    (t.queue ps q).state = .running ∧ (t.queue ps q).done = (s.queue ps q).done

/-- The eight commands that move data, with queue and opcode. -/
def moveCmds : List ((Nat → Instr) × Nat × Nat) :=
  [(.ldtile, 0, 0x01), (.ldscr, 0, 0x02), (.sttile, 1, 0x21), (.stscr, 1, 0x22), (.gtile, 3, 0x81), (.gscr, 3, 0x82),
   (.sctile, 3, 0x83), (.scadd, 3, 0x84)]

/-- A started command whose requests have all come and that stands before its last group of elements, in the plain form: no view,
selects, map, transposition, rejection or multicast failure. -/
def lastGroup (s : State) (ps q op : Nat) (c : CmdCtx) : Prop :=
  (s.queue ps q).ctxs = [c] ∧ (∀ k ∈ [0, 1, 3], k ≠ q → (s.queue ps k).ctxs = []) ∧ c.fail = none ∧ s.ctxReady ps c = true ∧
  c.waitEv < 32 ∧ c.args.op = op ∧ (∀ p ∈ c.parts, p.st = .landed) ∧ c.next + 1 = c.groups ∧ c.args.oobAt = none ∧ c.args.str.win = none ∧
  c.args.transp = false ∧ c.args.skip = [] ∧ c.args.sel = none ∧ c.args.build = none ∧ c.args.loft = none ∧ c.args.str.n1 = 1 ∧
  c.rejected = false ∧ c.mcOut = 0 ∧ c.mcFail = [] ∧ (s.stall ps).rejects c.args c.next = 0

end Sys2Proof.Claims

/-- A load, store or gather command whose requests are complete consumes its last group in order and completes: the queue goes to
the next command of its list. LDTILE and GTILE write the group's row of their tile register, LDSCR and GSCR its bytes of scratch, and
the storing commands neither (R108, R121, R135, R149, R271). -/
def Obligations.EngineCommandConsumesAndCompletes : Prop :=
  ∀ e ∈ moveCmds, ∀ (s : State) (ps : Nat) (l : QList) (n idx : Nat) (c : CmdCtx),
    atCommand s ps e.2.1 e.2.2 l n idx → lastGroup s ps e.2.1 e.2.2 c →
    ∃ t, exec (e.1 ps) s = .next t ∧ pastCommand s t ps e.2.1 idx ∧
      (t.stall ps).tile = (if e.2.2 = 0x01 then
          ((s.stall ps).rowWrite c.args.treg (c.args.row0 + c.next) (packCodes c.args.fmt (c.loadRow c.next).1)).tile
        else if e.2.2 = 0x81 then ((s.stall ps).rowWrite c.args.treg (c.args.row0 + c.next) (c.entryRow c.next 0)).tile
        else (s.stall ps).tile) ∧
      (t.stall ps).scratch = (if e.2.2 = 0x02 then
          writeBytes (s.stall ps).scratch (c.args.scr + c.next * 1024)
            ((List.range (min 1024 (c.args.str.len - c.next * 1024))).map (fun k => c.byteAt (c.next * 1024 + k)))
        else if e.2.2 = 0x82 then writeBytes (s.stall ps).scratch (c.args.scr + c.next * c.args.blockLen) (c.entryRow c.next 0)
        else (s.stall ps).scratch) ∧ t.mem = s.mem

/-- A list starts: its header is checked, SEQ is written to it and its first command is START_IDX; a header that fails a check
completes the list with that check's status and stops the queue (R102, R103). -/
def Sys2Proof.Claims.ListStartReadsHeader : Prop :=
  ∀ (s : State) (ps q : Nat) (l : QList),
    (let x := s.queue ps q
     x.state = .running → x.lists.head? = some l → x.count = none → s.passHeld ps q = false → x.pausing = false → x.aborting = false →
     l.off % 64 = 0 → l.off < 0x400000 → s.scrGood ps l.off 64 = true →
     (let h := s.scrRec ps l.off
      (headerStatus l.off h = St.ok →
        exec (.listStart ps q) s = .next (rearmed ((s.scrWriteLe ps (l.off + 8) 8 l.seq).modQueue ps q (fun x =>
          { x with count := some (rf h 0 15 0), cmdIdx := rf h 4 15 0 })))) ∧
      (headerStatus l.off h ≠ St.ok → ∃ t, exec (.listStart ps q) s = .next t ∧ (t.queue ps q).state = .stopped ∧
        (t.queue ps q).done = l.seq ∧ (t.queue ps q).lists = x.lists.tail ∧
        (t.queue ps q).hist.head? = some (l.seq, headerStatus l.off h)))) ∧
    (q ∈ [0, 1, 3] → ∀ n idx, atCommand s ps q (s.cmdWord ps l idx 0 % 256) l n idx → noneStarted s ps →
      s.scrGood ps (l.off + 64 + 64 * idx) 64 = true →
      (let cmd := s.cmdNat ps l idx
       let r := s.checkCmd ps q l idx cmd
       let e := envOf (cmd % 2 ^ 64)
       r.2.2 = St.ok → e.waitEn = true → s.evMet ps e.waitEv e.waitVal = false →
       ∃ t c, exec (.cmdStart ps q) s = .next t ∧ (t.queue ps q).ctxs = [c] ∧ c.idx = idx ∧ c.off = l.off + 64 + 64 * idx ∧
         c.lst = l ∧ c.fail = none ∧ c.postEn = e.postEn ∧ c.postEv = e.postEv ∧ c.args.op = r.2.1.op ∧ c.args.str = r.2.1.str))

/-- NOP on any queue, with its reserved fields zero and its wait met, posts its event and passes (R107 to R109). -/
def Sys2Proof.Claims.NopPostsAndPasses : Prop :=
  ∀ (s : State) (ps q n idx : Nat) (l : QList), q < 5 → atCommand s ps q 0 l n idx → noneStarted s ps →
    (s.queue ps q).ctxs = [] →
    (s.stall ps).arr.inflight = [] → (s.stall ps).sync = none → s.scrGood ps (l.off + 64 + 64 * idx) 64 = true →
    Map.wf (resetOf stallRegs) (s.stall ps).csr = true → resSet (s.cmdNat ps l idx) envFields = false →
    (let e := envOf (s.cmdNat ps l idx % 2 ^ 64)
     (e.waitEn = true → s.evMet ps e.waitEv e.waitVal = true) →
     ∃ t, exec (.nop ps q) s = .next t ∧ pastCommand s t ps q idx ∧ t.mem = s.mem ∧ (t.stall ps).scratch = (s.stall ps).scratch ∧
       (e.postEn = true → t.scsr ps (0x300 + e.postEv * 8) =
         setFld (s.scsr ps (0x300 + e.postEv * 8)) 15 0 (fld (s.scsr ps (0x300 + e.postEv * 8)) 15 0 + 1)))

namespace Sys2Proof.Claims

/-- One queue of a stall has one started command with these parts, standing at a group that `b`, one of them, holds up. -/
def oneStarted (s : State) (ps q : Nat) (c : CmdCtx) : Prop :=
  (s.queue ps q).state = .running ∧ (s.queue ps q).pausing = false ∧ (s.queue ps q).aborting = false ∧ (s.stall ps).pstate = .run ∧
  (s.queue ps q).ctxs = [c] ∧ (∀ k ∈ [0, 1, 3], k ≠ q → (s.queue ps k).ctxs = []) ∧ c.fail = none ∧ c.next < c.groups ∧
  c.args.oobAt ≠ some c.next ∧ s.ctxReady ps c = true

end Sys2Proof.Claims

/-- A granted slot carries one request of the command, with the address, length and data of its part and what the list captured;
its response puts the data into the command's buffer and frees the slot (R112, R122 to R124). -/
def Sys2Proof.Claims.SlotsCarryRequestsAndData : Prop :=
  ∀ (s : State) (ps q n : Nat) (c : CmdCtx), q ∈ [0, 1, 3] → oneStarted s ps q c →
    (∀ p op data, c.parts = [p] → p.st = .todo → p.grp ≤ c.next → c.next ≤ p.last → s.source ps c.args p = .go op data →
      (s.stall ps).freeSlotNo = some n → n < 48 →
      ∃ t, exec (.slotGrant ps [q] .clean) s = .next t ∧ t.nextReq = s.nextReq + 1 ∧
        t.req s.nextReq = some { c.request (.slot ps n) 0 p op data with at_ := s.clk } ∧
        (t.stall ps).slots = (s.stall ps).slots ++ [(n, q, s.nextReq)] ∧ t.mem = s.mem) ∧
    (∀ p b id r, c.parts = [p, b] → p.st = .issued n → n < 48 → b.st = .todo → b.grp ≤ c.next → c.next ≤ b.last → opStore c.args.op = false →
      (s.stall ps).slots = [(n, q, id)] → s.req id = some r → r.phase = .arrived → r.src = .slot ps n → r.status = St.ok →
      ∃ t, exec (.engRequestComplete ps n) s = .next t ∧ (t.stall ps).slots = [] ∧
        (t.queue ps q).ctxs = [{ c with buf := writeBytes c.buf (c.args.landAt p) r.data, parts := [{ p with st := .landed }, b] }])

/-- A request outstanding for 2^22 NCLK is flagged once: STALL_ENG_ERR, its count, and its address and slot in the record of the first
one. At its deadline a loft command asks for its alternate object instead (R126, R319). -/
def Sys2Proof.Claims.SlotWaitFlagAndLoftDeadline : Prop :=
  ∀ (s : State) (ps q n : Nat),
    (∀ id r, (s.stall ps).slots.find? (fun e => e.1 = n) = some (n, q, id) → s.req id = some r → r.flagged = false →
      r.phase ≠ .arrived → r.at_ + 2 ^ 22 ≤ s.clk →
      exec (.slotWaitFlag ps n) s = .next (
        let a := s.setReq id (some { r with flagged := true })
        let b := if (s.scsr ps 0x218).getLsbD 0 then a else a.setScsr ps 0x230 (place 48 0 r.addr ||| place 55 50 n)
        let d := b.setScsr ps 0x218 (b.scsr ps 0x218 ||| 1)
        let e := d.setScsr ps 0x228 (setFld (d.scsr ps 0x228) 31 0 (min 0xFFFFFFFF (fld (d.scsr ps 0x228) 31 0 + 1)))
        e.perf ps 0x41 (some r.priv) (some q) (some r.addr) 1)) ∧
    (∀ c d p, q ∈ [0, 1, 3] → oneStarted s ps q c → c.args.op = 0x02 → c.args.loft = some d → d.action = 2 → c.parts = [p] → p.kind = .main →
      p.st = .todo → p.grp ≤ c.next → c.next ≤ p.last → c.t0 + 2 * d.deadline ≤ s.clk → c.args.str.base ≤ p.addr →
      ∃ t, exec (.loftDeadline ps q) s = .next t ∧ (t.queue ps q).ctxs = [{ c with parts :=
        [{ p with kind := .alt, addr := d.altBase + (p.addr - c.args.str.base), len := p.len, st := .todo }] }])

/-- Queue control by a privileged sender on a stall whose engines have started nothing: PAUSE of a running queue takes hold when
nothing is in progress, RESUME returns a paused or stopped queue to its lists, ABORT ends the head list with ABORTED and stops the queue,
FLUSH of a stopped queue ends every list and leaves it idle (R130). A state that the control does not apply to answers ENG_QSTATE. -/
def Sys2Proof.Claims.QueueControl : Prop :=
  ∀ (s : State) (ps q : Nat) (p : Priv), q ∈ [0, 1, 3] → p ≠ .task → (s.stall ps).pstate = .run → noneStarted s ps → tidy s ps →
    (let x := s.queue ps q
     (x.state = .running →
       exec (.queuePause p ps q) s = .next (answered (rearmed (s.setQueue ps q { x with pausing := true })) St.ok 0 [])) ∧
     (x.state = .running → x.pausing = true → (s.stall ps).slotsOf q = 0 →
       exec (.queuePaused ps q) s = .next (rearmed (s.setQueue ps q { x with state := .paused, pausing := false }))) ∧
     (x.state = .paused ∨ x.state = .stopped →
       exec (.queueResume p ps q) s = .next (answered (rearmed
         (s.setQueue ps q { x with state := if x.lists = [] then .idle else .running })) St.ok 0 [])) ∧
     (∀ l r, x.state = .running → x.lists = l :: r → (s.stall ps).slotsOf q = 0 → ∃ t, exec (.queueAbort p ps q) s = .next t ∧
       t.resp = { status := St.ok } ∧ (t.queue ps q).state = .stopped ∧ (t.queue ps q).lists = r ∧ (t.queue ps q).done = l.seq ∧
       (t.queue ps q).hist.head? = some (l.seq, St.aborted)) ∧
     (∀ l, x.state = .stopped → x.lists = [l] → ∃ t, exec (.queueFlush p ps q) s = .next t ∧ t.resp = { status := St.ok } ∧
       (t.queue ps q).state = .idle ∧ (t.queue ps q).lists = [] ∧ (t.queue ps q).hist.head? = some (l.seq, St.aborted)) ∧
     (x.state = .idle →
       exec (.queuePause p ps q) s = .next (answered s St.engQstate 0 []) ∧ exec (.queueResume p ps q) s = .next (answered s St.engQstate 0 []) ∧
       exec (.queueAbort p ps q) s = .next (answered s St.engQstate 0 []) ∧ exec (.queueFlush p ps q) s = .next (answered s St.engQstate 0 [])))

namespace Sys2Proof.Claims

/-- The list a doorbell entry queues: a TASK list's window is the stall's own (R105, R133). -/
def doorbellList (ps : Nat) (w : Word) (seq lgrp : Nat) : QList :=
  { off := fld w 21 0, priv := if bit w 28 then .kernel else .task, task := fld w 47 32, tenant := fld w 63 48,
    dwinLo := 0x400000000000 + ps * 0x100000000, dwinHi := 0x400000000000 + ps * 0x100000000 + 0x100000000, seq := seq, lgrp := lgrp }

end Sys2Proof.Claims

/-- Doorbells, quotas and event counters of a running stall: 32 entries wait in order and the head enters its queue when it has room; a
full set of entries, a queue number above 4, quotas above 48 slots and TASK are refused; a head entry blocked for long sets the
stall's doorbell source (R108, R123, R133, R134, R137). -/
def Sys2Proof.Claims.DoorbellsQuotasAndEvents : Prop :=
  ∀ (s : State) (ps : Nat) (v : Word) (p : Priv), (s.stall ps).pstate = .run → p ≠ .task →
    (let t := s.stall ps
     (fld v 26 24 < 5 → t.db.length < 32 →
       exec (.doorbellWrite p ps v) s = .next (answered (s.setStall ps { t with db := t.db ++ [v] }) St.ok 0 [])) ∧
     (fld v 26 24 < 5 → 32 ≤ t.db.length → exec (.doorbellWrite p ps v) s =
       .next (answered (s.setScsr ps 0x218 (s.scsr ps 0x218 ||| 2)) St.engDoorbellFull 0 [])) ∧
     (5 ≤ fld v 26 24 → exec (.doorbellWrite p ps v) s = .next (answered s St.badParam 0 [])) ∧
     exec (.doorbellWrite .task ps v) s = .next (answered s St.privilege 0 []) ∧
     (∀ r, t.db = v :: r → (s.queue ps (fld v 26 24)).lists.length < 8 →
       exec (.doorbellMove ps) s = .next (rearmed (
         let a := s.setStall ps { t with db := r, dbell := false }
         let x := a.queue ps (fld v 26 24)
         a.setQueue ps (fld v 26 24) { x with
           lists := x.lists ++ [doorbellList ps v (x.issued + 1) (fld (a.scsr ps 0x1A28) 5 0)], issued := x.issued + 1,
           state := if x.state = .idle then .running else x.state }))) ∧
     (∀ r, t.db = v :: r → 8 ≤ (s.queue ps (fld v 26 24)).lists.length →
       exec (.doorbellMove ps) s = .next s ∧ exec (.dbellBlockTimeout ps) s = .next (s.setStall ps { t with dbell := true })) ∧
     (fld v 5 0 + fld v 13 8 + fld v 21 16 ≤ 48 → exec (.slotCfgWrite p ps v) s = .next (answered (s.setScsr ps 0x200
       (place 5 0 (fld v 5 0) ||| place 13 8 (fld v 13 8) ||| place 21 16 (fld v 21 16))) St.ok 0 [])) ∧
     (48 < fld v 5 0 + fld v 13 8 + fld v 21 16 → exec (.slotCfgWrite p ps v) s = .next (answered s St.engSlotQuota 0 [])) ∧
     (∀ e posts, noneStarted s ps → tidy s ps → exec (.evWrite p ps e v posts) s =
       .next (answered (rearmed (s.setScsr ps (0x300 + e * 8) (place 15 0 (fld v 15 0 + posts)))) St.ok 0 [])))

/-- A list starts at its header, and NOP posts and passes (R102, R103, R107 to R109). -/
def Obligations.ListsStartAndPost : Prop :=
  Claims.ListStartReadsHeader ∧ Claims.NopPostsAndPasses

/-- Slots carry the requests of engines, flag a long wait, and end a late loft read (R112, R122 to R124, R126, R319). -/
def Obligations.RequestSlots : Prop :=
  Claims.SlotsCarryRequestsAndData ∧ Claims.SlotWaitFlagAndLoftDeadline

/-- Queue control, doorbells, quotas and event counters (R108, R123, R130, R133, R134, R137). -/
def Obligations.QueuesDoorbellsAndEvents : Prop :=
  Claims.QueueControl ∧ Claims.DoorbellsQuotasAndEvents

namespace Sys2Proof.Claims

/-- Stall registers that a read clears, with their RC fields (R138, R171, R206, R279, R319, R437). -/
def StallClears (e : (Priv → Nat → Instr) × Nat × Word) : Prop :=
  e ∈ ([(.heldDropRead, 0x220, 0xFFFFFFFF), (.bankwaitRead, 0x228, 0xFFFFFFFF), (.tshapeRecRead, 0x1200, 0xC07FFFFF7FFFFF7F),
   (.tileCeRead, 0x1210, 0xFFFFFFFF), (.tileFbRead, 0x1218, 0xFFFFFFFF), (.arrRescntRead, 0x1430, 0xFFFFFFFF),
   (.arrParcntRead, 0x1438, 0xFFFFFFFF), (.spRecRead, 0x1600, 0xC000FFFF7F3FFFFF), (.spSkipcntRead, 0x1608, 0xFFFFFFFF),
   (.gthRecRead, 0x1700, 0xC000FFFFFFFFFFFF), (.gthCoalRead, 0x1710, 0xFFFFFFFF), (.gthOobcntRead, 0x1718, 0xFFFFFFFF),
   (.gthAddrejRead, 0x1720, 0xFFFFFFFF), (.xlatMissRead, 0x1800, 0xFFFFFFFF), (.loftFbRead, 0x1808, 0xFFFFFFFF),
   (.trTiedRead, 0x1A40, 0xC007FFFFFFFFFFFF)] : List ((Priv → Nat → Instr) × Nat × Word))

/-- Device registers that a read clears: the command for unit n, its offset in device CSR space, the RC fields, how many units there
are, and whether the register's source is looked at again. -/
def DeviceClears (e : (Priv → Nat → Instr) × (Nat → Nat) × Word × Nat × Bool) : Prop :=
  e ∈ ([(.mcRecRead, fun n => 0x200030 + n * 0x10000, 0xC0000000007F3FFF, 4, false),
   (.tmoCntRead, fun n => 0x200038 + n * 0x10000, 0xFFFFFFFF, 4, false),
   (.rnrCntRead, fun n => 0x200040 + n * 0x10000, 0xFFFFFFFF, 4, false),
   (.linkReplayRead, fun n => 0x300020 + n * 0x1000, 0xFFFFFFFF, 32, true),
   (.fecCeRead, fun n => 0x300028 + n * 0x1000, 0xFFFFFFFF, 32, true),
   (.fecUeRead, fun n => 0x300030 + n * 0x1000, 0xFFFFFFFF, 32, true),
   (.accCeRead, fun n => 0x400010 + n * 0x10000, 0xFFFFFFFF, 4, true),
   (.nakCntRead, fun n => 0x400018 + n * 0x10000, 0xFFFFFFFF, 4, true),
   (.discardCntRead, fun n => 0x400020 + n * 0x10000, 0xFFFFFFFF, 4, true),
   (.dropCntRead, fun n => 0x400028 + n * 0x10000, 0xFFFFFFFF, 4, true),
   (.elemCntRead, fun n => 0x400030 + n * 0x10000, 0xFFFFFFFFFFFF, 4, true),
   (fun p _ => .ssLostRead p, fun _ => 0x400540, 0xFFFFFFFF, 1, true), (fun p _ => .syncLockRead p, fun _ => 0x600000, 0xE000FFFFFFFF7FFF, 1, true),
   (fun p _ => .wdogRecRead p, fun _ => 0x800038, 0xC000003F077FFF03, 1, true),
   (fun p _ => .wdogCntRead p, fun _ => 0x800040, 0xFFFFFFFF, 1, true),
   (fun p _ => .authfailCntRead p, fun _ => 0x900030, 0xFFFFFFFF, 1, true),
   (fun p _ => .rxdropCntRead p, fun _ => 0x900038, 0xFFFFFFFF, 1, true)] : List ((Priv → Nat → Instr) × (Nat → Nat) × Word × Nat × Bool))

end Sys2Proof.Claims

/-- A read of a register with RC fields answers its value and clears those fields, and nothing else changes; TASK is refused
(R5, R13). -/
def Sys2Proof.Claims.ReadsClearRcFields : Prop :=
  ∀ (s : State) (p : Priv), p ≠ .task →
    (∀ e, StallClears e → ∀ ps, (s.stall ps).pstate = .run →
      exec (e.1 p ps) s = .next (answered (rearmed (s.setScsr ps e.2.1 (s.scsr ps e.2.1 &&& ~~~e.2.2))) St.ok (s.scsr ps e.2.1) []) ∧
      exec (e.1 .task ps) s = .next (answered s St.privilege 0 [])) ∧
    (∀ e, DeviceClears e → ∀ n, n < e.2.2.2.1 →
      (let a := e.2.1 n
       let t := s.setDcsr a (s.dcsr a &&& ~~~e.2.2.1)
       exec (e.1 p n) s = .next (answered (if e.2.2.2.2 then rearmed t else t) St.ok (s.dcsr a) []) ∧
       exec (e.1 .task n) s = .next (answered s St.privilege 0 []))) ∧
    (∀ shed ch, shed < 4 → ch < 34 →
      (let a := 0x100108 + shed * 0x10000 + ch * 0x18
       exec (.chceRead p shed ch) s = .next (answered (s.setDcsr a (s.dcsr a &&& ~~~0xFFFFFFFF)) St.ok (s.dcsr a) []) ∧
       exec (.chueRead p shed ch) s = .next (answered (s.setDcsr (a + 8) (s.dcsr (a + 8) &&& ~~~0xFFFFFFFF)) St.ok (s.dcsr (a + 8)) []))) ∧
    (∀ gi, exec (.netErrCntRead p gi) s = .next (answered (s.setNode gi ((s.node gi).setReg 0x20 ((s.node gi).reg 0x20 &&& ~~~0xFFFF)))
      St.ok (s.netRead gi 0x20) [])) ∧
    (∀ shed, shed < 4 → exec (.elogInfoRead p shed) s = .next (answered
      (s.setShed shed { s.shed shed with elog := (s.shed shed).elog.drop 1, lost := 0 }) St.ok (s.elogInfo shed) []))

/-- The debug view of tile storage within one row of a configured register: a read answers the row's bytes, a write changes them when
no engine owns the register; beyond 1 MiB it is MEM_RANGE, an unconfigured register TILE_UNCONF and an owned one TILE_BUSY (R141, R148). -/
def Sys2Proof.Claims.TileDebugView : Prop :=
  ∀ (s : State) (ps off : Nat) (p : Priv) (d : List Byte), (s.stall ps).pstate = .run → d ≠ [] → off % 512 + d.length ≤ 512 → 
    (let t := off / 65536
     let r := off % 65536 / 512
     let st := s.stall ps
     (off < 0x100000 → st.tileBad t r (off % 512) d.length = none →
       exec (.tileDebugRead p ps off d.length .clean) s = .next (answered s St.ok 0
         ((List.range d.length).map (fun i => (st.tileRow t r).getD (off % 512 + i) 0)))) ∧
     (off < 0x100000 → (st.treg t).state ≠ .unconf → st.owners t = 0 → off % 512 < (st.treg t).rowLen →
       exec (.tileDebugWrite p ps off d) s =
         .next (answered (s.setStall ps ((st.tilePut t r (off % 512) (d.map some)).rowDone t r)) St.ok 0 [])) ∧
     (off < 0x100000 → (st.treg t).state = .unconf → exec (.tileDebugWrite p ps off d) s = .next (answered s St.tileUnconf 0 [])) ∧
     (off < 0x100000 → (st.treg t).state ≠ .unconf → st.owners t ≠ 0 → exec (.tileDebugWrite p ps off d) s = .next (answered s St.tileBusy 0 [])) ∧
     (0x100000 ≤ off → exec (.tileDebugRead p ps off d.length .clean) s = .next (answered s St.memRange 0 []) ∧
       exec (.tileDebugWrite p ps off d) s = .next (answered s St.memRange 0 [])))

/-- The remaining writes of a stall's tile and array registers: STALL_TPROGt takes its four fields while the register has no owner,
STALL_ARR_MAP takes a legal map from TACK while the array is idle, and a collector's fall-back counts (R161, R168, R171, R205). -/
def Sys2Proof.Claims.TileAndArrayRegisters : Prop :=
  ∀ (s : State) (ps t : Nat) (v : Word) (p : Priv), (s.stall ps).pstate = .run →
    (let st := s.stall ps
     (p ≠ .task → st.owners t = 0 → exec (.tprogWrite p ps t v) s = .next (answered (s.setStall ps (st.setTreg t
       { st.treg t with pend := v.getLsbD 0, pq := fld v 3 1, pcmd := fld v 23 8, pnext := fld v 38 32 })) St.ok 0 [])) ∧
     (p ≠ .task → st.owners t ≠ 0 → exec (.tprogWrite p ps t v) s = .next (answered s St.tileBusy 0 [])) ∧
     (p ≠ .tack → exec (.arrMapWrite p ps v) s = .next (answered s St.privilege 0 [])) ∧
     (arrMapBad v = true → exec (.arrMapWrite .tack ps v) s = .next (answered s St.badParam 0 [])) ∧
     (arrMapBad v = false → st.arr.inflight ≠ [] → exec (.arrMapWrite .tack ps v) s = .next (answered s St.arrayBusy 0 [])) ∧
     (arrMapBad v = false → st.arr.inflight = [] → exec (.arrMapWrite .tack ps v) s = .next (answered (s.setScsr ps 0x1420
       (place 9 0 (fld v 9 0) ||| place 10 10 (fld v 10 10) ||| place 25 16 (fld v 25 16) ||| place 26 26 (fld v 26 26) |||
        place 39 32 (fld v 39 32) ||| place 40 40 (fld v 40 40) ||| place 55 48 (fld v 55 48) ||| place 56 56 (fld v 56 56))) St.ok 0 [])) ∧
     (∀ coll, exec (.collectorFallback ps coll) s = .next (
       let w := s.scsr ps 0x1218
       (s.setScsr ps 0x1218 (setFld w 31 0 (min 0xFFFFFFFF (fld w 31 0 + 1)))).perf ps 0x28
         (some (((s.queue ps (if coll ≤ 3 then 2 else if (s.queue ps (coll - 4)).ctxs = [] then 3 else coll - 4)).lists.head?.map
           (·.priv)).getD .kernel)) none none 1)))

namespace Sys2Proof.Claims

/-- The array queue stands at a good command of opcode `op` with nothing in flight and its wait met. -/
def arrayAt (s : State) (ps op : Nat) (l : QList) (n idx : Nat) : Prop :=
  atCommand s ps 2 op l n idx ∧ noneStarted s ps ∧ tidy s ps ∧ (s.queue ps 2).ctxs = [] ∧ (s.stall ps).arr.inflight = [] ∧
  (s.stall ps).arr.lost = false ∧ s.scrGood ps (l.off + 64 + 64 * idx) 64 = true ∧ s.envReady ps (envOf (s.cmdWord ps l idx 0)) = true

/-- Every register that TMASK selects changes as `h` says and the others stay. -/
def tilesBecome (s t : State) (ps tm : Nat) (h : TReg → TReg) : Prop :=
  ∀ i, i < 16 → (t.stall ps).treg i = if tm.testBit i then h ((s.stall ps).treg i) else (s.stall ps).treg i

end Sys2Proof.Claims

/-- TCFG gives each selected register its shape and leaves it EMPTY, TREL empties configured registers keeping their shape, when
none of them has an owner; a shape outside the limits is TILE_CFG_INVALID (R143 to R146). -/
def Obligations.TileConfiguration : Prop :=
  ∀ (s : State) (ps n idx : Nat) (l : QList), Map.wf (fun _ => ({} : TReg)) (s.stall ps).tregs = true →
    (let cmd := s.cmdNat ps l idx
     let tm := bits cmd 79 64
     let rows := bits cmd 103 96
     let cols := bits cmd 122 112
     let fmt := bits cmd 127 124
     let legal := 1 ≤ rows ∧ rows ≤ 128 ∧ fmt ≤ 7 ∧ 1 ≤ cols ∧ cols ≤ maxCols fmt ∧ (fmt = 5 → cols % 2 = 0)
     (∀ i, i < 16 → tm.testBit i = true → (s.stall ps).owners i = 0) → tm ≠ 0 →
     (arrayAt s ps 0x70 l n idx → resSet cmd (envFields ++ arrFields 0x70) = false →
       (legal → ∃ t, exec (.tcfg ps) s = .next t ∧ pastCommand s t ps 2 idx ∧
         tilesBecome s t ps tm (fun _ => { state := .empty, rows := rows, cols := cols, fmt := fmt }) ∧ (t.stall ps).tile = (s.stall ps).tile) ∧
       (¬ legal → ∃ t, exec (.tcfg ps) s = .next t ∧ (t.queue ps 2).state = .stopped ∧
         (t.queue ps 2).hist.head? = some (l.seq, St.tileCfgInvalid) ∧ tilesBecome s t ps tm id)) ∧
     (arrayAt s ps 0x71 l n idx → resSet cmd (envFields ++ arrFields 0x71) = false →
       ∃ t, exec (.trel ps) s = .next t ∧ pastCommand s t ps 2 idx ∧ (t.stall ps).tile = (s.stall ps).tile ∧ tilesBecome s t ps tm (fun x =>
         { state := if x.state = .unconf then .unconf else .empty, rows := x.rows, cols := x.cols, fmt := x.fmt })) ∧
     (∀ i r, ((s.stall ps).treg i).written r = false →
       (s.stall ps).tileRow i r = List.replicate ((s.stall ps).treg i).rowLen 0))

namespace Sys2Proof.Claims

/-- An array command that passes its checks: its operands `z`, with every register part it reads correctable. -/
def arrayAccepts (s : State) (ps op : Nat) (l : QList) (n idx : Nat) (z : ArrOp) : Prop :=
  arrayAt s ps op l n idx ∧ (s.arrCheck ps idx (s.cmdNat ps l idx) (arrOpOf (s.cmdNat ps l idx))).2 = St.ok ∧
  z = (arrOpOf (s.cmdNat ps l idx)).sized (s.stall ps).arr ∧
  (s.stall ps).groupUe (z.inputs ++ if op = 0x45 ∧ (arrOpOf (s.cmdNat ps l idx)).acc then z.outputs (s.stall ps).arr else []) = none

/-- One command of the array is now in flight, and tile storage, scratch and memory are as they were. -/
def inFlight (s t : State) (ps op idx : Nat) (l : QList) (c : ArrCmd) : Prop :=
  (t.stall ps).arr.inflight = [c] ∧ c.op = op ∧ c.idx = idx ∧ c.lst = l ∧ (t.stall ps).tile = (s.stall ps).tile ∧
  (t.stall ps).scratch = (s.stall ps).scratch ∧ t.mem = s.mem ∧ (t.queue ps 2).cmdIdx = idx

/-- The accumulators of a row, as many as a command names. -/
def accRow (s : State) (ps i n : Nat) : List Nat :=
  (List.range n).map (fun j => (Map.get (fun _ => []) (s.stall ps).arr.acc i).getD j 0)

end Sys2Proof.Claims

/-- The array takes its commands: MMA and WSMM go in flight, the latter clearing the valid bits; ADRAIN sends the accumulators of
each valid row in ascending order to its registers and clears the valid bits and the latches; WSLD holds the weights, inner dimension
by columns (R176, R183, R187, R192 to R196). -/
def Sys2Proof.Claims.ArrayTakesCommands : Prop :=
  ∀ (s : State) (ps n idx : Nat) (l : QList) (z : ArrOp),
    (arrayAccepts s ps 0x40 l n idx z → ∃ t c, exec (.mma ps) s = .next t ∧ inFlight s t ps 0x40 idx l c) ∧
    (arrayAccepts s ps 0x41 l n idx z → ∃ t c, exec (.adrain ps) s = .next t ∧ inFlight s t ps 0x41 idx l c ∧
      (t.stall ps).arr.vrow = 0 ∧ (t.stall ps).arr.held = none ∧
      c.drains = ((List.range z.m).filter (fun i => (s.stall ps).arr.vrow.getLsbD i)).map (fun i =>
        { row := i, fold := 0, dst := z.dest 0 0 i 1 (accRow s ps i z.n) })) ∧
    (arrayAccepts s ps 0x44 l n idx z → ∃ t c, exec (.wsld ps) s = .next t ∧ inFlight s t ps 0x44 idx l c ∧ c.drains = [] ∧
      (t.stall ps).arr.held = some (z.k, z.n, z.fb) ∧ (t.stall ps).arr.w.length = z.n) ∧
    (arrayAccepts s ps 0x45 l n idx z → ∃ t c, exec (.wsmm ps) s = .next t ∧ inFlight s t ps 0x45 idx l c ∧
      (t.stall ps).arr.vrow = 0 ∧ (t.stall ps).arr.int32 = decide (z.fa = 6))

/-- A drained row is written to its register, in FP32 or INT32 as it stands (OFMT 0) without adding, and leaves the command; a command
with nothing left to write completes, posts and passes (R182, R189, R192). -/
def Sys2Proof.Claims.ArrayDrainsAndCompletes : Prop :=
  ∀ (s : State) (ps : Nat) (c : ArrCmd) (rest : List ArrCmd), (s.stall ps).pstate = .run → noneStarted s ps → tidy s ps →
    (s.stall ps).arr.inflight = c :: rest →
    (∀ row fold tr r vals ds, c.drains = { row := row, fold := fold, dst := [(tr, r, vals)] } :: ds → c.ofmt = 0 → c.dadd = false → c.wide = false →
      ∃ t, exec (.arrayDrainRowWrite ps .none) s = .next t ∧
        (t.stall ps).tile = ((s.stall ps).rowWrite tr r (packCodes (cFmt 0 c.int32) (((s.stall ps).rowCodes tr r (cFmt 0 c.int32) vals.length).zip vals |>.map (·.2)))).tile ∧
        (t.stall ps).arr.inflight = { c with drains := ds } :: rest ∧ t.mem = s.mem) ∧
    (∀ l n, c.drains = [] → (s.queue ps 2).lists.head? = some l → (s.queue ps 2).count = some n → (s.queue ps 2).cmdIdx + 1 < n →
      (s.queue ps 2).state = .running →
      ∃ t, exec (.arrayCmdComplete ps) s = .next t ∧ (t.stall ps).arr.inflight = rest ∧ (t.queue ps 2).cmdIdx = (s.queue ps 2).cmdIdx + 1 ∧
        (t.queue ps 2).lists = (s.queue ps 2).lists ∧ t.mem = s.mem)

/-- The debug view of tile registers, and the registers of tile and array (R141, R148, R161, R168, R171, R205). -/
def Obligations.TileAndArrayAccess : Prop :=
  Claims.TileDebugView ∧ Claims.TileAndArrayRegisters

/-- The array takes commands, drains rows and completes (R176, R182, R183, R187, R189, R192 to R196). -/
def Obligations.ArrayExecution : Prop :=
  Claims.ArrayTakesCommands ∧ Claims.ArrayDrainsAndCompletes

namespace Sys2Proof.Claims

/-- The router pages are kept in canonical form. -/
def netTidy (s : State) : Prop :=
  Map.wf (fun _ => ({} : Node)) s.nodes = true ∧ ∀ i, Map.wf (resetOf netRegs) (s.node i).csr = true

/-- The node that a translated request is routed to: its stall's node, or the entry node of a die past dead nodes (R43 to R45). -/
def routedTo (s : State) (r : Req) (pa d : Nat) : Prop :=
  match s.destOf r pa with
  | .node gi => d = nodePos gi
  | .die n => s.entry n r.src.node = some d

/-- Nothing holds a request at its requester: its port is open, no earlier access to its block (R71, R338) and no earlier request by
another route (R47). -/
def mayInject (s : State) (id : Nat) (r : Req) (d : Nat) (via : Option Nat) : Prop :=
  (s.nodeAt r.src.node).fenced = false ∧ (s.nodeAt r.src.node).dead = false ∧ s.heldBy id r = false ∧ s.routeHeld r d via = false

/-- A request of a requester that is on its way or waits at its destination. -/
def onWay (r : Req) : Prop := r.phase = .mesh ∨ r.phase = .endpoint ∨ r.phase = .global ∨ r.phase = .back ∨ r.phase = .lost

end Sys2Proof.Claims

/-- A request enters the network: an access that no privilege or region admits completes at once, another is translated and then
travels by XY, or by the VIA node of the first detour entry that covers its destination, or completes with the status of an UNREACH
entry (R42 to R45, R53, R75, R76, R281, R283). -/
def Sys2Proof.Claims.NetworkInjection : Prop :=
  ∀ (s : State) (id : Nat) (r : Req), s.req id = some r → r.phase = .issued → r.src ≠ .gone →
    (let ended := fun (st : Status) => s.setReq id (some { r with phase := .arrived, status := st, data := [] })
     (isGlobal r.addr = false →
       (localRegion r.addr = none → r.priv ≠ .task → exec (.netInject id) s = .next (ended St.memRange)) ∧
       (∀ o, localRegion r.addr = some (.dev o) → r.priv = .task → exec (.netInject id) s = .next (ended St.privilege)) ∧
       (∀ o, localRegion r.addr = some (.dev o) → r.priv ≠ .task → (∃ op, r.op = .amo op) → exec (.netInject id) s = .next (ended St.unsupported)) ∧
       (∀ a, localRegion r.addr = some (.loft a) → r.op.isWrite = true → exec (.netInject id) s = .next (ended St.unsupported))) ∧
     (∀ pa d, r.refusal = none →
       (if isGlobal r.addr = false ∧ r.window = true then s.xlate r.src.ps r.task r.addr r.priv r.op.isWrite = .done pa else pa = r.addr) →
       routedTo s r pa d →
       ((s.nodeAt r.src.node).detour d = none → mayInject s id r d none → ∃ k, exec (.netInject id) s = .next (s.setReq id (some
         { r with phase := .mesh, pa := pa, translated := true, path := xyPath r.src.node d, pos := 0, via := none, inj := k, status := 0 }))) ∧
       (∀ w, (s.nodeAt r.src.node).detour d = some w → bit w 62 = false → mayInject s id r d (some (detourVia w d)) →
         ∃ k v, exec (.netInject id) s = .next (s.setReq id (some { r with
           phase := .mesh, pa := pa, translated := true, path := xyPath r.src.node (detourVia w d) ++ (xyPath (detourVia w d) d).tail,
           pos := 0, via := v, inj := k, status := 0 }))) ∧
       (∀ w, (s.nodeAt r.src.node).detour d = some w → bit w 62 = true → (s.nodeAt r.src.node).fenced = false →
         (s.nodeAt r.src.node).dead = false → s.heldBy id r = false →
         exec (.netInject id) s = .next (ended (if bit w 61 then St.netNodeDead else St.netUnreachable))))) 

/-- A packet moves one node along its path and its neighbour sees a flit; into a port that is off it is lost (R42, R51). At its
destination's port a fence turns it away with NET_DEST_FENCED, a damaged packet is answered NET_FLIT_UE, and another waits for its unit;
a response reaches its requester unless that port is fenced (R43, R50, R58). -/
def Sys2Proof.Claims.NetworkTransport : Prop :=
  ∀ (s : State) (id : Nat) (r : Req), s.req id = some r →
    (∀ a b, r.phase = .mesh → r.path[r.pos]? = some a → r.path[r.pos + 1]? = some b →
      (bit ((s.nodeAt a).reg 8) (4 + dirOf a b) = false →
        exec (.netHop id .ok) s = .next ((s.modNode (giAt b) (fun n =>
          { n with seen := Map.set zeroN n.seen ((dirOf a b + 2) % 4) s.clk })).setReq id (some { r with pos := r.pos + 1 }))) ∧
      (bit ((s.nodeAt a).reg 8) (4 + dirOf a b) = true →
        ∀ f, exec (.netHop id f) s = .next (s.setReq id (some { r with phase := .lost })))) ∧
    (∀ ps off, r.phase = .mesh → r.pos + 1 = r.path.length → s.olderOnWay r = false → isGlobal r.addr = false →
      localRegion r.addr = some (.scratch ps off) →
      (let port := s.nodeAt (r.path.getLastD 0)
       let open_ := port.fenced = false ∨ (bit (port.reg 8) 1 = true ∧ r.priv = .tack)
       let back := fun (st : Status) => rearmed (s.setReq id (some { r with phase := .back, pos := r.path.length - 1, status := st, data := [] }))
       (¬ open_ → exec (.netDeliver id) s = .next (back St.netDestFenced)) ∧
       (open_ → r.status = St.netFlitUe → exec (.netDeliver id) s = .next (back St.netFlitUe)) ∧
       (open_ → r.status ≠ St.netFlitUe → ∃ k, exec (.netDeliver id) s =
         .next (rearmed (s.setReq id (some { r with phase := .endpoint, inj := k })))))) ∧
    (r.phase = .back → r.pos = 0 → r.src ≠ .gone →
      (let port := s.nodeAt (r.path.headD 0)
       let open_ := port.fenced = false ∨ (bit (port.reg 8) 1 = true ∧ r.priv = .tack)
       (open_ → exec (.netDeliver id) s = .next (s.setReq id (some { r with
         phase := .arrived, data := if r.status = St.ok then r.data else [] }))) ∧
       (¬ open_ → exec (.netDeliver id) s = .next (s.setReq id (some { r with phase := .lost }))))) ∧
    (∀ p, r.phase = .mesh → r.pos = 0 → r.path[0]? = some p → exec (.netBadTail id) s =
      .next ((s.modNode (giAt p) (fun n => n.setReg 0x18 (n.reg 0x18 ||| 16))).setReq id (some { r with status := St.netFlitUe })))

/-- An XY route starts at its injection node and ends at its destination, each node of it is a neighbour of the one before, and it has
as many hops as the columns and rows between them; the row is travelled first (R42). -/
def Sys2Proof.Claims.XyRoutesAreConnectedAndShortest : Prop :=
  ∀ a b, a < 4608 → b < 4608 →
    (let p := xyPath a b
     p.head? = some a ∧ p.getLast? = some b ∧
     (p.length : Int) = 1 + |(a % 64 : Int) - b % 64| + |(a / 64 : Int) - b / 64| ∧
     (∀ i u v, p[i]? = some u → p[i + 1]? = some v → ∃ d < 4, neighbour u d = some v) ∧
     (∀ u ∈ p, u / 64 = a / 64 ∨ u % 64 = b % 64))

/-- With one dead router, the entries written for a router send every destination whose XY route would cross the dead one by a VIA
node whose two legs avoid it (R53 to R55). -/
def Sys2Proof.Claims.OneDeadRouterIsAvoided : Prop :=
  ∀ dead src dst, dead < 4608 → src < 4608 → dst < 4608 → src ≠ dead → dst ≠ dead → dead ∈ xyPath src dst →
    (let es := (detourList [dead] src).map DetourE.word
     ∃ w, es.find? (fun w => detourHits w dst) = some w ∧
       bit w 62 = false ∧ dead ∉ xyPath src (detourVia w dst) ∧ dead ∉ xyPath (detourVia w dst) dst)

/-- Dead routers: a silent input sets LINK_DOWN and LINK_TIMEOUT and reports the router beyond it; a reported router is marked dead and
its neighbours set PORT_OFF toward it; the detour entries go into every router and the sweep completes every request whose path holds a
dead router with NET_NODE_DEAD (R51, R52, R54, R56). -/
def Sys2Proof.Claims.DeadRoutersAreCutOff : Prop :=
  ∀ (s : State), netTidy s →
    (∀ gi dir b, gi < 4608 → dir < 4 → neighbour (nodePos gi) dir = some b → Map.get zeroN (s.node gi).seen dir + 4096 ≤ s.clk →
      ∃ t, exec (.netLinkTimeout gi dir) s = .next t ∧ (t.node gi).reg 0x18 = (s.node gi).reg 0x18 ||| 8 ∧
        (t.node gi).linkDown = (s.node gi).linkDown ||| BitVec.ofNat 4 (2 ^ dir) ∧ (t.nodeAt b).reported = true ∧ t.mem = s.mem) ∧
    (∀ gi dir b, neighbour (nodePos gi) dir = some b → (s.node gi).dead = false → exec (.netKeepalive gi dir) s =
      .next (s.modNode (giAt b) (fun n => { n with seen := Map.set zeroN n.seen ((dir + 2) % 4) s.clk }))) ∧
    (∀ gi, gi < 4608 → (s.node gi).reported = true → (s.node gi).dead = false → s.deadNodes.length < 8 →
      ∃ t, exec (.routerMarkDead gi) s = .next t ∧ (t.node gi).dead = true ∧
        ∀ d < 4, ∀ b, neighbour (nodePos gi) d = some b → bit ((t.nodeAt b).reg 8) (4 + (d + 2) % 4) = true) ∧
    (∃ t, exec .detourInstall s = .next t ∧ t.mem = s.mem ∧
      (∀ gi < 4608, ∀ k < 24, (t.node gi).reg (0x100 + 8 * k) = ((detourList s.deadNodes (nodePos gi)).map DetourE.word).getD k 0) ∧
      (Map.wf noneOf s.reqs = true → ∀ id r, s.req id = some r → r.src ≠ .gone → onWay r → (∃ d ∈ s.deadNodes, d ∈ r.path) →
        t.req id = some { r with phase := .arrived, status := St.netNodeDead, data := [], path := [] }))

/-- Fences and sweeps through a NET page: only TACK writes it; FENCE takes effect at the next packet boundary, a clear FENCE opens the
port at once, and SWEEP completes the groom's requests whose path holds the named router (R49, R52, R56). -/
def Sys2Proof.Claims.FencesAndSweeps : Prop :=
  ∀ (s : State) (gi : Nat) (v : Word), netTidy s → gi < 4608 →
    (let kept := (v &&& 0x7F3F00F3) ||| ((s.node gi).reg 8 &&& ~~~0x7F3F00F3)
     (bit v 8 = false → exec (.netFence .tack gi v) s = .next (answered
       (let t := s.modNode gi (fun n => n.setReg 8 kept)
        if bit v 0 then t else t.modNode gi (fun n => { n with fenced := false })) St.ok 0 [])) ∧
     (bit ((s.node gi).reg 8) 0 = true →
       exec (.netFenceBoundary gi) s = .next (s.modNode gi (fun n => { n with fenced := true }))) ∧
     (∃ t, exec (.netSweep .tack gi v) s = .next t ∧ t.resp = { status := St.ok } ∧ t.mem = s.mem ∧
       (Map.wf noneOf s.reqs = true → ∀ id r, s.req id = some r → sweptBy gi r.src = true → onWay r →
         fld v 30 24 * 64 + fld v 21 16 ∈ r.path →
         t.req id = some { r with phase := .arrived, status := St.netNodeDead, data := [], path := [] })) ∧
     (∀ p, p ≠ Priv.tack → exec (.netFence p gi v) s = .next (answered s St.privilege 0 []) ∧
       exec (.netSweep p gi v) s = .next (answered s St.privilege 0 [])))

/-- Requests enter the network, hop, arrive and answer (R42 to R45, R50, R51, R53, R58, R75, R76, R281, R283). -/
def Obligations.NetworkRequests : Prop :=
  Claims.NetworkInjection ∧ Claims.NetworkTransport

/-- Routes with no router dead, and with one (R42, R53 to R55). -/
def Obligations.NetworkRoutes : Prop :=
  Claims.XyRoutesAreConnectedAndShortest ∧ Claims.OneDeadRouterIsAvoided

/-- Dead routers, fences and sweeps (R49, R51, R52, R54, R56). -/
def Obligations.NetworkFaultsAndFences : Prop :=
  Claims.DeadRoutersAreCutOff ∧ Claims.FencesAndSweeps

namespace Sys2Proof.Claims

/-- The response of a request that its endpoint has performed, back on its way (R42). -/
def backed (s : State) (id : Nat) (r : Req) (st : Status) (data : List Byte) : State :=
  s.setReq id (some { r with phase := .back, pos := r.path.length - 1, status := st, data := data })

/-- No 64-bit word of a range of scratch is uncorrectable (R536). -/
def scrSound (s : State) (ps off n : Nat) : Prop := ∀ w ∈ (s.stall ps).scratchUe, w * 8 + 8 ≤ off ∨ off + n ≤ w * 8

/-- The buffer entry of a leaf, for the access that walked to it (R300). -/
def leafEntry (r : Req) (v lg : Nat) : XEntry :=
  { task := r.task, va := r.addr / 2 ^ lg * 2 ^ lg, lg := lg, pa := bits v 63 16 * 65536, w := decide (bits v 2 2 = 1),
    k := decide (bits v 3 3 = 1), d := r.op.isWrite || decide (bits v 5 5 = 1) }

end Sys2Proof.Claims

/-- Stall scratch performs an access whole: a read returns its bytes, a write stores them, an AMO returns the old value and stores the
new one; each answers 0 and main memory stays. A read of an uncorrectable word answers RAS_SCRATCH_UE (R43, R75, R536). -/
def Obligations.ScratchAccesses : Prop :=
  ∀ (s : State) (id ps off : Nat) (r : Req), s.req id = some r → r.phase = .endpoint → localRegion r.addr = some (.scratch ps off) →
    (s.stall ps).pstate = .run → s.behind id r = false → r.mask = none → 0 < r.len → Map.wf (fun _ => ({} : Stall)) s.stalls = true →
    (scrSound s ps off r.len →
      (r.op = .read → exec (.scratchAccess id false) s = .next (backed s id r St.ok (s.scrRead ps off r.len))) ∧
      (r.op = .write → r.data.length = r.len → ∃ t, exec (.scratchAccess id false) s = .next t ∧ t.mem = s.mem ∧
        t.req id = some { r with phase := .back, pos := r.path.length - 1, status := St.ok, data := [] } ∧
        (t.stall ps).scratch = writeBytes (s.stall ps).scratch off r.data) ∧
      (∀ op, r.op = .amo op → r.data.length = 2 * r.len → ∃ t, exec (.scratchAccess id false) s = .next t ∧ t.mem = s.mem ∧
        t.req id = some { r with phase := .back, pos := r.path.length - 1, status := St.ok, data := s.scrRead ps off r.len } ∧
        (t.stall ps).scratch = writeBytes (s.stall ps).scratch off (leBytes r.len (op.apply r.len (leNat (s.scrRead ps off r.len))
          (leNat (r.data.take r.len)) (leNat (r.data.drop r.len)))))) ∧
    (∀ w ∈ (s.stall ps).scratchUe, off ≤ w * 8 + 7 → w * 8 < off + r.len → r.op = .read →
      ∃ t, exec (.scratchAccess id false) s = .next t ∧ t.mem = s.mem ∧ (t.stall ps).scratch = (s.stall ps).scratch ∧
        t.req id = some { r with phase := .back, pos := r.path.length - 1, status := St.rasScratchUe, data := [] })

/-- A shed performs an access to main memory: a read returns the bytes, a write stores them and nothing else, an AMO returns the old
value and stores the new one. A read that meets an uncorrectable block answers MEM_UE with no data and leaves memory (R75, R288, R290,
R291). Refresh changes nothing and a clean scrub read of an active channel neither (R292, R293). -/
def Sys2Proof.Claims.MainMemoryAccesses : Prop :=
  ∀ (s : State) (id a : Nat) (r : Req), s.req id = some r → r.phase = .endpoint → isGlobal r.addr = false →
    localRegion r.addr = some (.main a) → s.behind id r = false → r.mask = none → 0 < r.len →
    (s.memGood r.pa r.len = true →
      (r.op = .read → exec (.shedRead id [] []) s = .next (backed s id r St.ok (s.memRead r.pa r.len))) ∧
      (r.op = .write → r.data.length = r.len → ∃ t, exec (.shedWrite id [] [] false) s = .next t ∧
        t.mem = writeBytes s.mem r.pa r.data ∧
        t.req id = some { r with phase := .back, pos := r.path.length - 1, status := St.ok, data := [] } ∧
        (∀ ps, t.stall ps = s.stall ps) ∧ (∀ gi, t.groom gi = s.groom gi)) ∧
      (∀ op, r.op = .amo op → r.data.length = 2 * r.len → ∃ t, exec (.shedAmo id [] []) s = .next t ∧
        t.mem = writeBytes s.mem r.pa (leBytes r.len (op.apply r.len (leNat (s.memRead r.pa r.len)) (leNat (r.data.take r.len))
          (leNat (r.data.drop r.len)))) ∧
        t.req id = some { r with phase := .back, pos := r.path.length - 1, status := St.ok, data := s.memRead r.pa r.len })) ∧
    (∀ b ∈ blocksOf r.pa r.len, b ∈ s.memUe → s.chanOk r.pa = true → r.op = .read → ∃ t, exec (.shedRead id [] []) s = .next t ∧
      t.mem = s.mem ∧ t.memUe = s.memUe ∧
      t.req id = some { r with phase := .back, pos := r.path.length - 1, status := St.memUe, data := [] })

/-- Refresh and patrol scrub: refresh and a clean read change nothing, a corrected error is counted, and an uncorrectable one is logged
and stays with its block (R290, R292, R293). -/
def Sys2Proof.Claims.RefreshAndScrub : Prop :=
  ∀ (s : State) (ch sub bank co : Nat),
    exec (.refresh ch sub bank) s = .next s ∧
    (ch < 136 → co < 2 ^ s.capLog2 → (s.chan ch).state = 0 →
      (let blk := unspread (ch / 34 * 32 + (s.chan ch).lc) co / 64
       (blk ∉ s.memUe → exec (.scrubRead ch co .clean) s = .next s ∧
         ∃ t, exec (.scrubRead ch co .corrected) s = .next t ∧ t.mem = s.mem ∧ t.memUe = s.memUe ∧
           t.dcsr (shedBase (ch / 34) + 0x108 + ch % 34 * 0x18) = bump32 1 (s.dcsr (shedBase (ch / 34) + 0x108 + ch % 34 * 0x18))) ∧
       (∃ t, exec (.scrubRead ch co .uncorrectable) s = .next t ∧ t.mem = s.mem ∧ blk ∈ t.memUe)))

/-- Logical channel and channel offset of a physical address by the formulas of R286; 128 consecutive aligned chunks have 128 distinct
logical channels; and the map is one to one: the address is recovered from the two (R286). -/
def Obligations.SpreadIsOneToOne : Prop :=
  (∀ pa, let chunk := pa >>> 12
    spreadLc pa = (chunk &&& 0x7F) ^^^ ((chunk >>> 7) &&& 0x7F) ^^^ ((chunk >>> 14) &&& 0x7F) ^^^ ((chunk >>> 21) &&& 0x7F) ^^^
      ((chunk >>> 28) &&& 0x1F) ∧
    spreadCo pa = ((chunk >>> 7) <<< 12) ||| (pa &&& 0xFFF)) ∧
  (∀ g i j, i < 128 → j < 128 → spreadLc ((g * 128 + i) * 4096) = spreadLc ((g * 128 + j) * 4096) → i = j) ∧
  ∀ pa, unspread (spreadLc pa) (spreadCo pa) = pa ∧ spreadLc pa < 128 ∧
    (∀ n, pa < 128 * 2 ^ (n + 12) → spreadCo pa < 2 ^ (n + 12))

/-- Translation: a miss waits for a walk of its page; the walk's leaf is put into the stall's buffer with A, and for a write D, set in the
table, and the request translates again; a walk that fails ends the request with its status. An invalidation drops the buffer entries
in its scope and is busy until the requests translated through them have completed (R299 to R302). -/
def Obligations.TranslationAndInvalidation : Prop :=
  ∀ (s : State) (id : Nat) (r : Req), s.req id = some r → r.src ≠ .gone → Map.wf (fun _ => ({} : Stall)) s.stalls = true →
    (let ps := r.src.ps
     let t := s.stall ps
     (r.phase = .issued → r.window = true → s.xlate ps r.task r.addr r.priv r.op.isWrite = .miss → t.misses = [] →
       s.walksTo (s.lsNum ps % 4) < 80 →
       ∃ u, exec (.xlatWalk id) s = .next u ∧ u.req id = some { r with phase := .walking } ∧
         (u.stall ps).misses = [(r.task, r.addr / 65536, [id])] ∧ (u.stall ps).xbuf = t.xbuf ∧ u.mem = s.mem) ∧
     (r.phase = .walking → t.misses = [(r.task, r.addr / 65536, [id])] →
       (∀ at_ v lg pa, s.walk r.task r.addr none = .leaf at_ v lg → s.leafCheck v lg r.addr r.priv r.op.isWrite = (St.ok, pa) →
         ∃ u, exec (.xlatWalkComplete id none) s = .next u ∧ u.req id = some { r with phase := .issued } ∧
           (u.stall ps).xbuf.head? = some (leafEntry r v lg) ∧
           u.mem = (if v ||| 16 ||| (if r.op.isWrite then 32 else 0) = v then s.mem
             else writeBytes s.mem at_ (leBytes 8 (v ||| 16 ||| (if r.op.isWrite then 32 else 0))))) ∧
       (∀ st at_, s.walk r.task r.addr none = .fault st at_ → st ≠ St.memWalkUe → pagerServes st = false →
         ∃ u, exec (.xlatWalkComplete id none) s = .next u ∧ u.mem = s.mem ∧ (u.stall ps).xbuf = t.xbuf ∧
           u.req id = some { r with phase := .arrived, status := st, data := [] }))) ∧
    (∀ n v p, p ≠ Priv.task →
      (let scope := fld v 1 0
       let va := fld (s.dcsr (shedBase 0 + 0x18)) 48 16 * 65536
       (scope = 3 ∨ (scope = 2 ∧ fld v 63 32 = 0) → exec (.xinvStart p n v) s = .next (answered s St.badParam 0 [])) ∧
       (scope ≠ 3 → (scope = 2 → fld v 63 32 ≠ 0) → s.xinv ≠ none → exec (.xinvStart p n v) s = .next (answered s St.memXinvBusy 0 [])) ∧
       (scope ≠ 3 → (scope = 2 → fld v 63 32 ≠ 0) → s.xinv = none → ∃ u, exec (.xinvStart p n v) s = .next u ∧ u.resp = { status := St.ok } ∧
         u.xinv.isSome = true ∧ u.mem = s.mem ∧
         ∀ ps, (u.stall ps).xbuf = (s.stall ps).xbuf.filter (fun e => !xinvHits scope (fld v 31 16) va (fld v 63 32) e.task e.va e.lg)))) ∧
    (∀ x, s.xinv = some x → (∀ i ∈ x.waits, ∀ q, s.req i = some q → q.live = false) →
      exec .xinvComplete s = .next { s with xinv := none })

/-- Bays: opening the latch of a released, failed or empty bay leaves it EMPTY; any other bay fails with BAY_LOCK_FAULT. A module is
admitted when it is fast and large enough, and becomes a SPARE channel when training succeeds (R27, R28, R30, R31). -/
def Sys2Proof.Claims.BaysAndModules : Prop :=
  ∀ (s : State) (bay : Nat),
    (let c := s.chan bay
     (c.state = 3 ∨ c.state = 4 ∨ c.state = 6 → exec (.latchOpen bay) s = .next (s.setChan bay { c with state := 4, dimm := none })) ∧
     (c.state ≠ 3 → c.state ≠ 4 → c.state ≠ 6 → bay < 136 → ∃ t, exec (.latchOpen bay) s = .next t ∧ (t.chan bay).state = 6 ∧
       (t.chan bay).last = St.bayLockFault ∧ t.mem = s.mem) ∧
     (∀ d, c.state = 4 → (d.slow = true → s.slowMem = true) → s.capLog2 ≤ d.capLog2 →
       exec (.latchClose bay (some d)) s = .next (s.setChan bay { c with state := 5, last := St.ok, dimm := some d })) ∧
     (∀ d, c.state = 4 → d.slow = true → s.slowMem = false →
       exec (.latchClose bay (some d)) s = .next (s.setChan bay { c with last := St.dimmSpeed, dimm := some d })) ∧
     (∀ d, c.state = 4 → (d.slow = true → s.slowMem = true) → d.capLog2 < s.capLog2 →
       exec (.latchClose bay (some d)) s = .next (s.setChan bay { c with last := St.dimmCapacity, dimm := some d })) ∧
     (c.state = 4 → exec (.latchClose bay none) s = .next (s.setChan bay { c with last := St.dimmNotPresent, dimm := none })) ∧
     (∀ d, c.state = 5 → c.dimm = some d → d.supported = true →
       exec (.admitDone bay true) s = .next (s.setChan bay { c with state := 1, last := St.ok })) ∧
     (c.state = 5 → exec (.admitDone bay false) s = .next (s.setChan bay { c with state := 4, last := St.dimmTrainFail })))

/-- Migration of a logical channel within its shed: only TACK starts it, from an ACTIVE to a SPARE channel; the copy pointer advances by
4 KiB units; at the end the destination is ACTIVE with the logical channel and the source RELEASED. The contents stay (R295, R310). -/
def Sys2Proof.Claims.ChannelMigration : Prop :=
  ∀ (s : State) (n src dst : Nat) (v : Word), src < 34 → dst < 34 → src ≠ dst →
    (let d := s.shed n
     let a := n * 34 + src
     let b := n * 34 + dst
     (fld v 5 0 = src → fld v 13 8 = dst →
       ((s.chan a).state = 0 → (s.chan b).state = 1 → d.mig.active = false → ∃ t, exec (.migStart .tack n v) s = .next t ∧
         t.resp = { status := St.ok } ∧ (t.chan a).state = 2 ∧ (t.chan b).state = 7 ∧ (t.chan b).lc = (s.chan a).lc ∧
         (t.shed n).mig = { d.mig with active := true, src := src, dst := dst, units := 0, end_ := St.ok } ∧ t.mem = s.mem) ∧
       ((s.chan a).state ≠ 0 ∨ (s.chan b).state ≠ 1 ∨ d.mig.active = true → ∃ t, exec (.migStart .tack n v) s = .next t ∧
         t.resp = { status := St.memMigState } ∧ t.chans = s.chans ∧ t.sheds = s.sheds ∧ t.mem = s.mem) ∧
       (∀ p, p ≠ Priv.tack → exec (.migStart p n v) s = .next (answered s St.privilege 0 []))) ∧
     (d.mig.active = true → d.mig.units * 4096 < 2 ^ s.capLog2 →
       exec (.migUnitCopy n) s = .next (s.setShed n { d with mig := { d.mig with units := d.mig.units + 1 } })) ∧
     (d.mig.active = true → d.mig.src = src → d.mig.dst = dst → d.mig.units * 4096 = 2 ^ s.capLog2 → Map.wf chanDflt s.chans = true →
       ∃ t, exec (.migrationDone n) s = .next t ∧ (t.chan b).state = 0 ∧ (t.chan b).lc = (s.chan a).lc ∧ (t.chan a).state = 3 ∧
         t.mem = s.mem))

/-- Main memory accesses, refresh and scrub (R75, R288, R290 to R293). -/
def Obligations.MainMemory : Prop :=
  Claims.MainMemoryAccesses ∧ Claims.RefreshAndScrub

/-- Bays, modules and the migration of channels (R27, R28, R30, R31, R295, R310). -/
def Obligations.BaysAndMigration : Prop :=
  Claims.BaysAndModules ∧ Claims.ChannelMigration

namespace Sys2Proof.Claims

/-- Main memory without errors, every channel working. -/
def soundMemory (s : State) : Prop := Memory.wf s.mem = true ∧ s.memUe = [] ∧ ∀ pa, s.chanOk pa = true

def apart (a n b m : Nat) : Prop := a + n ≤ b ∨ b + m ≤ a

/-- A fault of its own kind that the pager has at hand, in hardware mode (R303, R304). -/
def atPager (s : State) (k : Nat) (f : PFault) : Prop :=
  s.pfaults[k]? = some f ∧ f.served = none ∧ k < 64 ∧ s.tack.takeover = false ∧ s.hostMode 0 = false

/-- The pager's table entry for a tenant, one free frame and a 64 KiB leaf, all apart from each other in memory (R305). -/
def poolAt (s : State) (f : PFault) (at_ v fr : Nat) : Prop :=
  let e := s.ttEntry f.tenant
  s.walk f.task f.va none = .leaf at_ v 16 ∧ v < 2 ^ 64 ∧ bits (s.memLe (e + 16) 8) 44 16 * 65536 = fr ∧ fr ≠ 0 ∧
  apart e 32 fr 65536 ∧ apart at_ 8 fr 65536 ∧ apart e 32 at_ 8 ∧
  e + 32 ≤ s.memBytes ∧ fr + 65536 ≤ s.memBytes ∧ at_ + 8 ≤ s.memBytes

end Sys2Proof.Claims

/-- Service of a fault on a 64 KiB page: a demand allocation within LIMIT pops the first free frame, zeroes it and maps it with TIER 0;
a recall fills the frame from the loft and maps it with TIER 0, A = 1 and D = 0; both add 1 to USED. With no free frame, or LIMIT reached by
an allocation, the fault takes MEM_QUOTA (R305, R306, R309). -/
def Sys2Proof.Claims.PagerServesFaults : Prop :=
  ∀ (s : State) (k : Nat) (f : PFault) (at_ v fr : Nat), atPager s k f → soundMemory s →
    (let e := s.ttEntry f.tenant
     let used := bits (s.memLe e 8) 63 32
     let limit := bits (s.memLe e 8) 31 0
     let mapped := fun (t : State) (leaf : Nat) (data : List Byte) =>
       t.pfaults[k]? = some { f with served := some St.ok } ∧ t.memLe at_ 8 = leaf ∧ t.memRead fr 65536 = data ∧
       bits (t.memLe e 8) 63 32 = used + 1 ∧ bits (t.memLe e 8) 31 0 = limit ∧
       t.memLe (e + 16) 8 = s.memLe fr 8 / 65536 * 65536
     (poolAt s f at_ v fr → bits v 7 6 = 2 → f.status = St.memDemand → used + 1 ≤ limit →
       ∃ t, exec (.pagerDemandAlloc k) s = .next t ∧
         mapped t (v % 64 + bits v 15 8 * 256 + fr) (List.replicate 65536 0)) ∧
     (poolAt s f at_ v fr → bits v 7 6 = 1 → f.status = St.memEvicted → s.loftFault (bits v 63 16 * 65536) = St.ok → used + 1 < 2 ^ 32 →
       ∃ t, exec (.pagerRecall k) s = .next t ∧
         mapped t (v % 16 + 16 + bits v 15 8 * 256 + fr) (readBytes s.loft (bits v 63 16 * 65536) 65536)) ∧
     (s.walk f.task f.va none = .leaf at_ v 16 → e + 32 ≤ s.memBytes →
       (bits v 7 6 = 2 → f.status = St.memDemand → limit < used + 1 ∨ bits (s.memLe (e + 16) 8) 44 16 = 0 →
         exec (.pagerDemandAlloc k) s = .next (s.served k St.memQuota)) ∧
       (bits v 7 6 = 1 → f.status = St.memEvicted → bits (s.memLe (e + 16) 8) 44 16 = 0 →
         exec (.pagerRecall k) s = .next (s.served k St.memQuota))))

/-- End of a service, moves, eviction and ageing: a served groom access is issued again and an unserved one arrives with its status; a
page that is no longer MOVING ends its fault; eviction of the oldest page marks its leaf MOVING, invalidates it and moves the page to the
loft; an ager pass drops every translation and ages the leaves, A = 1 giving A = 0 and AGE = 0, else AGE + 1 up to 127 (R303 to R308). -/
def Sys2Proof.Claims.PagerEndsMovesAndAges : Prop :=
  ∀ (s : State) (k : Nat) (f : PFault),
    (∀ id r st, s.pfaults[k]? = some f → f.served = some st → f.who = .inr id → s.req id = some r → r.phase = .paging → r.src ≠ .gone →
      exec (.pagerServiceDone k) s = .next (let t := { s with pfaults := dropAt s.pfaults k }
        t.setReq id (some (if st = St.ok then { r with phase := .issued, status := St.ok }
          else { r with phase := .arrived, status := st, data := [] })))) ∧
    (∀ at_ v lg, atPager s k f → f.status = St.memMoving → s.walk f.task f.va none = .leaf at_ v lg → bits v 7 6 ≠ 3 →
      exec (.pagerMoveComplete k) s = .next (s.served k St.ok)) ∧
    (∀ at_ v lg u, atPager s k f → f.status = St.memMoving → s.evicting = none → s.walk f.task f.va none = .leaf at_ v lg → bits v 7 6 = 3 →
      s.finishMove f.tenant at_ v lg = (u, St.ok) → exec (.pagerMoveComplete k) s = .next (u.served k St.ok)) ∧
    (∀ tenant tk at_ v lg va u,
      (let e := s.ttEntry tenant
       let la := bits (s.memLe (e + 0x18) 8) 47 0
       let moving := (s.devWrite at_ (leBytes 8 (leafWith v 3 (bits v 63 16 * 65536)))).1.invalidatePage tk va lg
       soundMemory s → e + 32 ≤ s.memBytes → s.hostMode 0 = false → s.tack.takeover = false → s.evictStopped = [] → s.evicting = none → s.xinv = none →
       bits (s.memLe (e + 8) 8) 31 0 < bits (s.memLe e 8) 63 32 → bits (s.memLe (e + 8) 8) 63 32 < bits (s.memLe e 8) 63 32 →
       oldest (s.evictable tenant) = some (tk, at_, v, lg, va) → la ≠ 0 → la % 2 ^ 30 + 2 ^ lg ≤ 2 ^ 30 → moving.xinv = none →
       moving.finishMove tenant at_ v lg = (u, St.ok) → bits (u.memLe (u.ttEntry tenant) 8) 63 32 ≤ bits (u.memLe (u.ttEntry tenant + 8) 8) 63 32 →
       exec (.pagerEvict tenant) s = .next u) ∧
      (let e := s.ttEntry tenant
       (s.devRead e 32).1 = St.ok → s.hostMode 0 = false → s.tack.takeover = false → s.evictStopped = [] →
         s.evicting.isSome = true → s.xinv.isSome = true → exec (.pagerEvict tenant) s = .next s)) ∧
    (∀ tk at_ v lg va, soundMemory s → fld (s.dcsr (shedBase 0 + 0x30)) 7 0 ≠ 0 → s.xinv = none → tk < 65536 →
      Map.wf (fun _ => ({} : Stall)) s.stalls = true →
      (let ast := fld (s.dcsr (shedBase 0 + 8)) 44 20 * 2 ^ 20
       (∀ j < 65536, j ≠ tk → s.memLe (ast + j * 8) 8 % 2 = 0) → apart ast 524288 at_ 8 → at_ + 8 ≤ s.memBytes →
       s.taskLeaves tk = [(at_, v, lg, va)] → bits v 7 6 = 0 →
       ∃ t, exec .agerPass s = .next t ∧ t.mem = writeBytes s.mem at_ (leBytes 8 (aged v)) ∧ (∀ ps, (t.stall ps).xbuf = []))) ∧
    (∀ v, bits (aged v) 4 4 = 0 ∧ bits (aged v) 15 9 = (if bits v 4 4 = 1 then 0 else min 127 (bits v 15 9 + 1)) ∧ aged v % 16 = v % 16 ∧
      aged v / 65536 = v / 65536)

/-- A loft read joins the read of its 16 KiB page and is answered with the stored bytes when that is done, or with LOFT_UE where a 4 KiB
unit failed decoding; an address beyond the end or a unit never written is answered at once (R313, R314). -/
def Sys2Proof.Claims.LoftReads : Prop :=
  ∀ (s : State) (id a : Nat) (r : Req), s.req id = some r → r.phase = .endpoint → isGlobal r.addr = false →
    localRegion r.addr = some (.loft a) → s.pageReads = [] →
    (s.loftFault r.pa = St.ok → exec (.loftRead id) s = .next { s with pageReads := [(r.pa / 16384, [id])] }) ∧
    (loftEnd ≤ r.pa → exec (.loftRead id) s = .next (backed s id r St.memRange [])) ∧
    (r.pa < loftEnd → (s.loftChan (r.pa / 65536 % 16)).state ≠ 2 → s.loftWritten r.pa = false →
      exec (.loftRead id) s = .next (backed s id r St.loftUnwritten [])) ∧
    (let t := { s with pageReads := [(r.pa / 16384, [id])] }
     exec (.loftPageReadDone (r.pa / 16384) []) t = .next (backed s id r St.ok (readBytes s.loft r.pa r.len)) ∧
     ∃ u, exec (.loftPageReadDone (r.pa / 16384) [r.pa / 4096 % 4]) t = .next u ∧ u.pageReads = [] ∧ u.loft = s.loft ∧
       u.req id = some { r with phase := .back, pos := r.path.length - 1, status := St.loftUe, data := [] })

namespace Sys2Proof.Claims

/-- One job taken from the ring, of one operation, not run yet. -/
def oneJob (s : State) (j : LoftJob) (op : Nat) : Prop := s.jobs = [j] ∧ j.op = op ∧ j.res = none

def jobRan (s : State) (j : LoftJob) (st : Status) : State := { s with jobs := [{ j with res := some st }] }

end Sys2Proof.Claims

/-- Loft jobs: a tail write makes the sheds take the entry, a WRITE at the write pointer copies memory to the loft and advances it, a READ
copies back, ERASE empties a segment, SEAL seals an open one, and a finished job has DONE and STATUS put into its entry. A write elsewhere,
an erase of an erased segment and a seal of one not open end with LOFT_SEG_STATE, and a program failure without reserve retires the
segment (R315, R316). -/
def Sys2Proof.Claims.LoftJobs : Prop :=
  ∀ (s : State), soundMemory s →
    (∀ v p, p ≠ Priv.task → s.jobs = [] → fld (s.dcsr (shedBase 0 + 0x608)) 12 0 ≠ 0 → fld v 31 0 = (s.ljHead + 1) % 2 ^ 32 →
      s.ljHead < 2 ^ 32 → s.ljEntry s.ljHead + 64 ≤ s.memBytes → Map.wf devReset s.csr = true →
      (let a := s.ljEntry s.ljHead
       let w := fun k => s.memLe (a + 8 * k) 8
       w 0 % 256 ∈ [1, 2] → bits (w 0) 15 10 = 0 → bits (w 0) 63 32 = 0 → w 1 % 65536 = 0 → 0 < w 3 → w 3 ≤ 16384 →
       w 1 + w 3 * 65536 ≤ loftEnd → w 2 % 65536 = 0 → w 2 < 2 ^ 45 →
       ∃ t, exec (.ljTailWrite p v) s = .next t ∧ t.resp = { status := St.ok } ∧ t.ljHead = (s.ljHead + 1) % 2 ^ 32 ∧ t.mem = s.mem ∧
         t.jobs = [{ idx := s.ljHead, op := w 0 % 256, la := w 1, pa := w 2, units := w 3 }])) ∧
    (∀ v, exec (.ljTailWrite .task v) s = .next (answered s St.privilege 0 [])) ∧
    (∀ j, oneJob s j 1 →
      (let sg := j.la / 2 ^ 30
       (∀ wp, (s.seg sg).wptr = some wp → wp = j.la % 2 ^ 30 / 65536 → j.la % 65536 = 0 → 0 < j.units → wp + j.units ≤ 16384 →
         j.pa + j.units * 65536 ≤ s.memBytes → exec (.loftWrite j.idx none) s = .next
           (jobRan ({ s with loft := writeBytes s.loft j.la (s.memRead j.pa (j.units * 65536)) }.setSeg sg (.opn (wp + j.units))) j St.ok)) ∧
       ((s.seg sg).wptr ≠ some (j.la % 2 ^ 30 / 65536) → exec (.loftWrite j.idx none) s = .next (jobRan s j St.loftSegState)) ∧
       (∀ wp f, (s.seg sg).wptr = some wp → wp = j.la % 2 ^ 30 / 65536 → wp + j.units ≤ 16384 → (s.loftChan f).reserve = 0 →
         exec (.loftWrite j.idx (some f)) s = .next (jobRan ((s.setLoftChan f { s.loftChan f with
           state := max (s.loftChan f).state 1 }).setSeg sg .retired) j St.loftReserveOut)))) ∧
    (∀ j, oneJob s j 2 → (∀ i < j.units, s.loftFault (j.la + i * 65536) = St.ok) → j.pa + j.units * 65536 ≤ s.memBytes →
      ∃ t, exec (.loftJobRead j.idx) s = .next t ∧ t.mem = writeBytes s.mem j.pa (readBytes s.loft j.la (j.units * 65536)) ∧
        t.jobs = [{ j with res := some St.ok }] ∧ t.loft = s.loft) ∧
    (∀ j, oneJob s j 3 →
      (let sg := j.la / 2 ^ 30
       (s.seg sg ≠ .erased → s.seg sg ≠ .retired → exec (.loftErase j.idx) s = .next
         (jobRan { s.setSeg sg .erased with loft := s.loft.filter (fun p => decide (p.1 / 2 ^ 30 ≠ sg)) } j St.ok)) ∧
       (s.seg sg = .erased ∨ s.seg sg = .retired → exec (.loftErase j.idx) s = .next (jobRan s j St.loftSegState)))) ∧
    (∀ j, oneJob s j 4 →
      (let sg := j.la / 2 ^ 30
       (∀ wp, s.seg sg = .opn wp → exec (.loftSeal j.idx) s = .next (jobRan (s.setSeg sg .sealed) j St.ok)) ∧
       ((∀ wp, s.seg sg ≠ .opn wp) → exec (.loftSeal j.idx) s = .next (jobRan s j St.loftSegState)))) ∧
    (∀ j st, s.jobs = [j] → j.res = some st → s.ljHead % 2 ^ 32 = fld (s.dcsr (shedBase 0 + 0x610)) 31 0 →
      s.ljEntry j.idx + 64 ≤ s.memBytes → ∃ t, exec (.loftJobDone j.idx) s = .next t ∧ t.jobs = [] ∧
        t.mem = writeBytes s.mem (s.ljEntry j.idx) (leBytes 4 (s.memLe (s.ljEntry j.idx) 4 % 256 + 256 +
          bits (s.memLe (s.ljEntry j.idx) 4) 15 9 * 512 + st.toNat * 65536)))

/-- Loft reads and loft jobs (R313 to R316). -/
def Obligations.LoftAccess : Prop :=
  Claims.LoftReads ∧ Claims.LoftJobs

/-- The pager's faults, moves and ageing (R303 to R309). -/
def Obligations.Pager : Prop :=
  Claims.PagerServesFaults ∧ Claims.PagerEndsMovesAndAges

namespace Sys2Proof.Claims

/-- A write of LINK_CTL that changes one of its fields finds only EN and a lane number stored (R346). -/
def ctlPlain (s : State) (p : Nat) : Prop := s.dcsr (linkBase p + 8) &&& 0xFFFFFFFFFFFFFF8E = 0

/-- A port lost with its replay buffer: each request in it is answered LINK_DOWN (R326). -/
def answeredDown (s t : State) (p : Nat) : Prop :=
  (t.port p).replay = [] ∧ (t.gate (p / 8)).inq = (s.gate (p / 8)).inq ++
    (((s.port p).replay.map (·.2)).filter Packet.isReq).map (fun k => s.responseTo k St.linkDown [])

/-- A port that is UP on lanes 0 to 7 with lane 8 good. -/
def fullyUp (x : Port) : Prop := x.state = .up ∧ x.spareUsed = false ∧ x.good = 0x1FF

/-- Lane `l` of such a port has been spared to lane 8 (R324). -/
def sparedLane (x y : Port) (l : Nat) : Prop :=
  y.state = .up ∧ y.spareUsed = true ∧ y.good = x.good &&& ~~~(BitVec.ofNat 9 (2 ^ l)) ∧ y.wireLctl = x.wireLctl ++ [.laneMap l] ∧
    y.replay = x.replay

end Sys2Proof.Claims

/-- Ports train and fail: eight good lanes bring a port UP and four to seven DEGRADED, a training with none is tried three times in hardware
mode; LINK_CTL disables, enables, trains a DOWN port and spares a lane; a failing lane of an UP port is spared to lane 8 with no packet
lost, and loss of lock on two lanes puts the port DOWN with its requests answered LINK_DOWN (R322 to R326, R346, R512). -/
def Obligations.LinkPortsTrainSpareAndFail : Prop :=
  ∀ (s : State) (p : Nat), p < 32 → Safety.Canonical s →
    (let x := s.port p
     (∀ good : BitVec 9, x.state = .training → 4 ≤ (goodLanes good).length → ∃ t, exec (.trainingAttemptEnd p good) s = .next t ∧
       (t.port p).state = (if 8 ≤ (goodLanes good).length then .up else .degraded) ∧ (t.port p).good = good ∧
       (t.port p).txSeq = 0 ∧ (t.port p).rxSeq = 0 ∧ (t.port p).credit = [4096, 4096, 4096, 4096] ∧ t.mem = s.mem) ∧
     (x.state = .training → ∃ t, exec (.trainingAttemptEnd p 0) s = .next t ∧ (t.port p).state =
       (if s.hostMode 1 then .down else if 2 ≤ x.attempts then .failed else .training) ∧ t.mem = s.mem) ∧
     (∀ pr, pr ≠ Priv.task → ctlPlain s p →
       (∃ t, exec (.linkEnable pr p false) s = .next t ∧ t.resp = { status := St.ok } ∧ (t.port p).state = .disabled ∧ answeredDown s t p) ∧
       (x.state = .disabled → ∃ t, exec (.linkEnable pr p true) s = .next t ∧ t.resp = { status := St.ok } ∧ (t.port p).state = .training) ∧
       (bit (s.dcsr (linkBase p + 8)) 0 = true → x.state = .down →
         ∃ t, exec (.linkTrain pr p) s = .next t ∧ t.resp = { status := St.ok } ∧ (t.port p).state = .training ∧ (t.port p).attempts = 0) ∧
       (x.state ≠ .down → exec (.linkTrain pr p) s = .next (answered s St.linkState 0 [])) ∧
       (∀ l < 8, bit (s.dcsr (linkBase p + 8)) 0 = true → fullyUp x →
         ∃ t, exec (.linkSpare pr p l) s = .next t ∧ t.resp = { status := St.ok } ∧ sparedLane x (t.port p) l) ∧
       (∀ l < 8, x.spareUsed = true → exec (.linkSpare pr p l) s = .next (answered s St.linkState 0 []))) ∧
     (∀ (ls : List LaneSample) l, l < 8 → ls.length = 9 → fullyUp x →
       (∀ i y, ls[i]? = some y → laneFails (fld (s.dcsr (linkBase p + 0x10)) 3 0) y = decide (i = l) ∧ y.lock = true) →
       ∃ t, exec (.laneErrorWindow p ls 0 0) s = .next t ∧ sparedLane x (t.port p) l ∧
         t.dcsr (linkBase p + 0x18) = s.dcsr (linkBase p + 0x18) ||| 4) ∧
     (∀ l k, l < 9 → k < 9 → l ≠ k → x.carries = true → ∃ t, exec (.laneLossOfLock p l (some k)) s = .next t ∧
       (t.port p).state = (if s.hostMode 1 then .down else .training) ∧ answeredDown s t p) ∧
     (∀ l < 8, fullyUp x → x.lossAt = none → ∃ t, exec (.laneLossOfLock p l none) s = .next t ∧ sparedLane x (t.port p) l) ∧
     (x.state = .training → x.listening = true →
       exec (.linkSignalDetect p) s = .next (s.setPort p { x with listening := false, attempts := 0 })))

/-- The link layer: a packet out of order or damaged is asked for again; one in order is acknowledged, its credits are owed to the peer, and
it goes to the gate, or is answered LINK_TTL or dropped; the peer's credits, acknowledgements and replay requests act on the port; beacons
name the peer (R327 to R329, R334, R513). -/
def Sys2Proof.Claims.LinkLayer : Prop :=
  ∀ (s : State) (p : Nat), (s.port p).carries = true →
    (let x := s.port p
     (∀ k lseq ok, ok = false ∨ lseq ≠ x.rxSeq → exec (.linkPacketReceive p k lseq ok) s = .next
       ((s.setPort p { x with wireLctl := x.wireLctl ++ [.replay x.rxSeq] }).orDev (linkBase p + 0x18) 1)) ∧
     (∀ k, (let y := { x with wireLctl := x.wireLctl ++ [.ackLseq x.rxSeq], rxSeq := (x.rxSeq + 1) % 65536,
                              owe := listMod x.owe (k.pool k.vc1) (· + k.credits) }
       let own := s.devidValid = true ∧ k.dst = s.devid
       (typAssigned k.typ = true → k.hops ≠ 0 ∨ own →
         exec (.linkPacketReceive p k x.rxSeq true) s = .next ((s.setPort p y).toGate (p / 8) k)) ∧
       (typAssigned k.typ = true → k.hops = 0 → ¬ own → k.isReq = true → exec (.linkPacketReceive p k x.rxSeq true) s =
         .next (((s.setPort p y).orDev (gateBase (p / 8) + 0x28) 2).reply (p / 8) k St.linkTtl)) ∧
       (typAssigned k.typ = true → k.hops = 0 → ¬ own → k.isReq = false → exec (.linkPacketReceive p k x.rxSeq true) s =
         .next ((s.setPort p y).orDev (gateBase (p / 8) + 0x28) 2)) ∧
       (typAssigned k.typ = false → exec (.linkPacketReceive p k x.rxSeq true) s = .next ((s.setPort p y).orDev (linkBase p + 0x18) 0x40)))) ∧
     (∀ a b c d a' b' c' d', x.credit = [a, b, c, d] → exec (.lctl p (.credits a' b' c' d')) s = .next (s.setPort p { x with
       credit := [min 4096 (a + a'), min 4096 (b + b'), min 4096 (c + c'), min 4096 (d + d')] })) ∧
     (∀ l r n k, x.replay = l ++ (n, k) :: r → (∀ e ∈ l, e.1 ≠ n) →
       exec (.lctl p (.ackLseq n)) s = .next (s.setPort p { x with replay := r, replays := 0 }) ∧
       (l ≠ [] → exec (.lctl p (.replay n)) s = .next (s.setPort p { x with replay := (n, k) :: r, want := some n, replays := 1 })) ∧
       (x.want = some n → ∃ t, exec (.linkReplayResend p) s = .next t ∧ (t.port p).want = none ∧ (t.port p).replay = x.replay ∧
         (t.port p).wire = x.wire ++ k :: r.map (·.2))) ∧
     (x.owe ≠ [0, 0, 0, 0] → exec (.lctlCreditReturn p) s = .next (s.setPort p { x with
       wireLctl := x.wireLctl ++ [.credits (x.owe.getD 0 0) (x.owe.getD 1 0) (x.owe.getD 2 0) (x.owe.getD 3 0)], owe := [0, 0, 0, 0] })) ∧
     (6 ≤ s.pwr.phase → exec (.beaconSend p) s = .next (s.setPort p { x with wire := x.wire ++ [s.beaconPacket p] }) ∧
       (s.beaconPacket p).typ = 0x40 ∧ (s.beaconPacket p).data.length = 32) ∧
     (∀ serial devid, serial ≠ Config.serial → exec (.beacon p serial devid true) s =
       .next (s.setPort p { x with peer := devid.toNat, peerValid := true, beaconAt := s.clk })) ∧
     (x.peerValid = true → x.beaconAt + 10000000 ≤ s.clk → exec (.peerTimeout p) s = .next (s.setPort p { x with peerValid := false })))

/-- A gate routes its first packet: one for this device goes to its target path, another leaves by a candidate of its route entry with one
hop less, and one with no candidate is counted, a request answered LINK_NO_ROUTE. The lookup prefers ports of its own gate, then most free
credits. The route table takes writes at TACK only; a window register refuses a window outside the regions it may name (R331 to R335,
R346). -/
def Sys2Proof.Claims.GateRouting : Prop :=
  ∀ (s : State) (n : Nat), n < 4 → Safety.Canonical s →
    (let g := s.gate n
     (∀ k, g.inq = [k] → g.waitq = [] →
       (s.devidValid = true → k.dst = s.devid → typTaken k.typ = true →
         exec (.gateRoute n) s = .next ((s.setGate n { g with inq := [] }).setGate n { g with inq := [], tgt := g.tgt ++ [k] })) ∧
       (∀ q v, s.devidValid = false ∨ k.dst ≠ s.devid → s.lookup n k = .port q v → ∃ t, exec (.gateRoute n) s = .next t ∧
         (t.gate n).inq = [] ∧ (t.port q).wire = (s.port q).wire ++ [{ k with hops := k.hops - 1, vc1 := k.vc1 || v }] ∧
         (t.port q).replay = (s.port q).replay ++ [((s.port q).txSeq, { k with hops := k.hops - 1, vc1 := k.vc1 || v })] ∧
         (t.port q).txSeq = ((s.port q).txSeq + 1) % 65536) ∧
       (s.devidValid = false ∨ k.dst ≠ s.devid → s.lookup n k = .none → k.isReq = true → ∃ t, exec (.gateRoute n) s = .next t ∧
         (t.gate n).inq = [s.responseTo k St.linkNoRoute []] ∧ bit (t.dcsr (gateBase n + 0x28)) 0 = true)) ∧
     (∀ k q v, s.lookup n k = .port q v →
       (let cs := (List.range 4).filterMap (routeCand (Map.get zeroW s.routes k.dst))
        (q, v) ∈ cs ∧ (s.port q).carries = true ∧ (s.port q).room k v = true ∧
        ∀ c ∈ cs, (s.port c.1).carries = true → (s.port c.1).room k c.2 = true → c.1 / 8 = n → q / 8 = n)) ∧
     (∀ v, bit (s.dcsr (gateBase n + 0x10)) 31 = false → exec (.routeEntryAccess .tack n (some v)) s = .next (answered
       { s with routes := Map.set zeroW s.routes (fld (s.dcsr (gateBase n + 0x10)) 13 0) (v &&& 0x7F7F7F7F) } St.ok 0 [])) ∧
     (∀ p v, p ≠ Priv.tack → exec (.routeEntryAccess p n (some v)) s = .next (answered s St.privilege 0 [])) ∧
     (∀ p, p ≠ Priv.task → bit (s.dcsr (gateBase n + 0x10)) 31 = false → exec (.routeEntryAccess p n none) s =
       .next (answered s St.ok (Map.get zeroW s.routes (fld (s.dcsr (gateBase n + 0x10)) 13 0)) [])) ∧
     (∀ p k v, p ≠ Priv.task → k < 64 →
       ((bit v 63 = true → windowOk (s.window k).1 (s.window k).2 = true) → ∃ t, exec (.rwinCtlWrite p n k v) s = .next t ∧
         t.resp = { status := St.ok } ∧ (∀ m < 4, t.dcsr (gateBase m + 0x110 + k * 0x18) = v &&& 0x800FFFFFFFFFFFFF) ∧ t.mem = s.mem) ∧
       (bit v 63 = true → windowOk (s.window k).1 (s.window k).2 = false →
         exec (.rwinCtlWrite p n k v) s = .next (answered s St.badParam 0 []))) ∧
     (∀ k v, exec (.rwinCtlWrite .task n k v) s = .next (answered s St.privilege 0 [])))

/-- The link layer, and the routing of packets by gates (R327 to R329, R331 to R335, R346, R513). -/
def Obligations.LinkLayerAndRouting : Prop :=
  Claims.LinkLayer ∧ Claims.GateRouting

namespace Sys2Proof.Claims

/-- The gate has taken the one packet of its target path and sends this response (R335). -/
def responded (s : State) (n : Nat) (p : Packet) (typ : Nat) (st : Status) (data : List Byte) : State :=
  rearmed ((s.setGate n { s.gate n with tgt := [] }).toGate n { s.responseTo p st data with typ := typ })

/-- A range of main memory within one 4 KiB page, which TACK accesses by physical address (R283). -/
def plainRange (s : State) (a n : Nat) : Prop :=
  0 < n ∧ a % 4096 + n ≤ 4096 ∧ a + n ≤ s.memBytes ∧ a + n ≤ 0x200000000000 ∧ s.memGood a n = true

/-- Right of a window that a request type needs (R335). -/
def rightBit (typ : Nat) : Nat := if typ = 1 then 48 else if typ = 2 then 49 else 50

end Sys2Proof.Claims

/-- A request that has come to its target: outside every window, with the wrong GROUP or without its right it is answered
LINK_REMOTE_PERM; a write or AMO to a window that is not ready is answered NAK_RNR; else it is performed and answered. A transfer of one
packet that carries LAST adds its signal once its data is written (R335, R336, R341). -/
def Sys2Proof.Claims.TargetServesRequests : Prop :=
  ∀ (s : State) (n : Nat) (p : Packet), n < 4 → Safety.Canonical s → (s.gate n).tgt = [p] →
    (∀ e ∈ ([(.rd n, 1), (.wr n, 2), (.amo n, 3)] : List (Instr × Nat)), p.typ = e.2 → p.priv ≠ .tack →
      (let rsp := if e.2 = 1 then 0x10 else 0x11
       ((List.range 64).find? (fun k => s.windowHolds k p) = none → exec e.1 s = .next (responded s n p rsp St.linkRemotePerm [])) ∧
       (∀ k, (List.range 64).find? (fun k => s.windowHolds k p) = some k →
         (p.priv = .task → p.group ≠ fld (rwinCtl s k) 15 0 → exec e.1 s = .next (responded s n p rsp St.linkRemotePerm [])) ∧
         (bit (rwinCtl s k) (rightBit e.2) = false → exec e.1 s = .next (responded s n p rsp St.linkRemotePerm [])) ∧
         (e.2 ≠ 1 → p.priv = .kernel → bit (rwinCtl s k) (rightBit e.2) = true → bit (rwinCtl s k) 50 = true → bit (rwinCtl s k) 51 = false →
           exec e.1 s = .next (responded s n p 0x12 St.ok []))))) ∧
    (p.priv = .tack →
      (p.typ = 1 → plainRange s p.addr p.len →
        exec (.rd n) s = .next (responded s n p 0x10 St.ok (s.memRead p.addr p.len))) ∧
      (p.typ = 2 → p.trk = false → plainRange s p.addr p.data.length → ∃ t, exec (.wr n) s = .next t ∧
        t.mem = writeBytes s.mem p.addr p.data ∧ (t.gate n).tgt = [] ∧
        (t.gate n).inq = (s.gate n).inq ++ [s.responseTo p St.ok []]) ∧
      (∀ op, p.typ = 3 → amopOf p.amop = some op → plainRange s p.addr (amopBytes p.amop) → ∃ t, exec (.amo n) s = .next t ∧
        (let k := amopBytes p.amop
         t.mem = writeBytes s.mem p.addr (leBytes k (op.apply k (s.memLe p.addr k) (leNat (p.data.take k)) (leNat (p.data.drop k)))) ∧
         (t.gate n).inq = (s.gate n).inq ++ [s.responseTo p St.ok (s.memRead p.addr k)])) ∧
      (p.typ = 2 → p.trk = true → p.last = true → p.pkt = 0 → (∀ m, (s.gate m).xfers = []) → s.memUe = [] →
        plainRange s p.addr p.data.length → plainRange s p.sigaddr 8 → ∃ t, exec (.wr n) s = .next t ∧
        (let m := writeBytes s.mem p.addr p.data
         t.mem = writeBytes m p.sigaddr (leBytes 8 ((readLe m p.sigaddr 8 + p.sigval.toNat) % 2 ^ 64)) ∧
         (t.gate n).inq = (s.gate n).inq ++ [s.responseTo p St.ok []] ∧ ∀ m, (t.gate m).xfers = [])))

namespace Sys2Proof.Claims

/-- The device tracks one global request, of request `id`, which is one packet long (R337). -/
def tracksOnly (s : State) (n tag : Nat) (e : Trk) (id : Nat) (r : Req) : Prop :=
  (s.gate n).trk = [(tag, some e)] ∧ (∀ m < 4, m ≠ n → (s.gate m).trk = []) ∧ (∀ m < 4, (s.gate m).waitq = []) ∧ e.owner = .req id ∧
    s.req id = some r ∧ r.phase = .global ∧ r.status = St.ok ∧ e.pkt.addr = r.addr % 2 ^ 49

/-- That request has been answered: its entry is gone and its response starts back (R337). -/
def answeredBack (t : State) (n tag id : Nat) (r : Req) (st : Status) (data : List Byte) : Prop :=
  (t.gate n).entry tag = none ∧ t.req id = some { r with phase := .back, pos := r.path.length - 1, status := st, data := data }

end Sys2Proof.Claims

/-- The source's tracker: the response that matches an entry by TAG, GEN and device ends its request, another is discarded; NAK_RNR holds
the request for a probe after RNR_WAIT; an entry that reaches its limit ends with LINK_TIMEOUT, or LINK_NOT_READY when it was refused; an
unfinished transfer expires at the target (R336, R337, R341). -/
def Sys2Proof.Claims.SourceTracksRequests : Prop :=
  ∀ (s : State) (n : Nat), n < 4 → Safety.Canonical s →
    (∀ p e id r, tracksOnly s n p.tag e id r → (s.gate n).tgt = [p] → e.gen = p.gen → e.pkt.dst = p.src → e.probed = false →
      (p.typ = 0x10 → r.op = .read → r.data.length = p.data.length → ∃ t, exec (.rdRsp n) s = .next t ∧
        answeredBack t n p.tag id r p.status (if p.status = St.ok then p.data else [])) ∧
      (p.typ = 0x11 → r.op = .write → ∃ t, exec (.ack n) s = .next t ∧ answeredBack t n p.tag id r p.status []) ∧
      (p.typ = 0x12 → e.held = false → ∃ t, exec (.nakRnr n) s = .next t ∧
        (t.gate n).entry p.tag = some { e with held := true, probed := false, heldAt := s.clk } ∧ (t.gate n).tgt = [] ∧
        t.dcsr (gateBase n + 0x40) = bump32 1 (s.dcsr (gateBase n + 0x40)))) ∧
    (∀ p, (s.gate n).tgt = [p] → (∀ m < 4, (s.gate m).entry p.tag = none) →
      (p.typ = 0x10 → exec (.rdRsp n) s = .next (rearmed (s.setGate n { s.gate n with tgt := [] }))) ∧
      (p.typ = 0x11 → exec (.ack n) s = .next (rearmed (s.setGate n { s.gate n with tgt := [] })))) ∧
    (∀ tag e id r, tracksOnly s n tag e id r →
      (e.held = true → e.probed = false → e.heldAt + fld (s.dcsr (gateBase n + 8)) 31 24 * 256 ≤ s.clk →
        ∃ t, exec (.rnrProbe n tag) s = .next t ∧ (t.gate n).entry tag = some { e with probed := true } ∧
          (t.gate n).inq = (s.gate n).inq ++ [e.pkt]) ∧
      (e.at_ + 2 ^ fld (s.dcsr (gateBase n + 8)) 15 8 ≤ s.clk → r.op = .write → ∃ t, exec (.trackerTimeout n tag) s = .next t ∧
        answeredBack t n tag id r (if e.held then St.linkNotReady else St.linkTimeout) [] ∧
        (e.held = false → t.dcsr (gateBase n + 0x38) = bump32 1 (s.dcsr (gateBase n + 0x38))))) ∧
    (∀ x, (s.gate n).xfers = [x] → x.last = none → x.at_ + 2 * 2 ^ fld (s.dcsr (gateBase n + 8)) 15 8 ≤ s.clk →
      exec (.xferExpire n 0) s = .next (rearmed ((s.setGate n { s.gate n with xfers := [] }).orDev (gateBase n + 0x28) 4)))

/-- Remote requests at their target and at their source (R335 to R337, R341). -/
def Obligations.RemoteRequests : Prop :=
  Claims.TargetServesRequests ∧ Claims.SourceTracksRequests

namespace Sys2Proof.Claims

/-- The command that the SYNC queue's 64 bytes spell (R352). -/
def syncCmd (s : State) (ps op : Nat) (l : QList) (idx : Nat) : SyncCmd :=
  let cmd := s.cmdNat ps l idx
  let e := envOf (s.cmdWord ps l idx 0)
  { idx := idx, lst := l, op := op, index := rf cmd 8 6 0, ls := rf cmd 8 15 8, val := rf cmd 12 31 0, result := rf cmd 16 21 0,
    tmo := rf cmd 20 31 0, key := BitVec.ofNat 64 (rf cmd 24 63 0), vote := BitVec.ofNat 32 (rf cmd 32 31 0), postEn := e.postEn,
    postEv := e.postEv, ph := .toOwner, start := 0 }

/-- The SYNC queue stands at a command of opcode `op` with its wait met, nothing in its unit and no engine command started. -/
def syncAt (s : State) (ps op : Nat) (l : QList) (n idx : Nat) : Prop :=
  atCommand s ps 4 op l n idx ∧ noneStarted s ps ∧ (s.stall ps).sync = none ∧ s.scrGood ps (l.off + 64 + 64 * idx) 64 = true ∧
    s.envReady ps (envOf (s.cmdWord ps l idx 0)) = true

/-- The owner's answer is in the unit of stall `ps`, and the object of stall `o` has become `x` (R350). -/
def decided (t : State) (ps o : Nat) (c : SyncCmd) (x : SyncObj) (st : Status) (w0 w1 : Word) (res : Bool) : Prop :=
  (t.stall ps).sync = some { c with ph := .answer st w0 w1 res } ∧ (t.stall o).obj c.index = x

/-- The command waits in the owner's entries (R349). -/
def queued (s t : State) (ps o : Nat) (c : SyncCmd) (x : SyncObj) : Prop :=
  (t.stall ps).sync = some { c with ph := .waiting, start := s.clk } ∧ (t.stall o).obj c.index = x ∧
    (t.stall o).waiters = (s.stall o).waiters ++ [{ obj := c.index, ps := ps }]

end Sys2Proof.Claims

/-- The sync commands on an object of their own stall: a post adds to an event or semaphore, a wait that is met is granted and takes
its units, a lock is taken with its owner recorded, a release frees it, a barrier arrival counts or opens the barrier, a read
returns the object; a wait that is not met joins the waiters; a failing check answers with its status and changes no object. An XBARRIVE
sends its arrival to the master, or takes a kept release (R348 to R353, R356, R358 to R360, R364). -/
def Obligations.SyncCommands : Prop :=
  ∀ (s : State) (ps n idx : Nat) (l : QList), Safety.Canonical s →
    (∀ e ∈ ([(.spost, 0xA0), (.swait, 0xA1), (.lacq, 0xA2), (.lrel, 0xA3), (.barrive, 0xA4), (.sread, 0xA6)] : List ((Nat → Instr) × Nat)),
      syncAt s ps e.2 l n idx → s.syncCheck l (s.cmdNat ps l idx) = St.ok →
      (let c := syncCmd s ps e.2 l idx
       let x := (s.stall ps).obj c.index
       let task := l.task
       let quiet := (s.stall ps).waitersOf c.index = 0 ∧ (s.stall ps).waiters.length < 256
       s.psOf c.ls = ps → quiet → (l.priv = .task → l.tenant = x.tenant) → ∃ t, exec (e.1 ps) s = .next t ∧ t.mem = s.mem ∧
         (e.2 = 0xA0 → x.kind = 1 → decided t ps ps c { x with value := (x.value + c.val) % 2 ^ 32 } St.ok 0 0 false) ∧
         (e.2 = 0xA0 → x.kind = 2 → x.value + c.val < 2 ^ 32 → decided t ps ps c { x with value := x.value + c.val } St.ok 0 0 false) ∧
         (e.2 = 0xA0 → x.kind = 2 → 2 ^ 32 ≤ x.value + c.val → decided t ps ps c x St.syncOverflow 0 0 false) ∧
         (e.2 = 0xA1 → x.kind = 2 → 0 < c.val → c.val ≤ x.value → decided t ps ps c { x with value := x.value - c.val } St.ok 0 0 false) ∧
         (e.2 = 0xA1 → x.kind = 2 → x.value < c.val → queued s t ps ps c x) ∧
         (e.2 = 0xA1 → x.kind = 1 → (x.value + 2 ^ 32 - c.val % 2 ^ 32) % 2 ^ 32 < 2 ^ 31 → decided t ps ps c x St.ok 0 0 false) ∧
         (e.2 = 0xA1 → x.kind = 1 → 2 ^ 31 ≤ (x.value + 2 ^ 32 - c.val % 2 ^ 32) % 2 ^ 32 → queued s t ps ps c x) ∧
         (e.2 = 0xA2 → x.kind = 3 → x.held = false → x.abandoned = false → decided t ps ps c
           { x with held := true, value := task % 65536 + s.lsNum ps % 256 * 65536 } St.ok 0 0 false) ∧
         (e.2 = 0xA2 → x.kind = 3 → x.held = false → x.abandoned = true → decided t ps ps c
           { x with held := true, value := task % 65536 + s.lsNum ps % 256 * 65536 } St.syncAbandoned
           (lockWord (s.lsNum ps) c.index (x.value % 65536) task) 0 true) ∧
         (e.2 = 0xA2 → x.kind = 3 → x.held = true → x.value % 65536 ≠ task → queued s t ps ps c x) ∧
         (e.2 = 0xA2 → x.kind = 3 → x.held = true → x.value % 65536 = task → decided t ps ps c x St.syncRelock 0 0 false) ∧
         (e.2 = 0xA3 → x.kind = 3 → x.held = true → x.value % 65536 = task → decided t ps ps c
           { x with held := false, abandoned := x.abandoned && decide (c.val % 2 = 0) } St.ok 0 0 false) ∧
         (e.2 = 0xA3 → x.kind = 3 → x.held = false → decided t ps ps c x St.syncNotOwner 0 0 false) ∧
         (e.2 = 0xA4 → x.kind = 4 → x.value % 65536 + 1 < x.count → queued s t ps ps c { x with value := x.value + 1 }) ∧
         (e.2 = 0xA4 → x.kind = 4 → x.count ≤ x.value % 65536 + 1 → decided t ps ps c
           { x with value := (x.value / 65536 + 1) % 65536 * 65536 } St.ok (BitVec.ofNat 64 (x.value / 65536)) 0 true) ∧
         (e.2 = 0xA6 → decided t ps ps c x St.ok ((s.stall ps).objWord c.index) (BitVec.ofNat 64 x.tenant) true) ∧
         (e.2 ∈ [0xA0, 0xA1, 0xA2, 0xA3, 0xA4] → x.kind = 0 → decided t ps ps c x St.syncKind 0 0 false))) ∧
    (∀ e ∈ ([(.spost, 0xA0), (.swait, 0xA1), (.lacq, 0xA2), (.lrel, 0xA3), (.barrive, 0xA4), (.xbarrive, 0xA5), (.sread, 0xA6)] :
        List ((Nat → Instr) × Nat)), syncAt s ps e.2 l n idx → s.syncCheck l (s.cmdNat ps l idx) ≠ St.ok →
      ∃ t, exec (e.1 ps) s = .next t ∧ (t.queue ps 4).state = .stopped ∧ (t.queue ps 4).lists = (s.queue ps 4).lists.tail ∧
        (t.queue ps 4).hist.head? = some (l.seq, s.syncCheck l (s.cmdNat ps l idx)) ∧ t.mem = s.mem) ∧
    (syncAt s ps 0xA5 l n idx → s.syncCheck l (s.cmdNat ps l idx) = St.ok →
      (let c := syncCmd s ps 0xA5 l idx
       (∀ r, (s.xbar c.index).kept = some (c.key, r) → ∃ t, exec (.xbarrive ps) s = .next t ∧ (t.xbar c.index).kept = none ∧
         (t.stall ps).sync = some { c with ph := .answer r.status (XWords r).1 (XWords r).2 true, start := s.clk }) ∧
       ((s.xbar c.index).kept = none → s.devidValid = false → ∃ t, exec (.xbarrive ps) s = .next t ∧
         (t.stall ps).sync = some { c with ph := .answer St.linkNoRoute 0 0 false, start := s.clk }) ∧
       ((s.xbar c.index).kept = none → s.devidValid = true → (∀ m, (s.gate m).trk = []) → ∃ t tag e, exec (.xbarrive ps) s = .next t ∧
         (t.stall ps).sync = some { c with ph := .atMaster, start := s.clk } ∧ (t.gate (ps / 72)).entry tag = some e ∧ e.owner = .xbar ps ∧
         (t.gate (ps / 72)).inq = (s.gate (ps / 72)).inq ++ [e.pkt] ∧ e.pkt.typ = 0x30 ∧ e.pkt.dst = s.xbarMaster c.index ∧
         e.pkt.body = .arrival c.index (fld (s.dcsr (xbarCfg c.index + 8)) 29 16) c.key c.vote)))

namespace Sys2Proof.Claims

/-- The SYNC queue runs the list `l`, with a further command after the one in its unit. -/
def syncRuns (s : State) (ps : Nat) (l : QList) (c : SyncCmd) : Prop :=
  (s.stall ps).sync = some c ∧ (s.stall ps).pstate = .run ∧ noneStarted s ps ∧ (s.queue ps 4).state = .running ∧
    (s.queue ps 4).lists.head? = some l ∧ (s.queue ps 4).aborting = false ∧ (s.queue ps 4).cmdIdx + 1 < (s.queue ps 4).count.getD 0

/-- The SYNC queue's list has ended with a status (R129). -/
def syncStopped (s t : State) (ps : Nat) (l : QList) (st : Status) : Prop :=
  (t.stall ps).sync = none ∧ (t.queue ps 4).state = .stopped ∧ (t.queue ps 4).lists = (s.queue ps 4).lists.tail ∧
    (t.queue ps 4).hist.head? = some (l.seq, st)

end Sys2Proof.Claims

/-- How sync commands end: a request that reaches its owner is decided there and may grant a waiter; an answer writes RESULT, posts and lets
the queue go on, or stops its list; a wait that reaches TMO or is withdrawn leaves the waiters; a refused wait is sent again; a task's end
abandons its locks; KERNEL writes an object without waiters; the detector counts samples in which a domain is blocked (R349, R350, R354, R355,
R357, R365, R366). -/
def Obligations.SyncCompletion : Prop :=
  ∀ (s : State) (ps : Nat), Safety.Canonical s →
    (∀ c o, (s.stall ps).sync = some c → c.ph = .toOwner → o = s.psOf c.ls → o ≠ ps → (s.stall o).pstate = .run → c.op = 0xA0 →
      (let x := (s.stall o).obj c.index
       x.kind = 1 → (c.lst.priv = .task → c.lst.tenant = x.tenant) →
       ((s.stall o).waiters = [] → ∃ t, exec (.syncRequestArrive ps) s = .next t ∧
         decided t ps o c { x with value := (x.value + c.val) % 2 ^ 32 } St.ok 0 0 false) ∧
       (∀ w d, (s.stall o).waiters = [{ obj := c.index, ps := w }] → w ≠ ps → w ≠ o → (s.stall w).sync = some d →
         ((x.value + c.val) % 2 ^ 32 + 2 ^ 32 - d.val % 2 ^ 32) % 2 ^ 32 < 2 ^ 31 → ∃ t, exec (.syncRequestArrive ps) s = .next t ∧
         (t.stall w).sync = some { d with ph := .answer St.ok 0 0 false } ∧ (t.stall o).waiters = []))) ∧
    (∀ l c st w0 w1 res, syncRuns s ps l c → c.ph = .answer st w0 w1 res → c.postEv < 32 →
      (let bytes := leBytes 8 w0.toNat ++ (if c.op = 0xA5 ∨ c.op = 0xA6 then leBytes 8 w1.toNat else [])
       let end_ := fun (m : Map Byte) (st : Status) (n : Nat) =>
         if l.off % 64 = 0 ∧ l.off < 0x400000 then writeBytes m (l.off + 0x10) (leBytes 2 st.toNat ++ leBytes 2 n) else m
       let scr := if res = true ∧ c.result ≠ 0 then writeBytes (s.stall ps).scratch c.result bytes else (s.stall ps).scratch
       (st = St.ok → ∃ t, exec (.syncAnswerArrive ps) s = .next t ∧ (t.stall ps).sync = none ∧ (t.stall ps).scratch = scr ∧
         (t.queue ps 4).cmdIdx = (s.queue ps 4).cmdIdx + 1 ∧ (t.queue ps 4).state = .running ∧ t.mem = s.mem ∧
         (c.postEn = true → t.scsr ps (0x300 + c.postEv * 8) =
           setFld (s.scsr ps (0x300 + c.postEv * 8)) 15 0 (fld (s.scsr ps (0x300 + c.postEv * 8)) 15 0 + 1))) ∧
       (st ≠ St.ok → ∃ t, exec (.syncAnswerArrive ps) s = .next t ∧ syncStopped s t ps l st ∧
         (t.stall ps).scratch = end_ scr st (s.queue ps 4).cmdIdx))) ∧
    (∀ l c, syncRuns s ps l c → c.ph = .waiting → c.tmo ≠ 0 → c.start + 2 * c.tmo ≤ s.clk → s.psOf c.ls = ps → c.op ∈ [0xA1, 0xA2] →
      (s.stall ps).waiters = [{ obj := c.index, ps := ps }] →
      ∃ t, exec (.syncWaitTimeout ps) s = .next t ∧ syncStopped s t ps l St.syncWaitTimeout ∧ (t.stall ps).waiters = [] ∧
        (t.stall ps).obj c.index = (s.stall ps).obj c.index) ∧
    (∀ l c, syncRuns s ps l c → c.ph = .retry → s.psOf c.ls ≠ ps →
      exec (.syncWaitRetry ps) s = .next (s.setStall ps { s.stall ps with sync := some { c with ph := .toOwner } })) ∧
    (∀ l c o, syncRuns s ps l c → c.ph = .withdrawing → o = s.psOf c.ls → o ≠ ps → c.op ∈ [0xA1, 0xA2] →
      (s.stall o).waiters = [{ obj := c.index, ps := ps }] →
      ∃ t, exec (.syncWithdrawArrive ps) s = .next t ∧ (t.stall ps).sync = none ∧ (t.stall o).waiters = [] ∧
        (t.stall o).obj c.index = (s.stall o).obj c.index) ∧
    (∀ p v, p ≠ Priv.task → (∀ k, (s.stall k).waiters = []) → ∃ t, exec (.syncTaskendWrite p v) s = .next t ∧ t.resp = { status := St.ok } ∧
      ∀ k i, (t.stall k).obj i =
        (let x := (s.stall k).obj i
         if x.kind = 3 ∧ x.held = true ∧ x.value % 65536 = fld v 15 0 then { x with held := false, abandoned := true } else x)) ∧
    (∀ p v, p ≠ Priv.task → (s.stall ps).pstate = .run →
      (let i := fld (s.scsr ps 0x1900) 6 0
       let bad := 5 ≤ fld v 2 0 ∨ (fld v 2 0 = 4 ∧ ¬ (1 ≤ fld v 31 16 ∧ fld v 31 16 ≤ 256))
       (bad → exec (.syncObjWrite p ps v) s = .next (answered s St.badParam 0 [])) ∧
       (¬ bad → (s.stall ps).waitersOf i ≠ 0 → exec (.syncObjWrite p ps v) s = .next (answered s St.syncBusy 0 [])) ∧
       (¬ bad → (s.stall ps).waitersOf i = 0 → exec (.syncObjWrite p ps v) s = .next (answered (s.setStall ps ((s.stall ps).setObj i
         { (s.stall ps).obj i with kind := fld v 2 0, abandoned := bit v 3, held := bit v 4, count := fld v 31 16, value := fld v 63 32 })) St.ok 0 [])))) ∧
    (∃ t, exec .dldSample s = .next t ∧ (∀ k, (t.stall k).moved = false) ∧ t.mem = s.mem ∧ ∀ d, 1 ≤ d → d < 64 →
      (let n := if s.dldLim d ≠ 0 ∧ s.domStuck (s.domain d) = true then Map.get zeroN s.dld d + 1 else 0
       Map.get zeroN t.dld d = n ∧ (n ≠ 0 → n = s.dldLim d → bit (t.dcsr (syncBase + 0x20)) d = true)))

/-- Cross-device barriers: the master counts an arrival for its key once, releases the key with the votes of all ranks when the last one comes
and with SYNC_BAR_MISSING at the deadline, and refuses stale and future keys; a member gives a release to the XBARRIVE that waits for it or keeps
it; a slot's registers are written only while it is disabled (R360 to R364, R367). -/
def Obligations.CrossDeviceBarriers : Prop :=
  ∀ (s : State) (g b : Nat), g < 4 → b < 16 → Safety.Canonical s →
    (let x := s.xbar b
     let k := s.xbarKey b
     (∀ p rank key vote, (s.gate g).tgt = [p] → p.typ = 0x30 → p.body = .arrival b rank key vote → s.xbarEn b = true →
       (let a : Arrival := { rank := rank, dev := p.src, vote := vote }
        let back := fun (t : State) (st : Status) => (t.gate g).tgt = [] ∧ (t.gate g).inq = (s.gate g).inq ++ [s.responseTo p st []]
        (key = k → (∀ y ∈ x.cur, y.dev ≠ p.src ∧ y.rank ≠ rank) → x.cur.length + 1 < s.xbarN b → ∃ t, exec (.xbarArrival g) s = .next t ∧
          back t St.ok ∧ (t.xbar b).cur = byRank a x.cur ∧ t.xbarKey b = k) ∧
        (key = k → (∃ y ∈ x.cur, y.dev = p.src) → x.cur.length < s.xbarN b → ∃ t, exec (.xbarArrival g) s = .next t ∧ back t St.ok ∧
          (t.xbar b).cur = x.cur) ∧
        (key = k → (∀ y ∈ x.cur, y.dev ≠ p.src ∧ y.rank ≠ rank) → x.cur.length + 1 = s.xbarN b → x.nxt = [] → ∃ t r,
          exec (.xbarArrival g) s = .next t ∧ (t.xbar b).lastKey = some k ∧ (t.xbar b).lastRes = some r ∧ r.status = St.ok ∧
          r.vand = x.cur.foldl (fun v y => v &&& y.vote) vote ∧ r.vor = x.cur.foldl (fun v y => v ||| y.vote) vote ∧
          (t.xbar b).cur = [] ∧ t.xbarKey b = k + 1) ∧
        (key.toNat + 1 < k.toNat → k ≠ BitVec.allOnes 64 → ∃ t, exec (.xbarArrival g) s = .next t ∧ back t St.syncKeyStale ∧ t.xbars = s.xbars) ∧
        (k.toNat + 1 < key.toNat → key ≠ BitVec.allOnes 64 → ∃ t, exec (.xbarArrival g) s = .next t ∧ back t St.syncKeyAhead ∧ t.xbars = s.xbars))) ∧
     (∀ t0, x.firstAt = some t0 → s.xbarEn b = true → s.xbarLog2 b ≠ 0 → t0 + 2 ^ s.xbarLog2 b ≤ s.clk → x.cur.length < s.xbarN b → x.nxt = [] →
       ∃ t, exec (.xbarDeadline b) s = .next t ∧ (t.xbar b).lastKey = some k ∧ (t.xbar b).lastStatus = St.syncBarMissing ∧
         (t.xbar b).cur = [] ∧ t.xbarKey b = k + 1) ∧
     (∀ p key r, (s.gate g).tgt = [p] → p.typ = 0x31 → p.body = .release b key r → s.cmtAwaits b key = false →
       (∀ ps c, (s.stall ps).sync = some c → c.op = 0xA5 → c.ph = .atMaster → c.index = b → c.key = key → ∃ t, exec (.xbarRelease g) s = .next t ∧
         (t.stall ps).sync = some { c with ph := .answer r.status (XWords r).1 (XWords r).2 true } ∧ (t.xbar b).lastStatus = r.status ∧
         (t.gate g).inq = (s.gate g).inq ++ [s.responseTo p St.ok []]) ∧
       ((∀ ps c, (s.stall ps).sync = some c → c.ph ≠ .atMaster) → ∃ t, exec (.xbarRelease g) s = .next t ∧ (t.xbar b).kept = some (key, r) ∧
         (t.gate g).inq = (s.gate g).inq ++ [s.responseTo p St.ok []])) ∧
     (∀ p v, p ≠ Priv.task →
       (s.xbarEn b = false → exec (.xbarCfgWrite p (0x108 + b * 0x20) v) s =
           .next (answered (s.setDcsr (xbarCfg b + 8) (v &&& 0xFF3FFF7FFF)) St.ok 0 []) ∧
         ∃ t, exec (.xbarCfgWrite p (0x110 + b * 0x20) v) s = .next t ∧ t.resp = { status := St.ok } ∧ t.xbarKey b = v ∧
           (t.xbar b).cur = [] ∧ (t.xbar b).nxt = []) ∧
       (s.xbarEn b = true → exec (.xbarCfgWrite p (0x108 + b * 0x20) v) s = .next (answered s St.syncBusy 0 []) ∧
         exec (.xbarCfgWrite p (0x110 + b * 0x20) v) s = .next (answered s St.syncBusy 0 []))))

namespace Sys2Proof.Claims

/-- The next ring entry has one operation and no fault of its own (R380). -/
def ringAt (s : State) (e : RingEnt) (op : Nat) : Prop :=
  s.ringHead = some e ∧ e.st = St.ok ∧ e.op = op ∧ e.resBad = false

/-- DONE and STATUS have been written to a ring entry, and nothing else to memory (R380). -/
def entryDone (s t : State) (idx : Nat) (st : Status) : Prop :=
  let a := s.ringEntry idx
  let w := s.memLe a 4
  t.mem = writeBytes s.mem a (leBytes 4 (w % 256 + 256 + bits w 15 9 * 512 + st.toNat * 65536))

/-- The answer of a gate to the packet that it took (R386). -/
def answeredAt (s t : State) (g : Nat) (rsp : Packet) : Prop := (t.gate g).tgt = [] ∧ (t.gate g).inq = (s.gate g).inq ++ [rsp]

end Sys2Proof.Claims

/-- The combiner ring: a tail write makes entries available; OPEN arms a reduction as its descriptor says, or completes with COMB_RID_BUSY;
PUSH and ABORT act on an open reduction, or complete with COMB_NOT_OPEN; DIGEST runs and writes the SHA-256 of its bytes; DECIDE ends a held
reduction late, closes it with what was counted, or extends it, and a reduction that is not held is COMB_NOT_HELD (R380 to R384, R394, R451). -/
def Obligations.CombinerRing : Prop :=
  ∀ (s : State), Safety.Canonical s →
    (∀ p v, p ≠ Priv.task → exec (.combRingTailWrite p v) s =
      .next (answered (s.setDcsr (combBase 0 + 0x110) (place 31 0 (fld v 31 0))) St.ok 0 [])) ∧
    (∀ v, exec (.combRingTailWrite .task v) s = .next (answered s St.privilege 0 [])) ∧
    (∀ e, ringAt s e 1 →
      ((∃ r ∈ s.reds, r.rid = e.rid) → ∃ t, exec .combOpen s = .next t ∧ t.reds = s.reds ∧ entryDone s t e.idx St.combRidBusy) ∧
      (∀ bs ms, (∀ r ∈ s.reds, r.rid ≠ e.rid) → e.w 1 % 64 = 0 → s.devRead (e.w 1) 64 = (St.ok, bs) → descBad (leNat bs) = false →
        s.devRead (rf (leNat bs) 0x20 44 0) (2 * rf (leNat bs) 0x0C 14 0) = (St.ok, ms) →
        (halfWords ms).getD (rf (leNat bs) 0x18 14 0) 0x10000 = s.devid → s.reds.length < 16 →
        s.reds.foldl (fun n r => n + r.window) 0 + rf (leNat bs) 0x18 25 16 ≤ 512 →
        ∃ t r, exec .combOpen s = .next t ∧ t.reds = s.reds ++ [r] ∧ r.rid = e.rid ∧ r.epoch = e.epoch ∧ r.nelem = rf (leNat bs) 0 31 0 ∧
          r.ncontrib = rf (leNat bs) 8 23 0 ∧ r.nmemb = rf (leNat bs) 0x0C 14 0 ∧ r.rank = rf (leNat bs) 0x18 14 0 ∧
          r.window = rf (leNat bs) 0x18 25 16 ∧ r.members = halfWords ms ∧ r.state = .opn ∧ r.blks = [] ∧
          t.combHead = (s.combHead + 1) % 2 ^ 32 ∧ t.mem = s.mem)) ∧
    (∀ e, ringAt s e 2 →
      (s.red e.rid e.epoch = none → ∃ t, exec .combPush s = .next t ∧ entryDone s t e.idx St.combNotOpen) ∧
      (∀ r, s.red e.rid e.epoch = some r → ∃ t, exec .combPush s = .next t ∧ t.reds = s.reds ∧ t.mem = s.mem ∧ t.ring = s.ring ++
        [{ idx := e.idx, op := 2, rid := e.rid, epoch := e.epoch, addr := e.w 1, blocks := r.pushOrder }])) ∧
    (∀ e, ringAt s e 3 →
      (s.red e.rid e.epoch = none → ∃ t, exec .combAbort s = .next t ∧ t.reds = s.reds ∧ entryDone s t e.idx St.combNotOpen) ∧
      (∀ r, s.red e.rid e.epoch = some r → ∃ t, exec .combAbort s = .next t ∧ t.red e.rid e.epoch = none ∧
        e.epoch + 1 ≤ Map.get zeroN t.ended e.rid)) ∧
    (∀ e, ringAt s e 5 → (s.ring.filter (fun j => j.op = 5)).length < 4 →
      (e.w 3 ≠ 0 → e.w 4 % 32 = 0 → ∃ t, exec .digest s = .next t ∧ t.mem = s.mem ∧ t.ring = s.ring ++
        [{ idx := e.idx, op := 5, rid := 0, epoch := 0, addr := e.w 1, len := e.w 3, out := e.w 4, task := e.w 5 }]) ∧
      (e.w 3 = 0 ∨ e.w 4 % 32 ≠ 0 → ∃ t, exec .digest s = .next t ∧ entryDone s t e.idx St.combRing ∧ bit (t.dcsr (combBase 0 + 8)) 2 = true)) ∧
    (∀ j bs, s.ring = [j] → j.op = 5 → s.unitRead .kernel j.task 0 j.addr j.len = some (s, St.ok, bs) → soundMemory s →
      j.out + 32 ≤ s.memBytes → s.ringEntry j.idx + 64 ≤ s.memBytes → apart j.out 32 (s.ringEntry j.idx) 64 →
      ∃ t, exec (.digestComplete j.idx false) s = .next t ∧ t.ring = [] ∧ t.memRead j.out 32 = sha256 bs ∧
        bits (t.memLe (s.ringEntry j.idx) 4) 8 8 = 1 ∧ bits (t.memLe (s.ringEntry j.idx) 4) 31 16 = 0) ∧
    (∀ e r, ringAt s e 4 → s.red e.rid e.epoch = some r → r.state = .held →
      (e.action = 0 → ∃ t, exec .decideLate s = .next t ∧ t.red e.rid e.epoch = none ∧ bit (t.dcsr (combBase 0 + 8)) 4 = true) ∧
      (e.action = 1 → r.openOwned = [] → ∃ t, exec .decideDrop s = .next t ∧ entryDone s t e.idx St.ok ∧ t.red e.rid e.epoch =
        some { r with state := .opn, contribDone := true, dropped := true, resultAt := s.clk + r.deadline * 4096 }) ∧
      (e.action = 2 → ∃ t, exec .decideExtend s = .next t ∧ entryDone s t e.idx St.ok ∧ t.red e.rid e.epoch = some { r with
        state := .opn, contribDone := false, contribAt := s.clk + r.deadline * 4096, resultAt := s.clk + 2 * r.deadline * 4096 })) ∧
    (∀ e, ringAt s e 4 → (∀ r, s.red e.rid e.epoch = some r → r.state ≠ .held) →
      (e.action = 0 → ∃ t, exec .decideLate s = .next t ∧ t.reds = s.reds ∧ entryDone s t e.idx St.combNotHeld) ∧
      (e.action = 1 → ∃ t, exec .decideDrop s = .next t ∧ t.reds = s.reds ∧ entryDone s t e.idx St.combNotHeld) ∧
      (e.action = 2 → ∃ t, exec .decideExtend s = .next t ∧ t.reds = s.reds ∧ entryDone s t e.idx St.combNotHeld))

namespace Sys2Proof.Claims

/-- A combiner packet for an open reduction whose group, epoch and descriptor it matches (R386). -/
def forRed (s : State) (g typ : Nat) (p : Packet) (r : Red) (b : Nat) (half : Bool) : Prop :=
  (s.gate g).tgt = [p] ∧ p.typ = typ ∧ (∃ d n i x, p.body = .comb r.rid r.epoch b half r.dchk d n i x) ∧
  s.reds.find? (fun x => x.rid = r.rid) = some r ∧ r.epoch + 1 ≤ Map.get zeroN s.opened r.rid ∧ Map.get zeroN s.ended r.rid ≤ r.epoch ∧
  p.group = r.group

/-- A reduction whose contribution deadline, or whose result deadline, has come (R393). -/
def redOpen (s : State) (r : Red) : Prop :=
  s.reds.find? (fun x => x.rid = r.rid) = some r ∧ r.state = .opn ∧ r.deadline ≠ 0 ∧ s.unitAwake r.res = true

end Sys2Proof.Claims

/-- Contributions and results: an admitted packet adds its elements to the block's accumulators, in any order with the same sum; the last
one closes the block; one beyond the window is answered NAK_RNR and one too many COMB_EXTRA; a member marks the blocks whose results come; a push
sends the blocks of other owners; deadlines hold or end a reduction, and it completes when every block is written (R372 to R374, R382, R386,
R387, R391 to R393, R395, R397). -/
def Obligations.CombinerSumsAndResults : Prop :=
  (∀ (x : Acc) c d, (x.add c).add d = (x.add d).add c) ∧
  (∀ (x : Acc) c n m e, fp32.decode c = .fin n m e → x.add c = { x with a := x.a + sigAt n m e (-149) }) ∧
  ∀ (s : State) (g : Nat), g < 4 → Safety.Canonical s →
    (∀ p r b half, forRed s g 0x20 p r b half →
      (let c := combBase (b % 4)
       (r.admits b = false → ∃ t, exec (.contrib g .clean) s = .next t ∧ t.reds = s.reds ∧
         answeredAt s t g { s.responseTo p St.ok [] with typ := 0x12 } ∧ t.dcsr (c + 0x18) = bump32 1 (s.dcsr (c + 0x18))) ∧
       (r.admits b = true → (r.blk b).st = .opn → (r.halves r.fmt32 b).contains half = true → (r.blk b).count half < r.ncontrib →
         (let r' := r.accumulate b half p.src p.status p.data
          (r'.full b = false → ∃ t, exec (.contrib g .clean) s = .next t ∧ answeredAt s t g (s.responseTo p St.ok []) ∧ t.mem = s.mem ∧
            t.reds.find? (fun x => x.rid = r.rid) = some r') ∧
          (r'.full b = true → ∃ t q, exec (.contrib g .clean) s = .next t ∧ t.reds.find? (fun x => x.rid = r.rid) = some q ∧
            (q.blk b).st = .closedCount ∧ b ∈ q.written))) ∧
       (r.admits b = true → (r.blk b).st = .opn → r.ncontrib ≤ (r.blk b).count half → ∃ t, exec (.contrib g .clean) s = .next t ∧
         t.reds = s.reds ∧ answeredAt s t g (s.responseTo p St.combExtra [])))) ∧
    (∀ r b half dev data i c, Map.wf (fun _ => ({} : Acc)) (r.blk b).acc = true → (elemsOf r.fmt32 (r.elems b) data)[i]? = some c →
      (let at_ := (if half then 256 else 0) + i
       Map.get (fun _ => ({} : Acc)) ((Red.accumulate r b half dev St.ok data).blk b).acc at_ =
         (Map.get (fun _ => ({} : Acc)) (r.blk b).acc at_).add c)) ∧
    (∀ p r b half, forRed s g 0x21 p r b half → (∀ x ∈ s.reds, s.unitAwake x.res = true) → b ∉ r.written →
      ((∃ d n i, p.body = .comb r.rid r.epoch b half r.dchk d n i true) → ∃ t, exec (.result g) s = .next t ∧
        answeredAt s t g (s.responseTo p St.ok []) ∧ t.mem = s.mem ∧
        t.reds.find? (fun x => x.rid = r.rid) = some { r with written := b :: r.written, anyBad := true }) ∧
      (∀ u, p.body = .comb r.rid r.epoch b half r.dchk 0x3FFF false false false → (r.halves r.rfmt32 b).length = 1 →
        (s.setGate g { s.gate g with tgt := [] }).unitWrite .kernel r.task r.tenant
          (r.res + b * 512 * elemSize r.rfmt32 + (if half then 256 * elemSize r.rfmt32 else 0)) p.data = some (u, St.ok) →
        u.reds = s.reds → ∃ t q, exec (.result g) s = .next t ∧ t.mem = u.mem ∧ t.reds.find? (fun x => x.rid = r.rid) = some q ∧
          q.written = b :: r.written ∧ q.anyBad = r.anyBad)) ∧
    (∀ p r b half, forRed s g 0x22 p r b half → ∃ t, exec (.rabort g) s = .next t ∧ t.red r.rid r.epoch = none ∧
      bit (t.dcsr (combBase g + 8)) 4 = true ∧ (t.gate g).tgt = []) ∧
    (∀ r, redOpen s r → r.contribDone = false → r.contribAt ≤ s.clk → r.openOwned ≠ [] →
      (s.hostMode 2 = true → ∃ t, exec (.combContribDeadline r.rid) s = .next t ∧ bit (t.dcsr (combBase g + 8)) 3 = true ∧
        t.reds.find? (fun x => x.rid = r.rid) = some { r with contribDone := true, state := .held }) ∧
      (s.hostMode 2 = false → r.compat = false → ∃ t, exec (.combContribDeadline r.rid) s = .next t ∧ t.red r.rid r.epoch = none ∧
        bit (t.dcsr (combBase g + 8)) 4 = true)) ∧
    (∀ r, redOpen s r → r.resultAt ≤ s.clk → r.left ≠ 0 → s.hostMode 2 = false → ∃ t, exec (.combResultDeadline r.rid) s = .next t ∧
      t.red r.rid r.epoch = none ∧ bit (t.dcsr (combBase g + 8)) 4 = true) ∧
    (∀ j r b data, s.ring = [j] → s.nextPush g = some (j, r, b) → r.ownerOf b ≠ r.rank → s.devidValid = true → s.unitAwake r.res = true →
      s.unitRead .kernel r.task r.tenant (j.addr + b * 512 * elemSize r.fmt32) (r.elems b * elemSize r.fmt32) = some (s, St.ok, data) →
      ∃ t, exec (.pushReadComplete g false) s = .next t ∧ t.mem = s.mem ∧ t.reds = s.reds ∧
        t.ring = [{ j with blocks := j.blocks.erase b, unacked := j.unacked + (r.halves r.fmt32 b).length }]) ∧
    (∀ r, s.reds.find? (fun x => x.rid = r.rid) = some r → r.left = 0 → r.copies = 0 → r.late = false → r.anyBad = false → r.tok = none →
      s.ring = [] → soundMemory s → s.ringEntry r.entry + 64 ≤ s.memBytes → ∃ t, exec (.reductionComplete r.rid) s = .next t ∧
        t.red r.rid r.epoch = none ∧ entryDone s t r.entry St.ok)

/-- The pass interlock and the step registers of a stall that runs: a switch inverts CUR, clears PEND, counts in SWITCHES and from F to B clears
FOK; a FLIP requests a switch or is refused; CUR and AUTO are written while no pass is in progress; STALL_TR_STREAM takes three different
tasks while no stream is in progress; a write of STALL_TR_STEP flushes every triple, then holds the step and sets FOK; TASK is refused (R405 to R410,
R429, R430, R433). -/
def Obligations.TrainingPasses : Prop :=
  ∀ (s : State) (ps : Nat) (p : Priv) (v : Word), Safety.Canonical s → (s.stall ps).pstate = .run →
    (let w := s.scsr ps 0x1A00
     (s.passReady ps = true → ∃ t, exec (.passSwitch ps) s = .next t ∧ t.mem = s.mem ∧
       (let x := t.scsr ps 0x1A00
        fld x 0 0 = 1 - fld w 0 0 ∧ bit x 1 = bit w 1 ∧ bit x 3 = false ∧ fld x 63 32 = (fld w 63 32 + 1) % 2 ^ 32 ∧
        bit x 4 = (bit w 0 && bit w 4))) ∧
     (s.passReady ps = false → exec (.passSwitch ps) s = .next s) ∧
     (p ≠ .task →
       (bit w 1 = true → exec (.passFlip p ps) s = .next (answered s St.badParam 0 [])) ∧
       (bit w 1 = false → bit w 3 = true → exec (.passFlip p ps) s = .next (answered s St.trainBusy 0 [])) ∧
       (bit w 1 = false → bit w 3 = false → bit w 0 = true → bit w 4 = false →
         exec (.passFlip p ps) s = .next (answered s St.trainPassOrder 0 [])) ∧
       (bit w 1 = false → bit w 3 = false → (bit w 0 = true → bit w 4 = true) →
         exec (.passFlip p ps) s = .next (answered (s.setScsr ps 0x1A00 (setFld w 3 3 1)) St.ok 0 [])) ∧
       (bit v 2 = true → exec (.trPassWrite p ps v) s = exec (.passFlip p ps) s) ∧
       (bit v 2 = false → (s.streamBusy ps 0 || s.streamBusy ps 1 || decide (s.blockQ ps ≠ 0)) = true →
         exec (.trPassWrite p ps v) s = .next (answered s St.trainBusy 0 [])) ∧
       (bit v 2 = false → s.streamBusy ps 0 = false → s.streamBusy ps 1 = false → s.blockQ ps = 0 →
         exec (.trPassWrite p ps v) s = .next (answered (s.setScsr ps 0x1A00 (setFld w 1 0 (fld v 1 0))) St.ok 0 [])) ∧
       (bit v 63 = true → (fld v 15 0 = fld v 31 16 ∨ fld v 15 0 = fld v 47 32 ∨ fld v 31 16 = fld v 47 32) →
         exec (.trStreamWrite p ps v) s = .next (answered s St.badParam 0 [])) ∧
       (¬ (bit v 63 = true ∧ (fld v 15 0 = fld v 31 16 ∨ fld v 15 0 = fld v 47 32 ∨ fld v 31 16 = fld v 47 32)) →
         ((∃ k, k < 3 ∧ s.streamBusy ps k = true) → exec (.trStreamWrite p ps v) s = .next (answered s St.trainBusy 0 [])) ∧
         ((∀ k, k < 3 → s.streamBusy ps k = false) → ∃ t, exec (.trStreamWrite p ps v) s = .next t ∧ t.resp = { status := St.ok } ∧
           fld (t.scsr ps 0x1A08) 47 0 = fld v 47 0 ∧ bit (t.scsr ps 0x1A08) 63 = bit v 63)) ∧
       (∃ t, exec (.trStepWrite p ps v) s = .next t ∧ t.resp = { status := St.ok } ∧ t.scsr ps 0x1A10 = v ∧ bit (t.scsr ps 0x1A00) 4 = true ∧
         (t.stall ps).triples = [] ∧ (t.stall ps).flushing = [] ∧ ((s.stall ps).triples = [] → (s.stall ps).flushing = [] → t.mem = s.mem)) ∧
       (∃ t, exec (.statsFlush p ps) s = .next t ∧ t.resp = { status := St.ok } ∧ (t.stall ps).triples = [] ∧ (t.stall ps).flushing = [] ∧
         t.scsr ps 0x1A10 = s.scsr ps 0x1A10)) ∧
     (∀ i ∈ [Instr.passFlip .task ps, .trPassWrite .task ps v, .trStreamWrite .task ps v, .trStepWrite .task ps v, .statsFlush .task ps],
       exec i s = .next (answered s St.privilege 0 [])) ∧
     (∀ x l, (s.stall ps).flushing = x :: l →
       (let a := fld (s.scsr ps 0x1A20) 44 12 * 4096 + x.half * 12288 + x.lgrp * 192 + x.fmt * 24
        (∃ t, exec (.statsFlushComplete ps true) s = .next t ∧ (t.stall ps).flushing = l ∧ bit (t.scsr ps 0x1A38) 0 = true ∧ t.mem = s.mem) ∧
        (soundMemory s → a + 24 ≤ s.memBytes → ∃ t, exec (.statsFlushComplete ps false) s = .next t ∧ (t.stall ps).flushing = l ∧
          t.memLe a 8 = (s.memLe a 8 + x.nconv) % 2 ^ 64 ∧ t.memLe (a + 8) 8 = (s.memLe (a + 8) 8 + x.novf) % 2 ^ 64 ∧
          t.memLe (a + 16) 8 = (s.memLe (a + 16) 8 + x.nflush) % 2 ^ 64 ∧ ∀ b, b + 1 ≤ a ∨ a + 24 ≤ b → t.memRead b 1 = s.memRead b 1))))

namespace Sys2Proof.Claims

/-- The commit controller can write its journal. -/
def journalOk (s : State) : Prop := soundMemory s ∧ s.cmtJrnl + 64 ≤ s.memBytes

/-- Memory holds the journal of the round in a phase, with a vote, and has not changed elsewhere (R448). -/
def journaled (s t : State) (phase : Nat) (vote : BitVec 32) : Prop :=
  t.mem = writeBytes s.mem s.cmtJrnl (journal phase s.cmtAttempt s.cmtStep s.cmtKey vote.toNat)

/-- The controller has sent a vote to the master of its slot and is VOTED (R441). -/
def voted (s t : State) (vote : BitVec 32) : Prop :=
  t.cmt.state = .voted ∧ t.cmt.vote = vote ∧ t.cmt.votedAt = s.clk ∧
    (s.devidValid = true → (∀ m, (s.gate m).trk = []) → ∃ tag e, (t.gate 0).entry tag = some e ∧ e.owner = .vote ∧
      (t.gate 0).inq = (s.gate 0).inq ++ [e.pkt] ∧ e.pkt.typ = 0x30 ∧ e.pkt.dst = s.xbarMaster s.cmtSlot ∧
      e.pkt.body = .arrival s.cmtSlot (fld (s.dcsr (xbarCfg s.cmtSlot + 8)) 29 16) s.cmtKey vote)

/-- The round is decided as a commit: FLIPPING, with the journal in phase COMMIT (R443). -/
def flipsNow (s t : State) : Prop := t.cmt.state = .flipping ∧ t.cmt.dec = true ∧ t.cmt.next = false ∧ journaled s t 3 s.cmt.vote

/-- The round is decided as an abort: ABORTED, with the journal in phase ABORT, KEY advanced and DECIDED set (R443, R446). -/
def abortsNow (s t : State) (skip : Bool) (st : Status) : Prop :=
  t.cmt.state = .aborted ∧ t.cmt.dec = false ∧ t.cmt.next = skip ∧ journaled s t 5 s.cmt.vote ∧ t.cmtKey = s.cmtKey + 1 ∧
    bit (t.dcsr (cmtBase + 0x50)) 0 = true ∧
    t.cmt.status = if s.cmtAttempt = 255 ∧ skip = false then St.cmtAttempts else st

end Sys2Proof.Claims

/-- The rounds of the commit controller: OPEN, PREPARE, ABORT and RESOLVE in the states that take them, CMT_STATE in others; the vote once
its conditions hold; the decision of a release, native or compatible, with its skip; DOUBT after the limit; each with its journal (R440 to R444,
R446, R448). -/
def Obligations.CommitRounds : Prop :=
  ∀ (s : State) (p : Priv), Safety.Canonical s →
    (∀ i ∈ [Instr.cmtOpen .task, .cmtPrepare .task, .cmtAbort .task, .cmtResolve .task true, .cmtResolve .task false, .cmtFinish .task],
      exec i s = .next (answered s St.privilege 0 [])) ∧
    (p ≠ .task →
      (let c := s.cmt.state
       let config := s.cmtStep ≠ 0 ∧ s.cmtEntries ≠ 0 ∧ s.cmtJrnl ≠ 0 ∧ s.xbarEn s.cmtSlot = true
       (c ≠ .idle → c ≠ .committed → c ≠ .aborted → exec (.cmtOpen p) s = .next (answered s St.cmtState 0 [])) ∧
       (c = .idle ∨ c = .committed ∨ c = .aborted →
         (¬ config → exec (.cmtOpen p) s = .next (answered s St.cmtConfig 0 [])) ∧
         (config → journalOk s → s.hostMode 3 = false → ∃ t, exec (.cmtOpen p) s = .next t ∧ t.resp = { status := St.ok } ∧
           t.cmt.state = .opn ∧ t.cmt.vote = 0 ∧ journaled s t 1 0 ∧
           t.dcsr (combBase 0 + 0x500 + s.cmtStep % 4 * 16) = s.dcsr (cmtBase + 8) ∧
           (s.drainDue = true → t.cmt.ckState = 1 ∧ t.cmt.ckStep = s.cmtStep) ∧ (s.drainDue = false → t.cmt.ckState = s.cmt.ckState))) ∧
       (c = .opn → exec (.cmtPrepare p) s = .next (answered (s.setCmt { s.cmt with state := .preparing }) St.ok 0 [])) ∧
       (c ≠ .opn → exec (.cmtPrepare p) s = .next (answered s St.cmtState 0 [])) ∧
       (c = .opn ∨ c = .preparing → journalOk s → ∃ t, exec (.cmtAbort p) s = .next t ∧ t.resp = { status := St.ok } ∧ voted s t 0 ∧ journaled s t 2 0) ∧
       (c ≠ .opn → c ≠ .preparing → exec (.cmtAbort p) s = .next (answered s St.cmtState 0 [])) ∧
       (c = .doubt → journalOk s → (∃ t, exec (.cmtResolve p true) s = .next t ∧ flipsNow s t ∧ t.resp = { status := St.ok }) ∧
         (∃ t, exec (.cmtResolve p false) s = .next t ∧ abortsNow s t false St.cmtAbort ∧ t.resp = { status := St.ok })) ∧
       (c ≠ .doubt → ∀ d, exec (.cmtResolve p d) s = .next (answered s St.cmtState 0 [])))) ∧
    (s.cmt.state = .preparing → s.voteReady = true → journalOk s → ∃ t, exec .cmtVote s = .next t ∧ voted s t s.voteWord ∧
      journaled s t 2 s.voteWord) ∧
    (s.cmt.state = .preparing → s.voteReady = false → exec .cmtVote s = .next s) ∧
    (∀ g q r, (s.gate g).tgt = [q] → q.typ = 0x31 → q.body = .release s.cmtSlot s.cmtKey r → s.cmt.state = .voted ∨ s.cmt.state = .doubt →
      (∀ ps, (s.stall ps).sync = none) → journalOk s →
      (let a := r.vand.toNat
       let o := r.vor.toNat
       let agree := (a ^^^ o) &&& 0xFFFFFF10 = 0 ∧ a % 4 = 3
       let skip := bit s.cmtCfg 5 && decide (r.nmiss = 0) && o.testBit 2 && !o.testBit 3
       ∃ t, exec (.xbarRelease g) s = .next t ∧ (t.gate g).inq = (s.gate g).inq ++ [s.responseTo q St.ok []] ∧
         (bit s.cmtCfg 4 = false → r.status = St.ok ∧ r.nmiss = 0 ∧ agree → flipsNow s t) ∧
         (bit s.cmtCfg 4 = false → ¬ (r.status = St.ok ∧ r.nmiss = 0 ∧ agree) → abortsNow s t skip St.cmtAbort) ∧
         (bit s.cmtCfg 4 = true → (r.status = St.ok ∨ r.status = St.syncBarMissing) ∧ r.nmiss ≤ fld s.cmtCfg 23 8 ∧ agree → flipsNow s t) ∧
         (bit s.cmtCfg 4 = true → ¬ ((r.status = St.ok ∨ r.status = St.syncBarMissing) ∧ r.nmiss ≤ fld s.cmtCfg 23 8 ∧ agree) →
           abortsNow s t skip St.cmtAbort))) ∧
    (s.cmt.state = .voted →
      (s.clk < s.cmt.votedAt + 2 ^ fld s.cmtCfg 31 24 → exec .cmtDoubt s = .next s) ∧
      (s.cmt.votedAt + 2 ^ fld s.cmtCfg 31 24 ≤ s.clk → ∃ t, exec .cmtDoubt s = .next t ∧ t.cmt = { s.cmt with state := .doubt, status := St.cmtDoubt } ∧
        bit (t.dcsr (cmtBase + 0x50)) 1 = true ∧ t.mem = s.mem))

/-- FINISH, flips and checkpoint drains: FINISH takes the step and key of a good journal and goes on from its phase, and refuses another;
a flip inverts CUR and sets CSTEP of every entry that the step registered, and no other, then journals FLIPPED; a drain ends with its
registers as R454 says, or incomplete (R443, R448, R449, R453, R454, R457). -/
def Obligations.CommitRecovery : Prop :=
  ∀ (s : State) (p : Priv), Safety.Canonical s →
    (p ≠ .task →
      (s.cmt.state ≠ .idle → exec (.cmtFinish p) s = .next (answered s St.cmtState 0 [])) ∧
      (s.cmt.state = .idle → journalOk s →
        (let j := s.memLe s.cmtJrnl 64
         let phase := rf j 0 7 0
         let good := 1 ≤ phase ∧ phase ≤ 5 ∧ rf j 0x18 63 32 = crc32c (s.memRead s.cmtJrnl 28)
         let took := fun (t : State) => t.resp = { status := St.ok } ∧ t.cmtStep = rf j 8 55 0 ∧ t.cmtAttempt = rf j 0 15 8
         let key := BitVec.ofNat 64 (rf j 0x10 63 0)
         let vote := BitVec.ofNat 32 (rf j 0x18 31 0)
         (¬ good → exec (.cmtFinish p) s = .next (answered s St.cmtNoJournal 0 [])) ∧
         (good → ∃ t, exec (.cmtFinish p) s = .next t ∧ took t ∧
           (phase = 1 → t.cmt.state = .voted ∧ t.cmt.vote = 0 ∧ t.cmtKey = key ∧ rf (t.memLe s.cmtJrnl 64) 0 7 0 = 2) ∧
           (phase = 2 → t.cmt.state = .voted ∧ t.cmt.vote = vote ∧ t.cmtKey = key ∧ t.mem = s.mem) ∧
           (phase = 3 → t.cmt.state = .flipping ∧ t.cmt.finishing = true ∧ t.cmtKey = key ∧ t.mem = s.mem) ∧
           (phase = 4 → t.cmt.state = .committed ∧ t.cmtKey = key + 1 ∧ t.mem = s.mem) ∧
           (phase = 5 → t.cmt.state = .aborted ∧ t.cmtKey = key + 1 ∧ t.mem = s.mem))))) ∧
    (s.cmt.state ≠ .flipping → ∀ ue, exec (.cmtFlipComplete ue) s = .next s) ∧
    (s.cmt.state = .flipping → journalOk s → s.cmtTable + 64 * s.cmtEntries ≤ s.memBytes →
      apart s.cmtTable (64 * s.cmtEntries) s.cmtJrnl 64 →
      ∃ t, exec (.cmtFlipComplete []) s = .next t ∧ t.cmt.state = .committed ∧ t.cmt.status = St.ok ∧ t.cmtKey = s.cmtKey + 1 ∧
        bit (t.dcsr (cmtBase + 0x50)) 0 = true ∧ t.memRead s.cmtJrnl 64 = journal 4 s.cmtAttempt s.cmtStep s.cmtKey s.cmt.vote.toNat ∧
        ∀ h, h < s.cmtEntries →
          (let a := s.cmtTable + 64 * h
           let e := s.memLe a 64
           let mine := rf e 8 0 0 = 1 ∧ rf e 0 47 0 = s.cmtStep % 2 ^ 40 + s.cmtAttempt * 2 ^ 40 ∧
             (s.cmt.finishing = true → rf e 0x28 63 0 ≠ s.cmtStep)
           (mine → t.memRead a 8 = s.memRead a 8 ∧ t.memLe (a + 8) 8 = s.memLe (a + 8) 8 ^^^ 2 ∧
             t.memRead (a + 16) 24 = s.memRead (a + 16) 24 ∧ t.memLe (a + 0x28) 8 = s.cmtStep ∧
             t.memRead (a + 0x30) 16 = s.memRead (a + 0x30) 16) ∧
           (¬ mine → t.memRead a 64 = s.memRead a 64))) ∧
    (s.cmt.ckState = 0 → ∀ f, exec (.ckptDrainEnd f) s = .next s) ∧
    (s.cmt.ckState ≠ 0 → ∀ f, ∃ t, exec (.ckptDrainEnd f) s = .next t ∧ t.cmt.ckState = 0 ∧ t.cmt.ckStatus = (s.drain f).2.1 ∧
      (if (s.drain f).2.1 = St.ok then t.cmt.ckRetry = false ∧ t.cmt.ckLast = (s.drain f).2.2.1 ∧ t.cmt.ckLstep = s.cmt.ckStep ∧
          bit (t.dcsr (cmtBase + 0x50)) 2 = true ∧
          t.dcsr (cmtBase + 0x60) = BitVec.ofNat 64 (cdiv (s.drain f).2.2.2 (2 ^ 30) * 2 ^ 30)
        else t.cmt.ckRetry = true ∧ bit (t.dcsr (cmtBase + 0x50)) 3 = true ∧ t.cmt.ckLast = s.cmt.ckLast))

/-- Lottery arbiters, each cycle of one: the generator always advances; with nobody raised the grant parks on its last owner; a draw over
raised requesters has a winner among them, which holds the grant, unless the instance is frozen; a privileged owner keeps its grant while raised, and a
non-privileged one does not; a parked owner alone uses the resource with no draw; consecutive cycles with another raised are counted (R463, R465,
R467 to R470). -/
def Sys2Proof.Claims.ArbiterDraws : Prop :=
  ∀ (s : State) (k i : Nat) (l : List (Nat × Nat)), (∀ r ∈ l, r.1 < 8) → (s.arb (arbKey k i)).ignored = none →
    (let a := s.arb (arbKey k i)
     let gives := fun (b : ArbInst) => exec (.arbDraw k i l) s = .next (s.setArb (arbKey k i) { b with lfsr := lfsrStep a.lfsr })
     (arbCount k ≤ i → exec (.arbDraw k i l) s = .next s) ∧
     (i < arbCount k →
       (∃ b, gives b ∧ b.frozen = a.frozen ∧ b.ignored = none) ∧
       (l = [] → gives { a with granted := false, wait := 0 }) ∧
       (l ≠ [] → ∃ w ∈ l, s.arbWinner k a.lfsr l = some w ∧ (a.owner = none → a.frozen = false → gives { a with owner := some w, granted := true, wait := 0 })) ∧
       (a.owner = none → a.frozen = true → gives { a with granted := false, wait := 0 }) ∧
       (∀ o, a.owner = some o →
         (a.granted = true → arbPriv k o.1 = true → o ∈ l →
           gives { a with wait := if l.filter (· ≠ o) = [] then 0 else a.wait + 1 }) ∧
         (a.granted = true → arbPriv k o.1 = false → o ∈ l → l.filter (· ≠ o) ≠ [] → a.frozen = false →
           ∃ w ∈ l, w ≠ o ∧ gives { a with owner := some w, granted := true, wait := 0 }) ∧
         (a.granted = true → o ∉ l → l ≠ [] → a.frozen = false → ∃ w ∈ l, gives { a with owner := some w, granted := true, wait := 0 }) ∧
         (a.granted = false → l = [o] → a.frozen = false → gives { a with granted := arbPriv k o.1, wait := 0 }) ∧
         (a.granted = false → l = [o] → a.frozen = true → gives a) ∧
         (a.granted = false → (∃ r ∈ l, r ≠ o) → a.frozen = false → ∃ w, s.arbWinner k a.lfsr l = some w ∧
           gives { a with owner := some w, granted := true, wait := if w = o then a.wait + 1 else 0 }))))

/-- Arbiter control: FREEZE of an instance at TACK, with its bounds; a seed loads every generator, none of them zero; the watchdog takes the
grant after 2^20 cycles, records the owner and ends the transaction that it held with ARB_WDOG (R463, R469, R470, R476). -/
def Sys2Proof.Claims.ArbiterControl : Prop :=
  ∀ (s : State) (v : Word), Safety.Canonical s →
    (∀ p, p ≠ Priv.tack → exec (.arbFreeze p v) s = .next (answered s St.privilege 0 []) ∧
      exec (.arbSeedWrite p v) s = .next (answered s St.privilege 0 [])) ∧
    (let k := arbKey (fld v 1 0) (fld v 22 8)
     (arbCount (fld v 1 0) ≤ fld v 22 8 → exec (.arbFreeze .tack v) s = .next (answered s St.badParam 0 [])) ∧
     (fld v 22 8 < arbCount (fld v 1 0) → ∃ t, exec (.arbFreeze .tack v) s = .next t ∧ t.resp = { status := St.ok } ∧
       t.arbs = (s.setArb k { s.arb k with frozen := bit v 31 }).arbs ∧ fld (t.dcsr arbBase) 1 0 = fld v 1 0 ∧ fld (t.dcsr arbBase) 22 8 = fld v 22 8)) ∧
    (∃ t, exec (.arbSeedWrite .tack v) s = .next t ∧ t.resp = { status := St.ok } ∧ fld (t.dcsr (arbBase + 0x28)) 31 0 = fld v 31 0 ∧
      Safety.lotteryOk t = true ∧ ∀ k i, i < arbCount k → t.arb (arbKey k i) = { s.arb (arbKey k i) with lfsr := lfsrSeed (fld v 31 0) (arbKey k i) }) ∧
    (∀ k i req, i < arbCount k →
      (let a := s.arb (arbKey k i)
       (a.wait < 2 ^ 20 → exec (.arbWatchdogBite k i req) s = .next (rearmed s)) ∧
       (∀ o, 2 ^ 20 ≤ a.wait → a.owner = some o → ∃ t, exec (.arbWatchdogBite k i req) s = .next t ∧
         t.arbs = (s.setArb (arbKey k i) { a with granted := false, owner := none, wait := 0, ignored := some o }).arbs ∧
         bit (t.dcsr (arbBase + 0x30)) 0 = true ∧
         (let w := t.dcsr (arbBase + 0x38)
          fld w 1 0 = k ∧ fld w 22 8 = i ∧ fld w 26 24 = o.1 % 8 ∧ fld w 37 32 = o.2 % 64 ∧ bit w 63 = true ∧
          bit w 62 = bit (s.dcsr (arbBase + 0x38)) 63) ∧
         t.dcsr (arbBase + 0x40) = bump32 1 (s.dcsr (arbBase + 0x40)) ∧
         (req = none → s.tack.agg.length < 1024 → ∃ r, t.tack.agg = s.tack.agg ++ [r] ∧ r.status = St.arbWdog ∧ r.cls = 11) ∧
         (∀ id r, k ≠ 1 → req = some id → s.req id = some r → r.phase = .endpoint →
           t.req id = some { r with phase := .back, pos := r.path.length - 1, status := St.arbWdog, data := [] }))))

namespace Sys2Proof.Claims

/-- The order of candidates for source `n`: GROOM_PRIO, then the groom number counted from above the last one chosen (R473). -/
def turn (s : State) (n g : Nat) : Nat :=
  fld ((s.groom (s.gctx g)).reg 0x78) 3 0 * 4096 + (g + 4096 - Map.get (fun _ => 4095) s.lastG n - 1) % 4096

/-- Source `n` waits to be delivered. -/
def waiting (s : State) (n : Nat) : Prop := n ∈ s.pendingSrcs ∧ ∀ d ∈ s.started, d.src ≠ n

end Sys2Proof.Claims

/-- Interrupts: a delivery starts for the pending source of highest PRIO, then lowest number, to the candidate whose turn comes first; on
arrival an eligible groom enters at the source's VEC and DELIV is set, a groom that is no longer eligible refuses it, and a source that has ended is
not delivered; EOI re-arms a source; software sources are set and cleared (R86, R471 to R474, R477). -/
def Obligations.InterruptDelivery : Prop :=
  ∀ (s : State) (v : Word), Safety.Canonical s →
    (∀ n g, waiting s n → (∀ m, waiting s m → m ≠ n → s.srcPrio m < s.srcPrio n ∨ (s.srcPrio m = s.srcPrio n ∧ n < m)) →
      g ∈ s.candidates n → (∀ h ∈ s.candidates n, h ≠ g → turn s n g < turn s n h) →
      exec .intcDeliveryStart s = .next { s with
        started := s.started ++ [{ src := n, g := g, t0 := s.clk }], lastG := Map.set (fun _ => 4095) s.lastG n g }) ∧
    ((∀ n, ¬ waiting s n) → exec .intcDeliveryStart s = .next s) ∧
    (∀ d, s.started.find? (fun x => x.src = d.src) = some d → ready s (s.gctx d.g) → (s.groom (s.gctx d.g)).asyncErr = [] →
      s.csrLoadOut (s.gctx d.g) = false →
      (let gi := s.gctx d.g
       let g := s.groom gi
       let out := s.started.filter (fun x => x.src ≠ d.src)
       (s.asserted d.src = true → g.ie = true → g.exl = false → ∃ t, exec (.intcDeliveryArrive d.src) s = .next t ∧
         t.groom gi = enteredGroom g 7 St.ok none g.pc false (fld (s.srcReg d.src) 21 6 * 64) ∧ (∀ gj, gj ≠ gi → t.groom gj = s.groom gj) ∧
         t.deliv = s.deliv ++ [d.src] ∧ t.started = out ∧ t.mem = s.mem ∧ t.csr = s.csr) ∧
       (s.asserted d.src = false ∨ g.ie = false ∨ g.exl = true → exec (.intcDeliveryArrive d.src) s = .next { s with started := out }))) ∧
    (∀ p, p ≠ Priv.task →
      (1151 < fld v 10 0 → exec (.intcEoiWrite p v) s = .next (answered s St.badParam 0 [])) ∧
      (fld v 10 0 ≤ 1151 → exec (.intcEoiWrite p v) s =
        .next (answered { s with deliv := s.deliv.filter (fun n => n ≠ fld v 10 0) } St.ok 0 [])) ∧
      (∃ t, exec (.swiSet p v) s = .next t ∧ t.resp = { status := St.ok } ∧ t.swi = s.swi ||| v ∧
        (∀ n, n < 64 → t.asserted (1088 + n) = (bit s.swi n || bit v n)) ∧ ∀ n, n ∈ t.deliv ↔ n ∈ s.deliv ∧ t.asserted n = true) ∧
      (∃ t, exec (.swiClr p v) s = .next t ∧ t.resp = { status := St.ok } ∧ t.swi = s.swi &&& ~~~v ∧
        (∀ n, n < 64 → t.asserted (1088 + n) = (bit s.swi n && !bit v n)) ∧ ∀ n, n ∈ t.deliv ↔ n ∈ s.deliv ∧ t.asserted n = true)) ∧
    (∀ i ∈ [Instr.intcEoiWrite .task v, .swiSet .task v, .swiClr .task v], exec i s = .next (answered s St.privilege 0 []))

/-- Lottery arbiters and their control (R463, R465, R467 to R470, R476). -/
def Obligations.Arbiters : Prop :=
  Claims.ArbiterDraws ∧ Claims.ArbiterControl

namespace Sys2Proof.Claims

/-- Something serves halter. -/
def served (s : State) : Prop := s.tack.takeover = false ∧ s.hostServed = true

/-- The command that a packet of a session spells. -/
def spelt (s : State) (p : HalterPkt) (d : Sess) : CpCmd :=
  { session := hSession p.bytes, seq := hSeq p.bytes, opcode := hOpcode p.bytes, params := p.bytes.drop 32, at_ := s.clk, src := p.src,
    mgmt := d.mgmt, raw := p.bytes }

/-- A packet that passes checks 1 and 2: version and length (R490). -/
def wellSized (l : List Byte) : Prop := hVer l = 1 ∧ l.length = 32 + hPlen l ∧ hPlen l ≤ 1408

end Sys2Proof.Claims

/-- Halter packets and sessions: a request is lost while nothing serves it; version, length, session, AUTH, order and room are checked in this
order; one in order is queued, one ahead is held, a repeated one is answered from the cache; holds and sessions expire; a timeout, a close and an event
resend (R482, R483, R487 to R491, R501). -/
def Sys2Proof.Claims.HalterPackets : Prop :=
  ∀ (s : State) (port : Nat) (p : HalterPkt), Safety.Canonical s →
    (let l := p.bytes
     let tells := fun (t : State) (st : Status) (key : Option (List Byte)) =>
       t.outbox = [{ dst := p.src, bytes := hostPacket 3 (hOpcode l) (hSession l) (hSeq l) st [] key }]
     let quiet := { s with outbox := [] }
     (¬ served s → exec (.halterRequest port p) s = .next quiet) ∧
     (served s → hVer l ≠ 1 → exec (.halterRequest port p) s = .next
       { s with outbox := [{ dst := p.src, bytes := hostPacket 3 (hOpcode l) (hSession l) (hSeq l) St.haltVersion [] none }] }) ∧
     (served s → hVer l = 1 → ¬ wellSized l → exec (.halterRequest port p) s = .next
       { s with outbox := [{ dst := p.src, bytes := hostPacket 3 (hOpcode l) (hSession l) (hSeq l) St.haltLen [] none }] }) ∧
     (served s → wellSized l →
       ((hSession l = 0 ∧ hOpcode l ≠ 1) ∨ (hSession l ≠ 0 ∧ s.session (hSession l) = none) → exec (.halterRequest port p) s = .next
         { s with outbox := [{ dst := p.src, bytes := hostPacket 3 (hOpcode l) (hSession l) (hSeq l) St.haltSession [] none }] }) ∧
       (hSession l = 0 → hOpcode l = 1 → hSeq l = 0 → s.session 0 = none → s.cpFull p.mgmt = false →
         exec (.halterRequest port p) s = .next { s with outbox := [], cpq := s.cpq ++ [{ spelt s p
           { mgmt := p.mgmt, key := [], src := 0, hnonce := [], openAt := 0, firstReply := [], lastAt := 0 } with session := 0 }] }) ∧
       (∀ d, hSession l ≠ 0 → s.session (hSession l) = some d →
         (let c := spelt s p d
          ((l.drop 16).take 16 ≠ authOf d.key l → ∃ t, exec (.halterRequest port p) s = .next t ∧ t.outbox = [] ∧ t.cpq = s.cpq ∧ t.sess = s.sess ∧
            t.dcsr (hostifBase + 0x30) = bump32 1 (s.dcsr (hostifBase + 0x30)) ∧ bit (t.dcsr (hostifBase + 0x28)) 0 = true) ∧
          ((l.drop 16).take 16 = authOf d.key l →
            (c.seq = d.n + 1 → s.cpFull d.mgmt = true → ∃ t, exec (.halterRequest port p) s = .next t ∧ tells t St.haltBusy (some d.key) ∧ t.cpq = s.cpq) ∧
            (c.seq = d.n + 1 → s.cpFull d.mgmt = false → d.hold = [] → (∀ x ∈ s.cpq ++ [c], hostOpDefined x.opcode = true) →
              exec (.halterRequest port p) s = .next ({ s with outbox := [], cpq := s.cpq ++ [c] }.setSession c.session
                (some { d with n := c.seq, lastAt := s.clk }))) ∧
            (d.n + 2 ≤ c.seq → c.seq ≤ d.n + 16 → (∀ x ∈ d.hold, x.seq ≠ c.seq) → ∃ t, exec (.halterRequest port p) s = .next t ∧ t.outbox = [] ∧
              t.cpq = s.cpq ∧ t.session c.session = some { d with lastAt := s.clk, hold := d.hold ++ [c] }) ∧
            (∀ b, c.seq ≤ d.n → d.n < c.seq + 64 → d.cache.find? (fun e => e.1 = c.seq) = some (c.seq, b) → ∃ t,
              exec (.halterRequest port p) s = .next t ∧ t.outbox = [{ dst := p.src, bytes := b }] ∧ t.cpq = s.cpq) ∧
            (d.n + 16 < c.seq ∨ c.seq + 64 ≤ d.n → ∃ t, exec (.halterRequest port p) s = .next t ∧ tells t St.haltSeq (some d.key) ∧
              t.cpq = s.cpq))))) ∧
     (∀ i d, s.session i = some d →
       (∀ q, ∃ t e, exec (.halterSeqHoldExpire i q) s = .next t ∧ t.session i = some e ∧ e.n = d.n ∧
         ∀ c, c ∈ e.hold ↔ c ∈ d.hold ∧ (c.seq = q → s.clk < c.at_ + 250000000)) ∧
       (s.clk < d.lastAt + 150000000000 → exec (.sessionTimeout i) s = .next s) ∧
       (d.lastAt + 150000000000 ≤ s.clk → ∃ t, exec (.sessionTimeout i) s = .next t ∧ t.session i = none ∧ ∀ j, j ≠ i → t.session j = s.session j) ∧
       (served s → exec (.eventResend i) s = .next { s with outbox := (d.events.take 16).map (fun e =>
         { dst := d.src, bytes := hostPacket 4 0x0780 i 0 St.ok (eventBytes e) (some d.key) }) })))

namespace Sys2Proof.Claims

/-- The command processor's head is a command `c` of an open session, whose opcode is `op` and which no earlier check stops; the others
behind it have opcodes of the table. -/
def hostAt (s : State) (c : CpCmd) (l : List CpCmd) (d : Sess) (op : Nat) : Prop :=
  s.cpq = c :: l ∧ c.opcode = op ∧ s.tack.takeover = false ∧ s.earlyOk op = true ∧ hReserved c.raw = false ∧
    s.session c.session = some d ∧ ∀ x ∈ l, hostOpDefined x.opcode = true

/-- The processor has taken its head. -/
def taken (s : State) (l : List CpCmd) : State := { s with cpq := l, outbox := [] }

/-- A command of the head ends: the last reply, and what the processor does next (R489). -/
def ends (u : State) (c : CpCmd) (d : Sess) (st : Status) (data : List Byte) : State := (u.replyTo c (some d.key) true st data).skipUndefined 320

/-- `t` is the state after a last reply with a status and data: one packet with REPLY and FINAL (R482, R489). -/
def replied (t : State) (c : CpCmd) (d : Sess) (l : List CpCmd) (st : Status) (data : List Byte) : Prop :=
  t.outbox = [{ dst := c.src, bytes := hostPacket 3 c.opcode c.session c.seq st data (some d.key) }] ∧ t.cpq = l

/-- `t` is the state after a long command was accepted: a packet with REPLY, and the command in progress (R489). -/
def accepted (s t : State) (c : CpCmd) (d : Sess) (l : List CpCmd) (res : Option (Status × List Byte)) : Prop :=
  t.outbox = [{ dst := c.src, bytes := hostPacket 1 c.opcode c.session c.seq St.ok [] (some d.key) }] ∧ t.cpq = l ∧
    t.longs = s.longs ++ [{ cmd := c, res := res }]

/-- Rows of R493 with a parameter size and no reserved parameter, and whether MGMT alone may use them. -/
def sizedRows : List (Instr × Nat × Nat × Bool) :=
  [(.sessionClose, 2, 0, false), (.devInfo, 3, 0, false), (.csrRead, 4, 9, false), (.csrWrite, 5, 16, false), (.memRead, 0x101, 12, false),
   (.bayRelease, 0x103, 1, false), (.bayState, 0x104, 1, false), (.chanReclaim, 0x105, 2, false), (.mrDereg, 0x107, 4, false),
   (.qpCreate, 0x108, 36, false), (.qpDestroy, 0x109, 4, false), (.groomHalt, 0x203, 3, false), (.queueCtl, 0x204, 3, false),
   (.taskEnd, 0x205, 2, false), (.neighRead, 0x301, 0, false), (.portCtl, 0x306, 3, false), (.cmtCmd, 0x401, 2, false),
   (.stepRead, 0x402, 1, false), (.ckptRead, 0x404, 0, false), (.pstateSet, 0x503, 2, false), (.attest, 0x603, 32, false),
   (.attestRead, 0x604, 4, false), (.teleRead, 0x701, 1, false), (.evtSubscribe, 0x702, 4, false), (.evtAck, 0x703, 4, false)]

end Sys2Proof.Claims

/-- The checks of a halter command at the processor's head: rows of MGMT refuse CTRL with PRIVILEGE; reserved header bits are RESERVED_SET; a
parameter size that the row does not have is BAD_PARAM; before PHASE 7 others than the early commands are STUP_NOT_READY; a command that is not at
the head, or comes up during a takeover, changes nothing (R484, R490, R492, R493, R509). -/
def Sys2Proof.Claims.HostChecks : Prop :=
  ∀ (s : State) (c : CpCmd) (l : List CpCmd) (d : Sess), s.cpq = c :: l → s.session c.session = some d →
    (∀ e ∈ ([(.modeSet, 6), (.spareSet, 7), (.devidSet, 0x302), (.routeWrite, 0x303), (.groupRestore, 0x403), (.coolClear, 0x501),
        (.powerCap, 0x502), (.fwStage, 0x601), (.fwActivate, 0x602)] : List (Instr × Nat)),
      c.opcode = e.2 → s.tack.takeover = false → c.mgmt = false → exec e.1 s = .next (ends (taken s l) c d St.privilege [])) ∧
    (∀ e ∈ sizedRows, c.opcode = e.2.1 → s.tack.takeover = false →
      (hReserved c.raw = true → exec e.1 s = .next (ends (taken s l) c d St.reservedSet [])) ∧
      (hReserved c.raw = false → c.params.length ≠ e.2.2.1 → exec e.1 s = .next (ends (taken s l) c d St.badParam []))) ∧
    (∀ e ∈ ([(.neighRead, 0x301), (.ckptRead, 0x404)] : List (Instr × Nat)),
      c.opcode = e.2 → s.tack.takeover = false → hReserved c.raw = false → c.params = [] → s.earlyOk e.2 = false →
      exec e.1 s = .next (ends (taken s l) c d St.stupNotReady [])) ∧
    (∀ e ∈ sizedRows, c.opcode ≠ e.2.1 ∨ s.tack.takeover = true → exec e.1 s = .next s) ∧
    (∀ u st data, (∀ x ∈ u.cpq, hostOpDefined x.opcode = true) → u.outbox = [] → ∀ e, u.session c.session = some e →
      ends u c d st data = { u.setSession c.session (some (e.remember c.seq (hostPacket 3 c.opcode c.session c.seq st data (some d.key)))) with
        outbox := [{ dst := c.src, bytes := hostPacket 3 c.opcode c.session c.seq st data (some d.key) }] })

/-- The commands of identity, registers and memory: an open session has the key of R485; a close ends it; DEV_INFO, register reads and writes, MODE_SET,
memory reads and writes at the privilege of the session, the units that SPARE_SET spares, bays and channels, and the RoCE resources (R29, R35,
R294, R485 to R487, R493 to R496, R499, R500, R546). -/
def Obligations.HostDeviceCommands : Prop :=
  ∀ (s : State) (c : CpCmd) (l : List CpCmd) (d : Sess), Safety.Canonical s → s.nextSess ≠ 0 →
    (let p := c.params
     let n := fun (at_ k : Nat) => hb p at_ k
     (∀ key, s.cpq = c :: l → c.opcode = 1 → s.tack.takeover = false → s.openKey c = some key → hReserved c.raw = false → n 1 1 = 0 → p.length = 20 →
       (∀ e ∈ s.sess, ∀ x, e.2 = some x → x.hnonce ≠ (p.drop 4).take 16) → s.sessCount false + s.sessCount true < 64 →
       (c.mgmt = false → s.sessCount false < 56) → (∀ x ∈ l, hostOpDefined x.opcode = true) → ∃ t x, exec .sessionOpen s = .next t ∧
       (let dn := fixLen 16 (Config.dnonce s.free)
        t.session s.nextSess = some x ∧ t.nextSess = s.nextSess + 1 ∧ x.mgmt = c.mgmt ∧ x.n = 0 ∧ x.src = c.src ∧
        x.key = hmac key ((p.drop 4).take 16 ++ dn ++ leBytes 4 s.nextSess) ∧ t.cpq = l ∧
        t.outbox = [{ dst := c.src, bytes := hostPacket 3 1 0 0 St.ok (leBytes 4 s.nextSess ++ dn) (some x.key) }])) ∧
     (hostAt s c l d 2 → p = [] → ∃ t, exec .sessionClose s = .next t ∧ replied t c d l St.ok [] ∧ t.session c.session = none) ∧
     (hostAt s c l d 3 → p = [] → ∃ t, exec .devInfo s = .next t ∧ replied t c d l St.ok s.devInfo) ∧
     (hostAt s c l d 4 → p.length = 9 → n 8 1 = 1 → ∀ u st bs, (taken s l).hostCsrRead c.priv (n 0 8) = some (u, st, bs) →
       (st = St.ok → exec .csrRead s = .next (ends u c d st (leBytes 1 1 ++ leBytes 3 0 ++ bs))) ∧
       (st ≠ St.ok → exec .csrRead s = .next (ends u c d st (leBytes 1 0 ++ leBytes 3 0)))) ∧
     (hostAt s c l d 5 → p.length = 16 → ∀ u st, (taken s l).hostCsrWrite c.priv (n 0 8) (BitVec.ofNat 64 (n 8 8)) = some (u, st) →
       exec .csrWrite s = .next (ends u c d st [])) ∧
     (hostAt s c l d 6 → c.mgmt = true → p.length = 2 →
       (n 0 2 ≤ 0x7F → ∃ t, exec .modeSet s = .next t ∧ replied t c d l St.ok (leBytes 2 (s.dcsr hostifBase).toNat) ∧
         t.dcsr hostifBase = BitVec.ofNat 64 (n 0 2)) ∧
       (0x7F < n 0 2 → ∃ t, exec .modeSet s = .next t ∧ replied t c d l St.reservedSet [] ∧ t.csr = s.csr)) ∧
     (hostAt s c l d 7 → c.mgmt = true → s.hostMode 6 = true → p.length = 8 → n 1 1 = 0 →
       (n 0 1 = 0 → n 2 2 < 514 → n 4 4 < 288 → bypassed (s.scsr (n 4 4) 0x1420) (n 2 2) = false →
         (colsLeft (s.scsr (n 4 4) 0x1420) = 0 → ∃ t, exec .spareSet s = .next t ∧ replied t c d l St.rasNoSpare []) ∧
         (colsLeft (s.scsr (n 4 4) 0x1420) ≠ 0 → s.tack.todo = [] → ∃ t, exec .spareSet s = .next t ∧ accepted s t c d l none ∧
           t.tack.todo = [{ kind := 0, ps := n 4 4, sub := n 2 2, long := some (c.session, c.seq) }])) ∧
       (n 0 1 = 1 → n 2 2 = 0 → n 4 4 < 288 →
         (s.healthOf (n 4 4) ≠ .active → ∃ t, exec .spareSet s = .next t ∧ replied t c d l St.rasSpareState []) ∧
         (s.healthOf (n 4 4) = .active → (∃ x, x < 288 ∧ 64 ≤ x % 72 ∧ s.healthOf x = .spare) → s.tack.todo = [] →
           ∃ t, exec .spareSet s = .next t ∧ accepted s t c d l none ∧
           t.tack.todo = [{ kind := 1, ps := n 4 4, sub := 0, long := some (c.session, c.seq) }])) ∧
       (n 0 1 = 2 → n 2 2 = 0 → n 4 4 < 136 → (s.chan (n 4 4)).state = 0 →
         (s.spareChan (n 4 4 / 34) = none → ∃ t, exec .spareSet s = .next t ∧ replied t c d l St.rasNoSpare []) ∧
         (∀ x, s.spareChan (n 4 4 / 34) = some x → ∃ t, exec .spareSet s = .next t ∧ accepted s t c d l none ∧ (t.chan (n 4 4)).state = 2 ∧
           (t.shed (n 4 4 / 34)).mig.active = true))) ∧
     (hostAt s c l d 0x101 → p.length = 12 → 1 ≤ n 2 2 → n 2 2 ≤ 1024 →
       (n 0 2 = 0xFFFF → c.mgmt = false → ∃ t, exec .memRead s = .next t ∧ replied t c d l St.privilege []) ∧
       (n 0 2 = 0xFFFF → c.mgmt = true → plainRange s (n 4 8) (n 2 2) → ∃ t, exec .memRead s = .next t ∧
         replied t c d l St.ok (s.memRead (n 4 8) (n 2 2)) ∧ t.mem = s.mem)) ∧
     (hostAt s c l d 0x102 → p.length = 12 + n 2 2 → 1 ≤ n 2 2 → n 2 2 ≤ 1024 →
       (n 0 2 = 0xFFFF → c.mgmt = false → ∃ t, exec .memWrite s = .next t ∧ replied t c d l St.privilege [] ∧ t.mem = s.mem) ∧
       (n 0 2 = 0xFFFF → c.mgmt = true → plainRange s (n 4 8) (n 2 2) → ∃ t, exec .memWrite s = .next t ∧
         replied t c d l St.ok [] ∧ t.mem = writeBytes s.mem (n 4 8) (p.drop 12))) ∧
     (hostAt s c l d 0x103 → p.length = 1 → n 0 1 < 136 →
       ((s.chan (n 0 1)).state = 1 → ∃ t, exec .bayRelease s = .next t ∧ accepted s t c d l none ∧ (t.chan (n 0 1)).state = 3) ∧
       ((s.chan (n 0 1)).state = 0 → s.spareChan (n 0 1 / 34) = none → ∃ t, exec .bayRelease s = .next t ∧ replied t c d l St.bayNoSpare []) ∧
       (1 < (s.chan (n 0 1)).state → ∃ t, exec .bayRelease s = .next t ∧ replied t c d l St.bayNotReleasable [])) ∧
     (hostAt s c l d 0x104 → p.length = 1 → n 0 1 < 136 → ∃ t, exec .bayState s = .next t ∧
       replied t c d l St.ok (leBytes 1 (s.chan (n 0 1)).state ++ leBytes 1 0 ++ leBytes 2 (s.chan (n 0 1)).last.toNat)) ∧
     (hostAt s c l d 0x105 → p.length = 2 → n 0 1 < 4 → n 1 1 < 32 →
       (s.lcServed (n 0 1) (n 1 1) = true → ∃ t, exec .chanReclaim s = .next t ∧ replied t c d l St.badParam []) ∧
       (s.lcServed (n 0 1) (n 1 1) = false → s.spareChan (n 0 1) = none → ∃ t, exec .chanReclaim s = .next t ∧ replied t c d l St.bayNoSpare []) ∧
       (∀ x, s.lcServed (n 0 1) (n 1 1) = false → s.spareChan (n 0 1) = some x → ∃ t, exec .chanReclaim s = .next t ∧ accepted s t c d l none ∧
         (t.chan (n 0 1 * 34 + x)).state = 7 ∧ (t.chan (n 0 1 * 34 + x)).lc = n 1 1)) ∧
     (hostAt s c l d 0x106 → p.length = 24 → n 4 1 ≤ 3 → n 5 3 = 0 → mrOk (n 8 8) (n 16 8) = true →
       (∀ i, i < 4096 → Map.get noneOf s.mrs i = none → (∀ j, j < i → Map.get noneOf s.mrs j ≠ none) → ∃ t, exec .mrReg s = .next t ∧
         replied t c d l St.ok (leBytes 4 (rkeyOf i)) ∧ Map.get noneOf t.mrs i = some { task := n 0 2, tenant := n 2 2, rights := n 4 1, addr := n 8 8, len := n 16 8 }) ∧
       ((∀ i, i < 4096 → Map.get noneOf s.mrs i ≠ none) → ∃ t, exec .mrReg s = .next t ∧ replied t c d l St.haltLimit [])) ∧
     (hostAt s c l d 0x107 → p.length = 4 → ∀ i, n 0 4 = rkeyOf i → i < 4096 →
       (Map.get noneOf s.mrs i ≠ none → ∃ t, exec .mrDereg s = .next t ∧ accepted s t c d l (some (St.ok, [])) ∧ Map.get noneOf t.mrs i = none) ∧
       (Map.get noneOf s.mrs i = none → ∃ t, exec .mrDereg s = .next t ∧ replied t c d l St.badParam [])) ∧
     (hostAt s c l d 0x108 → qpOk p = true →
       (∀ i, freeEntry s.qps (256 * (n 0 1 + 1)) 256 = some i → ∃ t q, exec .qpCreate s = .next t ∧ replied t c d l St.ok (leBytes 4 i) ∧
         Map.get noneOf t.qps i = some q ∧ q.port = n 0 1 ∧ q.db = n 1 1 ∧ q.task = n 2 2 ∧ q.tenant = n 4 2 ∧ q.pmtu = n 6 2 ∧ q.rate = 1000) ∧
       (freeEntry s.qps (256 * (n 0 1 + 1)) 256 = none → ∃ t, exec .qpCreate s = .next t ∧ replied t c d l St.haltLimit [])) ∧
     (hostAt s c l d 0x109 → p.length = 4 →
       (Map.get noneOf s.qps (n 0 4) ≠ none → ∃ t, exec .qpDestroy s = .next t ∧ accepted s t c d l (some (St.ok, [])) ∧
         Map.get noneOf t.qps (n 0 4) = none) ∧
       (Map.get noneOf s.qps (n 0 4) = none → ∃ t, exec .qpDestroy s = .next t ∧ replied t c d l St.badParam [])))

/-- The commands that write registers answer with what the register's own rule answers, and wait while the register's page sleeps; the
others read or set the state that their row names; long ones end with one last reply (R22, R459, R489, R493, R494, R501, R502, R514, R524, R531, R550 to
R552, R556). -/
def Obligations.HostUnitCommands : Prop :=
  ∀ (s : State) (c : CpCmd) (l : List CpCmd) (d : Sess), Safety.Canonical s →
    (let p := c.params
     let n := fun (at_ k : Nat) => hb p at_ k
     let v := fun (at_ : Nat) => BitVec.ofNat 64 (n at_ 8)
     let T := taken s l
     let page := fun (ls : Nat) => stallWin (s.psOf ls) + 0x8000000
     (∀ w, (let x := T.hostCsrWrite c.priv w.1 w.2
       (hostAt s c l d 0x201 → p.length = 12 → n 1 3 = 0 → w = (page (n 0 1) + 0x240, v 4) →
         (∀ u st, x = some (u, st) → exec .doorbell s = .next (ends u c d st [])) ∧ (x = none → exec .doorbell s = .next s)) ∧
       (hostAt s c l d 0x202 → p.length = 8 → n 0 2 < 4096 → n 2 2 = 0 → n 4 4 < 2 ^ 22 → n 4 4 % 4 = 0 →
         w = (s.runctlAddr (n 0 2), BitVec.ofNat 64 (2 ^ 60 + n 4 4)) →
         (∀ u st, x = some (u, st) → exec .groomRun s = .next (ends u c d st [])) ∧ (x = none → exec .groomRun s = .next s)) ∧
       (hostAt s c l d 0x203 → p.length = 3 → n 0 2 < 4096 → n 2 1 ≤ 1 → w = (s.runctlAddr (n 0 2), BitVec.ofNat 64 (2 ^ (61 + n 2 1))) →
         (∀ u st, x = some (u, st) → st ≠ St.ok → exec .groomHalt s = .next (ends u c d st [])) ∧
         (∀ u, x = some (u, St.ok) → exec .groomHalt s = .next
           ((({ u with longs := u.longs ++ [{ cmd := c, res := none }] } : State).replyTo c (some d.key) false St.ok []).skipUndefined 320))) ∧
       (hostAt s c l d 0x204 → p.length = 3 → n 1 1 < 5 → n 2 1 < 4 → w = (page (n 0 1) + 0x18 + n 1 1 * 0x40, BitVec.ofNat 64 (2 ^ n 2 1)) →
         ∀ u st, x = some (u, st) → exec .queueCtl s = .next (ends u c d st
           (if st = St.ok then leBytes 1 (qstateNum (u.queueState (s.psOf (n 0 1)) (n 1 1))) else []))))) ∧
     (hostAt s c l d 0x205 → p.length = 2 → exec .taskEnd s =
       .next (ends (T.taskEnd c.priv (BitVec.ofNat 64 (n 0 2))).1 c d (T.taskEnd c.priv (BitVec.ofNat 64 (n 0 2))).2 [])) ∧
     (hostAt s c l d 0x301 → p = [] → ∃ t, exec .neighRead s = .next t ∧ replied t c d l St.ok s.neighbours) ∧
     (hostAt s c l d 0x302 → c.mgmt = true → p.length = 2 → n 0 2 < 16384 →
       (s.tack.activating = none → ∃ t, exec .devidSet s = .next t ∧ replied t c d l St.ok [] ∧
         ∀ g, g < 4 → fld (t.dcsr (gateBase g)) 13 0 = n 0 2 ∧ bit (t.dcsr (gateBase g)) 15 = true) ∧
       (s.tack.activating ≠ none → ∃ t, exec .devidSet s = .next t ∧ replied t c d l St.rasStoreBusy [] ∧ t.csr = s.csr)) ∧
     (hostAt s c l d 0x303 → c.mgmt = true → p.length = 4 + 4 * n 2 2 → 1 ≤ n 2 2 → n 2 2 ≤ 351 → n 0 2 + n 2 2 ≤ 16384 →
       ∃ t, exec .routeWrite s = .next t ∧ replied t c d l St.ok [] ∧
         (∀ i, i < n 2 2 → Map.get zeroW t.routes (n 0 2 + i) = BitVec.ofNat 64 (n (4 + 4 * i) 4) &&& 0x7F7F7F7F) ∧
         ∀ k, k < n 0 2 ∨ n 0 2 + n 2 2 ≤ k → Map.get zeroW t.routes k = Map.get zeroW s.routes k) ∧
     (hostAt s c l d 0x304 → p.length = 28 → n 0 1 < 64 → n 1 3 = 0 →
       exec .rwinSet s = .next (ends (T.rwinSet (n 0 1) (v 4) (v 12) (v 20)).1 c d (T.rwinSet (n 0 1) (v 4) (v 12) (v 20)).2 [])) ∧
     (hostAt s c l d 0x305 → p.length = 28 → n 0 1 < 16 → n 1 3 = 0 →
       exec .xbarSet s = .next (ends (T.xbarSet (n 0 1) (v 4) (v 12) (v 20)).1 c d (T.xbarSet (n 0 1) (v 4) (v 12) (v 20)).2 [])) ∧
     (hostAt s c l d 0x306 → p.length = 3 → n 0 1 < 32 → n 1 1 ≤ 3 → n 2 1 < 8 →
       (let x := T.linkCtl c.priv (n 0 1) (s.portCtlWord (n 0 1) (n 1 1) (n 2 1))
        exec .portCtl s = .next (ends x.1 c d x.2 (if x.2 = St.ok then leBytes 1 (portNum (x.1.port (n 0 1)).state) else [])))) ∧
     (hostAt s c l d 0x401 → p.length = 2 → n 1 1 ≤ 1 →
       (let x := T.cmtCtl c.priv (n 0 1) (decide (n 1 1 = 1))
        exec .cmtCmd s = .next (ends x.1 c d x.2
          (if x.2 = St.ok then leBytes 1 (cmtNum x.1.cmt.state) ++ leBytes 1 0 ++ leBytes 2 x.1.cmt.status.toNat else [])))) ∧
     (hostAt s c l d 0x402 → p.length = 1 → n 0 1 < 4 → ∃ t, exec .stepRead s = .next t ∧ replied t c d l St.ok
       (leBytes 8 (s.dcsr (combBase 0 + 0x500 + n 0 1 * 16)).toNat ++ leBytes 8 (s.dcsr (combBase 0 + 0x500 + n 0 1 * 16 + 8)).toNat)) ∧
     (hostAt s c l d 0x403 → c.mgmt = true → p.length = 8 → (s.loftFault (n 0 8) ≠ St.ok → ∃ t, exec .groupRestore s = .next t ∧
       accepted s t c d l (some (s.loftFault (n 0 8), [])) ∧ t.routes = s.routes ∧ t.csr = s.csr)) ∧
     (hostAt s c l d 0x404 → p = [] → ∃ t, exec .ckptRead s = .next t ∧ replied t c d l St.ok
       (leBytes 8 (s.cmt.ckLast % 2 ^ 48) ++ leBytes 8 (s.cmt.ckLstep % 2 ^ 56) ++ leBytes 8 s.ckStat.toNat)) ∧
     (hostAt s c l d 0x501 → c.mgmt = true → p = [] →
       (coolNormal s.pwr.tsup s.pwr.tret s.pwr.flow s.pwr.wet = false → ∃ t, exec .coolClear s = .next t ∧ replied t c d l St.coolantLimit [] ∧ t.pwr = s.pwr) ∧
       (coolNormal s.pwr.tsup s.pwr.tret s.pwr.flow s.pwr.wet = true → s.pwr.coolStopped = true →
         exec .coolClear s = .next (ends (T.packageReset 2 true) c d St.ok []))) ∧
     (hostAt s c l d 0x502 → c.mgmt = true → p.length = 2 → capOk (n 0 2) = true → ∃ t, exec .powerCap s = .next t ∧ replied t c d l St.ok [] ∧
       fld (t.dcsr (pwrBase + 0x18)) 15 0 = n 0 2) ∧
     (hostAt s c l d 0x503 → s.hostMode 4 = true → p.length = 2 → n 1 1 ≤ 4 →
       (fld (s.dcsr (pwrBase + 0x20)) 2 0 < n 1 1 ∨ (n 1 1 = 4 ∧ n 0 1 ≠ 0xFF) → ∃ t, exec .pstateSet s = .next t ∧ replied t c d l St.pwrState [] ∧
         t.stalls = s.stalls) ∧
       (n 1 1 ≤ fld (s.dcsr (pwrBase + 0x20)) 2 0 → n 1 1 ≠ 4 → n 0 1 ≠ 0xFF → ∃ t, exec .pstateSet s = .next t ∧ replied t c d l St.ok [] ∧
         t.stall (s.psOf (n 0 1)) = { s.stall (s.psOf (n 0 1)) with ceiling := n 1 1 }) ∧
       (n 1 1 ≤ fld (s.dcsr (pwrBase + 0x20)) 2 0 → n 0 1 = 0xFF → ∃ t, exec .pstateSet s = .next t ∧ replied t c d l St.ok [] ∧
         ∀ ps ∈ s.activePs, (t.stall ps).ceiling = n 1 1)) ∧
     (hostAt s c l d 0x601 → c.mgmt = true → p.length = 8 + n 4 2 → 1 ≤ n 4 2 → n 4 2 ≤ 1400 → n 6 2 = 0 →
       (n 0 4 + n 4 2 ≤ 0x1FFFFC0 → ∃ t, exec .fwStage s = .next t ∧ replied t c d l St.ok [] ∧
         t.tack.staged = writeBytes s.tack.staged (n 0 4) (p.drop 8) ∧ t.tack.stagedLen = max s.tack.stagedLen (n 0 4 + n 4 2)) ∧
       (0x1FFFFC0 < n 0 4 + n 4 2 → ∃ t, exec .fwStage s = .next t ∧ replied t c d l St.rasFwStage [] ∧ t.tack = s.tack)) ∧
     (hostAt s c l d 0x602 → c.mgmt = true → p.length = 4 →
       (s.fwCheck (n 0 4) ≠ St.ok → ∃ t, exec .fwActivate s = .next t ∧ replied t c d l (s.fwCheck (n 0 4)) [] ∧ t.tack = s.tack) ∧
       (s.fwCheck (n 0 4) = St.ok → ∃ t, exec .fwActivate s = .next t ∧ accepted s t c d l none ∧
         t.tack = { s.tack with activating := some (c.session, c.seq), fwStage := 1, standbyOk := false })) ∧
     (hostAt s c l d 0x603 → p.length = 32 → ∃ t, exec .attest s = .next t ∧ accepted s t c d l (some (St.ok, leBytes 4 17456)) ∧
       t.tack.report = s.attestReport p ∧ t.tack.report.length = 17456 ∧ (t.tack.report.drop 48).take 32 = p) ∧
     (hostAt s c l d 0x604 → p.length = 4 → n 0 4 < 0x100000 → ∃ t, exec .attestRead s = .next t ∧
       (let x := (s.tack.report.drop (n 0 4)).take 1404
        replied t c d l St.ok (leBytes 2 x.length ++ leBytes 2 0 ++ x))) ∧
     (hostAt s c l d 0x701 → p.length = 1 → n 0 1 ≤ 3 → ∃ t b, exec .teleRead s = .next t ∧ s.telemetry (n 0 1) = some b ∧ replied t c d l St.ok b) ∧
     (hostAt s c l d 0x702 → p.length = 4 → ∃ t e, exec .evtSubscribe s = .next t ∧ replied t c d l St.ok [] ∧ t.session c.session = some e ∧
       e.mask = BitVec.ofNat 32 (n 0 4) ∧ e.events = d.events) ∧
     (hostAt s c l d 0x703 → p.length = 4 → d.lostCnt = 0 → ∃ t e, exec .evtAck s = .next t ∧ replied t c d l St.ok [] ∧ t.session c.session = some e ∧
       e.events = d.events.filter (fun x => n 0 4 < x.1)) ∧
     (∀ x st bs, served s → s.longs = [x] → x.res = some (st, bs) → s.session x.cmd.session = some d →
       ∃ t, exec (.longCommandEnd x.cmd.session x.cmd.seq) s = .next t ∧ t.longs = [] ∧ t.outbox = [{
         dst := x.cmd.src
         bytes := hostPacket 3 x.cmd.opcode x.cmd.session x.cmd.seq st bs (some d.key) }]))

/-- Halter packets and sessions, and the checks of commands (R482 to R484, R487 to R493, R501, R509). -/
def Obligations.HalterRequestsAndChecks : Prop :=
  Claims.HalterPackets ∧ Claims.HostChecks

namespace Sys2Proof.Claims

/-- A RoCE packet for an open queue pair of a port that is up (R495). -/
def onQp (s : State) (port qpn : Nat) (q : Qp) : Prop :=
  Map.get noneOf s.qps qpn = some q ∧ q.port = port ∧ (s.hport port).state = 2

/-- The RKEY of region `i`, which grants a right (0 read, 1 write) over a range (R495). -/
def grants (s : State) (i : Nat) (m : Mr) (right addr len : Nat) : Prop :=
  i < 4096 ∧ Map.get noneOf s.mrs i = some m ∧ m.rights.testBit right = true ∧ m.addr ≤ addr ∧ addr + len ≤ m.addr + m.len

end Sys2Proof.Claims

/-- Host ports and RoCE: a module above 12 W or of no supported PMD stays down; a frame outside the subset is counted and dropped, a RoCE frame
moves the pause between 1.5 and 1 MiB, and address and echo requests are answered; RDMA WRITE and READ act on a region that grants the right and are
refused elsewhere; an immediate value rings a doorbell once the data are written; SEND is refused; a CNP halves a rate, which recovers by 5%
(R25, R137, R479 to R481, R495 to R497, R503). -/
def Obligations.HostPortsAndRoce : Prop :=
  ∀ (s : State) (port : Nat), Safety.Canonical s →
    (let x := s.hport port
     (∀ pmd w, (1 ≤ pmd → pmd ≤ 5 → w ≤ 12 → exec (.hostModuleInsert port pmd w) s = .next (s.setHport port { x with pmd := pmd, state := 1 })) ∧
       (pmd = 0 ∨ 5 < pmd ∨ 12 < w → exec (.hostModuleInsert port pmd w) s = .next (s.setHport port { x with pmd := 15, state := 0 }))) ∧
     (∀ k, k ≤ 2 → (k = 0 ∨ (1 ≤ x.pmd ∧ x.pmd ≤ 5) → exec (.hostPortLinkChange port k) s = .next (s.setHport port { x with state := k })) ∧
       (k ≠ 0 → 5 < x.pmd → exec (.hostPortLinkChange port k) s = .next s)) ∧
     (∀ f : EthFrame, (x.state ≠ 2 → exec (.ethFrameReceive port f) s = .next s) ∧
       (let v := s.dcsr (hostifBase + 0x18)
        (x.state = 2 → 9216 < f.bytes ∨ 2 ≤ f.tags ∨ f.kind = .tcp ∨ f.kind = .other ∨ f.ipExtra = true ∨
            (f.mgmt = true ∧ (f.tags = 0 ∨ f.vid ≠ fld v 27 16)) → ∃ t, exec (.ethFrameReceive port f) s = .next t ∧ t.hports = s.hports ∧
          t.dcsr (hostifBase + 0x38) = bump32 1 (s.dcsr (hostifBase + 0x38))) ∧
        (x.state = 2 → f.bytes ≤ 9216 → f.tags = 1 → f.vid = fld v 11 0 → f.vid ≠ 0 → f.ipExtra = false → f.mgmt = false →
          (f.kind = .roce → exec (.ethFrameReceive port f) s = .next (s.setHport port { x with
            paused := if 1572864 < f.roceFill then true else if f.roceFill < 1048576 then false else x.paused })) ∧
          (f.kind = .arp ∨ f.kind = .neighbour ∨ f.kind = .echo → exec (.ethFrameReceive port f) s =
            .next (s.setHport port { x with echoes := x.echoes + 1 }))))) ∧
     (∀ qpn q, onQp s port qpn q →
       (exec (.roceSend port qpn) s = .next (s.setHport port { x with ans := some .nakInvalid })) ∧
       (∃ t, exec (.roceCnp port qpn) s = .next t ∧ Map.get noneOf t.qps qpn = some { q with rate := q.rate / 2 }) ∧
       (∃ t, exec (.roceRateRecover port qpn) s = .next t ∧ Map.get noneOf t.qps qpn = some { q with rate := min 1000 (q.rate + 50) }) ∧
       (∀ rkey addr data len, (∀ i m, rkey = rkeyOf i → ¬ grants s i m 1 addr data.length) → (∀ i m, rkey = rkeyOf i → ¬ grants s i m 0 addr len) →
         exec (.roceRdmaWrite port qpn rkey addr data) s = .next (s.setHport port { x with ans := some .nakAccess }) ∧
         exec (.roceRdmaRead port qpn rkey addr len) s = .next (s.setHport port { x with ans := some .nakAccess })) ∧
       (∀ i m addr len, grants s i m 0 addr len → ∀ u bs, s.unitRead .kernel m.task m.tenant addr len = some (u, St.ok, bs) →
         ∃ t, exec (.roceRdmaRead port qpn (rkeyOf i) addr len) s = .next t ∧ t.mem = u.mem ∧ (t.hport port).ans = some (.ack bs)) ∧
       (∀ i m addr data, grants s i m 1 addr data.length → ∀ u st, s.unitWrite .kernel m.task m.tenant addr data = some (u, st) →
         (st = St.ok →
           (∃ t, exec (.roceRdmaWrite port qpn (rkeyOf i) addr data) s = .next t ∧ t.mem = u.mem ∧ (t.hport port).ans = some (.ack [])) ∧
           (∀ imm : BitVec 32, (q.db = 0 → exec (.roceWriteImm port qpn (rkeyOf i) addr data imm) s = exec (.roceRdmaWrite port qpn (rkeyOf i) addr data) s) ∧
             (q.db ≠ 0 → 5 ≤ bits imm.toNat 10 8 ∨ imm.getLsbD 11 = true ∨ bits imm.toNat 31 28 ≠ 0 → ∃ t,
               exec (.roceWriteImm port qpn (rkeyOf i) addr data imm) s = .next t ∧ t.mem = u.mem ∧ (t.hport port).ans = some .nakInvalid) ∧
             (let ps := u.psOf (bits imm.toNat 7 0)
              q.db ≠ 0 → bits imm.toNat 10 8 < 5 → imm.getLsbD 11 = false → bits imm.toNat 31 28 = 0 → (u.node (ps * 16)).shut .kernel = false →
              ps < 288 → (u.stall ps).pstate = .run →
              ((u.stall ps).db.length < 32 → ∃ t e, exec (.roceWriteImm port qpn (rkeyOf i) addr data imm) s = .next t ∧ t.mem = u.mem ∧
                (t.hport port).ans = some (.ack []) ∧ (t.stall ps).db = (u.stall ps).db ++ [e] ∧ fld e 21 0 = bits imm.toNat 27 12 * 64 ∧
                fld e 26 24 = bits imm.toNat 10 8 ∧ fld e 47 32 = q.task % 65536 ∧ fld e 63 48 = q.tenant % 65536) ∧
              ((u.stall ps).db.length = 32 → ∃ t, exec (.roceWriteImm port qpn (rkeyOf i) addr data imm) s = .next t ∧ t.mem = u.mem ∧
                (t.hport port).ans = some .rnr ∧ (t.stall ps).db = (u.stall ps).db)))) ∧
         (st ≠ St.ok → ∃ t, exec (.roceRdmaWrite port qpn (rkeyOf i) addr data) s = .next t ∧ (t.hport port).ans = some .nakAccess ∧ t.mem = u.mem))) ∧
     (∀ qpn rkey addr data len, (∀ q, ¬ onQp s port qpn q) → ∀ i ∈ [Instr.roceRdmaWrite port qpn rkey addr data, .roceWriteImm port qpn rkey addr data 0,
       .roceRdmaRead port qpn rkey addr len, .roceSend port qpn, .roceCnp port qpn, .roceRateRecover port qpn], exec i s = .next s))

/-- Coolant and supply: a sample sets or keeps the two coolant caps and counts each stop condition; a cap lifts after 10 s; a stop condition held
for its time leaves the package unpowered with its volatile state cleared; the DC link warns below 360 V and stops below 320 V, a lost reference or PLL
stops, and supply that is good again lifts the supply cap (R20 to R23, R507, R521 to R525). -/
def Obligations.CoolantAndSupply : Prop :=
  ∀ (s : State), Safety.Canonical s →
    (∀ sup ret : Int, ∀ flow wet, ∃ t, exec (.coolantSample sup ret flow wet) s = .next t ∧ t.mem = s.mem ∧ t.stalls = s.stalls ∧ t.pwr.tsup = sup ∧
      t.pwr.tret = ret ∧ t.pwr.flow = flow ∧ t.pwr.wet = wet ∧
      (let warn := sup < 1500 ∨ 4500 < sup ∨ 5800 < ret ∨ flow < 600 ∨ wet = true
       let normal := 1800 ≤ sup ∧ sup ≤ 3500 ∧ ret ≤ 5000 ∧ 800 ≤ flow ∧ wet = false
       (warn → t.pwr.coolWarn = true ∧ t.cap.1 ≤ 1560 ∧ t.pwr.warnAbsent = 0) ∧
       (¬ warn → t.pwr.coolWarn = s.pwr.coolWarn ∧ t.pwr.warnAbsent = min 10000 (s.pwr.warnAbsent + 1)) ∧
       (¬ warn → ¬ normal → t.pwr.coolDeg = true ∧ t.cap.1 ≤ 3100 ∧ t.pwr.degAbsent = 0) ∧
       (normal → t.pwr.coolDeg = s.pwr.coolDeg ∧ t.pwr.degAbsent = min 10000 (s.pwr.degAbsent + 1)) ∧
       t.pwr.stopSup = (if sup < 1500 ∨ 5500 < sup then min 2000 (s.pwr.stopSup + 1) else 0) ∧
       t.pwr.stopRet = (if 6500 < ret then min 2000 (s.pwr.stopRet + 1) else 0) ∧
       t.pwr.stopFlow = (if flow < 300 then min 2000 (s.pwr.stopFlow + 1) else 0) ∧
       t.pwr.stopLeak = (if wet = true then min 100 (s.pwr.stopLeak + 1) else 0))) ∧
    (s.pwr.warnAbsent < 10000 → s.pwr.degAbsent < 10000 → exec .coolCapLift s = .next s) ∧
    (s.pwr.coolWarn = true → 10000 ≤ s.pwr.warnAbsent → ∃ t, exec .coolCapLift s = .next t ∧ t.pwr.coolWarn = false ∧
      t.pwr.coolDeg = (s.pwr.coolDeg && decide (s.pwr.degAbsent < 10000))) ∧
    (let stop := 2000 ≤ s.pwr.stopSup ∨ 2000 ≤ s.pwr.stopRet ∨ 2000 ≤ s.pwr.stopFlow ∨ 100 ≤ s.pwr.stopLeak
     (¬ stop ∨ s.pwr.coolStopped = true → exec .coolStop s = .next s) ∧
     (stop → s.pwr.coolStopped = false → ∃ t, exec .coolStop s = .next t ∧ t.pwr.coolStopped = true ∧ t.pwr.phase = 0 ∧ t.stalls = [] ∧ t.grooms = [] ∧
       t.reqs = [] ∧ t.loft = s.loft ∧ t.cpq = s.cpq ∧ t.mem = s.mem)) ∧
    (∀ hot, (s.pwr.coolStopped = true ∨ s.pwr.stopping ≠ none →
        exec (.dimmSupplyRemove hot) s = .next { s with pwr := { s.pwr with dimmSupply := false } }) ∧
      (s.pwr.coolStopped = false → s.pwr.stopping = none → exec (.dimmSupplyRemove hot) s = .next s)) ∧
    (s.pwr.stopping = none → s.pwr.coolStopped = false →
      exec .refLoss s = .next { s with pwr := { s.pwr with refOk := false, stopping := some 3 } } ∧
      (∀ die, die < 12 → ∃ t, exec (.pllUnlock die) s = .next t ∧ t.pwr.stopping = some 4 ∧ t.pwr.plls.getLsbD die = false) ∧
      (∀ dv, dv < 3200 → ∃ t, exec (.dclinkSample dv) s = .next t ∧ t.pwr.stopping = some 1)) ∧
    (∀ dv, ∃ t, exec (.dclinkSample dv) s = .next t ∧ t.mem = s.mem ∧ t.pwr.dclink = dv ∧
      (dv < 3600 → t.pwr.supplyCap = true ∧ t.cap.1 ≤ 1560) ∧ (3600 ≤ dv → t.pwr.supplyCap = s.pwr.supplyCap) ∧
      t.pwr.stable = (if 3700 < dv then min 5000 (s.pwr.stable + 1) else 0)) ∧
    (s.pwr.supplyCap = true → 5000 ≤ s.pwr.stable → s.pwr.below320 = false → ∃ t, exec .supplyOk s = .next t ∧ t.pwr.supplyCap = false ∧
      bit (t.dcsr (pwrBase + 8)) 1 = true) ∧
    (s.pwr.supplyCap = false ∨ s.pwr.stable < 5000 ∨ s.pwr.below320 = true → exec .supplyOk s = .next s)

/-- Package reset and bring-up: a stop sequence ends in a reset with its cause, which keeps main memory only in self-refresh; inlet power starts
a count of resets; each step of bring-up advances PHASE or leaves the device in it with its status (R37, R507 to R513, R521 to R523). -/
def Obligations.ResetAndBringUp : Prop :=
  ∀ (s : State) (info : BootInfo), Safety.Canonical s →
    (∀ kept c, s.pwr.stopping = some c → s.pwr.coolStopped = false → ∃ t, exec (.packageReset kept) s = .next t ∧ t.pwr.cause = c ∧ t.pwr.phase = 0 ∧
      t.pwr.stopping = none ∧ t.pwr.memKept = (kept && s.pwr.dimmSupply) ∧ t.mem = (if (kept && s.pwr.dimmSupply) = true then s.mem else []) ∧
      t.pwr.resets = satAdd 0xFFFF s.pwr.resets 1 ∧ t.stalls = [] ∧ t.grooms = [] ∧ t.nodes = [] ∧ t.csr = [] ∧ t.reqs = [] ∧ t.loft = s.loft ∧
      t.banks = s.banks) ∧
    (∀ kept, s.pwr.stopping = none → exec (.packageReset kept) s = .next s) ∧
    (s.pwr.inlet = true → exec .inletPowerOn s = .next s) ∧
    (s.pwr.inlet = false → ∃ t, exec .inletPowerOn s = .next t ∧ t.pwr = { inlet := true, resets := 1 } ∧ t.mem = [] ∧ t.stalls = [] ∧ t.csr = [] ∧
      t.loft = s.loft ∧ t.banks = s.banks) ∧
    (let up := s.pwr.inlet = true ∧ s.pwr.coolStopped = false ∧ s.pwr.stopping = none ∧ s.pwr.failStep = 0 ∧ s.pwr.phase < 7
     let step := fun (t : State) => exec (.bringupStepEnd info) s = .next t
     let failed := fun (t : State) (k : Nat) (st : Status) => t.pwr.phase = s.pwr.phase ∧ t.pwr.failStep = k ∧ t.pwr.bootStatus = st
     (¬ up → step s) ∧
     (up → s.pwr.phase = 0 → ∃ t, step t ∧ t.pwr.phase = (if info.railsOk = true then 1 else 0) ∧ t.pwr.failStep = 0) ∧
     (up → s.pwr.phase = 1 → s.winner = none ∨ info.pufOk = false → ∃ t, step t ∧ failed t 2 St.stupNoImage) ∧
     (∀ w, up → s.pwr.phase = 1 → s.winner = some w → info.pufOk = true → ∃ t, step t ∧ t.pwr.phase = 2 ∧ t.tack.standbyOk = info.standbyOk ∧
       t.tack.fwver0 = (s.bank w).fwver ∧ t.tack.svn = (s.bank w).svn) ∧
     (up → s.pwr.phase = 2 → info.diesOk = false → ∃ t, step t ∧ failed t 3 St.stupDieMissing) ∧
     (up → s.pwr.phase = 2 → info.diesOk = true → ∃ t, step t ∧ t.pwr.phase = 3) ∧
     (up → s.pwr.phase = 3 → info.badStalls = [] → info.deadNodes = [] → ∃ t, step t ∧ t.pwr.phase = 4 ∧
       ∀ ps, ps < 288 → t.healthOf ps = (if ps % 72 < 64 then .active else .spare) ∧
         (ps % 72 < 64 → ∀ g, g < 16 → (t.node (ps * 16 + g)).fenced = false)) ∧
     (up → s.pwr.phase = 3 → 33 ≤ ((List.range 288).filter (fun ps => info.badStalls.contains ps)).length → ∃ t, step t ∧ failed t 4 St.stupStalls) ∧
     (up → s.pwr.phase = 4 → info.badBays = [] → (∀ ch, ch < 136 → ∃ d, (s.chan ch).dimm = some d ∧ d.supported = true) → ∃ t, step t ∧ t.pwr.phase = 5 ∧
       t.mem = (if s.pwr.memKept = true then s.mem else []) ∧ ∀ n i, n < 4 → i < 34 →
         (t.chan (n * 34 + i)).state = (if i < 32 then 0 else 1) ∧ (i < 32 → (t.chan (n * 34 + i)).lc = i)) ∧
     (up → s.pwr.phase = 5 → ∃ t, step t ∧ t.pwr.phase = 6 ∧ ∀ p, p < 32 → (t.port p).listening = decide ((s.port p).state = .training)) ∧
     (up → s.pwr.phase = 6 → ∃ t, step t ∧ t.pwr.phase = 7 ∧ t.mem = s.mem ∧ (∀ r l, s.records 1 = r :: l → ∀ n, n < 4 →
       fld (t.dcsr (gateBase n)) 13 0 = leNat (r.bytes.take 2) % 16384 ∧ bit (t.dcsr (gateBase n)) 15 = true)))

/-- Power management: a cap and the configuration of power states are written within their ranges; a measured package under its cap runs at full
duty, and one that a cap binds at a duty the model leaves open; an idle stall, yard or device enters the deepest state that MAXSTATE and the time to the next
event allow, in host mode its ceiling; it wakes planned or unplanned, and an expired event time clears (R524 to R533). -/
def Obligations.PowerStates : Prop :=
  ∀ (s : State), Safety.Canonical s →
    (∀ p v, (p ≠ Priv.tack → exec (.pwrCapHostWrite p v) s = .next (answered s St.privilege 0 [])) ∧
      (let w := fld v 15 0
       (w ≠ 0 → w < 1000 ∨ 3900 < w → exec (.pwrCapHostWrite .tack v) s = .next (answered s St.badParam 0 [])) ∧
       (w = 0 ∨ (1000 ≤ w ∧ w ≤ 3900) → ∃ t, exec (.pwrCapHostWrite .tack v) s = .next t ∧ t.resp = { status := St.ok } ∧
         fld (t.dcsr (pwrBase + 0x18)) 15 0 = w ∧ (w ≠ 0 → t.cap.1 ≤ w)))) ∧
    (∀ v, exec (.psCfgWrite .task v) s = .next (answered s St.privilege 0 [])) ∧
    (∀ p v, p ≠ Priv.task →
      (let short := fld v 15 8 * 64 < 63 ∨ fld v 31 16 * 1024 < 6250 ∨ fld v 47 32 * 1024 < 250000 ∨ fld v 63 48 * 65536 < 3750000
       (4 < fld v 2 0 ∨ short → exec (.psCfgWrite p v) s = .next (answered s St.badParam 0 [])) ∧
       (fld v 2 0 ≤ 4 → ¬ short → ∃ t, exec (.psCfgWrite p v) s = .next t ∧ t.resp = { status := St.ok } ∧
         fld (t.dcsr (pwrBase + 0x20)) 2 0 = fld v 2 0 ∧ fld (t.dcsr (pwrBase + 0x20)) 63 8 = fld v 63 8))) ∧
    (∀ pkg inlet, (pkg ≤ s.cap.1 → s.pwr.duty = 64 → exec (.powerMeasure pkg inlet) s = .next { s with pwr := { s.pwr with pkgW := pkg, inletW := inlet } }) ∧
      (s.cap.1 < pkg → ∃ t, exec (.powerMeasure pkg inlet) s = .next t ∧ t.pwr.pkgW = pkg ∧ t.pwr.inletW = inlet ∧ 1 ≤ t.pwr.duty ∧ t.pwr.duty ≤ 64 ∧
        t.stalls = s.stalls ∧ t.mem = s.mem)) ∧
    (∀ ps, s.healthOf ps = .active → (s.stall ps).pstate = .run →
      (let idle := s.stallIdle ps
       let t0 := s.nextEvent ps
       let goes := fun (x : PState) => exec (.pstateEnter (.stall ps)) s = .next (s.setStall ps { s.stall ps with pstate := x })
       (idle = false → exec (.pstateEnter (.stall ps)) s = .next s) ∧
       (s.hostMode 4 = false → idle = true → s.psAllowed 2 t0 = true → goes .sret) ∧
       (s.hostMode 4 = false → idle = true → s.psAllowed 2 t0 = false → s.psAllowed 1 t0 = true → goes .gated) ∧
       (s.hostMode 4 = false → s.psAllowed 2 t0 = false → s.psAllowed 1 t0 = false → exec (.pstateEnter (.stall ps)) s = .next s) ∧
       (s.hostMode 4 = true → idle = true → ∃ t, exec (.pstateEnter (.stall ps)) s = .next t ∧ (t.stall ps).pstate =
         (if (s.stall ps).ceiling = 0 then .run else if (s.stall ps).ceiling = 1 then .gated else .sret)))) ∧
    (∀ ps, (s.stall ps).pstate = .gated ∨ (s.stall ps).pstate = .sret →
      (let k := if (s.stall ps).pstate = .gated then 63 else 6250
       (∀ n, s.nextEvent ps = some n → n ≤ k → exec (.pstatePlannedWake (.stall ps)) s = .next (s.setStall ps { s.stall ps with pstate := .run })) ∧
       (∀ n, s.nextEvent ps = some n → k < n → exec (.pstatePlannedWake (.stall ps)) s = .next s) ∧
       ∀ cause, ∃ t, exec (.pstateWake (.stall ps) cause) s = .next t ∧
         t.stall ps = { s.stall ps with pstate := .run, unplanned := ((s.stall ps).unplanned + 1) % 2 ^ 32 })) ∧
    (∀ ps cause, (s.stall ps).pstate = .run → exec (.pstateWake (.stall ps) cause) s = .next s) ∧
    (∀ y, y < 4 → s.hostMode 4 = false → s.pwr.deep = false → (∀ ps ∈ s.yardStalls y, s.stallIdle ps = true) →
      s.psAllowed 3 (s.nextOf (s.yardStalls y)) = true → ∃ t, exec (.pstateEnter (.yard y)) s = .next t ∧ t.yardRet y = true ∧
        (∀ ps ∈ s.yardStalls y, t.stall ps = { s.stall ps with pstate := .yret }) ∧ ∀ ps, ps / 72 ≠ y → t.stall ps = s.stall ps) ∧
    (s.hostMode 4 = false → s.deviceIdle = true → s.psAllowed 4 s.nextDevice = true → ∃ t, exec (.pstateEnter .device) s = .next t ∧
      t.pwr.deep = true ∧ t.mem = s.mem ∧ ∀ ps ∈ s.activePs, t.stall ps = { s.stall ps with pstate := .deep }) ∧
    (∀ cause, s.pwr.deep = true → ∃ t, exec (.pstateWake .device cause) s = .next t ∧ t.pwr.deep = false ∧ t.pwr.yret = 0 ∧
      ∀ ps ∈ s.activePs, (t.stall ps).pstate = .run) ∧
    (∀ ps, (bit (s.scsr ps 0x1B00) 63 = true → fld (s.scsr ps 0x1B00) 39 0 = 0 → exec (.pwrNextExpire ps) s = .next (s.setScsr ps 0x1B00 0)) ∧
      (fld (s.scsr ps 0x1B00) 39 0 ≠ 0 → exec (.pwrNextExpire ps) s = .next s))

namespace Sys2Proof.Claims

/-- No session has a full event queue (R501). -/
def roomy (s : State) : Prop := ∀ e ∈ s.sess, ∀ d, e.2 = some d → d.events.length < 256

end Sys2Proof.Claims

/-- Error records and the two tack rooms: a record is triaged, logged with its action and counted; the log is popped; missed heartbeats or a
lockstep error with a standby at hand start a takeover, as TACK may; a takeover swaps the rooms and answers immediate commands; a restarted room becomes
the standby; a firmware image that does not start is dropped; a parity error in control state is contained (R492, R537, R540 to R542,
R552, R557). -/
def Obligations.ErrorsAndTakeover : Prop :=
  ∀ (s : State), Safety.Canonical s →
    (s.tack.agg = [] ∨ s.tack.takeover = true → exec .errorRecord s = .next s) ∧
    (∀ r l, roomy s → s.tack.agg = r :: l → s.tack.takeover = false → r.action = 0 → s.tack.log.length < 1024 →
      (s.hostMode 5 = true → ∃ t, exec .errorRecord s = .next t ∧ t.tack.agg = l ∧ t.tack.log = s.tack.log ++ [{ r with action := 6 }] ∧
        t.tack.todo = s.tack.todo) ∧
      (r.sev = 0 → s.hostMode 5 = false → ∃ t, exec .errorRecord s = .next t ∧ t.tack.agg = l ∧ t.tack.log = s.tack.log ++ [r] ∧ t.tack.todo = s.tack.todo ∧
        Map.get zeroN t.tack.corrected (r.unit * 2 ^ 32 + r.id) = Map.get zeroN s.tack.corrected (r.unit * 2 ^ 32 + r.id) + 1) ∧
      (r.sev ≠ 0 → r.status = St.arrayParity → s.hostMode 5 = false → s.hostMode 6 = false → s.tack.todo = [] →
        (s.tack.seen = [] → ∃ t, exec .errorRecord s = .next t ∧ t.tack.log = s.tack.log ++ [r] ∧ t.tack.todo = []) ∧
        (∀ t0, (r.status, r.id, r.sub, t0) ∈ s.tack.seen → s.clk < t0 + 216000000000000 → ∃ t, exec .errorRecord s = .next t ∧
          t.tack.log = s.tack.log ++ [{ r with action := 2 }] ∧ t.tack.todo = [{ kind := 0, ps := r.id, sub := r.sub, status := r.status }]))) ∧
    (∀ p, p ≠ Priv.task → exec (.elogPop p) s = .next (answered { s with tack := { s.tack with log := s.tack.log.drop 1 } } St.ok 0 [])) ∧
    exec (.elogPop .task) s = .next (answered s St.privilege 0 []) ∧
    (exec (.tackHeartbeat true false) s = .next { s with tack := { s.tack with missed := 0 } }) ∧
    (s.tack.missed < 2 → exec (.tackHeartbeat false false) s = .next { s with tack := { s.tack with missed := s.tack.missed + 1 } }) ∧
    (s.tack.standbyOk = true → s.tack.takeover = false →
      (2 ≤ s.tack.missed → ∃ t, exec (.tackHeartbeat false false) s = .next t ∧ t.tack.takeover = true ∧ t.tack.missed = 3) ∧
      (∀ b, ∃ t, exec (.tackHeartbeat b true) s = .next t ∧ t.tack.takeover = true) ∧
      exec (.tackTakeoverRequest .tack) s = .next (answered { s with tack := { s.tack with takeover := true } } St.ok 0 [])) ∧
    (s.tack.standbyOk = false → exec (.tackTakeoverRequest .tack) s = .next (answered s St.rasStandbyDown 0 []) ∧
      ∀ a b, ∃ t, exec (.tackHeartbeat a b) s = .next t ∧ t.tack.takeover = s.tack.takeover) ∧
    (∀ p, p ≠ Priv.tack → exec (.tackTakeoverRequest p) s = .next (answered s St.privilege 0 [])) ∧
    (s.tack.takeover = false → exec .tackTakeover s = .next s) ∧
    (s.tack.takeover = true → s.tack.fwStage ≠ 2 → ∃ t, exec .tackTakeover s = .next t ∧ t.tack.active = (!s.tack.active) ∧ t.tack.takeover = false ∧
      t.tack.standbyOk = false ∧ t.tack.takeovers = satAdd 0xFFFF s.tack.takeovers 1 ∧ t.cpq = s.cpq.filter (fun c => hostOpLong c.opcode) ∧
      t.outbox.length ≤ s.cpq.length ∧ t.mem = s.mem) ∧
    (s.tack.standbyOk = true ∨ s.tack.takeover = true ∨ 3 ≤ s.tack.restartFails → ∀ b, exec (.tackRestartEnd b) s = .next s) ∧
    (s.tack.standbyOk = false → s.tack.takeover = false → s.tack.restartFails < 3 →
      (s.tack.fwStage = 0 → (∃ t, exec (.tackRestartEnd true) s = .next t ∧ t.tack.standbyOk = true ∧ t.tack.restartFails = 0 ∧ t.tack.active = s.tack.active) ∧
        exec (.tackRestartEnd false) s = .next { s with tack := { s.tack with restartFails := s.tack.restartFails + 1 } }) ∧
      (s.tack.fwStage = 1 → exec (.tackRestartEnd true) s = .next { s with tack := { s.tack with standbyOk := true, takeover := true, fwStage := 2 } })) ∧
    (s.tack.fwStage ≠ 1 → exec .fwStartTimeout s = .next s) ∧
    (∀ x y, s.tack.fwStage = 1 → s.tack.activating = some (x.cmd.session, x.cmd.seq) → s.longs = [x] → x.res = none → ∃ t, exec .fwStartTimeout s = .next t ∧
      t.longs = [{ x with res := some (St.rasFwStart, []) }] ∧ t.tack.activating = none ∧ t.tack.fwStage = 0 ∧ t.tack.staged = [] ∧
      t.bank y = s.bank y) ∧
    (s.tack.agg.length < 1024 →
      (let adds := fun (t : State) (unit id : Nat) => ∃ r, t.tack.agg = s.tack.agg ++ [r] ∧ r.status = St.rasCtrlParity ∧ r.cls = 11 ∧ r.sev = 1 ∧
         r.unit = unit ∧ r.id = id
       (∀ ps k q id r, (s.stall ps).slots.find? (fun e => e.1 = k) = some (k, q, id) → s.req id = some r → r.src = .slot ps k →
         ∃ t, exec (.ctrlParityError (.slot ps k)) s = .next t ∧ adds t 1 ps ∧
           t.req id = some { r with phase := .arrived, status := St.rasCtrlParity, data := [] }) ∧
       (∀ n id r, s.req id = some r → r.atShed = true → (s.chanOf (spreadLc r.pa)).map (· / 34) = some n →
         ∃ t, exec (.ctrlParityError (.shed n [id])) s = .next t ∧ adds t 2 (n * 34) ∧
           t.req id = some { r with phase := .back, pos := r.path.length - 1, status := St.rasCtrlParity, data := [] }) ∧
       (∀ n, ∃ t, exec (.ctrlParityError (.gate n [])) s = .next t ∧ adds t 9 (n * 8)) ∧
       (∀ n, ∃ t, exec (.ctrlParityError (.comb n [])) s = .next t ∧ adds t 9 (n * 8))))

namespace Sys2Proof.Claims

/-- Stall `ps` runs and is at rest: queues idle, nothing started or in flight; and the one sparing decided is `j` (R541). -/
def restsFor (s : State) (ps : Nat) (j : SpareJob) : Prop :=
  s.tack.todo = [j] ∧ j.ps = ps ∧ j.long = none ∧ j.paused = [] ∧ s.tack.takeover = false ∧ (s.stall ps).pstate = .run ∧ noneStarted s ps ∧
    (s.stall ps).arr.inflight = [] ∧ (s.stall ps).sync = none ∧ ∀ q, q < 5 → (s.queue ps q).state = .idle

end Sys2Proof.Claims

/-- Live sparing and ageing: a failing column takes the first free repair column, a failing bank the repair bank, a self-test decides what is
spared, a failing stall moves whole to a spare, and without one stays fenced; a monitor's samples make daily means, and a prediction below
WARN_DAYS gives a notice (R163, R541, R543 to R545, R547, R548). -/
def Obligations.SparingAndAgeing : Prop :=
  ∀ (s : State) (ps : Nat) (j : SpareJob), Safety.Canonical s →
    (∀ col, col < 514 → j.kind = 0 → j.sub = col → restsFor s ps j →
      (let m := s.scsr ps 0x1420
       bypassed m col = false →
       (bit m 10 = false → ∃ t, exec (.columnSpare ps col) s = .next t ∧ t.tack.todo = [] ∧ bit (t.scsr ps 0x1420) 10 = true ∧
         fld (t.scsr ps 0x1420) 9 0 = col ∧ fld (t.scsr ps 0x1420) 63 11 = fld m 63 11 ∧ t.mem = s.mem) ∧
       (bit m 10 = true → bit m 26 = false → fld m 25 16 = 0 → ∃ t, exec (.columnSpare ps col) s = .next t ∧ t.tack.todo = [] ∧
         bit (t.scsr ps 0x1420) 26 = true ∧ fld (t.scsr ps 0x1420) 25 16 = col ∧ fld (t.scsr ps 0x1420) 10 0 = fld m 10 0) ∧
       (bit m 10 = true → bit m 26 = true → ∃ t, exec (.columnSpare ps col) s = .next t ∧
         t.tack.todo = [{ j with kind := 1, sub := 0, started := false }] ∧ t.stalls = s.stalls))) ∧
    (∀ b, j.kind = 2 → j.sub = b → restsFor s ps j →
      ((s.stall ps).bank = none → ∃ t, exec (.bankSpare ps b) s = .next t ∧ t.tack.todo = [] ∧ (t.stall ps).bank = some b ∧
        (t.stall ps).tregs = (s.stall ps).tregs) ∧
      (∀ k, (s.stall ps).bank = some k → k ≠ b → ∃ t, exec (.bankSpare ps b) s = .next t ∧
        t.tack.todo = [{ j with kind := 1, sub := 0, started := false }])) ∧
    (j.kind = 3 → j.sub = 0 → restsFor s ps j →
      (∀ c, c < 514 → colsLeft (s.scsr ps 0x1420) ≠ 0 → ∃ t, exec (.arraySelfTest ps [c]) s = .next t ∧
        t.tack.todo = [{ kind := 0, ps := ps, sub := c, status := j.status }]) ∧
      (∃ t, exec (.arraySelfTest ps []) s = .next t ∧ ∃ k, t.tack.todo = [k] ∧ k.kind = 1 ∧ k.ps = ps ∧ k.sub = 0)) ∧
    (j.kind = 1 → j.sub = 0 → j.started = false → restsFor s ps j → s.healthOf ps = .active → s.reqs = [] → (∀ g, g < 16 → (s.groom (ps * 16 + g)).halted = true) →
      (∀ x ls, spareFor (fun k => s.healthOf k = .spare) ps = some x → s.lsOf ps = some ls → x ≠ ps → noneStarted s x →
        ∃ t, exec (.stallSpareMove ps false) s = .next t ∧ t.tack.todo = [] ∧ t.healthOf ps = .failed ∧ t.healthOf x = .active ∧ t.psOf ls = x ∧
          (t.stall x).scratch = (s.stall ps).scratch ∧ (t.stall x).tregs = (s.stall ps).tregs ∧ (t.stall x).bank = (s.stall x).bank ∧
          t.scsr x 0x1420 = s.scsr x 0x1420 ∧ (∀ g, g < 16 → (t.groom (x * 16 + g)).x = (s.groom (ps * 16 + g)).x ∧
            (t.groom (x * 16 + g)).v = (s.groom (ps * 16 + g)).v ∧ (t.groom (x * 16 + g)).pc = (s.groom (ps * 16 + g)).pc ∧
            (t.node (ps * 16 + g)).fenced = true ∧ (t.node (x * 16 + g)).fenced = false) ∧ t.mem = s.mem) ∧
      (spareFor (fun k => s.healthOf k = .spare) ps = none → ∃ t, exec (.stallSpareMove ps false) s = .next t ∧ t.tack.todo = [] ∧
        t.healthOf ps = .failed ∧ t.tack.needed = s.tack.needed ++ [(1, ps, 0)] ∧ ∀ g, g < 16 → (t.node (ps * 16 + g)).fenced = true)) ∧
    (s.tack.todo = [] → exec (.columnSpare ps 0) s = .next s ∧ exec (.bankSpare ps 0) s = .next s ∧ exec (.arraySelfTest ps []) s = .next s ∧
      exec (.stallSpareMove ps false) s = .next s) ∧
    (∀ m v, (let u := s.tack.ageOf m
      ∃ t, exec (.ageSample m v) s = .next t ∧ t.mem = s.mem ∧ t.stalls = s.stalls ∧
        (u.cnt < 23 → t.tack.ageOf m = { u with cnt := u.cnt + 1, sum := u.sum + v }) ∧
        (23 ≤ u.cnt → (t.tack.ageOf m).cnt = 0 ∧ ∃ age, (t.tack.ageOf m).means = ((age, u.sum + v) :: u.means).take 90))) ∧
    (∀ m, (let u := s.tack.ageOf m
      let d := u.predict (s.ageLimit m)
      ∃ t, exec (.agePredict m) s = .next t ∧ t.mem = s.mem ∧ (t.tack.ageOf m).days = d ∧ d ≤ 0xFFFF ∧
        (s.ageLimit m = true → d = 0) ∧ (u.means = [] → s.ageLimit m = false → d = 0xFFFF) ∧
        (fld (s.dcsr 0x48) 15 0 ≤ d → t.tack.needed = s.tack.needed) ∧
        (d < fld (s.dcsr 0x48) 15 0 → t.tack.needed = s.tack.needed ++ [(m.unitOf.1, m.unitOf.2.1, d)])))

/-- The performance counters of a stall that runs: enabling, zeroing, the checks of a selection in their order, and a counter that wraps into a chained
one or its overflow bit; TASK is refused (R559, R561, R562, R564, R569, R570). -/
def Obligations.PerformanceCounters : Prop :=
  ∀ (s : State) (ps : Nat) (p : Priv) (v : Word), Safety.Canonical s → (s.stall ps).pstate = .run →
    (let zeroed := fun (t : State) => t.scsr ps 0x1C08 = 0 ∧ t.scsr ps 0x1C10 = 0 ∧ t.scsr ps 0x1C18 = 0 ∧
       ∀ n, n < 8 → t.scsr ps (0x1C48 + n * 16) = 0
     (∀ n, ∀ i ∈ [Instr.perfEnable .task ps v, .perfZero .task ps, .perfCfgWrite .task ps n v], exec i s = .next (answered s St.privilege 0 [])) ∧
     (p ≠ .task →
       (∃ t, exec (.perfEnable p ps v) s = .next t ∧ t.resp = { status := St.ok } ∧ t.scsr ps 0x1C00 = v &&& 3 ∧ (bit v 2 = true → zeroed t) ∧
         (bit v 2 = false → ∀ o, o ≠ 0x1C00 → t.scsr ps o = s.scsr ps o)) ∧
       (∃ t, exec (.perfZero p ps) s = .next t ∧ t.resp = { status := St.ok } ∧ t.scsr ps 0x1C00 = s.scsr ps 0x1C00 &&& 3 ∧ zeroed t) ∧
       (∀ n, n < 8 →
         (v &&& ~~~0xFFFF1FFF ≠ 0 → exec (.perfCfgWrite p ps n v) s = .next (answered s St.reservedSet 0 [])) ∧
         (v &&& ~~~0xFFFF1FFF = 0 → perfAttrs (fld v 7 0) = none ∨ (fld v 7 0 = 0xE0 ∧ n = 0) →
           exec (.perfCfgWrite p ps n v) s = .next (answered s St.perfEvent 0 [])) ∧
         (v &&& ~~~0xFFFF1FFF = 0 → fld v 7 0 ≤ 0x0B → fld v 31 16 ≠ 0xFFFF ∨ bit v 12 = true →
           exec (.perfCfgWrite p ps n v) s = .next (answered s St.perfFilter 0 [])) ∧
         (v &&& ~~~0xFFFF1FFF = 0 → fld v 7 0 ≤ 0x0B → fld v 31 16 = 0xFFFF → bit v 12 = false →
           exec (.perfCfgWrite p ps n v) s = .next (answered (s.setScsr ps (0x1C40 + n * 16) v) St.ok 0 [])))) ∧
     (∀ n, n < 8 → bit (s.scsr ps 0x1C00) 0 = true → bit (s.scsr ps (0x1C40 + n * 16)) 8 = true → fld (s.scsr ps (0x1C48 + n * 16)) 47 0 = 2 ^ 48 - 1 →
       (let chained := n < 7 ∧ bit (s.scsr ps (0x1C40 + (n + 1) * 16)) 8 = true ∧ fld (s.scsr ps (0x1C40 + (n + 1) * 16)) 7 0 = 0xE0
        (¬ chained → ∃ t, exec (.perfCounterWrap ps n) s = .next t ∧ t.scsr ps (0x1C48 + n * 16) = 0 ∧ bit (t.scsr ps 0x1C18) n = true) ∧
        (chained → fld (s.scsr ps (0x1C48 + (n + 1) * 16)) 47 0 < 2 ^ 48 - 1 → ∃ t, exec (.perfCounterWrap ps n) s = .next t ∧
          t.scsr ps (0x1C48 + n * 16) = 0 ∧ t.scsr ps 0x1C18 = s.scsr ps 0x1C18 ∧
          fld (t.scsr ps (0x1C48 + (n + 1) * 16)) 47 0 = fld (s.scsr ps (0x1C48 + (n + 1) * 16)) 47 0 + 1))) ∧
     (∀ n, bit (s.scsr ps 0x1C00) 0 = false → exec (.perfCounterWrap ps n) s = .next s))

/-- A register write: an address of no region is MEM_RANGE; a page that sleeps makes it wait; PRIVILEGE comes before the size rule, and a write that is
not of one whole register is UNSUPPORTED; an unlisted offset discards it; a W1C register clears the bits written, and a refused write changes nothing
(R6, R8, R13, R530, R557, R571). -/
def Sys2Proof.Claims.RegisterWrites : Prop :=
  ∀ (s : State) (p : Priv) (a len : Nat) (v : Word), Safety.Canonical s →
    (localRegion a = none → exec (.registerWrite p a len v) s = .next (answered s St.memRange 0 [])) ∧
    (∀ r, localRegion a = some r →
      (let x := s.regWrite p false v r.aligned
       (s.regAwake r = false → exec (.registerWrite p a len v) s = .next s) ∧
       (s.regAwake r = true → x.2 = St.privilege → exec (.registerWrite p a len v) s = .next (answered s St.privilege 0 [])) ∧
       (s.regAwake r = true → x.2 ≠ St.privilege → len ≠ 8 ∨ a % 8 ≠ 0 → exec (.registerWrite p a len v) s = .next (answered s St.unsupported 0 [])) ∧
       (s.regAwake r = true → x.2 ≠ St.privilege → a % 8 = 0 → exec (.registerWrite p a 8 v) s = .next (answered x.1 x.2 0 [])))) ∧
    (∀ o, o < 0x1000000 → o % 8 = 0 →
      exec (.registerWrite .task (devSpace + o) 8 v) s = .next (answered s St.privilege 0 []) ∧
      ((devBlk o = none ∨ ∃ b k, devBlk o = some (b, k) ∧ findReg b.regs k = none) → p ≠ .task →
        exec (.registerWrite p (devSpace + o) 8 v) s = .next (answered s St.ok 0 []))) ∧
    (∃ t, exec (.registerWrite .tack (devSpace + arbBase + 0x30) 8 v) s = .next t ∧ t.resp = { status := St.ok } ∧
      bit (t.dcsr (arbBase + 0x30)) 0 = (bit (s.dcsr (arbBase + 0x30)) 0 && !bit v 0) ∧ ∀ o, o ≠ arbBase + 0x30 → t.dcsr o = s.dcsr o) ∧
    exec (.registerWrite .kernel (devSpace + arbBase + 0x30) 8 v) s = .next (answered s St.privilege 0 []) ∧
    (p ≠ .task → (fld v 15 0 = 0 ∨ 3650 < fld v 15 0 → exec (.registerWrite p (devSpace + 0x48) 8 v) s = .next (answered s St.badParam 0 [])) ∧
      (1 ≤ fld v 15 0 → fld v 15 0 ≤ 3650 → ∃ t, exec (.registerWrite p (devSpace + 0x48) 8 v) s = .next t ∧ t.resp = { status := St.ok } ∧
        fld (t.dcsr 0x48) 15 0 = fld v 15 0))

/-- A step takes the command at the front of the queue and runs it on the queue's rest. -/
def Obligations.StepRunsTheFrontCommand : Prop :=
  ∀ (c : Instr) (s : State), step { s with pending := c :: s.pending } = exec c s

/-- With no command waiting one NCLK passes: the clock advances, and every second step the time to a stall's next event counts down. That a step
without commands is a tick is the model's choice (log entry 1), not the spec's. -/
def Sys2Proof.Claims.TickCountsTime : Prop :=
  ∀ (s : State), Safety.Canonical s → s.pending = [] → ∃ t, step s = .next t ∧ t.clk = s.clk + 1 ∧ t.mem = s.mem ∧ t.grooms = s.grooms ∧ t.csr = s.csr ∧
    t.reqs = s.reqs ∧ t.pending = [] ∧
    ∀ ps, bit (s.scsr ps 0x1C00) 0 = false → t.scsr ps 0x1B00 =
      (if s.clk % 2 = 1 ∧ bit (s.scsr ps 0x1B00) 63 = true ∧ fld (s.scsr ps 0x1B00) 39 0 ≠ 0 then s.scsr ps 0x1B00 - 1 else s.scsr ps 0x1B00)

/-- After reset: no command waits, PHASE is 0, grooms are halted and queues idle, the nodes are fenced, memory is empty, and registers hold the reset values
of their tables. Power-on contents of memory and the standing of bays are the model's choice (log entry 2). -/
def Sys2Proof.Claims.ResetValues : Prop :=
  (let s := State.reset
   s.pending = [] ∧ s.pwr.phase = 0 ∧ s.mem = [] ∧ s.cpq = [] ∧ s.sess = [] ∧
   (∀ gi, (s.groom gi).halted = true ∧ (s.groom gi).priv = .kernel ∧ (s.groom gi).ie = false) ∧
   (∀ ps q, (s.queue ps q).state = .idle ∧ (s.queue ps q).lists = []) ∧
   (∀ i, (s.node i).fenced = true) ∧
   (∀ k ∈ stallRegs, ∀ ps, s.scsr ps k.off = BitVec.ofNat 64 k.reset) ∧ (∀ k ∈ groomRegs, ∀ gi, (s.groom gi).reg k.off = BitVec.ofNat 64 k.reset) ∧
   (∀ k ∈ netRegs, ∀ i, (s.node i).reg k.off = BitVec.ofNat 64 k.reset) ∧
   (∀ k ∈ arbRegs, s.dcsr (arbBase + k.off) = BitVec.ofNat 64 k.reset) ∧ (∀ k ∈ pwrRegs, s.dcsr (pwrBase + k.off) = BitVec.ofNat 64 k.reset) ∧
   (∀ n, n < 4 → ∀ k ∈ gateRegs, s.dcsr (gateBase n + k.off) = BitVec.ofNat 64 k.reset))

/-- The state after reset is sound. -/
def Sys2Proof.Claims.ResetIsSound : Prop := Safety.Sound State.reset

/-- No command and no tick stops the machine: from every state a run goes on for any number of steps. The block's own errors are states, not stops. -/
def Sys2Proof.Claims.RunsNeverStop : Prop :=
  (∀ (c : Instr) (s : State), ∃ t, exec c s = .next t) ∧ ∀ (n : Nat) (s : State), Safety.RunsFor n s

/-- Every step keeps memory and the loft canonical and every lottery generator alive: equal contents stay equal data, and no arbiter comes to draw one
requester for ever (R465, R476). -/
def Obligations.StepKeepsStorageCanonical : Prop :=
  ∀ (s t : State), Memory.wf s.mem = true → Memory.wf s.loft = true → Safety.lotteryOk s = true → step s = .next t →
    Memory.wf t.mem = true ∧ Memory.wf t.loft = true ∧ Safety.lotteryOk t = true

/-- Every step of a sound state leaves a sound state: every map that the block is kept in, the maps inside stalls and nodes among them, keeps its canonical
form. -/
def Obligations.StepKeepsSoundness : Prop :=
  ∀ (s t : State), Safety.Sound s → step s = .next t → Safety.Sound t

namespace Sys2Proof.Claims

/-- Groom instructions that issue, by format (R79): arithmetic, branches, memory, vectors. -/
def rowsR : List (Nat → FmtR → Instr) :=
  [.add, .sub, .and, .or, .xor, .sll, .srl, .sra, .slt, .sltu, .min, .max, .minu, .maxu, .clz, .popc, .mul, .mulh, .mulhu, .div, .divu, .rem,
   .remu, .amoaddW, .amoaddD, .amoswapW, .amoswapD, .amocasW, .amocasD]
def rowsI : List (Nat → FmtI → Instr) :=
  [.addi, .andi, .ori, .xori, .shifti, .lui, .shori, .ldb, .ldh, .ldw, .ldd, .ldbu, .ldhu, .ldwu, .jalr]
def rowsV : List (Nat → FmtV → Instr) :=
  [.vadd, .vsub, .vmul, .vmulh, .vmulhu, .vmin, .vmax, .vminu, .vmaxu, .vand, .vor, .vxor, .vsll, .vsrl, .vsra, .vsadd, .vsaddu, .vsel, .vmac,
   .vfadd, .vfsub, .vfmul, .vfma, .vfnma, .vfmawl, .vfmawh, .vfdiv, .vfsqrt, .vfmin, .vfmax, .vfabs, .vfneg, .vfrcpe, .vfrsqe, .vfexp2, .vflog2,
   .vcvt, .vcvth, .vfcmpeq, .vfcmplt, .vfcmple, .vfcmpun] ++
  [.vcmpeq, .vcmplt, .vcmpltu, .vcmple, .pand, .por, .pxor, .pandn, .pfromx, .ptox, .pcnt, .psetn, .vbcast, .vext, .vins, .vperm, .vslideup,
   .vslidedn, .vredadd, .vredmax, .vredmin, .vfredadd, .vfredmax, .vfredmin]

/-- What an instruction of groom `gi` may not touch: other grooms, memory, the loft, device registers, scratch and tile registers of every stall, and
the requests of others. -/
def keepsToItself (s t : State) (gi : Nat) : Prop :=
  (∀ gj, gj ≠ gi → t.groom gj = s.groom gj) ∧ t.mem = s.mem ∧ t.loft = s.loft ∧ t.csr = s.csr ∧ t.nodes = s.nodes ∧
    (∀ ps, (t.stall ps).scratch = (s.stall ps).scratch ∧ (t.stall ps).tregs = (s.stall ps).tregs ∧ (t.stall ps).queues = (s.stall ps).queues) ∧
    ∀ id r, id < s.nextReq → s.req id = some r → (∀ n, r.src ≠ .groomLoad gi n) → t.req id = some r

end Sys2Proof.Claims

/-- Isolation of grooms: whatever its operands, its state and its faults, an arithmetic, branch, memory or vector instruction of one groom changes no other
groom, no memory, no scratch, no device register, and no request of another; its accesses leave as requests, which the checks of their way meet (R58, R59, R66,
R79, R84). -/
def Obligations.GroomInstructionsKeepToTheirGroom : Prop :=
  ∀ (s t : State) (gi : Nat), Safety.Canonical s →
    (∀ i ∈ rowsR, ∀ f, exec (i gi f) s = .next t → keepsToItself s t gi) ∧ (∀ i ∈ rowsI, ∀ f, exec (i gi f) s = .next t → keepsToItself s t gi) ∧
    (∀ i ∈ rowsV, ∀ f, exec (i gi f) s = .next t → keepsToItself s t gi) ∧
    (∀ i ∈ ([.stb, .sth, .stw, .std] : List (Nat → FmtS → Instr)), ∀ f, exec (i gi f) s = .next t → keepsToItself s t gi) ∧
    (∀ i ∈ ([.beq, .bne, .blt, .bge, .bltu, .bgeu] : List (Nat → FmtB → Instr)), ∀ f, exec (i gi f) s = .next t → keepsToItself s t gi) ∧
    (∀ f, exec (.jal gi f) s = .next t → keepsToItself s t gi) ∧
    (∀ i ∈ ([.vld, .vst] : List (Nat → FmtVM → Instr)), ∀ f, exec (i gi f) s = .next t → keepsToItself s t gi) ∧
    (∀ i ∈ ([.vlds, .vsts, .vgth, .vsct] : List (Nat → FmtVMX → Instr)), ∀ f, exec (i gi f) s = .next t → keepsToItself s t gi)

/-- Reads that clear, and writes of registers (R5, R6, R8, R13, R530, R557, R571). -/
def Obligations.RegisterAccess : Prop :=
  Claims.ReadsClearRcFields ∧ Claims.RegisterWrites

/-- A tick counts time, and nothing stops the machine. That an empty queue ticks is the model's choice (log entry 1). -/
def Obligations.TimeGoesOn : Prop :=
  Claims.TickCountsTime ∧ Claims.RunsNeverStop

/-- The values after reset, and that they are sound. -/
def Obligations.ResetState : Prop :=
  Claims.ResetValues ∧ Claims.ResetIsSound
end

