-- ==== Sys2Proof/Laws/Map.lean ====
section
/-! SUPPORT. Laws of sparse maps: read after write, other keys, a second write, and the canonical form. -/

namespace Sys2Proof.Map

variable {α : Type}

theorem get_put (d : Nat → α) (m : Map α) (k : Nat) (v : α) (j : Nat) :
    get d (put m k v) j = if j = k then v else get d m j := by
  induction m with
  | nil => simp [put, get, eq_comm]
  | cons p m ih =>
    obtain ⟨i, w⟩ := p
    unfold put
    by_cases h1 : k < i
    · rw [if_pos h1]
      by_cases hj : j = k
      · simp [get, hj]
      · simp [get, hj, Ne.symm hj]
    · rw [if_neg h1]
      by_cases h2 : k = i
      · rw [if_pos h2]
        by_cases hj : j = k
        · simp [get, hj]
        · simp [get, hj, Ne.symm hj, ← h2]
      · rw [if_neg h2]
        simp only [get, ih]
        by_cases hi : i = j
        · simp [hi, show ¬ j = k by omega]
        · simp [hi]

theorem get_erase_of_ne (d : Nat → α) (m : Map α) {k j : Nat} (h : j ≠ k) : get d (erase m k) j = get d m j := by
  induction m with
  | nil => rfl
  | cons p m ih =>
    obtain ⟨i, w⟩ := p
    unfold erase
    split_ifs with h1
    · subst h1; simp [get, Ne.symm h]
    · simp only [get, ih]

/-- Keys at or above a bound are not below it, so an absent key reads as the default. -/
theorem get_of_rising (d : Nat → α) (m : Map α) {b k : Nat} (h : rising b m = true) (hk : k < b) : get d m k = d k := by
  induction m generalizing b with
  | nil => rfl
  | cons p m ih =>
    obtain ⟨i, w⟩ := p
    simp only [rising, Bool.and_eq_true, decide_eq_true_eq] at h
    have : i ≠ k := by omega
    simp [get, this, ih h.2 (by omega)]

theorem rising_mono {m : Map α} {a b : Nat} (h : rising b m = true) (hab : a ≤ b) : rising a m = true := by
  cases m with
  | nil => rfl
  | cons p m =>
    simp only [rising, Bool.and_eq_true, decide_eq_true_eq] at *
    exact ⟨by omega, h.2⟩

theorem rising_put {m : Map α} {b k : Nat} (v : α) (h : rising b m = true) (hk : b ≤ k) : rising b (put m k v) = true := by
  induction m generalizing b with
  | nil => simp [put, rising, hk]
  | cons p m ih =>
    obtain ⟨i, w⟩ := p
    have h0 := h
    simp only [rising, Bool.and_eq_true, decide_eq_true_eq] at h
    unfold put
    split_ifs with h1 h2
    · simp only [rising, Bool.and_eq_true, decide_eq_true_eq]
      exact ⟨hk, by omega, h.2⟩
    · subst h2; simp only [rising, Bool.and_eq_true, decide_eq_true_eq]; exact h
    · simp only [rising, Bool.and_eq_true, decide_eq_true_eq]
      exact ⟨h.1, ih h.2 (by omega)⟩

theorem rising_erase {m : Map α} {b : Nat} (k : Nat) (h : rising b m = true) : rising b (erase m k) = true := by
  induction m generalizing b with
  | nil => rfl
  | cons p m ih =>
    obtain ⟨i, w⟩ := p
    simp only [rising, Bool.and_eq_true, decide_eq_true_eq] at h
    unfold erase
    split_ifs with h1
    · exact rising_mono h.2 (by omega)
    · simp only [rising, Bool.and_eq_true, decide_eq_true_eq]
      exact ⟨h.1, ih h.2⟩

theorem rising_filter {m : Map α} {b : Nat} (p : Nat × α → Bool) (h : rising b m = true) :
    rising b (m.filter p) = true := by
  induction m generalizing b with
  | nil => rfl
  | cons e m ih =>
    obtain ⟨i, w⟩ := e
    simp only [rising, Bool.and_eq_true, decide_eq_true_eq] at h
    by_cases hp : p (i, w) = true
    · simp only [List.filter_cons, hp, if_true, rising, Bool.and_eq_true, decide_eq_true_eq]
      exact ⟨h.1, ih h.2⟩
    · simp only [List.filter_cons, hp]
      exact rising_mono (ih h.2) (by omega)

theorem mem_put {m : Map α} {k : Nat} {v : α} {p : Nat × α} (h : p ∈ put m k v) : p = (k, v) ∨ p ∈ m := by
  induction m with
  | nil => simpa [put] using h
  | cons e m ih =>
    obtain ⟨i, w⟩ := e
    unfold put at h
    split_ifs at h
    · simpa using h
    · simp only [List.mem_cons] at h ⊢; tauto
    · simp only [List.mem_cons] at h ⊢
      rcases h with h | h
      · exact .inr (.inl h)
      · rcases ih h with h | h <;> tauto

theorem mem_erase {m : Map α} {k : Nat} {p : Nat × α} (h : p ∈ erase m k) : p ∈ m := by
  induction m with
  | nil => exact h
  | cons e m ih =>
    obtain ⟨i, w⟩ := e
    unfold erase at h
    split_ifs at h
    · exact List.mem_cons_of_mem _ h
    · simp only [List.mem_cons] at h ⊢; tauto

variable [DecidableEq α]

/-- Read after write, in any map. -/
@[simp] theorem get_set_of_ne (d : Nat → α) (m : Map α) {k j : Nat} (v : α) (h : j ≠ k) :
    get d (set d m k v) j = get d m j := by
  unfold set; split_ifs
  · exact get_erase_of_ne d m h
  · simp [get_put, h]

/-- What was written is read back when it is not the default. -/
theorem get_set_of_ne_default (d : Nat → α) (m : Map α) (k : Nat) {v : α} (h : v ≠ d k) : get d (set d m k v) k = v := by
  simp [set, h, get_put]

/-- What was written is read back, in a map of canonical form. -/
@[simp] theorem get_set_self (d : Nat → α) {m : Map α} (k : Nat) (v : α) (h : wf d m = true) :
    get d (set d m k v) k = v := by
  unfold set; split_ifs with hv
  · subst hv
    have hr : rising 0 m = true := by simp only [wf, Bool.and_eq_true] at h; exact h.1
    clear h
    suffices ∀ b, rising b m = true → get d (erase m k) k = d k from this 0 hr
    intro b
    clear hr
    induction m generalizing b with
    | nil => intro _; rfl
    | cons e m ih =>
      obtain ⟨i, w⟩ := e
      intro hr
      simp only [rising, Bool.and_eq_true, decide_eq_true_eq] at hr
      unfold erase
      split_ifs with h1
      · subst h1; exact get_of_rising d m hr.2 (by omega)
      · simp [get, h1, ih _ hr.2]
  · simp [get_put]

omit [DecidableEq α] in
theorem put_put (m : Map α) (k : Nat) (v w : α) : put (put m k v) k w = put m k w := by
  induction m with
  | nil => simp [put]
  | cons e m ih =>
    obtain ⟨i, u⟩ := e
    by_cases h1 : k < i
    · simp [put, h1]
    · by_cases h2 : k = i
      · simp [put, h2]
      · simp [put, h1, h2, ih]

/-- A second write replaces a first one that was not the default. -/
theorem set_set (d : Nat → α) (m : Map α) (k : Nat) {v w : α} (h : v ≠ d k) (h2 : w ≠ d k) :
    set d (set d m k v) k w = set d m k w := by
  simp [set, h, h2, put_put]

/-- Every write keeps the canonical form. -/
theorem wf_set (d : Nat → α) {m : Map α} (k : Nat) (v : α) (h : wf d m = true) : wf d (set d m k v) = true := by
  simp only [wf, Bool.and_eq_true, List.all_eq_true, decide_eq_true_eq] at h ⊢
  unfold set
  split_ifs with hv
  · exact ⟨rising_erase k h.1, fun p hp => h.2 p (mem_erase hp)⟩
  · refine ⟨rising_put v h.1 (Nat.zero_le _), fun p hp => ?_⟩
    rcases mem_put hp with rfl | hp
    · exact hv
    · exact h.2 p hp

theorem wf_filter (d : Nat → α) {m : Map α} (q : Nat × α → Bool) (h : wf d m = true) : wf d (m.filter q) = true := by
  simp only [wf, Bool.and_eq_true, List.all_eq_true, decide_eq_true_eq] at h ⊢
  exact ⟨rising_filter q h.1, fun p hp => h.2 p (List.mem_of_mem_filter hp)⟩

@[simp] theorem wf_nil (d : Nat → α) : wf d ([] : Map α) = true := rfl

end Sys2Proof.Map
end

