-- ==== Sys2Proof/Laws/Canonical.lean ====
section
/-! SUPPORT. A check that evaluates, and which shows a concrete state canonical. -/

namespace Sys2Proof.Laws

open Sys2Proof.Machine Sys2Proof.Safety

/-- A key reads as a listed value or as the default. -/
theorem get_mem_or {α : Type} (d : Nat → α) (m : Map α) (k : Nat) : (∃ p ∈ m, Map.get d m k = p.2) ∨ Map.get d m k = d k := by
  induction m with
  | nil => exact .inr rfl
  | cons p m ih =>
    obtain ⟨j, v⟩ := p
    by_cases h : j = k
    · exact .inl ⟨(j, v), by simp, by simp [Map.get, h]⟩
    · rcases ih with ⟨p, hp, he⟩ | he
      · exact .inl ⟨p, by simp [hp], by simp [Map.get, h, he]⟩
      · exact .inr (by simp [Map.get, h, he])

/-- A property of the default and of every listed value holds of every value. -/
theorem get_all {α : Type} (d : Nat → α) (m : Map α) (q : α → Bool) (hd : ∀ k, q (d k) = true)
    (h : m.all (fun p => q p.2) = true) (k : Nat) : q (Map.get d m k) = true := by
  rcases get_mem_or d m k with ⟨p, hp, he⟩ | he
  · rw [he]; exact List.all_eq_true.mp h p hp
  · rw [he]; exact hd k

/-- Every check of `Canonical`, over the listed parts. -/
def canonicalB (s : State) : Bool :=
  Memory.wf s.mem && Memory.wf s.loft && Map.wf (fun _ => ({} : Stall)) s.stalls && s.stalls.all (fun p => stallOk p.2) &&
  Map.wf (fun _ => ({} : Groom)) s.grooms && Map.wf (fun _ => ({} : Node)) s.nodes &&
  s.nodes.all (fun p => Map.wf (resetOf netRegs) p.2.csr) && Map.wf noneOf s.reqs && Map.wf devReset s.csr &&
  Map.wf chanDflt s.chans && Map.wf (fun _ => ({} : Shed)) s.sheds && Map.wf (fun _ => ({} : Gate)) s.gates &&
  Map.wf (fun _ => ({} : Port)) s.ports && Map.wf (fun _ => ({} : Xbar)) s.xbars && Map.wf zeroN s.dld && Map.wf zeroW s.routes &&
  Map.wf noneOf s.sess && Map.wf noneOf s.mrs && Map.wf noneOf s.qps && Map.wf (fun _ => ({} : HPort)) s.hports &&
  Map.wf bankDflt s.banks && Map.wf arbDflt s.arbs && Map.wf healthDflt s.health && Map.wf lsDflt s.lsMap

theorem canonical_of {s : State} (h : canonicalB s = true) : Canonical s := by
  simp only [canonicalB, Bool.and_eq_true] at h
  obtain ⟨⟨⟨⟨⟨⟨⟨⟨⟨⟨⟨⟨⟨⟨⟨⟨⟨⟨⟨⟨⟨⟨⟨h1, h2⟩, h3⟩, h4⟩, h5⟩, h6⟩, h7⟩, h8⟩, h9⟩, h10⟩, h11⟩, h12⟩, h13⟩, h14⟩, h15⟩, h16⟩, h17⟩, h18⟩, h19⟩, h20⟩, h21⟩, h22⟩,
    h23⟩, h24⟩ := h
  exact ⟨h1, h2, h3, fun ps => get_all _ _ stallOk (fun _ => rfl) h4 ps, h5, h6,
    fun i => get_all (fun _ => ({} : Node)) _ (fun n => Map.wf (resetOf netRegs) n.csr) (fun _ => rfl) h7 i,
    h8, h9, h10, h11, h12, h13, h14, h15, h16, h17, h18, h19, h20, h21, h22, h23, h24⟩

end Sys2Proof.Laws
end

