-- ==== Sys2Proof/Laws/State.lean ====
section
/-! SUPPORT. What each update of one part of the state leaves as it was: one lemma per field per update. -/

namespace Sys2Proof.Machine

variable (s : State)

/-! ### setStall -/
@[simp] theorem State.setStall_pending (ps : Nat) (t : Stall) : (s.setStall ps t).pending = s.pending := rfl
@[simp] theorem State.setStall_clk (ps : Nat) (t : Stall) : (s.setStall ps t).clk = s.clk := rfl
@[simp] theorem State.setStall_free (ps : Nat) (t : Stall) : (s.setStall ps t).free = s.free := rfl
@[simp] theorem State.setStall_resp (ps : Nat) (t : Stall) : (s.setStall ps t).resp = s.resp := rfl
@[simp] theorem State.setStall_lsMap (ps : Nat) (t : Stall) : (s.setStall ps t).lsMap = s.lsMap := rfl
@[simp] theorem State.setStall_health (ps : Nat) (t : Stall) : (s.setStall ps t).health = s.health := rfl
@[simp] theorem State.setStall_grooms (ps : Nat) (t : Stall) : (s.setStall ps t).grooms = s.grooms := rfl
@[simp] theorem State.setStall_nodes (ps : Nat) (t : Stall) : (s.setStall ps t).nodes = s.nodes := rfl
@[simp] theorem State.setStall_mem (ps : Nat) (t : Stall) : (s.setStall ps t).mem = s.mem := rfl
@[simp] theorem State.setStall_memUe (ps : Nat) (t : Stall) : (s.setStall ps t).memUe = s.memUe := rfl
@[simp] theorem State.setStall_reqs (ps : Nat) (t : Stall) : (s.setStall ps t).reqs = s.reqs := rfl
@[simp] theorem State.setStall_nextReq (ps : Nat) (t : Stall) : (s.setStall ps t).nextReq = s.nextReq := rfl
@[simp] theorem State.setStall_nextXfer (ps : Nat) (t : Stall) : (s.setStall ps t).nextXfer = s.nextXfer := rfl
@[simp] theorem State.setStall_csr (ps : Nat) (t : Stall) : (s.setStall ps t).csr = s.csr := rfl
@[simp] theorem State.setStall_chans (ps : Nat) (t : Stall) : (s.setStall ps t).chans = s.chans := rfl
@[simp] theorem State.setStall_slowMem (ps : Nat) (t : Stall) : (s.setStall ps t).slowMem = s.slowMem := rfl
@[simp] theorem State.setStall_capLog2 (ps : Nat) (t : Stall) : (s.setStall ps t).capLog2 = s.capLog2 := rfl
@[simp] theorem State.setStall_sheds (ps : Nat) (t : Stall) : (s.setStall ps t).sheds = s.sheds := rfl
@[simp] theorem State.setStall_xinv (ps : Nat) (t : Stall) : (s.setStall ps t).xinv = s.xinv := rfl
@[simp] theorem State.setStall_segs (ps : Nat) (t : Stall) : (s.setStall ps t).segs = s.segs := rfl
@[simp] theorem State.setStall_loft (ps : Nat) (t : Stall) : (s.setStall ps t).loft = s.loft := rfl
@[simp] theorem State.setStall_loftChans (ps : Nat) (t : Stall) : (s.setStall ps t).loftChans = s.loftChans := rfl
@[simp] theorem State.setStall_pageReads (ps : Nat) (t : Stall) : (s.setStall ps t).pageReads = s.pageReads := rfl
@[simp] theorem State.setStall_jobs (ps : Nat) (t : Stall) : (s.setStall ps t).jobs = s.jobs := rfl
@[simp] theorem State.setStall_ljHead (ps : Nat) (t : Stall) : (s.setStall ps t).ljHead = s.ljHead := rfl
@[simp] theorem State.setStall_pfaults (ps : Nat) (t : Stall) : (s.setStall ps t).pfaults = s.pfaults := rfl
@[simp] theorem State.setStall_evictStopped (ps : Nat) (t : Stall) : (s.setStall ps t).evictStopped = s.evictStopped := rfl
@[simp] theorem State.setStall_evicting (ps : Nat) (t : Stall) : (s.setStall ps t).evicting = s.evicting := rfl
@[simp] theorem State.setStall_gates (ps : Nat) (t : Stall) : (s.setStall ps t).gates = s.gates := rfl
@[simp] theorem State.setStall_routes (ps : Nat) (t : Stall) : (s.setStall ps t).routes = s.routes := rfl
@[simp] theorem State.setStall_ports (ps : Nat) (t : Stall) : (s.setStall ps t).ports = s.ports := rfl
@[simp] theorem State.setStall_xbars (ps : Nat) (t : Stall) : (s.setStall ps t).xbars = s.xbars := rfl
@[simp] theorem State.setStall_dld (ps : Nat) (t : Stall) : (s.setStall ps t).dld = s.dld := rfl
@[simp] theorem State.setStall_dldLimit (ps : Nat) (t : Stall) : (s.setStall ps t).dldLimit = s.dldLimit := rfl
@[simp] theorem State.setStall_reds (ps : Nat) (t : Stall) : (s.setStall ps t).reds = s.reds := rfl
@[simp] theorem State.setStall_opened (ps : Nat) (t : Stall) : (s.setStall ps t).opened = s.opened := rfl
@[simp] theorem State.setStall_ended (ps : Nat) (t : Stall) : (s.setStall ps t).ended = s.ended := rfl
@[simp] theorem State.setStall_ring (ps : Nat) (t : Stall) : (s.setStall ps t).ring = s.ring := rfl
@[simp] theorem State.setStall_combHead (ps : Nat) (t : Stall) : (s.setStall ps t).combHead = s.combHead := rfl
@[simp] theorem State.setStall_cmt (ps : Nat) (t : Stall) : (s.setStall ps t).cmt = s.cmt := rfl
@[simp] theorem State.setStall_arbs (ps : Nat) (t : Stall) : (s.setStall ps t).arbs = s.arbs := rfl
@[simp] theorem State.setStall_deliv (ps : Nat) (t : Stall) : (s.setStall ps t).deliv = s.deliv := rfl
@[simp] theorem State.setStall_started (ps : Nat) (t : Stall) : (s.setStall ps t).started = s.started := rfl
@[simp] theorem State.setStall_lastG (ps : Nat) (t : Stall) : (s.setStall ps t).lastG = s.lastG := rfl
@[simp] theorem State.setStall_swi (ps : Nat) (t : Stall) : (s.setStall ps t).swi = s.swi := rfl
@[simp] theorem State.setStall_hports (ps : Nat) (t : Stall) : (s.setStall ps t).hports = s.hports := rfl
@[simp] theorem State.setStall_sess (ps : Nat) (t : Stall) : (s.setStall ps t).sess = s.sess := rfl
@[simp] theorem State.setStall_nextSess (ps : Nat) (t : Stall) : (s.setStall ps t).nextSess = s.nextSess := rfl
@[simp] theorem State.setStall_cpq (ps : Nat) (t : Stall) : (s.setStall ps t).cpq = s.cpq := rfl
@[simp] theorem State.setStall_hostAcc (ps : Nat) (t : Stall) : (s.setStall ps t).hostAcc = s.hostAcc := rfl
@[simp] theorem State.setStall_nextAcc (ps : Nat) (t : Stall) : (s.setStall ps t).nextAcc = s.nextAcc := rfl
@[simp] theorem State.setStall_longs (ps : Nat) (t : Stall) : (s.setStall ps t).longs = s.longs := rfl
@[simp] theorem State.setStall_outbox (ps : Nat) (t : Stall) : (s.setStall ps t).outbox = s.outbox := rfl
@[simp] theorem State.setStall_mrs (ps : Nat) (t : Stall) : (s.setStall ps t).mrs = s.mrs := rfl
@[simp] theorem State.setStall_qps (ps : Nat) (t : Stall) : (s.setStall ps t).qps = s.qps := rfl
@[simp] theorem State.setStall_pwr (ps : Nat) (t : Stall) : (s.setStall ps t).pwr = s.pwr := rfl
@[simp] theorem State.setStall_banks (ps : Nat) (t : Stall) : (s.setStall ps t).banks = s.banks := rfl
@[simp] theorem State.setStall_tack (ps : Nat) (t : Stall) : (s.setStall ps t).tack = s.tack := rfl

/-! ### setGroom -/
@[simp] theorem State.setGroom_pending (i : Nat) (g : Groom) : (s.setGroom i g).pending = s.pending := rfl
@[simp] theorem State.setGroom_clk (i : Nat) (g : Groom) : (s.setGroom i g).clk = s.clk := rfl
@[simp] theorem State.setGroom_free (i : Nat) (g : Groom) : (s.setGroom i g).free = s.free := rfl
@[simp] theorem State.setGroom_resp (i : Nat) (g : Groom) : (s.setGroom i g).resp = s.resp := rfl
@[simp] theorem State.setGroom_lsMap (i : Nat) (g : Groom) : (s.setGroom i g).lsMap = s.lsMap := rfl
@[simp] theorem State.setGroom_health (i : Nat) (g : Groom) : (s.setGroom i g).health = s.health := rfl
@[simp] theorem State.setGroom_stalls (i : Nat) (g : Groom) : (s.setGroom i g).stalls = s.stalls := rfl
@[simp] theorem State.setGroom_nodes (i : Nat) (g : Groom) : (s.setGroom i g).nodes = s.nodes := rfl
@[simp] theorem State.setGroom_mem (i : Nat) (g : Groom) : (s.setGroom i g).mem = s.mem := rfl
@[simp] theorem State.setGroom_memUe (i : Nat) (g : Groom) : (s.setGroom i g).memUe = s.memUe := rfl
@[simp] theorem State.setGroom_reqs (i : Nat) (g : Groom) : (s.setGroom i g).reqs = s.reqs := rfl
@[simp] theorem State.setGroom_nextReq (i : Nat) (g : Groom) : (s.setGroom i g).nextReq = s.nextReq := rfl
@[simp] theorem State.setGroom_nextXfer (i : Nat) (g : Groom) : (s.setGroom i g).nextXfer = s.nextXfer := rfl
@[simp] theorem State.setGroom_csr (i : Nat) (g : Groom) : (s.setGroom i g).csr = s.csr := rfl
@[simp] theorem State.setGroom_chans (i : Nat) (g : Groom) : (s.setGroom i g).chans = s.chans := rfl
@[simp] theorem State.setGroom_slowMem (i : Nat) (g : Groom) : (s.setGroom i g).slowMem = s.slowMem := rfl
@[simp] theorem State.setGroom_capLog2 (i : Nat) (g : Groom) : (s.setGroom i g).capLog2 = s.capLog2 := rfl
@[simp] theorem State.setGroom_sheds (i : Nat) (g : Groom) : (s.setGroom i g).sheds = s.sheds := rfl
@[simp] theorem State.setGroom_xinv (i : Nat) (g : Groom) : (s.setGroom i g).xinv = s.xinv := rfl
@[simp] theorem State.setGroom_segs (i : Nat) (g : Groom) : (s.setGroom i g).segs = s.segs := rfl
@[simp] theorem State.setGroom_loft (i : Nat) (g : Groom) : (s.setGroom i g).loft = s.loft := rfl
@[simp] theorem State.setGroom_loftChans (i : Nat) (g : Groom) : (s.setGroom i g).loftChans = s.loftChans := rfl
@[simp] theorem State.setGroom_pageReads (i : Nat) (g : Groom) : (s.setGroom i g).pageReads = s.pageReads := rfl
@[simp] theorem State.setGroom_jobs (i : Nat) (g : Groom) : (s.setGroom i g).jobs = s.jobs := rfl
@[simp] theorem State.setGroom_ljHead (i : Nat) (g : Groom) : (s.setGroom i g).ljHead = s.ljHead := rfl
@[simp] theorem State.setGroom_pfaults (i : Nat) (g : Groom) : (s.setGroom i g).pfaults = s.pfaults := rfl
@[simp] theorem State.setGroom_evictStopped (i : Nat) (g : Groom) : (s.setGroom i g).evictStopped = s.evictStopped := rfl
@[simp] theorem State.setGroom_evicting (i : Nat) (g : Groom) : (s.setGroom i g).evicting = s.evicting := rfl
@[simp] theorem State.setGroom_gates (i : Nat) (g : Groom) : (s.setGroom i g).gates = s.gates := rfl
@[simp] theorem State.setGroom_routes (i : Nat) (g : Groom) : (s.setGroom i g).routes = s.routes := rfl
@[simp] theorem State.setGroom_ports (i : Nat) (g : Groom) : (s.setGroom i g).ports = s.ports := rfl
@[simp] theorem State.setGroom_xbars (i : Nat) (g : Groom) : (s.setGroom i g).xbars = s.xbars := rfl
@[simp] theorem State.setGroom_dld (i : Nat) (g : Groom) : (s.setGroom i g).dld = s.dld := rfl
@[simp] theorem State.setGroom_dldLimit (i : Nat) (g : Groom) : (s.setGroom i g).dldLimit = s.dldLimit := rfl
@[simp] theorem State.setGroom_reds (i : Nat) (g : Groom) : (s.setGroom i g).reds = s.reds := rfl
@[simp] theorem State.setGroom_opened (i : Nat) (g : Groom) : (s.setGroom i g).opened = s.opened := rfl
@[simp] theorem State.setGroom_ended (i : Nat) (g : Groom) : (s.setGroom i g).ended = s.ended := rfl
@[simp] theorem State.setGroom_ring (i : Nat) (g : Groom) : (s.setGroom i g).ring = s.ring := rfl
@[simp] theorem State.setGroom_combHead (i : Nat) (g : Groom) : (s.setGroom i g).combHead = s.combHead := rfl
@[simp] theorem State.setGroom_cmt (i : Nat) (g : Groom) : (s.setGroom i g).cmt = s.cmt := rfl
@[simp] theorem State.setGroom_arbs (i : Nat) (g : Groom) : (s.setGroom i g).arbs = s.arbs := rfl
@[simp] theorem State.setGroom_deliv (i : Nat) (g : Groom) : (s.setGroom i g).deliv = s.deliv := rfl
@[simp] theorem State.setGroom_started (i : Nat) (g : Groom) : (s.setGroom i g).started = s.started := rfl
@[simp] theorem State.setGroom_lastG (i : Nat) (g : Groom) : (s.setGroom i g).lastG = s.lastG := rfl
@[simp] theorem State.setGroom_swi (i : Nat) (g : Groom) : (s.setGroom i g).swi = s.swi := rfl
@[simp] theorem State.setGroom_hports (i : Nat) (g : Groom) : (s.setGroom i g).hports = s.hports := rfl
@[simp] theorem State.setGroom_sess (i : Nat) (g : Groom) : (s.setGroom i g).sess = s.sess := rfl
@[simp] theorem State.setGroom_nextSess (i : Nat) (g : Groom) : (s.setGroom i g).nextSess = s.nextSess := rfl
@[simp] theorem State.setGroom_cpq (i : Nat) (g : Groom) : (s.setGroom i g).cpq = s.cpq := rfl
@[simp] theorem State.setGroom_hostAcc (i : Nat) (g : Groom) : (s.setGroom i g).hostAcc = s.hostAcc := rfl
@[simp] theorem State.setGroom_nextAcc (i : Nat) (g : Groom) : (s.setGroom i g).nextAcc = s.nextAcc := rfl
@[simp] theorem State.setGroom_longs (i : Nat) (g : Groom) : (s.setGroom i g).longs = s.longs := rfl
@[simp] theorem State.setGroom_outbox (i : Nat) (g : Groom) : (s.setGroom i g).outbox = s.outbox := rfl
@[simp] theorem State.setGroom_mrs (i : Nat) (g : Groom) : (s.setGroom i g).mrs = s.mrs := rfl
@[simp] theorem State.setGroom_qps (i : Nat) (g : Groom) : (s.setGroom i g).qps = s.qps := rfl
@[simp] theorem State.setGroom_pwr (i : Nat) (g : Groom) : (s.setGroom i g).pwr = s.pwr := rfl
@[simp] theorem State.setGroom_banks (i : Nat) (g : Groom) : (s.setGroom i g).banks = s.banks := rfl
@[simp] theorem State.setGroom_tack (i : Nat) (g : Groom) : (s.setGroom i g).tack = s.tack := rfl

/-! ### setNode -/
@[simp] theorem State.setNode_pending (i : Nat) (n : Node) : (s.setNode i n).pending = s.pending := rfl
@[simp] theorem State.setNode_clk (i : Nat) (n : Node) : (s.setNode i n).clk = s.clk := rfl
@[simp] theorem State.setNode_free (i : Nat) (n : Node) : (s.setNode i n).free = s.free := rfl
@[simp] theorem State.setNode_resp (i : Nat) (n : Node) : (s.setNode i n).resp = s.resp := rfl
@[simp] theorem State.setNode_lsMap (i : Nat) (n : Node) : (s.setNode i n).lsMap = s.lsMap := rfl
@[simp] theorem State.setNode_health (i : Nat) (n : Node) : (s.setNode i n).health = s.health := rfl
@[simp] theorem State.setNode_stalls (i : Nat) (n : Node) : (s.setNode i n).stalls = s.stalls := rfl
@[simp] theorem State.setNode_grooms (i : Nat) (n : Node) : (s.setNode i n).grooms = s.grooms := rfl
@[simp] theorem State.setNode_mem (i : Nat) (n : Node) : (s.setNode i n).mem = s.mem := rfl
@[simp] theorem State.setNode_memUe (i : Nat) (n : Node) : (s.setNode i n).memUe = s.memUe := rfl
@[simp] theorem State.setNode_reqs (i : Nat) (n : Node) : (s.setNode i n).reqs = s.reqs := rfl
@[simp] theorem State.setNode_nextReq (i : Nat) (n : Node) : (s.setNode i n).nextReq = s.nextReq := rfl
@[simp] theorem State.setNode_nextXfer (i : Nat) (n : Node) : (s.setNode i n).nextXfer = s.nextXfer := rfl
@[simp] theorem State.setNode_csr (i : Nat) (n : Node) : (s.setNode i n).csr = s.csr := rfl
@[simp] theorem State.setNode_chans (i : Nat) (n : Node) : (s.setNode i n).chans = s.chans := rfl
@[simp] theorem State.setNode_slowMem (i : Nat) (n : Node) : (s.setNode i n).slowMem = s.slowMem := rfl
@[simp] theorem State.setNode_capLog2 (i : Nat) (n : Node) : (s.setNode i n).capLog2 = s.capLog2 := rfl
@[simp] theorem State.setNode_sheds (i : Nat) (n : Node) : (s.setNode i n).sheds = s.sheds := rfl
@[simp] theorem State.setNode_xinv (i : Nat) (n : Node) : (s.setNode i n).xinv = s.xinv := rfl
@[simp] theorem State.setNode_segs (i : Nat) (n : Node) : (s.setNode i n).segs = s.segs := rfl
@[simp] theorem State.setNode_loft (i : Nat) (n : Node) : (s.setNode i n).loft = s.loft := rfl
@[simp] theorem State.setNode_loftChans (i : Nat) (n : Node) : (s.setNode i n).loftChans = s.loftChans := rfl
@[simp] theorem State.setNode_pageReads (i : Nat) (n : Node) : (s.setNode i n).pageReads = s.pageReads := rfl
@[simp] theorem State.setNode_jobs (i : Nat) (n : Node) : (s.setNode i n).jobs = s.jobs := rfl
@[simp] theorem State.setNode_ljHead (i : Nat) (n : Node) : (s.setNode i n).ljHead = s.ljHead := rfl
@[simp] theorem State.setNode_pfaults (i : Nat) (n : Node) : (s.setNode i n).pfaults = s.pfaults := rfl
@[simp] theorem State.setNode_evictStopped (i : Nat) (n : Node) : (s.setNode i n).evictStopped = s.evictStopped := rfl
@[simp] theorem State.setNode_evicting (i : Nat) (n : Node) : (s.setNode i n).evicting = s.evicting := rfl
@[simp] theorem State.setNode_gates (i : Nat) (n : Node) : (s.setNode i n).gates = s.gates := rfl
@[simp] theorem State.setNode_routes (i : Nat) (n : Node) : (s.setNode i n).routes = s.routes := rfl
@[simp] theorem State.setNode_ports (i : Nat) (n : Node) : (s.setNode i n).ports = s.ports := rfl
@[simp] theorem State.setNode_xbars (i : Nat) (n : Node) : (s.setNode i n).xbars = s.xbars := rfl
@[simp] theorem State.setNode_dld (i : Nat) (n : Node) : (s.setNode i n).dld = s.dld := rfl
@[simp] theorem State.setNode_dldLimit (i : Nat) (n : Node) : (s.setNode i n).dldLimit = s.dldLimit := rfl
@[simp] theorem State.setNode_reds (i : Nat) (n : Node) : (s.setNode i n).reds = s.reds := rfl
@[simp] theorem State.setNode_opened (i : Nat) (n : Node) : (s.setNode i n).opened = s.opened := rfl
@[simp] theorem State.setNode_ended (i : Nat) (n : Node) : (s.setNode i n).ended = s.ended := rfl
@[simp] theorem State.setNode_ring (i : Nat) (n : Node) : (s.setNode i n).ring = s.ring := rfl
@[simp] theorem State.setNode_combHead (i : Nat) (n : Node) : (s.setNode i n).combHead = s.combHead := rfl
@[simp] theorem State.setNode_cmt (i : Nat) (n : Node) : (s.setNode i n).cmt = s.cmt := rfl
@[simp] theorem State.setNode_arbs (i : Nat) (n : Node) : (s.setNode i n).arbs = s.arbs := rfl
@[simp] theorem State.setNode_deliv (i : Nat) (n : Node) : (s.setNode i n).deliv = s.deliv := rfl
@[simp] theorem State.setNode_started (i : Nat) (n : Node) : (s.setNode i n).started = s.started := rfl
@[simp] theorem State.setNode_lastG (i : Nat) (n : Node) : (s.setNode i n).lastG = s.lastG := rfl
@[simp] theorem State.setNode_swi (i : Nat) (n : Node) : (s.setNode i n).swi = s.swi := rfl
@[simp] theorem State.setNode_hports (i : Nat) (n : Node) : (s.setNode i n).hports = s.hports := rfl
@[simp] theorem State.setNode_sess (i : Nat) (n : Node) : (s.setNode i n).sess = s.sess := rfl
@[simp] theorem State.setNode_nextSess (i : Nat) (n : Node) : (s.setNode i n).nextSess = s.nextSess := rfl
@[simp] theorem State.setNode_cpq (i : Nat) (n : Node) : (s.setNode i n).cpq = s.cpq := rfl
@[simp] theorem State.setNode_hostAcc (i : Nat) (n : Node) : (s.setNode i n).hostAcc = s.hostAcc := rfl
@[simp] theorem State.setNode_nextAcc (i : Nat) (n : Node) : (s.setNode i n).nextAcc = s.nextAcc := rfl
@[simp] theorem State.setNode_longs (i : Nat) (n : Node) : (s.setNode i n).longs = s.longs := rfl
@[simp] theorem State.setNode_outbox (i : Nat) (n : Node) : (s.setNode i n).outbox = s.outbox := rfl
@[simp] theorem State.setNode_mrs (i : Nat) (n : Node) : (s.setNode i n).mrs = s.mrs := rfl
@[simp] theorem State.setNode_qps (i : Nat) (n : Node) : (s.setNode i n).qps = s.qps := rfl
@[simp] theorem State.setNode_pwr (i : Nat) (n : Node) : (s.setNode i n).pwr = s.pwr := rfl
@[simp] theorem State.setNode_banks (i : Nat) (n : Node) : (s.setNode i n).banks = s.banks := rfl
@[simp] theorem State.setNode_tack (i : Nat) (n : Node) : (s.setNode i n).tack = s.tack := rfl

/-! ### setChan -/
@[simp] theorem State.setChan_pending (c : Nat) (x : Chan) : (s.setChan c x).pending = s.pending := rfl
@[simp] theorem State.setChan_clk (c : Nat) (x : Chan) : (s.setChan c x).clk = s.clk := rfl
@[simp] theorem State.setChan_free (c : Nat) (x : Chan) : (s.setChan c x).free = s.free := rfl
@[simp] theorem State.setChan_resp (c : Nat) (x : Chan) : (s.setChan c x).resp = s.resp := rfl
@[simp] theorem State.setChan_lsMap (c : Nat) (x : Chan) : (s.setChan c x).lsMap = s.lsMap := rfl
@[simp] theorem State.setChan_health (c : Nat) (x : Chan) : (s.setChan c x).health = s.health := rfl
@[simp] theorem State.setChan_stalls (c : Nat) (x : Chan) : (s.setChan c x).stalls = s.stalls := rfl
@[simp] theorem State.setChan_grooms (c : Nat) (x : Chan) : (s.setChan c x).grooms = s.grooms := rfl
@[simp] theorem State.setChan_nodes (c : Nat) (x : Chan) : (s.setChan c x).nodes = s.nodes := rfl
@[simp] theorem State.setChan_mem (c : Nat) (x : Chan) : (s.setChan c x).mem = s.mem := rfl
@[simp] theorem State.setChan_memUe (c : Nat) (x : Chan) : (s.setChan c x).memUe = s.memUe := rfl
@[simp] theorem State.setChan_reqs (c : Nat) (x : Chan) : (s.setChan c x).reqs = s.reqs := rfl
@[simp] theorem State.setChan_nextReq (c : Nat) (x : Chan) : (s.setChan c x).nextReq = s.nextReq := rfl
@[simp] theorem State.setChan_nextXfer (c : Nat) (x : Chan) : (s.setChan c x).nextXfer = s.nextXfer := rfl
@[simp] theorem State.setChan_csr (c : Nat) (x : Chan) : (s.setChan c x).csr = s.csr := rfl
@[simp] theorem State.setChan_slowMem (c : Nat) (x : Chan) : (s.setChan c x).slowMem = s.slowMem := rfl
@[simp] theorem State.setChan_capLog2 (c : Nat) (x : Chan) : (s.setChan c x).capLog2 = s.capLog2 := rfl
@[simp] theorem State.setChan_sheds (c : Nat) (x : Chan) : (s.setChan c x).sheds = s.sheds := rfl
@[simp] theorem State.setChan_xinv (c : Nat) (x : Chan) : (s.setChan c x).xinv = s.xinv := rfl
@[simp] theorem State.setChan_segs (c : Nat) (x : Chan) : (s.setChan c x).segs = s.segs := rfl
@[simp] theorem State.setChan_loft (c : Nat) (x : Chan) : (s.setChan c x).loft = s.loft := rfl
@[simp] theorem State.setChan_loftChans (c : Nat) (x : Chan) : (s.setChan c x).loftChans = s.loftChans := rfl
@[simp] theorem State.setChan_pageReads (c : Nat) (x : Chan) : (s.setChan c x).pageReads = s.pageReads := rfl
@[simp] theorem State.setChan_jobs (c : Nat) (x : Chan) : (s.setChan c x).jobs = s.jobs := rfl
@[simp] theorem State.setChan_ljHead (c : Nat) (x : Chan) : (s.setChan c x).ljHead = s.ljHead := rfl
@[simp] theorem State.setChan_pfaults (c : Nat) (x : Chan) : (s.setChan c x).pfaults = s.pfaults := rfl
@[simp] theorem State.setChan_evictStopped (c : Nat) (x : Chan) : (s.setChan c x).evictStopped = s.evictStopped := rfl
@[simp] theorem State.setChan_evicting (c : Nat) (x : Chan) : (s.setChan c x).evicting = s.evicting := rfl
@[simp] theorem State.setChan_gates (c : Nat) (x : Chan) : (s.setChan c x).gates = s.gates := rfl
@[simp] theorem State.setChan_routes (c : Nat) (x : Chan) : (s.setChan c x).routes = s.routes := rfl
@[simp] theorem State.setChan_ports (c : Nat) (x : Chan) : (s.setChan c x).ports = s.ports := rfl
@[simp] theorem State.setChan_xbars (c : Nat) (x : Chan) : (s.setChan c x).xbars = s.xbars := rfl
@[simp] theorem State.setChan_dld (c : Nat) (x : Chan) : (s.setChan c x).dld = s.dld := rfl
@[simp] theorem State.setChan_dldLimit (c : Nat) (x : Chan) : (s.setChan c x).dldLimit = s.dldLimit := rfl
@[simp] theorem State.setChan_reds (c : Nat) (x : Chan) : (s.setChan c x).reds = s.reds := rfl
@[simp] theorem State.setChan_opened (c : Nat) (x : Chan) : (s.setChan c x).opened = s.opened := rfl
@[simp] theorem State.setChan_ended (c : Nat) (x : Chan) : (s.setChan c x).ended = s.ended := rfl
@[simp] theorem State.setChan_ring (c : Nat) (x : Chan) : (s.setChan c x).ring = s.ring := rfl
@[simp] theorem State.setChan_combHead (c : Nat) (x : Chan) : (s.setChan c x).combHead = s.combHead := rfl
@[simp] theorem State.setChan_cmt (c : Nat) (x : Chan) : (s.setChan c x).cmt = s.cmt := rfl
@[simp] theorem State.setChan_arbs (c : Nat) (x : Chan) : (s.setChan c x).arbs = s.arbs := rfl
@[simp] theorem State.setChan_deliv (c : Nat) (x : Chan) : (s.setChan c x).deliv = s.deliv := rfl
@[simp] theorem State.setChan_started (c : Nat) (x : Chan) : (s.setChan c x).started = s.started := rfl
@[simp] theorem State.setChan_lastG (c : Nat) (x : Chan) : (s.setChan c x).lastG = s.lastG := rfl
@[simp] theorem State.setChan_swi (c : Nat) (x : Chan) : (s.setChan c x).swi = s.swi := rfl
@[simp] theorem State.setChan_hports (c : Nat) (x : Chan) : (s.setChan c x).hports = s.hports := rfl
@[simp] theorem State.setChan_sess (c : Nat) (x : Chan) : (s.setChan c x).sess = s.sess := rfl
@[simp] theorem State.setChan_nextSess (c : Nat) (x : Chan) : (s.setChan c x).nextSess = s.nextSess := rfl
@[simp] theorem State.setChan_cpq (c : Nat) (x : Chan) : (s.setChan c x).cpq = s.cpq := rfl
@[simp] theorem State.setChan_hostAcc (c : Nat) (x : Chan) : (s.setChan c x).hostAcc = s.hostAcc := rfl
@[simp] theorem State.setChan_nextAcc (c : Nat) (x : Chan) : (s.setChan c x).nextAcc = s.nextAcc := rfl
@[simp] theorem State.setChan_longs (c : Nat) (x : Chan) : (s.setChan c x).longs = s.longs := rfl
@[simp] theorem State.setChan_outbox (c : Nat) (x : Chan) : (s.setChan c x).outbox = s.outbox := rfl
@[simp] theorem State.setChan_mrs (c : Nat) (x : Chan) : (s.setChan c x).mrs = s.mrs := rfl
@[simp] theorem State.setChan_qps (c : Nat) (x : Chan) : (s.setChan c x).qps = s.qps := rfl
@[simp] theorem State.setChan_pwr (c : Nat) (x : Chan) : (s.setChan c x).pwr = s.pwr := rfl
@[simp] theorem State.setChan_banks (c : Nat) (x : Chan) : (s.setChan c x).banks = s.banks := rfl
@[simp] theorem State.setChan_tack (c : Nat) (x : Chan) : (s.setChan c x).tack = s.tack := rfl

/-! ### setShed -/
@[simp] theorem State.setShed_pending (n : Nat) (d : Shed) : (s.setShed n d).pending = s.pending := rfl
@[simp] theorem State.setShed_clk (n : Nat) (d : Shed) : (s.setShed n d).clk = s.clk := rfl
@[simp] theorem State.setShed_free (n : Nat) (d : Shed) : (s.setShed n d).free = s.free := rfl
@[simp] theorem State.setShed_resp (n : Nat) (d : Shed) : (s.setShed n d).resp = s.resp := rfl
@[simp] theorem State.setShed_lsMap (n : Nat) (d : Shed) : (s.setShed n d).lsMap = s.lsMap := rfl
@[simp] theorem State.setShed_health (n : Nat) (d : Shed) : (s.setShed n d).health = s.health := rfl
@[simp] theorem State.setShed_stalls (n : Nat) (d : Shed) : (s.setShed n d).stalls = s.stalls := rfl
@[simp] theorem State.setShed_grooms (n : Nat) (d : Shed) : (s.setShed n d).grooms = s.grooms := rfl
@[simp] theorem State.setShed_nodes (n : Nat) (d : Shed) : (s.setShed n d).nodes = s.nodes := rfl
@[simp] theorem State.setShed_mem (n : Nat) (d : Shed) : (s.setShed n d).mem = s.mem := rfl
@[simp] theorem State.setShed_memUe (n : Nat) (d : Shed) : (s.setShed n d).memUe = s.memUe := rfl
@[simp] theorem State.setShed_reqs (n : Nat) (d : Shed) : (s.setShed n d).reqs = s.reqs := rfl
@[simp] theorem State.setShed_nextReq (n : Nat) (d : Shed) : (s.setShed n d).nextReq = s.nextReq := rfl
@[simp] theorem State.setShed_nextXfer (n : Nat) (d : Shed) : (s.setShed n d).nextXfer = s.nextXfer := rfl
@[simp] theorem State.setShed_csr (n : Nat) (d : Shed) : (s.setShed n d).csr = s.csr := rfl
@[simp] theorem State.setShed_chans (n : Nat) (d : Shed) : (s.setShed n d).chans = s.chans := rfl
@[simp] theorem State.setShed_slowMem (n : Nat) (d : Shed) : (s.setShed n d).slowMem = s.slowMem := rfl
@[simp] theorem State.setShed_capLog2 (n : Nat) (d : Shed) : (s.setShed n d).capLog2 = s.capLog2 := rfl
@[simp] theorem State.setShed_xinv (n : Nat) (d : Shed) : (s.setShed n d).xinv = s.xinv := rfl
@[simp] theorem State.setShed_segs (n : Nat) (d : Shed) : (s.setShed n d).segs = s.segs := rfl
@[simp] theorem State.setShed_loft (n : Nat) (d : Shed) : (s.setShed n d).loft = s.loft := rfl
@[simp] theorem State.setShed_loftChans (n : Nat) (d : Shed) : (s.setShed n d).loftChans = s.loftChans := rfl
@[simp] theorem State.setShed_pageReads (n : Nat) (d : Shed) : (s.setShed n d).pageReads = s.pageReads := rfl
@[simp] theorem State.setShed_jobs (n : Nat) (d : Shed) : (s.setShed n d).jobs = s.jobs := rfl
@[simp] theorem State.setShed_ljHead (n : Nat) (d : Shed) : (s.setShed n d).ljHead = s.ljHead := rfl
@[simp] theorem State.setShed_pfaults (n : Nat) (d : Shed) : (s.setShed n d).pfaults = s.pfaults := rfl
@[simp] theorem State.setShed_evictStopped (n : Nat) (d : Shed) : (s.setShed n d).evictStopped = s.evictStopped := rfl
@[simp] theorem State.setShed_evicting (n : Nat) (d : Shed) : (s.setShed n d).evicting = s.evicting := rfl
@[simp] theorem State.setShed_gates (n : Nat) (d : Shed) : (s.setShed n d).gates = s.gates := rfl
@[simp] theorem State.setShed_routes (n : Nat) (d : Shed) : (s.setShed n d).routes = s.routes := rfl
@[simp] theorem State.setShed_ports (n : Nat) (d : Shed) : (s.setShed n d).ports = s.ports := rfl
@[simp] theorem State.setShed_xbars (n : Nat) (d : Shed) : (s.setShed n d).xbars = s.xbars := rfl
@[simp] theorem State.setShed_dld (n : Nat) (d : Shed) : (s.setShed n d).dld = s.dld := rfl
@[simp] theorem State.setShed_dldLimit (n : Nat) (d : Shed) : (s.setShed n d).dldLimit = s.dldLimit := rfl
@[simp] theorem State.setShed_reds (n : Nat) (d : Shed) : (s.setShed n d).reds = s.reds := rfl
@[simp] theorem State.setShed_opened (n : Nat) (d : Shed) : (s.setShed n d).opened = s.opened := rfl
@[simp] theorem State.setShed_ended (n : Nat) (d : Shed) : (s.setShed n d).ended = s.ended := rfl
@[simp] theorem State.setShed_ring (n : Nat) (d : Shed) : (s.setShed n d).ring = s.ring := rfl
@[simp] theorem State.setShed_combHead (n : Nat) (d : Shed) : (s.setShed n d).combHead = s.combHead := rfl
@[simp] theorem State.setShed_cmt (n : Nat) (d : Shed) : (s.setShed n d).cmt = s.cmt := rfl
@[simp] theorem State.setShed_arbs (n : Nat) (d : Shed) : (s.setShed n d).arbs = s.arbs := rfl
@[simp] theorem State.setShed_deliv (n : Nat) (d : Shed) : (s.setShed n d).deliv = s.deliv := rfl
@[simp] theorem State.setShed_started (n : Nat) (d : Shed) : (s.setShed n d).started = s.started := rfl
@[simp] theorem State.setShed_lastG (n : Nat) (d : Shed) : (s.setShed n d).lastG = s.lastG := rfl
@[simp] theorem State.setShed_swi (n : Nat) (d : Shed) : (s.setShed n d).swi = s.swi := rfl
@[simp] theorem State.setShed_hports (n : Nat) (d : Shed) : (s.setShed n d).hports = s.hports := rfl
@[simp] theorem State.setShed_sess (n : Nat) (d : Shed) : (s.setShed n d).sess = s.sess := rfl
@[simp] theorem State.setShed_nextSess (n : Nat) (d : Shed) : (s.setShed n d).nextSess = s.nextSess := rfl
@[simp] theorem State.setShed_cpq (n : Nat) (d : Shed) : (s.setShed n d).cpq = s.cpq := rfl
@[simp] theorem State.setShed_hostAcc (n : Nat) (d : Shed) : (s.setShed n d).hostAcc = s.hostAcc := rfl
@[simp] theorem State.setShed_nextAcc (n : Nat) (d : Shed) : (s.setShed n d).nextAcc = s.nextAcc := rfl
@[simp] theorem State.setShed_longs (n : Nat) (d : Shed) : (s.setShed n d).longs = s.longs := rfl
@[simp] theorem State.setShed_outbox (n : Nat) (d : Shed) : (s.setShed n d).outbox = s.outbox := rfl
@[simp] theorem State.setShed_mrs (n : Nat) (d : Shed) : (s.setShed n d).mrs = s.mrs := rfl
@[simp] theorem State.setShed_qps (n : Nat) (d : Shed) : (s.setShed n d).qps = s.qps := rfl
@[simp] theorem State.setShed_pwr (n : Nat) (d : Shed) : (s.setShed n d).pwr = s.pwr := rfl
@[simp] theorem State.setShed_banks (n : Nat) (d : Shed) : (s.setShed n d).banks = s.banks := rfl
@[simp] theorem State.setShed_tack (n : Nat) (d : Shed) : (s.setShed n d).tack = s.tack := rfl

/-! ### setGate -/
@[simp] theorem State.setGate_pending (n : Nat) (d : Gate) : (s.setGate n d).pending = s.pending := rfl
@[simp] theorem State.setGate_clk (n : Nat) (d : Gate) : (s.setGate n d).clk = s.clk := rfl
@[simp] theorem State.setGate_free (n : Nat) (d : Gate) : (s.setGate n d).free = s.free := rfl
@[simp] theorem State.setGate_resp (n : Nat) (d : Gate) : (s.setGate n d).resp = s.resp := rfl
@[simp] theorem State.setGate_lsMap (n : Nat) (d : Gate) : (s.setGate n d).lsMap = s.lsMap := rfl
@[simp] theorem State.setGate_health (n : Nat) (d : Gate) : (s.setGate n d).health = s.health := rfl
@[simp] theorem State.setGate_stalls (n : Nat) (d : Gate) : (s.setGate n d).stalls = s.stalls := rfl
@[simp] theorem State.setGate_grooms (n : Nat) (d : Gate) : (s.setGate n d).grooms = s.grooms := rfl
@[simp] theorem State.setGate_nodes (n : Nat) (d : Gate) : (s.setGate n d).nodes = s.nodes := rfl
@[simp] theorem State.setGate_mem (n : Nat) (d : Gate) : (s.setGate n d).mem = s.mem := rfl
@[simp] theorem State.setGate_memUe (n : Nat) (d : Gate) : (s.setGate n d).memUe = s.memUe := rfl
@[simp] theorem State.setGate_reqs (n : Nat) (d : Gate) : (s.setGate n d).reqs = s.reqs := rfl
@[simp] theorem State.setGate_nextReq (n : Nat) (d : Gate) : (s.setGate n d).nextReq = s.nextReq := rfl
@[simp] theorem State.setGate_nextXfer (n : Nat) (d : Gate) : (s.setGate n d).nextXfer = s.nextXfer := rfl
@[simp] theorem State.setGate_csr (n : Nat) (d : Gate) : (s.setGate n d).csr = s.csr := rfl
@[simp] theorem State.setGate_chans (n : Nat) (d : Gate) : (s.setGate n d).chans = s.chans := rfl
@[simp] theorem State.setGate_slowMem (n : Nat) (d : Gate) : (s.setGate n d).slowMem = s.slowMem := rfl
@[simp] theorem State.setGate_capLog2 (n : Nat) (d : Gate) : (s.setGate n d).capLog2 = s.capLog2 := rfl
@[simp] theorem State.setGate_sheds (n : Nat) (d : Gate) : (s.setGate n d).sheds = s.sheds := rfl
@[simp] theorem State.setGate_xinv (n : Nat) (d : Gate) : (s.setGate n d).xinv = s.xinv := rfl
@[simp] theorem State.setGate_segs (n : Nat) (d : Gate) : (s.setGate n d).segs = s.segs := rfl
@[simp] theorem State.setGate_loft (n : Nat) (d : Gate) : (s.setGate n d).loft = s.loft := rfl
@[simp] theorem State.setGate_loftChans (n : Nat) (d : Gate) : (s.setGate n d).loftChans = s.loftChans := rfl
@[simp] theorem State.setGate_pageReads (n : Nat) (d : Gate) : (s.setGate n d).pageReads = s.pageReads := rfl
@[simp] theorem State.setGate_jobs (n : Nat) (d : Gate) : (s.setGate n d).jobs = s.jobs := rfl
@[simp] theorem State.setGate_ljHead (n : Nat) (d : Gate) : (s.setGate n d).ljHead = s.ljHead := rfl
@[simp] theorem State.setGate_pfaults (n : Nat) (d : Gate) : (s.setGate n d).pfaults = s.pfaults := rfl
@[simp] theorem State.setGate_evictStopped (n : Nat) (d : Gate) : (s.setGate n d).evictStopped = s.evictStopped := rfl
@[simp] theorem State.setGate_evicting (n : Nat) (d : Gate) : (s.setGate n d).evicting = s.evicting := rfl
@[simp] theorem State.setGate_routes (n : Nat) (d : Gate) : (s.setGate n d).routes = s.routes := rfl
@[simp] theorem State.setGate_ports (n : Nat) (d : Gate) : (s.setGate n d).ports = s.ports := rfl
@[simp] theorem State.setGate_xbars (n : Nat) (d : Gate) : (s.setGate n d).xbars = s.xbars := rfl
@[simp] theorem State.setGate_dld (n : Nat) (d : Gate) : (s.setGate n d).dld = s.dld := rfl
@[simp] theorem State.setGate_dldLimit (n : Nat) (d : Gate) : (s.setGate n d).dldLimit = s.dldLimit := rfl
@[simp] theorem State.setGate_reds (n : Nat) (d : Gate) : (s.setGate n d).reds = s.reds := rfl
@[simp] theorem State.setGate_opened (n : Nat) (d : Gate) : (s.setGate n d).opened = s.opened := rfl
@[simp] theorem State.setGate_ended (n : Nat) (d : Gate) : (s.setGate n d).ended = s.ended := rfl
@[simp] theorem State.setGate_ring (n : Nat) (d : Gate) : (s.setGate n d).ring = s.ring := rfl
@[simp] theorem State.setGate_combHead (n : Nat) (d : Gate) : (s.setGate n d).combHead = s.combHead := rfl
@[simp] theorem State.setGate_cmt (n : Nat) (d : Gate) : (s.setGate n d).cmt = s.cmt := rfl
@[simp] theorem State.setGate_arbs (n : Nat) (d : Gate) : (s.setGate n d).arbs = s.arbs := rfl
@[simp] theorem State.setGate_deliv (n : Nat) (d : Gate) : (s.setGate n d).deliv = s.deliv := rfl
@[simp] theorem State.setGate_started (n : Nat) (d : Gate) : (s.setGate n d).started = s.started := rfl
@[simp] theorem State.setGate_lastG (n : Nat) (d : Gate) : (s.setGate n d).lastG = s.lastG := rfl
@[simp] theorem State.setGate_swi (n : Nat) (d : Gate) : (s.setGate n d).swi = s.swi := rfl
@[simp] theorem State.setGate_hports (n : Nat) (d : Gate) : (s.setGate n d).hports = s.hports := rfl
@[simp] theorem State.setGate_sess (n : Nat) (d : Gate) : (s.setGate n d).sess = s.sess := rfl
@[simp] theorem State.setGate_nextSess (n : Nat) (d : Gate) : (s.setGate n d).nextSess = s.nextSess := rfl
@[simp] theorem State.setGate_cpq (n : Nat) (d : Gate) : (s.setGate n d).cpq = s.cpq := rfl
@[simp] theorem State.setGate_hostAcc (n : Nat) (d : Gate) : (s.setGate n d).hostAcc = s.hostAcc := rfl
@[simp] theorem State.setGate_nextAcc (n : Nat) (d : Gate) : (s.setGate n d).nextAcc = s.nextAcc := rfl
@[simp] theorem State.setGate_longs (n : Nat) (d : Gate) : (s.setGate n d).longs = s.longs := rfl
@[simp] theorem State.setGate_outbox (n : Nat) (d : Gate) : (s.setGate n d).outbox = s.outbox := rfl
@[simp] theorem State.setGate_mrs (n : Nat) (d : Gate) : (s.setGate n d).mrs = s.mrs := rfl
@[simp] theorem State.setGate_qps (n : Nat) (d : Gate) : (s.setGate n d).qps = s.qps := rfl
@[simp] theorem State.setGate_pwr (n : Nat) (d : Gate) : (s.setGate n d).pwr = s.pwr := rfl
@[simp] theorem State.setGate_banks (n : Nat) (d : Gate) : (s.setGate n d).banks = s.banks := rfl
@[simp] theorem State.setGate_tack (n : Nat) (d : Gate) : (s.setGate n d).tack = s.tack := rfl

/-! ### setPort -/
@[simp] theorem State.setPort_pending (p : Nat) (d : Port) : (s.setPort p d).pending = s.pending := rfl
@[simp] theorem State.setPort_clk (p : Nat) (d : Port) : (s.setPort p d).clk = s.clk := rfl
@[simp] theorem State.setPort_free (p : Nat) (d : Port) : (s.setPort p d).free = s.free := rfl
@[simp] theorem State.setPort_resp (p : Nat) (d : Port) : (s.setPort p d).resp = s.resp := rfl
@[simp] theorem State.setPort_lsMap (p : Nat) (d : Port) : (s.setPort p d).lsMap = s.lsMap := rfl
@[simp] theorem State.setPort_health (p : Nat) (d : Port) : (s.setPort p d).health = s.health := rfl
@[simp] theorem State.setPort_stalls (p : Nat) (d : Port) : (s.setPort p d).stalls = s.stalls := rfl
@[simp] theorem State.setPort_grooms (p : Nat) (d : Port) : (s.setPort p d).grooms = s.grooms := rfl
@[simp] theorem State.setPort_nodes (p : Nat) (d : Port) : (s.setPort p d).nodes = s.nodes := rfl
@[simp] theorem State.setPort_mem (p : Nat) (d : Port) : (s.setPort p d).mem = s.mem := rfl
@[simp] theorem State.setPort_memUe (p : Nat) (d : Port) : (s.setPort p d).memUe = s.memUe := rfl
@[simp] theorem State.setPort_reqs (p : Nat) (d : Port) : (s.setPort p d).reqs = s.reqs := rfl
@[simp] theorem State.setPort_nextReq (p : Nat) (d : Port) : (s.setPort p d).nextReq = s.nextReq := rfl
@[simp] theorem State.setPort_nextXfer (p : Nat) (d : Port) : (s.setPort p d).nextXfer = s.nextXfer := rfl
@[simp] theorem State.setPort_csr (p : Nat) (d : Port) : (s.setPort p d).csr = s.csr := rfl
@[simp] theorem State.setPort_chans (p : Nat) (d : Port) : (s.setPort p d).chans = s.chans := rfl
@[simp] theorem State.setPort_slowMem (p : Nat) (d : Port) : (s.setPort p d).slowMem = s.slowMem := rfl
@[simp] theorem State.setPort_capLog2 (p : Nat) (d : Port) : (s.setPort p d).capLog2 = s.capLog2 := rfl
@[simp] theorem State.setPort_sheds (p : Nat) (d : Port) : (s.setPort p d).sheds = s.sheds := rfl
@[simp] theorem State.setPort_xinv (p : Nat) (d : Port) : (s.setPort p d).xinv = s.xinv := rfl
@[simp] theorem State.setPort_segs (p : Nat) (d : Port) : (s.setPort p d).segs = s.segs := rfl
@[simp] theorem State.setPort_loft (p : Nat) (d : Port) : (s.setPort p d).loft = s.loft := rfl
@[simp] theorem State.setPort_loftChans (p : Nat) (d : Port) : (s.setPort p d).loftChans = s.loftChans := rfl
@[simp] theorem State.setPort_pageReads (p : Nat) (d : Port) : (s.setPort p d).pageReads = s.pageReads := rfl
@[simp] theorem State.setPort_jobs (p : Nat) (d : Port) : (s.setPort p d).jobs = s.jobs := rfl
@[simp] theorem State.setPort_ljHead (p : Nat) (d : Port) : (s.setPort p d).ljHead = s.ljHead := rfl
@[simp] theorem State.setPort_pfaults (p : Nat) (d : Port) : (s.setPort p d).pfaults = s.pfaults := rfl
@[simp] theorem State.setPort_evictStopped (p : Nat) (d : Port) : (s.setPort p d).evictStopped = s.evictStopped := rfl
@[simp] theorem State.setPort_evicting (p : Nat) (d : Port) : (s.setPort p d).evicting = s.evicting := rfl
@[simp] theorem State.setPort_gates (p : Nat) (d : Port) : (s.setPort p d).gates = s.gates := rfl
@[simp] theorem State.setPort_routes (p : Nat) (d : Port) : (s.setPort p d).routes = s.routes := rfl
@[simp] theorem State.setPort_xbars (p : Nat) (d : Port) : (s.setPort p d).xbars = s.xbars := rfl
@[simp] theorem State.setPort_dld (p : Nat) (d : Port) : (s.setPort p d).dld = s.dld := rfl
@[simp] theorem State.setPort_dldLimit (p : Nat) (d : Port) : (s.setPort p d).dldLimit = s.dldLimit := rfl
@[simp] theorem State.setPort_reds (p : Nat) (d : Port) : (s.setPort p d).reds = s.reds := rfl
@[simp] theorem State.setPort_opened (p : Nat) (d : Port) : (s.setPort p d).opened = s.opened := rfl
@[simp] theorem State.setPort_ended (p : Nat) (d : Port) : (s.setPort p d).ended = s.ended := rfl
@[simp] theorem State.setPort_ring (p : Nat) (d : Port) : (s.setPort p d).ring = s.ring := rfl
@[simp] theorem State.setPort_combHead (p : Nat) (d : Port) : (s.setPort p d).combHead = s.combHead := rfl
@[simp] theorem State.setPort_cmt (p : Nat) (d : Port) : (s.setPort p d).cmt = s.cmt := rfl
@[simp] theorem State.setPort_arbs (p : Nat) (d : Port) : (s.setPort p d).arbs = s.arbs := rfl
@[simp] theorem State.setPort_deliv (p : Nat) (d : Port) : (s.setPort p d).deliv = s.deliv := rfl
@[simp] theorem State.setPort_started (p : Nat) (d : Port) : (s.setPort p d).started = s.started := rfl
@[simp] theorem State.setPort_lastG (p : Nat) (d : Port) : (s.setPort p d).lastG = s.lastG := rfl
@[simp] theorem State.setPort_swi (p : Nat) (d : Port) : (s.setPort p d).swi = s.swi := rfl
@[simp] theorem State.setPort_hports (p : Nat) (d : Port) : (s.setPort p d).hports = s.hports := rfl
@[simp] theorem State.setPort_sess (p : Nat) (d : Port) : (s.setPort p d).sess = s.sess := rfl
@[simp] theorem State.setPort_nextSess (p : Nat) (d : Port) : (s.setPort p d).nextSess = s.nextSess := rfl
@[simp] theorem State.setPort_cpq (p : Nat) (d : Port) : (s.setPort p d).cpq = s.cpq := rfl
@[simp] theorem State.setPort_hostAcc (p : Nat) (d : Port) : (s.setPort p d).hostAcc = s.hostAcc := rfl
@[simp] theorem State.setPort_nextAcc (p : Nat) (d : Port) : (s.setPort p d).nextAcc = s.nextAcc := rfl
@[simp] theorem State.setPort_longs (p : Nat) (d : Port) : (s.setPort p d).longs = s.longs := rfl
@[simp] theorem State.setPort_outbox (p : Nat) (d : Port) : (s.setPort p d).outbox = s.outbox := rfl
@[simp] theorem State.setPort_mrs (p : Nat) (d : Port) : (s.setPort p d).mrs = s.mrs := rfl
@[simp] theorem State.setPort_qps (p : Nat) (d : Port) : (s.setPort p d).qps = s.qps := rfl
@[simp] theorem State.setPort_pwr (p : Nat) (d : Port) : (s.setPort p d).pwr = s.pwr := rfl
@[simp] theorem State.setPort_banks (p : Nat) (d : Port) : (s.setPort p d).banks = s.banks := rfl
@[simp] theorem State.setPort_tack (p : Nat) (d : Port) : (s.setPort p d).tack = s.tack := rfl

/-! ### setXbar -/
@[simp] theorem State.setXbar_pending (b : Nat) (d : Xbar) : (s.setXbar b d).pending = s.pending := rfl
@[simp] theorem State.setXbar_clk (b : Nat) (d : Xbar) : (s.setXbar b d).clk = s.clk := rfl
@[simp] theorem State.setXbar_free (b : Nat) (d : Xbar) : (s.setXbar b d).free = s.free := rfl
@[simp] theorem State.setXbar_resp (b : Nat) (d : Xbar) : (s.setXbar b d).resp = s.resp := rfl
@[simp] theorem State.setXbar_lsMap (b : Nat) (d : Xbar) : (s.setXbar b d).lsMap = s.lsMap := rfl
@[simp] theorem State.setXbar_health (b : Nat) (d : Xbar) : (s.setXbar b d).health = s.health := rfl
@[simp] theorem State.setXbar_stalls (b : Nat) (d : Xbar) : (s.setXbar b d).stalls = s.stalls := rfl
@[simp] theorem State.setXbar_grooms (b : Nat) (d : Xbar) : (s.setXbar b d).grooms = s.grooms := rfl
@[simp] theorem State.setXbar_nodes (b : Nat) (d : Xbar) : (s.setXbar b d).nodes = s.nodes := rfl
@[simp] theorem State.setXbar_mem (b : Nat) (d : Xbar) : (s.setXbar b d).mem = s.mem := rfl
@[simp] theorem State.setXbar_memUe (b : Nat) (d : Xbar) : (s.setXbar b d).memUe = s.memUe := rfl
@[simp] theorem State.setXbar_reqs (b : Nat) (d : Xbar) : (s.setXbar b d).reqs = s.reqs := rfl
@[simp] theorem State.setXbar_nextReq (b : Nat) (d : Xbar) : (s.setXbar b d).nextReq = s.nextReq := rfl
@[simp] theorem State.setXbar_nextXfer (b : Nat) (d : Xbar) : (s.setXbar b d).nextXfer = s.nextXfer := rfl
@[simp] theorem State.setXbar_csr (b : Nat) (d : Xbar) : (s.setXbar b d).csr = s.csr := rfl
@[simp] theorem State.setXbar_chans (b : Nat) (d : Xbar) : (s.setXbar b d).chans = s.chans := rfl
@[simp] theorem State.setXbar_slowMem (b : Nat) (d : Xbar) : (s.setXbar b d).slowMem = s.slowMem := rfl
@[simp] theorem State.setXbar_capLog2 (b : Nat) (d : Xbar) : (s.setXbar b d).capLog2 = s.capLog2 := rfl
@[simp] theorem State.setXbar_sheds (b : Nat) (d : Xbar) : (s.setXbar b d).sheds = s.sheds := rfl
@[simp] theorem State.setXbar_xinv (b : Nat) (d : Xbar) : (s.setXbar b d).xinv = s.xinv := rfl
@[simp] theorem State.setXbar_segs (b : Nat) (d : Xbar) : (s.setXbar b d).segs = s.segs := rfl
@[simp] theorem State.setXbar_loft (b : Nat) (d : Xbar) : (s.setXbar b d).loft = s.loft := rfl
@[simp] theorem State.setXbar_loftChans (b : Nat) (d : Xbar) : (s.setXbar b d).loftChans = s.loftChans := rfl
@[simp] theorem State.setXbar_pageReads (b : Nat) (d : Xbar) : (s.setXbar b d).pageReads = s.pageReads := rfl
@[simp] theorem State.setXbar_jobs (b : Nat) (d : Xbar) : (s.setXbar b d).jobs = s.jobs := rfl
@[simp] theorem State.setXbar_ljHead (b : Nat) (d : Xbar) : (s.setXbar b d).ljHead = s.ljHead := rfl
@[simp] theorem State.setXbar_pfaults (b : Nat) (d : Xbar) : (s.setXbar b d).pfaults = s.pfaults := rfl
@[simp] theorem State.setXbar_evictStopped (b : Nat) (d : Xbar) : (s.setXbar b d).evictStopped = s.evictStopped := rfl
@[simp] theorem State.setXbar_evicting (b : Nat) (d : Xbar) : (s.setXbar b d).evicting = s.evicting := rfl
@[simp] theorem State.setXbar_gates (b : Nat) (d : Xbar) : (s.setXbar b d).gates = s.gates := rfl
@[simp] theorem State.setXbar_routes (b : Nat) (d : Xbar) : (s.setXbar b d).routes = s.routes := rfl
@[simp] theorem State.setXbar_ports (b : Nat) (d : Xbar) : (s.setXbar b d).ports = s.ports := rfl
@[simp] theorem State.setXbar_dld (b : Nat) (d : Xbar) : (s.setXbar b d).dld = s.dld := rfl
@[simp] theorem State.setXbar_dldLimit (b : Nat) (d : Xbar) : (s.setXbar b d).dldLimit = s.dldLimit := rfl
@[simp] theorem State.setXbar_reds (b : Nat) (d : Xbar) : (s.setXbar b d).reds = s.reds := rfl
@[simp] theorem State.setXbar_opened (b : Nat) (d : Xbar) : (s.setXbar b d).opened = s.opened := rfl
@[simp] theorem State.setXbar_ended (b : Nat) (d : Xbar) : (s.setXbar b d).ended = s.ended := rfl
@[simp] theorem State.setXbar_ring (b : Nat) (d : Xbar) : (s.setXbar b d).ring = s.ring := rfl
@[simp] theorem State.setXbar_combHead (b : Nat) (d : Xbar) : (s.setXbar b d).combHead = s.combHead := rfl
@[simp] theorem State.setXbar_cmt (b : Nat) (d : Xbar) : (s.setXbar b d).cmt = s.cmt := rfl
@[simp] theorem State.setXbar_arbs (b : Nat) (d : Xbar) : (s.setXbar b d).arbs = s.arbs := rfl
@[simp] theorem State.setXbar_deliv (b : Nat) (d : Xbar) : (s.setXbar b d).deliv = s.deliv := rfl
@[simp] theorem State.setXbar_started (b : Nat) (d : Xbar) : (s.setXbar b d).started = s.started := rfl
@[simp] theorem State.setXbar_lastG (b : Nat) (d : Xbar) : (s.setXbar b d).lastG = s.lastG := rfl
@[simp] theorem State.setXbar_swi (b : Nat) (d : Xbar) : (s.setXbar b d).swi = s.swi := rfl
@[simp] theorem State.setXbar_hports (b : Nat) (d : Xbar) : (s.setXbar b d).hports = s.hports := rfl
@[simp] theorem State.setXbar_sess (b : Nat) (d : Xbar) : (s.setXbar b d).sess = s.sess := rfl
@[simp] theorem State.setXbar_nextSess (b : Nat) (d : Xbar) : (s.setXbar b d).nextSess = s.nextSess := rfl
@[simp] theorem State.setXbar_cpq (b : Nat) (d : Xbar) : (s.setXbar b d).cpq = s.cpq := rfl
@[simp] theorem State.setXbar_hostAcc (b : Nat) (d : Xbar) : (s.setXbar b d).hostAcc = s.hostAcc := rfl
@[simp] theorem State.setXbar_nextAcc (b : Nat) (d : Xbar) : (s.setXbar b d).nextAcc = s.nextAcc := rfl
@[simp] theorem State.setXbar_longs (b : Nat) (d : Xbar) : (s.setXbar b d).longs = s.longs := rfl
@[simp] theorem State.setXbar_outbox (b : Nat) (d : Xbar) : (s.setXbar b d).outbox = s.outbox := rfl
@[simp] theorem State.setXbar_mrs (b : Nat) (d : Xbar) : (s.setXbar b d).mrs = s.mrs := rfl
@[simp] theorem State.setXbar_qps (b : Nat) (d : Xbar) : (s.setXbar b d).qps = s.qps := rfl
@[simp] theorem State.setXbar_pwr (b : Nat) (d : Xbar) : (s.setXbar b d).pwr = s.pwr := rfl
@[simp] theorem State.setXbar_banks (b : Nat) (d : Xbar) : (s.setXbar b d).banks = s.banks := rfl
@[simp] theorem State.setXbar_tack (b : Nat) (d : Xbar) : (s.setXbar b d).tack = s.tack := rfl

/-! ### setHport -/
@[simp] theorem State.setHport_pending (p : Nat) (d : HPort) : (s.setHport p d).pending = s.pending := rfl
@[simp] theorem State.setHport_clk (p : Nat) (d : HPort) : (s.setHport p d).clk = s.clk := rfl
@[simp] theorem State.setHport_free (p : Nat) (d : HPort) : (s.setHport p d).free = s.free := rfl
@[simp] theorem State.setHport_resp (p : Nat) (d : HPort) : (s.setHport p d).resp = s.resp := rfl
@[simp] theorem State.setHport_lsMap (p : Nat) (d : HPort) : (s.setHport p d).lsMap = s.lsMap := rfl
@[simp] theorem State.setHport_health (p : Nat) (d : HPort) : (s.setHport p d).health = s.health := rfl
@[simp] theorem State.setHport_stalls (p : Nat) (d : HPort) : (s.setHport p d).stalls = s.stalls := rfl
@[simp] theorem State.setHport_grooms (p : Nat) (d : HPort) : (s.setHport p d).grooms = s.grooms := rfl
@[simp] theorem State.setHport_nodes (p : Nat) (d : HPort) : (s.setHport p d).nodes = s.nodes := rfl
@[simp] theorem State.setHport_mem (p : Nat) (d : HPort) : (s.setHport p d).mem = s.mem := rfl
@[simp] theorem State.setHport_memUe (p : Nat) (d : HPort) : (s.setHport p d).memUe = s.memUe := rfl
@[simp] theorem State.setHport_reqs (p : Nat) (d : HPort) : (s.setHport p d).reqs = s.reqs := rfl
@[simp] theorem State.setHport_nextReq (p : Nat) (d : HPort) : (s.setHport p d).nextReq = s.nextReq := rfl
@[simp] theorem State.setHport_nextXfer (p : Nat) (d : HPort) : (s.setHport p d).nextXfer = s.nextXfer := rfl
@[simp] theorem State.setHport_csr (p : Nat) (d : HPort) : (s.setHport p d).csr = s.csr := rfl
@[simp] theorem State.setHport_chans (p : Nat) (d : HPort) : (s.setHport p d).chans = s.chans := rfl
@[simp] theorem State.setHport_slowMem (p : Nat) (d : HPort) : (s.setHport p d).slowMem = s.slowMem := rfl
@[simp] theorem State.setHport_capLog2 (p : Nat) (d : HPort) : (s.setHport p d).capLog2 = s.capLog2 := rfl
@[simp] theorem State.setHport_sheds (p : Nat) (d : HPort) : (s.setHport p d).sheds = s.sheds := rfl
@[simp] theorem State.setHport_xinv (p : Nat) (d : HPort) : (s.setHport p d).xinv = s.xinv := rfl
@[simp] theorem State.setHport_segs (p : Nat) (d : HPort) : (s.setHport p d).segs = s.segs := rfl
@[simp] theorem State.setHport_loft (p : Nat) (d : HPort) : (s.setHport p d).loft = s.loft := rfl
@[simp] theorem State.setHport_loftChans (p : Nat) (d : HPort) : (s.setHport p d).loftChans = s.loftChans := rfl
@[simp] theorem State.setHport_pageReads (p : Nat) (d : HPort) : (s.setHport p d).pageReads = s.pageReads := rfl
@[simp] theorem State.setHport_jobs (p : Nat) (d : HPort) : (s.setHport p d).jobs = s.jobs := rfl
@[simp] theorem State.setHport_ljHead (p : Nat) (d : HPort) : (s.setHport p d).ljHead = s.ljHead := rfl
@[simp] theorem State.setHport_pfaults (p : Nat) (d : HPort) : (s.setHport p d).pfaults = s.pfaults := rfl
@[simp] theorem State.setHport_evictStopped (p : Nat) (d : HPort) : (s.setHport p d).evictStopped = s.evictStopped := rfl
@[simp] theorem State.setHport_evicting (p : Nat) (d : HPort) : (s.setHport p d).evicting = s.evicting := rfl
@[simp] theorem State.setHport_gates (p : Nat) (d : HPort) : (s.setHport p d).gates = s.gates := rfl
@[simp] theorem State.setHport_routes (p : Nat) (d : HPort) : (s.setHport p d).routes = s.routes := rfl
@[simp] theorem State.setHport_ports (p : Nat) (d : HPort) : (s.setHport p d).ports = s.ports := rfl
@[simp] theorem State.setHport_xbars (p : Nat) (d : HPort) : (s.setHport p d).xbars = s.xbars := rfl
@[simp] theorem State.setHport_dld (p : Nat) (d : HPort) : (s.setHport p d).dld = s.dld := rfl
@[simp] theorem State.setHport_dldLimit (p : Nat) (d : HPort) : (s.setHport p d).dldLimit = s.dldLimit := rfl
@[simp] theorem State.setHport_reds (p : Nat) (d : HPort) : (s.setHport p d).reds = s.reds := rfl
@[simp] theorem State.setHport_opened (p : Nat) (d : HPort) : (s.setHport p d).opened = s.opened := rfl
@[simp] theorem State.setHport_ended (p : Nat) (d : HPort) : (s.setHport p d).ended = s.ended := rfl
@[simp] theorem State.setHport_ring (p : Nat) (d : HPort) : (s.setHport p d).ring = s.ring := rfl
@[simp] theorem State.setHport_combHead (p : Nat) (d : HPort) : (s.setHport p d).combHead = s.combHead := rfl
@[simp] theorem State.setHport_cmt (p : Nat) (d : HPort) : (s.setHport p d).cmt = s.cmt := rfl
@[simp] theorem State.setHport_arbs (p : Nat) (d : HPort) : (s.setHport p d).arbs = s.arbs := rfl
@[simp] theorem State.setHport_deliv (p : Nat) (d : HPort) : (s.setHport p d).deliv = s.deliv := rfl
@[simp] theorem State.setHport_started (p : Nat) (d : HPort) : (s.setHport p d).started = s.started := rfl
@[simp] theorem State.setHport_lastG (p : Nat) (d : HPort) : (s.setHport p d).lastG = s.lastG := rfl
@[simp] theorem State.setHport_swi (p : Nat) (d : HPort) : (s.setHport p d).swi = s.swi := rfl
@[simp] theorem State.setHport_sess (p : Nat) (d : HPort) : (s.setHport p d).sess = s.sess := rfl
@[simp] theorem State.setHport_nextSess (p : Nat) (d : HPort) : (s.setHport p d).nextSess = s.nextSess := rfl
@[simp] theorem State.setHport_cpq (p : Nat) (d : HPort) : (s.setHport p d).cpq = s.cpq := rfl
@[simp] theorem State.setHport_hostAcc (p : Nat) (d : HPort) : (s.setHport p d).hostAcc = s.hostAcc := rfl
@[simp] theorem State.setHport_nextAcc (p : Nat) (d : HPort) : (s.setHport p d).nextAcc = s.nextAcc := rfl
@[simp] theorem State.setHport_longs (p : Nat) (d : HPort) : (s.setHport p d).longs = s.longs := rfl
@[simp] theorem State.setHport_outbox (p : Nat) (d : HPort) : (s.setHport p d).outbox = s.outbox := rfl
@[simp] theorem State.setHport_mrs (p : Nat) (d : HPort) : (s.setHport p d).mrs = s.mrs := rfl
@[simp] theorem State.setHport_qps (p : Nat) (d : HPort) : (s.setHport p d).qps = s.qps := rfl
@[simp] theorem State.setHport_pwr (p : Nat) (d : HPort) : (s.setHport p d).pwr = s.pwr := rfl
@[simp] theorem State.setHport_banks (p : Nat) (d : HPort) : (s.setHport p d).banks = s.banks := rfl
@[simp] theorem State.setHport_tack (p : Nat) (d : HPort) : (s.setHport p d).tack = s.tack := rfl

/-! ### setSession -/
@[simp] theorem State.setSession_pending (i : Nat) (d : Option Sess) : (s.setSession i d).pending = s.pending := rfl
@[simp] theorem State.setSession_clk (i : Nat) (d : Option Sess) : (s.setSession i d).clk = s.clk := rfl
@[simp] theorem State.setSession_free (i : Nat) (d : Option Sess) : (s.setSession i d).free = s.free := rfl
@[simp] theorem State.setSession_resp (i : Nat) (d : Option Sess) : (s.setSession i d).resp = s.resp := rfl
@[simp] theorem State.setSession_lsMap (i : Nat) (d : Option Sess) : (s.setSession i d).lsMap = s.lsMap := rfl
@[simp] theorem State.setSession_health (i : Nat) (d : Option Sess) : (s.setSession i d).health = s.health := rfl
@[simp] theorem State.setSession_stalls (i : Nat) (d : Option Sess) : (s.setSession i d).stalls = s.stalls := rfl
@[simp] theorem State.setSession_grooms (i : Nat) (d : Option Sess) : (s.setSession i d).grooms = s.grooms := rfl
@[simp] theorem State.setSession_nodes (i : Nat) (d : Option Sess) : (s.setSession i d).nodes = s.nodes := rfl
@[simp] theorem State.setSession_mem (i : Nat) (d : Option Sess) : (s.setSession i d).mem = s.mem := rfl
@[simp] theorem State.setSession_memUe (i : Nat) (d : Option Sess) : (s.setSession i d).memUe = s.memUe := rfl
@[simp] theorem State.setSession_reqs (i : Nat) (d : Option Sess) : (s.setSession i d).reqs = s.reqs := rfl
@[simp] theorem State.setSession_nextReq (i : Nat) (d : Option Sess) : (s.setSession i d).nextReq = s.nextReq := rfl
@[simp] theorem State.setSession_nextXfer (i : Nat) (d : Option Sess) : (s.setSession i d).nextXfer = s.nextXfer := rfl
@[simp] theorem State.setSession_csr (i : Nat) (d : Option Sess) : (s.setSession i d).csr = s.csr := rfl
@[simp] theorem State.setSession_chans (i : Nat) (d : Option Sess) : (s.setSession i d).chans = s.chans := rfl
@[simp] theorem State.setSession_slowMem (i : Nat) (d : Option Sess) : (s.setSession i d).slowMem = s.slowMem := rfl
@[simp] theorem State.setSession_capLog2 (i : Nat) (d : Option Sess) : (s.setSession i d).capLog2 = s.capLog2 := rfl
@[simp] theorem State.setSession_sheds (i : Nat) (d : Option Sess) : (s.setSession i d).sheds = s.sheds := rfl
@[simp] theorem State.setSession_xinv (i : Nat) (d : Option Sess) : (s.setSession i d).xinv = s.xinv := rfl
@[simp] theorem State.setSession_segs (i : Nat) (d : Option Sess) : (s.setSession i d).segs = s.segs := rfl
@[simp] theorem State.setSession_loft (i : Nat) (d : Option Sess) : (s.setSession i d).loft = s.loft := rfl
@[simp] theorem State.setSession_loftChans (i : Nat) (d : Option Sess) : (s.setSession i d).loftChans = s.loftChans := rfl
@[simp] theorem State.setSession_pageReads (i : Nat) (d : Option Sess) : (s.setSession i d).pageReads = s.pageReads := rfl
@[simp] theorem State.setSession_jobs (i : Nat) (d : Option Sess) : (s.setSession i d).jobs = s.jobs := rfl
@[simp] theorem State.setSession_ljHead (i : Nat) (d : Option Sess) : (s.setSession i d).ljHead = s.ljHead := rfl
@[simp] theorem State.setSession_pfaults (i : Nat) (d : Option Sess) : (s.setSession i d).pfaults = s.pfaults := rfl
@[simp] theorem State.setSession_evictStopped (i : Nat) (d : Option Sess) : (s.setSession i d).evictStopped = s.evictStopped := rfl
@[simp] theorem State.setSession_evicting (i : Nat) (d : Option Sess) : (s.setSession i d).evicting = s.evicting := rfl
@[simp] theorem State.setSession_gates (i : Nat) (d : Option Sess) : (s.setSession i d).gates = s.gates := rfl
@[simp] theorem State.setSession_routes (i : Nat) (d : Option Sess) : (s.setSession i d).routes = s.routes := rfl
@[simp] theorem State.setSession_ports (i : Nat) (d : Option Sess) : (s.setSession i d).ports = s.ports := rfl
@[simp] theorem State.setSession_xbars (i : Nat) (d : Option Sess) : (s.setSession i d).xbars = s.xbars := rfl
@[simp] theorem State.setSession_dld (i : Nat) (d : Option Sess) : (s.setSession i d).dld = s.dld := rfl
@[simp] theorem State.setSession_dldLimit (i : Nat) (d : Option Sess) : (s.setSession i d).dldLimit = s.dldLimit := rfl
@[simp] theorem State.setSession_reds (i : Nat) (d : Option Sess) : (s.setSession i d).reds = s.reds := rfl
@[simp] theorem State.setSession_opened (i : Nat) (d : Option Sess) : (s.setSession i d).opened = s.opened := rfl
@[simp] theorem State.setSession_ended (i : Nat) (d : Option Sess) : (s.setSession i d).ended = s.ended := rfl
@[simp] theorem State.setSession_ring (i : Nat) (d : Option Sess) : (s.setSession i d).ring = s.ring := rfl
@[simp] theorem State.setSession_combHead (i : Nat) (d : Option Sess) : (s.setSession i d).combHead = s.combHead := rfl
@[simp] theorem State.setSession_cmt (i : Nat) (d : Option Sess) : (s.setSession i d).cmt = s.cmt := rfl
@[simp] theorem State.setSession_arbs (i : Nat) (d : Option Sess) : (s.setSession i d).arbs = s.arbs := rfl
@[simp] theorem State.setSession_deliv (i : Nat) (d : Option Sess) : (s.setSession i d).deliv = s.deliv := rfl
@[simp] theorem State.setSession_started (i : Nat) (d : Option Sess) : (s.setSession i d).started = s.started := rfl
@[simp] theorem State.setSession_lastG (i : Nat) (d : Option Sess) : (s.setSession i d).lastG = s.lastG := rfl
@[simp] theorem State.setSession_swi (i : Nat) (d : Option Sess) : (s.setSession i d).swi = s.swi := rfl
@[simp] theorem State.setSession_hports (i : Nat) (d : Option Sess) : (s.setSession i d).hports = s.hports := rfl
@[simp] theorem State.setSession_nextSess (i : Nat) (d : Option Sess) : (s.setSession i d).nextSess = s.nextSess := rfl
@[simp] theorem State.setSession_cpq (i : Nat) (d : Option Sess) : (s.setSession i d).cpq = s.cpq := rfl
@[simp] theorem State.setSession_hostAcc (i : Nat) (d : Option Sess) : (s.setSession i d).hostAcc = s.hostAcc := rfl
@[simp] theorem State.setSession_nextAcc (i : Nat) (d : Option Sess) : (s.setSession i d).nextAcc = s.nextAcc := rfl
@[simp] theorem State.setSession_longs (i : Nat) (d : Option Sess) : (s.setSession i d).longs = s.longs := rfl
@[simp] theorem State.setSession_outbox (i : Nat) (d : Option Sess) : (s.setSession i d).outbox = s.outbox := rfl
@[simp] theorem State.setSession_mrs (i : Nat) (d : Option Sess) : (s.setSession i d).mrs = s.mrs := rfl
@[simp] theorem State.setSession_qps (i : Nat) (d : Option Sess) : (s.setSession i d).qps = s.qps := rfl
@[simp] theorem State.setSession_pwr (i : Nat) (d : Option Sess) : (s.setSession i d).pwr = s.pwr := rfl
@[simp] theorem State.setSession_banks (i : Nat) (d : Option Sess) : (s.setSession i d).banks = s.banks := rfl
@[simp] theorem State.setSession_tack (i : Nat) (d : Option Sess) : (s.setSession i d).tack = s.tack := rfl

/-! ### setBank -/
@[simp] theorem State.setBank_pending (i : Nat) (b : Bank) : (s.setBank i b).pending = s.pending := rfl
@[simp] theorem State.setBank_clk (i : Nat) (b : Bank) : (s.setBank i b).clk = s.clk := rfl
@[simp] theorem State.setBank_free (i : Nat) (b : Bank) : (s.setBank i b).free = s.free := rfl
@[simp] theorem State.setBank_resp (i : Nat) (b : Bank) : (s.setBank i b).resp = s.resp := rfl
@[simp] theorem State.setBank_lsMap (i : Nat) (b : Bank) : (s.setBank i b).lsMap = s.lsMap := rfl
@[simp] theorem State.setBank_health (i : Nat) (b : Bank) : (s.setBank i b).health = s.health := rfl
@[simp] theorem State.setBank_stalls (i : Nat) (b : Bank) : (s.setBank i b).stalls = s.stalls := rfl
@[simp] theorem State.setBank_grooms (i : Nat) (b : Bank) : (s.setBank i b).grooms = s.grooms := rfl
@[simp] theorem State.setBank_nodes (i : Nat) (b : Bank) : (s.setBank i b).nodes = s.nodes := rfl
@[simp] theorem State.setBank_mem (i : Nat) (b : Bank) : (s.setBank i b).mem = s.mem := rfl
@[simp] theorem State.setBank_memUe (i : Nat) (b : Bank) : (s.setBank i b).memUe = s.memUe := rfl
@[simp] theorem State.setBank_reqs (i : Nat) (b : Bank) : (s.setBank i b).reqs = s.reqs := rfl
@[simp] theorem State.setBank_nextReq (i : Nat) (b : Bank) : (s.setBank i b).nextReq = s.nextReq := rfl
@[simp] theorem State.setBank_nextXfer (i : Nat) (b : Bank) : (s.setBank i b).nextXfer = s.nextXfer := rfl
@[simp] theorem State.setBank_csr (i : Nat) (b : Bank) : (s.setBank i b).csr = s.csr := rfl
@[simp] theorem State.setBank_chans (i : Nat) (b : Bank) : (s.setBank i b).chans = s.chans := rfl
@[simp] theorem State.setBank_slowMem (i : Nat) (b : Bank) : (s.setBank i b).slowMem = s.slowMem := rfl
@[simp] theorem State.setBank_capLog2 (i : Nat) (b : Bank) : (s.setBank i b).capLog2 = s.capLog2 := rfl
@[simp] theorem State.setBank_sheds (i : Nat) (b : Bank) : (s.setBank i b).sheds = s.sheds := rfl
@[simp] theorem State.setBank_xinv (i : Nat) (b : Bank) : (s.setBank i b).xinv = s.xinv := rfl
@[simp] theorem State.setBank_segs (i : Nat) (b : Bank) : (s.setBank i b).segs = s.segs := rfl
@[simp] theorem State.setBank_loft (i : Nat) (b : Bank) : (s.setBank i b).loft = s.loft := rfl
@[simp] theorem State.setBank_loftChans (i : Nat) (b : Bank) : (s.setBank i b).loftChans = s.loftChans := rfl
@[simp] theorem State.setBank_pageReads (i : Nat) (b : Bank) : (s.setBank i b).pageReads = s.pageReads := rfl
@[simp] theorem State.setBank_jobs (i : Nat) (b : Bank) : (s.setBank i b).jobs = s.jobs := rfl
@[simp] theorem State.setBank_ljHead (i : Nat) (b : Bank) : (s.setBank i b).ljHead = s.ljHead := rfl
@[simp] theorem State.setBank_pfaults (i : Nat) (b : Bank) : (s.setBank i b).pfaults = s.pfaults := rfl
@[simp] theorem State.setBank_evictStopped (i : Nat) (b : Bank) : (s.setBank i b).evictStopped = s.evictStopped := rfl
@[simp] theorem State.setBank_evicting (i : Nat) (b : Bank) : (s.setBank i b).evicting = s.evicting := rfl
@[simp] theorem State.setBank_gates (i : Nat) (b : Bank) : (s.setBank i b).gates = s.gates := rfl
@[simp] theorem State.setBank_routes (i : Nat) (b : Bank) : (s.setBank i b).routes = s.routes := rfl
@[simp] theorem State.setBank_ports (i : Nat) (b : Bank) : (s.setBank i b).ports = s.ports := rfl
@[simp] theorem State.setBank_xbars (i : Nat) (b : Bank) : (s.setBank i b).xbars = s.xbars := rfl
@[simp] theorem State.setBank_dld (i : Nat) (b : Bank) : (s.setBank i b).dld = s.dld := rfl
@[simp] theorem State.setBank_dldLimit (i : Nat) (b : Bank) : (s.setBank i b).dldLimit = s.dldLimit := rfl
@[simp] theorem State.setBank_reds (i : Nat) (b : Bank) : (s.setBank i b).reds = s.reds := rfl
@[simp] theorem State.setBank_opened (i : Nat) (b : Bank) : (s.setBank i b).opened = s.opened := rfl
@[simp] theorem State.setBank_ended (i : Nat) (b : Bank) : (s.setBank i b).ended = s.ended := rfl
@[simp] theorem State.setBank_ring (i : Nat) (b : Bank) : (s.setBank i b).ring = s.ring := rfl
@[simp] theorem State.setBank_combHead (i : Nat) (b : Bank) : (s.setBank i b).combHead = s.combHead := rfl
@[simp] theorem State.setBank_cmt (i : Nat) (b : Bank) : (s.setBank i b).cmt = s.cmt := rfl
@[simp] theorem State.setBank_arbs (i : Nat) (b : Bank) : (s.setBank i b).arbs = s.arbs := rfl
@[simp] theorem State.setBank_deliv (i : Nat) (b : Bank) : (s.setBank i b).deliv = s.deliv := rfl
@[simp] theorem State.setBank_started (i : Nat) (b : Bank) : (s.setBank i b).started = s.started := rfl
@[simp] theorem State.setBank_lastG (i : Nat) (b : Bank) : (s.setBank i b).lastG = s.lastG := rfl
@[simp] theorem State.setBank_swi (i : Nat) (b : Bank) : (s.setBank i b).swi = s.swi := rfl
@[simp] theorem State.setBank_hports (i : Nat) (b : Bank) : (s.setBank i b).hports = s.hports := rfl
@[simp] theorem State.setBank_sess (i : Nat) (b : Bank) : (s.setBank i b).sess = s.sess := rfl
@[simp] theorem State.setBank_nextSess (i : Nat) (b : Bank) : (s.setBank i b).nextSess = s.nextSess := rfl
@[simp] theorem State.setBank_cpq (i : Nat) (b : Bank) : (s.setBank i b).cpq = s.cpq := rfl
@[simp] theorem State.setBank_hostAcc (i : Nat) (b : Bank) : (s.setBank i b).hostAcc = s.hostAcc := rfl
@[simp] theorem State.setBank_nextAcc (i : Nat) (b : Bank) : (s.setBank i b).nextAcc = s.nextAcc := rfl
@[simp] theorem State.setBank_longs (i : Nat) (b : Bank) : (s.setBank i b).longs = s.longs := rfl
@[simp] theorem State.setBank_outbox (i : Nat) (b : Bank) : (s.setBank i b).outbox = s.outbox := rfl
@[simp] theorem State.setBank_mrs (i : Nat) (b : Bank) : (s.setBank i b).mrs = s.mrs := rfl
@[simp] theorem State.setBank_qps (i : Nat) (b : Bank) : (s.setBank i b).qps = s.qps := rfl
@[simp] theorem State.setBank_pwr (i : Nat) (b : Bank) : (s.setBank i b).pwr = s.pwr := rfl
@[simp] theorem State.setBank_tack (i : Nat) (b : Bank) : (s.setBank i b).tack = s.tack := rfl

/-! ### setArb -/
@[simp] theorem State.setArb_pending (k : Nat) (a : ArbInst) : (s.setArb k a).pending = s.pending := rfl
@[simp] theorem State.setArb_clk (k : Nat) (a : ArbInst) : (s.setArb k a).clk = s.clk := rfl
@[simp] theorem State.setArb_free (k : Nat) (a : ArbInst) : (s.setArb k a).free = s.free := rfl
@[simp] theorem State.setArb_resp (k : Nat) (a : ArbInst) : (s.setArb k a).resp = s.resp := rfl
@[simp] theorem State.setArb_lsMap (k : Nat) (a : ArbInst) : (s.setArb k a).lsMap = s.lsMap := rfl
@[simp] theorem State.setArb_health (k : Nat) (a : ArbInst) : (s.setArb k a).health = s.health := rfl
@[simp] theorem State.setArb_stalls (k : Nat) (a : ArbInst) : (s.setArb k a).stalls = s.stalls := rfl
@[simp] theorem State.setArb_grooms (k : Nat) (a : ArbInst) : (s.setArb k a).grooms = s.grooms := rfl
@[simp] theorem State.setArb_nodes (k : Nat) (a : ArbInst) : (s.setArb k a).nodes = s.nodes := rfl
@[simp] theorem State.setArb_mem (k : Nat) (a : ArbInst) : (s.setArb k a).mem = s.mem := rfl
@[simp] theorem State.setArb_memUe (k : Nat) (a : ArbInst) : (s.setArb k a).memUe = s.memUe := rfl
@[simp] theorem State.setArb_reqs (k : Nat) (a : ArbInst) : (s.setArb k a).reqs = s.reqs := rfl
@[simp] theorem State.setArb_nextReq (k : Nat) (a : ArbInst) : (s.setArb k a).nextReq = s.nextReq := rfl
@[simp] theorem State.setArb_nextXfer (k : Nat) (a : ArbInst) : (s.setArb k a).nextXfer = s.nextXfer := rfl
@[simp] theorem State.setArb_csr (k : Nat) (a : ArbInst) : (s.setArb k a).csr = s.csr := rfl
@[simp] theorem State.setArb_chans (k : Nat) (a : ArbInst) : (s.setArb k a).chans = s.chans := rfl
@[simp] theorem State.setArb_slowMem (k : Nat) (a : ArbInst) : (s.setArb k a).slowMem = s.slowMem := rfl
@[simp] theorem State.setArb_capLog2 (k : Nat) (a : ArbInst) : (s.setArb k a).capLog2 = s.capLog2 := rfl
@[simp] theorem State.setArb_sheds (k : Nat) (a : ArbInst) : (s.setArb k a).sheds = s.sheds := rfl
@[simp] theorem State.setArb_xinv (k : Nat) (a : ArbInst) : (s.setArb k a).xinv = s.xinv := rfl
@[simp] theorem State.setArb_segs (k : Nat) (a : ArbInst) : (s.setArb k a).segs = s.segs := rfl
@[simp] theorem State.setArb_loft (k : Nat) (a : ArbInst) : (s.setArb k a).loft = s.loft := rfl
@[simp] theorem State.setArb_loftChans (k : Nat) (a : ArbInst) : (s.setArb k a).loftChans = s.loftChans := rfl
@[simp] theorem State.setArb_pageReads (k : Nat) (a : ArbInst) : (s.setArb k a).pageReads = s.pageReads := rfl
@[simp] theorem State.setArb_jobs (k : Nat) (a : ArbInst) : (s.setArb k a).jobs = s.jobs := rfl
@[simp] theorem State.setArb_ljHead (k : Nat) (a : ArbInst) : (s.setArb k a).ljHead = s.ljHead := rfl
@[simp] theorem State.setArb_pfaults (k : Nat) (a : ArbInst) : (s.setArb k a).pfaults = s.pfaults := rfl
@[simp] theorem State.setArb_evictStopped (k : Nat) (a : ArbInst) : (s.setArb k a).evictStopped = s.evictStopped := rfl
@[simp] theorem State.setArb_evicting (k : Nat) (a : ArbInst) : (s.setArb k a).evicting = s.evicting := rfl
@[simp] theorem State.setArb_gates (k : Nat) (a : ArbInst) : (s.setArb k a).gates = s.gates := rfl
@[simp] theorem State.setArb_routes (k : Nat) (a : ArbInst) : (s.setArb k a).routes = s.routes := rfl
@[simp] theorem State.setArb_ports (k : Nat) (a : ArbInst) : (s.setArb k a).ports = s.ports := rfl
@[simp] theorem State.setArb_xbars (k : Nat) (a : ArbInst) : (s.setArb k a).xbars = s.xbars := rfl
@[simp] theorem State.setArb_dld (k : Nat) (a : ArbInst) : (s.setArb k a).dld = s.dld := rfl
@[simp] theorem State.setArb_dldLimit (k : Nat) (a : ArbInst) : (s.setArb k a).dldLimit = s.dldLimit := rfl
@[simp] theorem State.setArb_reds (k : Nat) (a : ArbInst) : (s.setArb k a).reds = s.reds := rfl
@[simp] theorem State.setArb_opened (k : Nat) (a : ArbInst) : (s.setArb k a).opened = s.opened := rfl
@[simp] theorem State.setArb_ended (k : Nat) (a : ArbInst) : (s.setArb k a).ended = s.ended := rfl
@[simp] theorem State.setArb_ring (k : Nat) (a : ArbInst) : (s.setArb k a).ring = s.ring := rfl
@[simp] theorem State.setArb_combHead (k : Nat) (a : ArbInst) : (s.setArb k a).combHead = s.combHead := rfl
@[simp] theorem State.setArb_cmt (k : Nat) (a : ArbInst) : (s.setArb k a).cmt = s.cmt := rfl
@[simp] theorem State.setArb_deliv (k : Nat) (a : ArbInst) : (s.setArb k a).deliv = s.deliv := rfl
@[simp] theorem State.setArb_started (k : Nat) (a : ArbInst) : (s.setArb k a).started = s.started := rfl
@[simp] theorem State.setArb_lastG (k : Nat) (a : ArbInst) : (s.setArb k a).lastG = s.lastG := rfl
@[simp] theorem State.setArb_swi (k : Nat) (a : ArbInst) : (s.setArb k a).swi = s.swi := rfl
@[simp] theorem State.setArb_hports (k : Nat) (a : ArbInst) : (s.setArb k a).hports = s.hports := rfl
@[simp] theorem State.setArb_sess (k : Nat) (a : ArbInst) : (s.setArb k a).sess = s.sess := rfl
@[simp] theorem State.setArb_nextSess (k : Nat) (a : ArbInst) : (s.setArb k a).nextSess = s.nextSess := rfl
@[simp] theorem State.setArb_cpq (k : Nat) (a : ArbInst) : (s.setArb k a).cpq = s.cpq := rfl
@[simp] theorem State.setArb_hostAcc (k : Nat) (a : ArbInst) : (s.setArb k a).hostAcc = s.hostAcc := rfl
@[simp] theorem State.setArb_nextAcc (k : Nat) (a : ArbInst) : (s.setArb k a).nextAcc = s.nextAcc := rfl
@[simp] theorem State.setArb_longs (k : Nat) (a : ArbInst) : (s.setArb k a).longs = s.longs := rfl
@[simp] theorem State.setArb_outbox (k : Nat) (a : ArbInst) : (s.setArb k a).outbox = s.outbox := rfl
@[simp] theorem State.setArb_mrs (k : Nat) (a : ArbInst) : (s.setArb k a).mrs = s.mrs := rfl
@[simp] theorem State.setArb_qps (k : Nat) (a : ArbInst) : (s.setArb k a).qps = s.qps := rfl
@[simp] theorem State.setArb_pwr (k : Nat) (a : ArbInst) : (s.setArb k a).pwr = s.pwr := rfl
@[simp] theorem State.setArb_banks (k : Nat) (a : ArbInst) : (s.setArb k a).banks = s.banks := rfl
@[simp] theorem State.setArb_tack (k : Nat) (a : ArbInst) : (s.setArb k a).tack = s.tack := rfl

/-! ### setSeg -/
@[simp] theorem State.setSeg_pending (i : Nat) (d : SegSt) : (s.setSeg i d).pending = s.pending := rfl
@[simp] theorem State.setSeg_clk (i : Nat) (d : SegSt) : (s.setSeg i d).clk = s.clk := rfl
@[simp] theorem State.setSeg_free (i : Nat) (d : SegSt) : (s.setSeg i d).free = s.free := rfl
@[simp] theorem State.setSeg_resp (i : Nat) (d : SegSt) : (s.setSeg i d).resp = s.resp := rfl
@[simp] theorem State.setSeg_lsMap (i : Nat) (d : SegSt) : (s.setSeg i d).lsMap = s.lsMap := rfl
@[simp] theorem State.setSeg_health (i : Nat) (d : SegSt) : (s.setSeg i d).health = s.health := rfl
@[simp] theorem State.setSeg_stalls (i : Nat) (d : SegSt) : (s.setSeg i d).stalls = s.stalls := rfl
@[simp] theorem State.setSeg_grooms (i : Nat) (d : SegSt) : (s.setSeg i d).grooms = s.grooms := rfl
@[simp] theorem State.setSeg_nodes (i : Nat) (d : SegSt) : (s.setSeg i d).nodes = s.nodes := rfl
@[simp] theorem State.setSeg_mem (i : Nat) (d : SegSt) : (s.setSeg i d).mem = s.mem := rfl
@[simp] theorem State.setSeg_memUe (i : Nat) (d : SegSt) : (s.setSeg i d).memUe = s.memUe := rfl
@[simp] theorem State.setSeg_reqs (i : Nat) (d : SegSt) : (s.setSeg i d).reqs = s.reqs := rfl
@[simp] theorem State.setSeg_nextReq (i : Nat) (d : SegSt) : (s.setSeg i d).nextReq = s.nextReq := rfl
@[simp] theorem State.setSeg_nextXfer (i : Nat) (d : SegSt) : (s.setSeg i d).nextXfer = s.nextXfer := rfl
@[simp] theorem State.setSeg_csr (i : Nat) (d : SegSt) : (s.setSeg i d).csr = s.csr := rfl
@[simp] theorem State.setSeg_chans (i : Nat) (d : SegSt) : (s.setSeg i d).chans = s.chans := rfl
@[simp] theorem State.setSeg_slowMem (i : Nat) (d : SegSt) : (s.setSeg i d).slowMem = s.slowMem := rfl
@[simp] theorem State.setSeg_capLog2 (i : Nat) (d : SegSt) : (s.setSeg i d).capLog2 = s.capLog2 := rfl
@[simp] theorem State.setSeg_sheds (i : Nat) (d : SegSt) : (s.setSeg i d).sheds = s.sheds := rfl
@[simp] theorem State.setSeg_xinv (i : Nat) (d : SegSt) : (s.setSeg i d).xinv = s.xinv := rfl
@[simp] theorem State.setSeg_loft (i : Nat) (d : SegSt) : (s.setSeg i d).loft = s.loft := rfl
@[simp] theorem State.setSeg_loftChans (i : Nat) (d : SegSt) : (s.setSeg i d).loftChans = s.loftChans := rfl
@[simp] theorem State.setSeg_pageReads (i : Nat) (d : SegSt) : (s.setSeg i d).pageReads = s.pageReads := rfl
@[simp] theorem State.setSeg_jobs (i : Nat) (d : SegSt) : (s.setSeg i d).jobs = s.jobs := rfl
@[simp] theorem State.setSeg_ljHead (i : Nat) (d : SegSt) : (s.setSeg i d).ljHead = s.ljHead := rfl
@[simp] theorem State.setSeg_pfaults (i : Nat) (d : SegSt) : (s.setSeg i d).pfaults = s.pfaults := rfl
@[simp] theorem State.setSeg_evictStopped (i : Nat) (d : SegSt) : (s.setSeg i d).evictStopped = s.evictStopped := rfl
@[simp] theorem State.setSeg_evicting (i : Nat) (d : SegSt) : (s.setSeg i d).evicting = s.evicting := rfl
@[simp] theorem State.setSeg_gates (i : Nat) (d : SegSt) : (s.setSeg i d).gates = s.gates := rfl
@[simp] theorem State.setSeg_routes (i : Nat) (d : SegSt) : (s.setSeg i d).routes = s.routes := rfl
@[simp] theorem State.setSeg_ports (i : Nat) (d : SegSt) : (s.setSeg i d).ports = s.ports := rfl
@[simp] theorem State.setSeg_xbars (i : Nat) (d : SegSt) : (s.setSeg i d).xbars = s.xbars := rfl
@[simp] theorem State.setSeg_dld (i : Nat) (d : SegSt) : (s.setSeg i d).dld = s.dld := rfl
@[simp] theorem State.setSeg_dldLimit (i : Nat) (d : SegSt) : (s.setSeg i d).dldLimit = s.dldLimit := rfl
@[simp] theorem State.setSeg_reds (i : Nat) (d : SegSt) : (s.setSeg i d).reds = s.reds := rfl
@[simp] theorem State.setSeg_opened (i : Nat) (d : SegSt) : (s.setSeg i d).opened = s.opened := rfl
@[simp] theorem State.setSeg_ended (i : Nat) (d : SegSt) : (s.setSeg i d).ended = s.ended := rfl
@[simp] theorem State.setSeg_ring (i : Nat) (d : SegSt) : (s.setSeg i d).ring = s.ring := rfl
@[simp] theorem State.setSeg_combHead (i : Nat) (d : SegSt) : (s.setSeg i d).combHead = s.combHead := rfl
@[simp] theorem State.setSeg_cmt (i : Nat) (d : SegSt) : (s.setSeg i d).cmt = s.cmt := rfl
@[simp] theorem State.setSeg_arbs (i : Nat) (d : SegSt) : (s.setSeg i d).arbs = s.arbs := rfl
@[simp] theorem State.setSeg_deliv (i : Nat) (d : SegSt) : (s.setSeg i d).deliv = s.deliv := rfl
@[simp] theorem State.setSeg_started (i : Nat) (d : SegSt) : (s.setSeg i d).started = s.started := rfl
@[simp] theorem State.setSeg_lastG (i : Nat) (d : SegSt) : (s.setSeg i d).lastG = s.lastG := rfl
@[simp] theorem State.setSeg_swi (i : Nat) (d : SegSt) : (s.setSeg i d).swi = s.swi := rfl
@[simp] theorem State.setSeg_hports (i : Nat) (d : SegSt) : (s.setSeg i d).hports = s.hports := rfl
@[simp] theorem State.setSeg_sess (i : Nat) (d : SegSt) : (s.setSeg i d).sess = s.sess := rfl
@[simp] theorem State.setSeg_nextSess (i : Nat) (d : SegSt) : (s.setSeg i d).nextSess = s.nextSess := rfl
@[simp] theorem State.setSeg_cpq (i : Nat) (d : SegSt) : (s.setSeg i d).cpq = s.cpq := rfl
@[simp] theorem State.setSeg_hostAcc (i : Nat) (d : SegSt) : (s.setSeg i d).hostAcc = s.hostAcc := rfl
@[simp] theorem State.setSeg_nextAcc (i : Nat) (d : SegSt) : (s.setSeg i d).nextAcc = s.nextAcc := rfl
@[simp] theorem State.setSeg_longs (i : Nat) (d : SegSt) : (s.setSeg i d).longs = s.longs := rfl
@[simp] theorem State.setSeg_outbox (i : Nat) (d : SegSt) : (s.setSeg i d).outbox = s.outbox := rfl
@[simp] theorem State.setSeg_mrs (i : Nat) (d : SegSt) : (s.setSeg i d).mrs = s.mrs := rfl
@[simp] theorem State.setSeg_qps (i : Nat) (d : SegSt) : (s.setSeg i d).qps = s.qps := rfl
@[simp] theorem State.setSeg_pwr (i : Nat) (d : SegSt) : (s.setSeg i d).pwr = s.pwr := rfl
@[simp] theorem State.setSeg_banks (i : Nat) (d : SegSt) : (s.setSeg i d).banks = s.banks := rfl
@[simp] theorem State.setSeg_tack (i : Nat) (d : SegSt) : (s.setSeg i d).tack = s.tack := rfl

/-! ### setLoftChan -/
@[simp] theorem State.setLoftChan_pending (i : Nat) (d : LoftChan) : (s.setLoftChan i d).pending = s.pending := rfl
@[simp] theorem State.setLoftChan_clk (i : Nat) (d : LoftChan) : (s.setLoftChan i d).clk = s.clk := rfl
@[simp] theorem State.setLoftChan_free (i : Nat) (d : LoftChan) : (s.setLoftChan i d).free = s.free := rfl
@[simp] theorem State.setLoftChan_resp (i : Nat) (d : LoftChan) : (s.setLoftChan i d).resp = s.resp := rfl
@[simp] theorem State.setLoftChan_lsMap (i : Nat) (d : LoftChan) : (s.setLoftChan i d).lsMap = s.lsMap := rfl
@[simp] theorem State.setLoftChan_health (i : Nat) (d : LoftChan) : (s.setLoftChan i d).health = s.health := rfl
@[simp] theorem State.setLoftChan_stalls (i : Nat) (d : LoftChan) : (s.setLoftChan i d).stalls = s.stalls := rfl
@[simp] theorem State.setLoftChan_grooms (i : Nat) (d : LoftChan) : (s.setLoftChan i d).grooms = s.grooms := rfl
@[simp] theorem State.setLoftChan_nodes (i : Nat) (d : LoftChan) : (s.setLoftChan i d).nodes = s.nodes := rfl
@[simp] theorem State.setLoftChan_mem (i : Nat) (d : LoftChan) : (s.setLoftChan i d).mem = s.mem := rfl
@[simp] theorem State.setLoftChan_memUe (i : Nat) (d : LoftChan) : (s.setLoftChan i d).memUe = s.memUe := rfl
@[simp] theorem State.setLoftChan_reqs (i : Nat) (d : LoftChan) : (s.setLoftChan i d).reqs = s.reqs := rfl
@[simp] theorem State.setLoftChan_nextReq (i : Nat) (d : LoftChan) : (s.setLoftChan i d).nextReq = s.nextReq := rfl
@[simp] theorem State.setLoftChan_nextXfer (i : Nat) (d : LoftChan) : (s.setLoftChan i d).nextXfer = s.nextXfer := rfl
@[simp] theorem State.setLoftChan_csr (i : Nat) (d : LoftChan) : (s.setLoftChan i d).csr = s.csr := rfl
@[simp] theorem State.setLoftChan_chans (i : Nat) (d : LoftChan) : (s.setLoftChan i d).chans = s.chans := rfl
@[simp] theorem State.setLoftChan_slowMem (i : Nat) (d : LoftChan) : (s.setLoftChan i d).slowMem = s.slowMem := rfl
@[simp] theorem State.setLoftChan_capLog2 (i : Nat) (d : LoftChan) : (s.setLoftChan i d).capLog2 = s.capLog2 := rfl
@[simp] theorem State.setLoftChan_sheds (i : Nat) (d : LoftChan) : (s.setLoftChan i d).sheds = s.sheds := rfl
@[simp] theorem State.setLoftChan_xinv (i : Nat) (d : LoftChan) : (s.setLoftChan i d).xinv = s.xinv := rfl
@[simp] theorem State.setLoftChan_segs (i : Nat) (d : LoftChan) : (s.setLoftChan i d).segs = s.segs := rfl
@[simp] theorem State.setLoftChan_loft (i : Nat) (d : LoftChan) : (s.setLoftChan i d).loft = s.loft := rfl
@[simp] theorem State.setLoftChan_pageReads (i : Nat) (d : LoftChan) : (s.setLoftChan i d).pageReads = s.pageReads := rfl
@[simp] theorem State.setLoftChan_jobs (i : Nat) (d : LoftChan) : (s.setLoftChan i d).jobs = s.jobs := rfl
@[simp] theorem State.setLoftChan_ljHead (i : Nat) (d : LoftChan) : (s.setLoftChan i d).ljHead = s.ljHead := rfl
@[simp] theorem State.setLoftChan_pfaults (i : Nat) (d : LoftChan) : (s.setLoftChan i d).pfaults = s.pfaults := rfl
@[simp] theorem State.setLoftChan_evictStopped (i : Nat) (d : LoftChan) : (s.setLoftChan i d).evictStopped = s.evictStopped := rfl
@[simp] theorem State.setLoftChan_evicting (i : Nat) (d : LoftChan) : (s.setLoftChan i d).evicting = s.evicting := rfl
@[simp] theorem State.setLoftChan_gates (i : Nat) (d : LoftChan) : (s.setLoftChan i d).gates = s.gates := rfl
@[simp] theorem State.setLoftChan_routes (i : Nat) (d : LoftChan) : (s.setLoftChan i d).routes = s.routes := rfl
@[simp] theorem State.setLoftChan_ports (i : Nat) (d : LoftChan) : (s.setLoftChan i d).ports = s.ports := rfl
@[simp] theorem State.setLoftChan_xbars (i : Nat) (d : LoftChan) : (s.setLoftChan i d).xbars = s.xbars := rfl
@[simp] theorem State.setLoftChan_dld (i : Nat) (d : LoftChan) : (s.setLoftChan i d).dld = s.dld := rfl
@[simp] theorem State.setLoftChan_dldLimit (i : Nat) (d : LoftChan) : (s.setLoftChan i d).dldLimit = s.dldLimit := rfl
@[simp] theorem State.setLoftChan_reds (i : Nat) (d : LoftChan) : (s.setLoftChan i d).reds = s.reds := rfl
@[simp] theorem State.setLoftChan_opened (i : Nat) (d : LoftChan) : (s.setLoftChan i d).opened = s.opened := rfl
@[simp] theorem State.setLoftChan_ended (i : Nat) (d : LoftChan) : (s.setLoftChan i d).ended = s.ended := rfl
@[simp] theorem State.setLoftChan_ring (i : Nat) (d : LoftChan) : (s.setLoftChan i d).ring = s.ring := rfl
@[simp] theorem State.setLoftChan_combHead (i : Nat) (d : LoftChan) : (s.setLoftChan i d).combHead = s.combHead := rfl
@[simp] theorem State.setLoftChan_cmt (i : Nat) (d : LoftChan) : (s.setLoftChan i d).cmt = s.cmt := rfl
@[simp] theorem State.setLoftChan_arbs (i : Nat) (d : LoftChan) : (s.setLoftChan i d).arbs = s.arbs := rfl
@[simp] theorem State.setLoftChan_deliv (i : Nat) (d : LoftChan) : (s.setLoftChan i d).deliv = s.deliv := rfl
@[simp] theorem State.setLoftChan_started (i : Nat) (d : LoftChan) : (s.setLoftChan i d).started = s.started := rfl
@[simp] theorem State.setLoftChan_lastG (i : Nat) (d : LoftChan) : (s.setLoftChan i d).lastG = s.lastG := rfl
@[simp] theorem State.setLoftChan_swi (i : Nat) (d : LoftChan) : (s.setLoftChan i d).swi = s.swi := rfl
@[simp] theorem State.setLoftChan_hports (i : Nat) (d : LoftChan) : (s.setLoftChan i d).hports = s.hports := rfl
@[simp] theorem State.setLoftChan_sess (i : Nat) (d : LoftChan) : (s.setLoftChan i d).sess = s.sess := rfl
@[simp] theorem State.setLoftChan_nextSess (i : Nat) (d : LoftChan) : (s.setLoftChan i d).nextSess = s.nextSess := rfl
@[simp] theorem State.setLoftChan_cpq (i : Nat) (d : LoftChan) : (s.setLoftChan i d).cpq = s.cpq := rfl
@[simp] theorem State.setLoftChan_hostAcc (i : Nat) (d : LoftChan) : (s.setLoftChan i d).hostAcc = s.hostAcc := rfl
@[simp] theorem State.setLoftChan_nextAcc (i : Nat) (d : LoftChan) : (s.setLoftChan i d).nextAcc = s.nextAcc := rfl
@[simp] theorem State.setLoftChan_longs (i : Nat) (d : LoftChan) : (s.setLoftChan i d).longs = s.longs := rfl
@[simp] theorem State.setLoftChan_outbox (i : Nat) (d : LoftChan) : (s.setLoftChan i d).outbox = s.outbox := rfl
@[simp] theorem State.setLoftChan_mrs (i : Nat) (d : LoftChan) : (s.setLoftChan i d).mrs = s.mrs := rfl
@[simp] theorem State.setLoftChan_qps (i : Nat) (d : LoftChan) : (s.setLoftChan i d).qps = s.qps := rfl
@[simp] theorem State.setLoftChan_pwr (i : Nat) (d : LoftChan) : (s.setLoftChan i d).pwr = s.pwr := rfl
@[simp] theorem State.setLoftChan_banks (i : Nat) (d : LoftChan) : (s.setLoftChan i d).banks = s.banks := rfl
@[simp] theorem State.setLoftChan_tack (i : Nat) (d : LoftChan) : (s.setLoftChan i d).tack = s.tack := rfl

/-! ### setReq -/
@[simp] theorem State.setReq_pending (i : Nat) (r : Option Req) : (s.setReq i r).pending = s.pending := rfl
@[simp] theorem State.setReq_clk (i : Nat) (r : Option Req) : (s.setReq i r).clk = s.clk := rfl
@[simp] theorem State.setReq_free (i : Nat) (r : Option Req) : (s.setReq i r).free = s.free := rfl
@[simp] theorem State.setReq_resp (i : Nat) (r : Option Req) : (s.setReq i r).resp = s.resp := rfl
@[simp] theorem State.setReq_lsMap (i : Nat) (r : Option Req) : (s.setReq i r).lsMap = s.lsMap := rfl
@[simp] theorem State.setReq_health (i : Nat) (r : Option Req) : (s.setReq i r).health = s.health := rfl
@[simp] theorem State.setReq_stalls (i : Nat) (r : Option Req) : (s.setReq i r).stalls = s.stalls := rfl
@[simp] theorem State.setReq_grooms (i : Nat) (r : Option Req) : (s.setReq i r).grooms = s.grooms := rfl
@[simp] theorem State.setReq_nodes (i : Nat) (r : Option Req) : (s.setReq i r).nodes = s.nodes := rfl
@[simp] theorem State.setReq_mem (i : Nat) (r : Option Req) : (s.setReq i r).mem = s.mem := rfl
@[simp] theorem State.setReq_memUe (i : Nat) (r : Option Req) : (s.setReq i r).memUe = s.memUe := rfl
@[simp] theorem State.setReq_nextReq (i : Nat) (r : Option Req) : (s.setReq i r).nextReq = s.nextReq := rfl
@[simp] theorem State.setReq_nextXfer (i : Nat) (r : Option Req) : (s.setReq i r).nextXfer = s.nextXfer := rfl
@[simp] theorem State.setReq_csr (i : Nat) (r : Option Req) : (s.setReq i r).csr = s.csr := rfl
@[simp] theorem State.setReq_chans (i : Nat) (r : Option Req) : (s.setReq i r).chans = s.chans := rfl
@[simp] theorem State.setReq_slowMem (i : Nat) (r : Option Req) : (s.setReq i r).slowMem = s.slowMem := rfl
@[simp] theorem State.setReq_capLog2 (i : Nat) (r : Option Req) : (s.setReq i r).capLog2 = s.capLog2 := rfl
@[simp] theorem State.setReq_sheds (i : Nat) (r : Option Req) : (s.setReq i r).sheds = s.sheds := rfl
@[simp] theorem State.setReq_xinv (i : Nat) (r : Option Req) : (s.setReq i r).xinv = s.xinv := rfl
@[simp] theorem State.setReq_segs (i : Nat) (r : Option Req) : (s.setReq i r).segs = s.segs := rfl
@[simp] theorem State.setReq_loft (i : Nat) (r : Option Req) : (s.setReq i r).loft = s.loft := rfl
@[simp] theorem State.setReq_loftChans (i : Nat) (r : Option Req) : (s.setReq i r).loftChans = s.loftChans := rfl
@[simp] theorem State.setReq_pageReads (i : Nat) (r : Option Req) : (s.setReq i r).pageReads = s.pageReads := rfl
@[simp] theorem State.setReq_jobs (i : Nat) (r : Option Req) : (s.setReq i r).jobs = s.jobs := rfl
@[simp] theorem State.setReq_ljHead (i : Nat) (r : Option Req) : (s.setReq i r).ljHead = s.ljHead := rfl
@[simp] theorem State.setReq_pfaults (i : Nat) (r : Option Req) : (s.setReq i r).pfaults = s.pfaults := rfl
@[simp] theorem State.setReq_evictStopped (i : Nat) (r : Option Req) : (s.setReq i r).evictStopped = s.evictStopped := rfl
@[simp] theorem State.setReq_evicting (i : Nat) (r : Option Req) : (s.setReq i r).evicting = s.evicting := rfl
@[simp] theorem State.setReq_gates (i : Nat) (r : Option Req) : (s.setReq i r).gates = s.gates := rfl
@[simp] theorem State.setReq_routes (i : Nat) (r : Option Req) : (s.setReq i r).routes = s.routes := rfl
@[simp] theorem State.setReq_ports (i : Nat) (r : Option Req) : (s.setReq i r).ports = s.ports := rfl
@[simp] theorem State.setReq_xbars (i : Nat) (r : Option Req) : (s.setReq i r).xbars = s.xbars := rfl
@[simp] theorem State.setReq_dld (i : Nat) (r : Option Req) : (s.setReq i r).dld = s.dld := rfl
@[simp] theorem State.setReq_dldLimit (i : Nat) (r : Option Req) : (s.setReq i r).dldLimit = s.dldLimit := rfl
@[simp] theorem State.setReq_reds (i : Nat) (r : Option Req) : (s.setReq i r).reds = s.reds := rfl
@[simp] theorem State.setReq_opened (i : Nat) (r : Option Req) : (s.setReq i r).opened = s.opened := rfl
@[simp] theorem State.setReq_ended (i : Nat) (r : Option Req) : (s.setReq i r).ended = s.ended := rfl
@[simp] theorem State.setReq_ring (i : Nat) (r : Option Req) : (s.setReq i r).ring = s.ring := rfl
@[simp] theorem State.setReq_combHead (i : Nat) (r : Option Req) : (s.setReq i r).combHead = s.combHead := rfl
@[simp] theorem State.setReq_cmt (i : Nat) (r : Option Req) : (s.setReq i r).cmt = s.cmt := rfl
@[simp] theorem State.setReq_arbs (i : Nat) (r : Option Req) : (s.setReq i r).arbs = s.arbs := rfl
@[simp] theorem State.setReq_deliv (i : Nat) (r : Option Req) : (s.setReq i r).deliv = s.deliv := rfl
@[simp] theorem State.setReq_started (i : Nat) (r : Option Req) : (s.setReq i r).started = s.started := rfl
@[simp] theorem State.setReq_lastG (i : Nat) (r : Option Req) : (s.setReq i r).lastG = s.lastG := rfl
@[simp] theorem State.setReq_swi (i : Nat) (r : Option Req) : (s.setReq i r).swi = s.swi := rfl
@[simp] theorem State.setReq_hports (i : Nat) (r : Option Req) : (s.setReq i r).hports = s.hports := rfl
@[simp] theorem State.setReq_sess (i : Nat) (r : Option Req) : (s.setReq i r).sess = s.sess := rfl
@[simp] theorem State.setReq_nextSess (i : Nat) (r : Option Req) : (s.setReq i r).nextSess = s.nextSess := rfl
@[simp] theorem State.setReq_cpq (i : Nat) (r : Option Req) : (s.setReq i r).cpq = s.cpq := rfl
@[simp] theorem State.setReq_hostAcc (i : Nat) (r : Option Req) : (s.setReq i r).hostAcc = s.hostAcc := rfl
@[simp] theorem State.setReq_nextAcc (i : Nat) (r : Option Req) : (s.setReq i r).nextAcc = s.nextAcc := rfl
@[simp] theorem State.setReq_longs (i : Nat) (r : Option Req) : (s.setReq i r).longs = s.longs := rfl
@[simp] theorem State.setReq_outbox (i : Nat) (r : Option Req) : (s.setReq i r).outbox = s.outbox := rfl
@[simp] theorem State.setReq_mrs (i : Nat) (r : Option Req) : (s.setReq i r).mrs = s.mrs := rfl
@[simp] theorem State.setReq_qps (i : Nat) (r : Option Req) : (s.setReq i r).qps = s.qps := rfl
@[simp] theorem State.setReq_pwr (i : Nat) (r : Option Req) : (s.setReq i r).pwr = s.pwr := rfl
@[simp] theorem State.setReq_banks (i : Nat) (r : Option Req) : (s.setReq i r).banks = s.banks := rfl
@[simp] theorem State.setReq_tack (i : Nat) (r : Option Req) : (s.setReq i r).tack = s.tack := rfl

/-! ### setHealth -/
@[simp] theorem State.setHealth_pending (ps : Nat) (h : Health) : (s.setHealth ps h).pending = s.pending := rfl
@[simp] theorem State.setHealth_clk (ps : Nat) (h : Health) : (s.setHealth ps h).clk = s.clk := rfl
@[simp] theorem State.setHealth_free (ps : Nat) (h : Health) : (s.setHealth ps h).free = s.free := rfl
@[simp] theorem State.setHealth_resp (ps : Nat) (h : Health) : (s.setHealth ps h).resp = s.resp := rfl
@[simp] theorem State.setHealth_lsMap (ps : Nat) (h : Health) : (s.setHealth ps h).lsMap = s.lsMap := rfl
@[simp] theorem State.setHealth_stalls (ps : Nat) (h : Health) : (s.setHealth ps h).stalls = s.stalls := rfl
@[simp] theorem State.setHealth_grooms (ps : Nat) (h : Health) : (s.setHealth ps h).grooms = s.grooms := rfl
@[simp] theorem State.setHealth_nodes (ps : Nat) (h : Health) : (s.setHealth ps h).nodes = s.nodes := rfl
@[simp] theorem State.setHealth_mem (ps : Nat) (h : Health) : (s.setHealth ps h).mem = s.mem := rfl
@[simp] theorem State.setHealth_memUe (ps : Nat) (h : Health) : (s.setHealth ps h).memUe = s.memUe := rfl
@[simp] theorem State.setHealth_reqs (ps : Nat) (h : Health) : (s.setHealth ps h).reqs = s.reqs := rfl
@[simp] theorem State.setHealth_nextReq (ps : Nat) (h : Health) : (s.setHealth ps h).nextReq = s.nextReq := rfl
@[simp] theorem State.setHealth_nextXfer (ps : Nat) (h : Health) : (s.setHealth ps h).nextXfer = s.nextXfer := rfl
@[simp] theorem State.setHealth_csr (ps : Nat) (h : Health) : (s.setHealth ps h).csr = s.csr := rfl
@[simp] theorem State.setHealth_chans (ps : Nat) (h : Health) : (s.setHealth ps h).chans = s.chans := rfl
@[simp] theorem State.setHealth_slowMem (ps : Nat) (h : Health) : (s.setHealth ps h).slowMem = s.slowMem := rfl
@[simp] theorem State.setHealth_capLog2 (ps : Nat) (h : Health) : (s.setHealth ps h).capLog2 = s.capLog2 := rfl
@[simp] theorem State.setHealth_sheds (ps : Nat) (h : Health) : (s.setHealth ps h).sheds = s.sheds := rfl
@[simp] theorem State.setHealth_xinv (ps : Nat) (h : Health) : (s.setHealth ps h).xinv = s.xinv := rfl
@[simp] theorem State.setHealth_segs (ps : Nat) (h : Health) : (s.setHealth ps h).segs = s.segs := rfl
@[simp] theorem State.setHealth_loft (ps : Nat) (h : Health) : (s.setHealth ps h).loft = s.loft := rfl
@[simp] theorem State.setHealth_loftChans (ps : Nat) (h : Health) : (s.setHealth ps h).loftChans = s.loftChans := rfl
@[simp] theorem State.setHealth_pageReads (ps : Nat) (h : Health) : (s.setHealth ps h).pageReads = s.pageReads := rfl
@[simp] theorem State.setHealth_jobs (ps : Nat) (h : Health) : (s.setHealth ps h).jobs = s.jobs := rfl
@[simp] theorem State.setHealth_ljHead (ps : Nat) (h : Health) : (s.setHealth ps h).ljHead = s.ljHead := rfl
@[simp] theorem State.setHealth_pfaults (ps : Nat) (h : Health) : (s.setHealth ps h).pfaults = s.pfaults := rfl
@[simp] theorem State.setHealth_evictStopped (ps : Nat) (h : Health) : (s.setHealth ps h).evictStopped = s.evictStopped := rfl
@[simp] theorem State.setHealth_evicting (ps : Nat) (h : Health) : (s.setHealth ps h).evicting = s.evicting := rfl
@[simp] theorem State.setHealth_gates (ps : Nat) (h : Health) : (s.setHealth ps h).gates = s.gates := rfl
@[simp] theorem State.setHealth_routes (ps : Nat) (h : Health) : (s.setHealth ps h).routes = s.routes := rfl
@[simp] theorem State.setHealth_ports (ps : Nat) (h : Health) : (s.setHealth ps h).ports = s.ports := rfl
@[simp] theorem State.setHealth_xbars (ps : Nat) (h : Health) : (s.setHealth ps h).xbars = s.xbars := rfl
@[simp] theorem State.setHealth_dld (ps : Nat) (h : Health) : (s.setHealth ps h).dld = s.dld := rfl
@[simp] theorem State.setHealth_dldLimit (ps : Nat) (h : Health) : (s.setHealth ps h).dldLimit = s.dldLimit := rfl
@[simp] theorem State.setHealth_reds (ps : Nat) (h : Health) : (s.setHealth ps h).reds = s.reds := rfl
@[simp] theorem State.setHealth_opened (ps : Nat) (h : Health) : (s.setHealth ps h).opened = s.opened := rfl
@[simp] theorem State.setHealth_ended (ps : Nat) (h : Health) : (s.setHealth ps h).ended = s.ended := rfl
@[simp] theorem State.setHealth_ring (ps : Nat) (h : Health) : (s.setHealth ps h).ring = s.ring := rfl
@[simp] theorem State.setHealth_combHead (ps : Nat) (h : Health) : (s.setHealth ps h).combHead = s.combHead := rfl
@[simp] theorem State.setHealth_cmt (ps : Nat) (h : Health) : (s.setHealth ps h).cmt = s.cmt := rfl
@[simp] theorem State.setHealth_arbs (ps : Nat) (h : Health) : (s.setHealth ps h).arbs = s.arbs := rfl
@[simp] theorem State.setHealth_deliv (ps : Nat) (h : Health) : (s.setHealth ps h).deliv = s.deliv := rfl
@[simp] theorem State.setHealth_started (ps : Nat) (h : Health) : (s.setHealth ps h).started = s.started := rfl
@[simp] theorem State.setHealth_lastG (ps : Nat) (h : Health) : (s.setHealth ps h).lastG = s.lastG := rfl
@[simp] theorem State.setHealth_swi (ps : Nat) (h : Health) : (s.setHealth ps h).swi = s.swi := rfl
@[simp] theorem State.setHealth_hports (ps : Nat) (h : Health) : (s.setHealth ps h).hports = s.hports := rfl
@[simp] theorem State.setHealth_sess (ps : Nat) (h : Health) : (s.setHealth ps h).sess = s.sess := rfl
@[simp] theorem State.setHealth_nextSess (ps : Nat) (h : Health) : (s.setHealth ps h).nextSess = s.nextSess := rfl
@[simp] theorem State.setHealth_cpq (ps : Nat) (h : Health) : (s.setHealth ps h).cpq = s.cpq := rfl
@[simp] theorem State.setHealth_hostAcc (ps : Nat) (h : Health) : (s.setHealth ps h).hostAcc = s.hostAcc := rfl
@[simp] theorem State.setHealth_nextAcc (ps : Nat) (h : Health) : (s.setHealth ps h).nextAcc = s.nextAcc := rfl
@[simp] theorem State.setHealth_longs (ps : Nat) (h : Health) : (s.setHealth ps h).longs = s.longs := rfl
@[simp] theorem State.setHealth_outbox (ps : Nat) (h : Health) : (s.setHealth ps h).outbox = s.outbox := rfl
@[simp] theorem State.setHealth_mrs (ps : Nat) (h : Health) : (s.setHealth ps h).mrs = s.mrs := rfl
@[simp] theorem State.setHealth_qps (ps : Nat) (h : Health) : (s.setHealth ps h).qps = s.qps := rfl
@[simp] theorem State.setHealth_pwr (ps : Nat) (h : Health) : (s.setHealth ps h).pwr = s.pwr := rfl
@[simp] theorem State.setHealth_banks (ps : Nat) (h : Health) : (s.setHealth ps h).banks = s.banks := rfl
@[simp] theorem State.setHealth_tack (ps : Nat) (h : Health) : (s.setHealth ps h).tack = s.tack := rfl

/-! ### setLs -/
@[simp] theorem State.setLs_pending (l ps : Nat) : (s.setLs l ps).pending = s.pending := rfl
@[simp] theorem State.setLs_clk (l ps : Nat) : (s.setLs l ps).clk = s.clk := rfl
@[simp] theorem State.setLs_free (l ps : Nat) : (s.setLs l ps).free = s.free := rfl
@[simp] theorem State.setLs_resp (l ps : Nat) : (s.setLs l ps).resp = s.resp := rfl
@[simp] theorem State.setLs_health (l ps : Nat) : (s.setLs l ps).health = s.health := rfl
@[simp] theorem State.setLs_stalls (l ps : Nat) : (s.setLs l ps).stalls = s.stalls := rfl
@[simp] theorem State.setLs_grooms (l ps : Nat) : (s.setLs l ps).grooms = s.grooms := rfl
@[simp] theorem State.setLs_nodes (l ps : Nat) : (s.setLs l ps).nodes = s.nodes := rfl
@[simp] theorem State.setLs_mem (l ps : Nat) : (s.setLs l ps).mem = s.mem := rfl
@[simp] theorem State.setLs_memUe (l ps : Nat) : (s.setLs l ps).memUe = s.memUe := rfl
@[simp] theorem State.setLs_reqs (l ps : Nat) : (s.setLs l ps).reqs = s.reqs := rfl
@[simp] theorem State.setLs_nextReq (l ps : Nat) : (s.setLs l ps).nextReq = s.nextReq := rfl
@[simp] theorem State.setLs_nextXfer (l ps : Nat) : (s.setLs l ps).nextXfer = s.nextXfer := rfl
@[simp] theorem State.setLs_csr (l ps : Nat) : (s.setLs l ps).csr = s.csr := rfl
@[simp] theorem State.setLs_chans (l ps : Nat) : (s.setLs l ps).chans = s.chans := rfl
@[simp] theorem State.setLs_slowMem (l ps : Nat) : (s.setLs l ps).slowMem = s.slowMem := rfl
@[simp] theorem State.setLs_capLog2 (l ps : Nat) : (s.setLs l ps).capLog2 = s.capLog2 := rfl
@[simp] theorem State.setLs_sheds (l ps : Nat) : (s.setLs l ps).sheds = s.sheds := rfl
@[simp] theorem State.setLs_xinv (l ps : Nat) : (s.setLs l ps).xinv = s.xinv := rfl
@[simp] theorem State.setLs_segs (l ps : Nat) : (s.setLs l ps).segs = s.segs := rfl
@[simp] theorem State.setLs_loft (l ps : Nat) : (s.setLs l ps).loft = s.loft := rfl
@[simp] theorem State.setLs_loftChans (l ps : Nat) : (s.setLs l ps).loftChans = s.loftChans := rfl
@[simp] theorem State.setLs_pageReads (l ps : Nat) : (s.setLs l ps).pageReads = s.pageReads := rfl
@[simp] theorem State.setLs_jobs (l ps : Nat) : (s.setLs l ps).jobs = s.jobs := rfl
@[simp] theorem State.setLs_ljHead (l ps : Nat) : (s.setLs l ps).ljHead = s.ljHead := rfl
@[simp] theorem State.setLs_pfaults (l ps : Nat) : (s.setLs l ps).pfaults = s.pfaults := rfl
@[simp] theorem State.setLs_evictStopped (l ps : Nat) : (s.setLs l ps).evictStopped = s.evictStopped := rfl
@[simp] theorem State.setLs_evicting (l ps : Nat) : (s.setLs l ps).evicting = s.evicting := rfl
@[simp] theorem State.setLs_gates (l ps : Nat) : (s.setLs l ps).gates = s.gates := rfl
@[simp] theorem State.setLs_routes (l ps : Nat) : (s.setLs l ps).routes = s.routes := rfl
@[simp] theorem State.setLs_ports (l ps : Nat) : (s.setLs l ps).ports = s.ports := rfl
@[simp] theorem State.setLs_xbars (l ps : Nat) : (s.setLs l ps).xbars = s.xbars := rfl
@[simp] theorem State.setLs_dld (l ps : Nat) : (s.setLs l ps).dld = s.dld := rfl
@[simp] theorem State.setLs_dldLimit (l ps : Nat) : (s.setLs l ps).dldLimit = s.dldLimit := rfl
@[simp] theorem State.setLs_reds (l ps : Nat) : (s.setLs l ps).reds = s.reds := rfl
@[simp] theorem State.setLs_opened (l ps : Nat) : (s.setLs l ps).opened = s.opened := rfl
@[simp] theorem State.setLs_ended (l ps : Nat) : (s.setLs l ps).ended = s.ended := rfl
@[simp] theorem State.setLs_ring (l ps : Nat) : (s.setLs l ps).ring = s.ring := rfl
@[simp] theorem State.setLs_combHead (l ps : Nat) : (s.setLs l ps).combHead = s.combHead := rfl
@[simp] theorem State.setLs_cmt (l ps : Nat) : (s.setLs l ps).cmt = s.cmt := rfl
@[simp] theorem State.setLs_arbs (l ps : Nat) : (s.setLs l ps).arbs = s.arbs := rfl
@[simp] theorem State.setLs_deliv (l ps : Nat) : (s.setLs l ps).deliv = s.deliv := rfl
@[simp] theorem State.setLs_started (l ps : Nat) : (s.setLs l ps).started = s.started := rfl
@[simp] theorem State.setLs_lastG (l ps : Nat) : (s.setLs l ps).lastG = s.lastG := rfl
@[simp] theorem State.setLs_swi (l ps : Nat) : (s.setLs l ps).swi = s.swi := rfl
@[simp] theorem State.setLs_hports (l ps : Nat) : (s.setLs l ps).hports = s.hports := rfl
@[simp] theorem State.setLs_sess (l ps : Nat) : (s.setLs l ps).sess = s.sess := rfl
@[simp] theorem State.setLs_nextSess (l ps : Nat) : (s.setLs l ps).nextSess = s.nextSess := rfl
@[simp] theorem State.setLs_cpq (l ps : Nat) : (s.setLs l ps).cpq = s.cpq := rfl
@[simp] theorem State.setLs_hostAcc (l ps : Nat) : (s.setLs l ps).hostAcc = s.hostAcc := rfl
@[simp] theorem State.setLs_nextAcc (l ps : Nat) : (s.setLs l ps).nextAcc = s.nextAcc := rfl
@[simp] theorem State.setLs_longs (l ps : Nat) : (s.setLs l ps).longs = s.longs := rfl
@[simp] theorem State.setLs_outbox (l ps : Nat) : (s.setLs l ps).outbox = s.outbox := rfl
@[simp] theorem State.setLs_mrs (l ps : Nat) : (s.setLs l ps).mrs = s.mrs := rfl
@[simp] theorem State.setLs_qps (l ps : Nat) : (s.setLs l ps).qps = s.qps := rfl
@[simp] theorem State.setLs_pwr (l ps : Nat) : (s.setLs l ps).pwr = s.pwr := rfl
@[simp] theorem State.setLs_banks (l ps : Nat) : (s.setLs l ps).banks = s.banks := rfl
@[simp] theorem State.setLs_tack (l ps : Nat) : (s.setLs l ps).tack = s.tack := rfl

/-! ### setDcsr -/
@[simp] theorem State.setDcsr_pending (o : Nat) (v : Word) : (s.setDcsr o v).pending = s.pending := rfl
@[simp] theorem State.setDcsr_clk (o : Nat) (v : Word) : (s.setDcsr o v).clk = s.clk := rfl
@[simp] theorem State.setDcsr_free (o : Nat) (v : Word) : (s.setDcsr o v).free = s.free := rfl
@[simp] theorem State.setDcsr_resp (o : Nat) (v : Word) : (s.setDcsr o v).resp = s.resp := rfl
@[simp] theorem State.setDcsr_lsMap (o : Nat) (v : Word) : (s.setDcsr o v).lsMap = s.lsMap := rfl
@[simp] theorem State.setDcsr_health (o : Nat) (v : Word) : (s.setDcsr o v).health = s.health := rfl
@[simp] theorem State.setDcsr_stalls (o : Nat) (v : Word) : (s.setDcsr o v).stalls = s.stalls := rfl
@[simp] theorem State.setDcsr_grooms (o : Nat) (v : Word) : (s.setDcsr o v).grooms = s.grooms := rfl
@[simp] theorem State.setDcsr_nodes (o : Nat) (v : Word) : (s.setDcsr o v).nodes = s.nodes := rfl
@[simp] theorem State.setDcsr_mem (o : Nat) (v : Word) : (s.setDcsr o v).mem = s.mem := rfl
@[simp] theorem State.setDcsr_memUe (o : Nat) (v : Word) : (s.setDcsr o v).memUe = s.memUe := rfl
@[simp] theorem State.setDcsr_reqs (o : Nat) (v : Word) : (s.setDcsr o v).reqs = s.reqs := rfl
@[simp] theorem State.setDcsr_nextReq (o : Nat) (v : Word) : (s.setDcsr o v).nextReq = s.nextReq := rfl
@[simp] theorem State.setDcsr_nextXfer (o : Nat) (v : Word) : (s.setDcsr o v).nextXfer = s.nextXfer := rfl
@[simp] theorem State.setDcsr_chans (o : Nat) (v : Word) : (s.setDcsr o v).chans = s.chans := rfl
@[simp] theorem State.setDcsr_slowMem (o : Nat) (v : Word) : (s.setDcsr o v).slowMem = s.slowMem := rfl
@[simp] theorem State.setDcsr_capLog2 (o : Nat) (v : Word) : (s.setDcsr o v).capLog2 = s.capLog2 := rfl
@[simp] theorem State.setDcsr_sheds (o : Nat) (v : Word) : (s.setDcsr o v).sheds = s.sheds := rfl
@[simp] theorem State.setDcsr_xinv (o : Nat) (v : Word) : (s.setDcsr o v).xinv = s.xinv := rfl
@[simp] theorem State.setDcsr_segs (o : Nat) (v : Word) : (s.setDcsr o v).segs = s.segs := rfl
@[simp] theorem State.setDcsr_loft (o : Nat) (v : Word) : (s.setDcsr o v).loft = s.loft := rfl
@[simp] theorem State.setDcsr_loftChans (o : Nat) (v : Word) : (s.setDcsr o v).loftChans = s.loftChans := rfl
@[simp] theorem State.setDcsr_pageReads (o : Nat) (v : Word) : (s.setDcsr o v).pageReads = s.pageReads := rfl
@[simp] theorem State.setDcsr_jobs (o : Nat) (v : Word) : (s.setDcsr o v).jobs = s.jobs := rfl
@[simp] theorem State.setDcsr_ljHead (o : Nat) (v : Word) : (s.setDcsr o v).ljHead = s.ljHead := rfl
@[simp] theorem State.setDcsr_pfaults (o : Nat) (v : Word) : (s.setDcsr o v).pfaults = s.pfaults := rfl
@[simp] theorem State.setDcsr_evictStopped (o : Nat) (v : Word) : (s.setDcsr o v).evictStopped = s.evictStopped := rfl
@[simp] theorem State.setDcsr_evicting (o : Nat) (v : Word) : (s.setDcsr o v).evicting = s.evicting := rfl
@[simp] theorem State.setDcsr_gates (o : Nat) (v : Word) : (s.setDcsr o v).gates = s.gates := rfl
@[simp] theorem State.setDcsr_routes (o : Nat) (v : Word) : (s.setDcsr o v).routes = s.routes := rfl
@[simp] theorem State.setDcsr_ports (o : Nat) (v : Word) : (s.setDcsr o v).ports = s.ports := rfl
@[simp] theorem State.setDcsr_xbars (o : Nat) (v : Word) : (s.setDcsr o v).xbars = s.xbars := rfl
@[simp] theorem State.setDcsr_dld (o : Nat) (v : Word) : (s.setDcsr o v).dld = s.dld := rfl
@[simp] theorem State.setDcsr_dldLimit (o : Nat) (v : Word) : (s.setDcsr o v).dldLimit = s.dldLimit := rfl
@[simp] theorem State.setDcsr_reds (o : Nat) (v : Word) : (s.setDcsr o v).reds = s.reds := rfl
@[simp] theorem State.setDcsr_opened (o : Nat) (v : Word) : (s.setDcsr o v).opened = s.opened := rfl
@[simp] theorem State.setDcsr_ended (o : Nat) (v : Word) : (s.setDcsr o v).ended = s.ended := rfl
@[simp] theorem State.setDcsr_ring (o : Nat) (v : Word) : (s.setDcsr o v).ring = s.ring := rfl
@[simp] theorem State.setDcsr_combHead (o : Nat) (v : Word) : (s.setDcsr o v).combHead = s.combHead := rfl
@[simp] theorem State.setDcsr_cmt (o : Nat) (v : Word) : (s.setDcsr o v).cmt = s.cmt := rfl
@[simp] theorem State.setDcsr_arbs (o : Nat) (v : Word) : (s.setDcsr o v).arbs = s.arbs := rfl
@[simp] theorem State.setDcsr_deliv (o : Nat) (v : Word) : (s.setDcsr o v).deliv = s.deliv := rfl
@[simp] theorem State.setDcsr_started (o : Nat) (v : Word) : (s.setDcsr o v).started = s.started := rfl
@[simp] theorem State.setDcsr_lastG (o : Nat) (v : Word) : (s.setDcsr o v).lastG = s.lastG := rfl
@[simp] theorem State.setDcsr_swi (o : Nat) (v : Word) : (s.setDcsr o v).swi = s.swi := rfl
@[simp] theorem State.setDcsr_hports (o : Nat) (v : Word) : (s.setDcsr o v).hports = s.hports := rfl
@[simp] theorem State.setDcsr_sess (o : Nat) (v : Word) : (s.setDcsr o v).sess = s.sess := rfl
@[simp] theorem State.setDcsr_nextSess (o : Nat) (v : Word) : (s.setDcsr o v).nextSess = s.nextSess := rfl
@[simp] theorem State.setDcsr_cpq (o : Nat) (v : Word) : (s.setDcsr o v).cpq = s.cpq := rfl
@[simp] theorem State.setDcsr_hostAcc (o : Nat) (v : Word) : (s.setDcsr o v).hostAcc = s.hostAcc := rfl
@[simp] theorem State.setDcsr_nextAcc (o : Nat) (v : Word) : (s.setDcsr o v).nextAcc = s.nextAcc := rfl
@[simp] theorem State.setDcsr_longs (o : Nat) (v : Word) : (s.setDcsr o v).longs = s.longs := rfl
@[simp] theorem State.setDcsr_outbox (o : Nat) (v : Word) : (s.setDcsr o v).outbox = s.outbox := rfl
@[simp] theorem State.setDcsr_mrs (o : Nat) (v : Word) : (s.setDcsr o v).mrs = s.mrs := rfl
@[simp] theorem State.setDcsr_qps (o : Nat) (v : Word) : (s.setDcsr o v).qps = s.qps := rfl
@[simp] theorem State.setDcsr_pwr (o : Nat) (v : Word) : (s.setDcsr o v).pwr = s.pwr := rfl
@[simp] theorem State.setDcsr_banks (o : Nat) (v : Word) : (s.setDcsr o v).banks = s.banks := rfl
@[simp] theorem State.setDcsr_tack (o : Nat) (v : Word) : (s.setDcsr o v).tack = s.tack := rfl

/-! ### setScsr -/
@[simp] theorem State.setScsr_pending (ps o : Nat) (v : Word) : (s.setScsr ps o v).pending = s.pending := rfl
@[simp] theorem State.setScsr_clk (ps o : Nat) (v : Word) : (s.setScsr ps o v).clk = s.clk := rfl
@[simp] theorem State.setScsr_free (ps o : Nat) (v : Word) : (s.setScsr ps o v).free = s.free := rfl
@[simp] theorem State.setScsr_resp (ps o : Nat) (v : Word) : (s.setScsr ps o v).resp = s.resp := rfl
@[simp] theorem State.setScsr_lsMap (ps o : Nat) (v : Word) : (s.setScsr ps o v).lsMap = s.lsMap := rfl
@[simp] theorem State.setScsr_health (ps o : Nat) (v : Word) : (s.setScsr ps o v).health = s.health := rfl
@[simp] theorem State.setScsr_grooms (ps o : Nat) (v : Word) : (s.setScsr ps o v).grooms = s.grooms := rfl
@[simp] theorem State.setScsr_nodes (ps o : Nat) (v : Word) : (s.setScsr ps o v).nodes = s.nodes := rfl
@[simp] theorem State.setScsr_mem (ps o : Nat) (v : Word) : (s.setScsr ps o v).mem = s.mem := rfl
@[simp] theorem State.setScsr_memUe (ps o : Nat) (v : Word) : (s.setScsr ps o v).memUe = s.memUe := rfl
@[simp] theorem State.setScsr_reqs (ps o : Nat) (v : Word) : (s.setScsr ps o v).reqs = s.reqs := rfl
@[simp] theorem State.setScsr_nextReq (ps o : Nat) (v : Word) : (s.setScsr ps o v).nextReq = s.nextReq := rfl
@[simp] theorem State.setScsr_nextXfer (ps o : Nat) (v : Word) : (s.setScsr ps o v).nextXfer = s.nextXfer := rfl
@[simp] theorem State.setScsr_csr (ps o : Nat) (v : Word) : (s.setScsr ps o v).csr = s.csr := rfl
@[simp] theorem State.setScsr_chans (ps o : Nat) (v : Word) : (s.setScsr ps o v).chans = s.chans := rfl
@[simp] theorem State.setScsr_slowMem (ps o : Nat) (v : Word) : (s.setScsr ps o v).slowMem = s.slowMem := rfl
@[simp] theorem State.setScsr_capLog2 (ps o : Nat) (v : Word) : (s.setScsr ps o v).capLog2 = s.capLog2 := rfl
@[simp] theorem State.setScsr_sheds (ps o : Nat) (v : Word) : (s.setScsr ps o v).sheds = s.sheds := rfl
@[simp] theorem State.setScsr_xinv (ps o : Nat) (v : Word) : (s.setScsr ps o v).xinv = s.xinv := rfl
@[simp] theorem State.setScsr_segs (ps o : Nat) (v : Word) : (s.setScsr ps o v).segs = s.segs := rfl
@[simp] theorem State.setScsr_loft (ps o : Nat) (v : Word) : (s.setScsr ps o v).loft = s.loft := rfl
@[simp] theorem State.setScsr_loftChans (ps o : Nat) (v : Word) : (s.setScsr ps o v).loftChans = s.loftChans := rfl
@[simp] theorem State.setScsr_pageReads (ps o : Nat) (v : Word) : (s.setScsr ps o v).pageReads = s.pageReads := rfl
@[simp] theorem State.setScsr_jobs (ps o : Nat) (v : Word) : (s.setScsr ps o v).jobs = s.jobs := rfl
@[simp] theorem State.setScsr_ljHead (ps o : Nat) (v : Word) : (s.setScsr ps o v).ljHead = s.ljHead := rfl
@[simp] theorem State.setScsr_pfaults (ps o : Nat) (v : Word) : (s.setScsr ps o v).pfaults = s.pfaults := rfl
@[simp] theorem State.setScsr_evictStopped (ps o : Nat) (v : Word) : (s.setScsr ps o v).evictStopped = s.evictStopped := rfl
@[simp] theorem State.setScsr_evicting (ps o : Nat) (v : Word) : (s.setScsr ps o v).evicting = s.evicting := rfl
@[simp] theorem State.setScsr_gates (ps o : Nat) (v : Word) : (s.setScsr ps o v).gates = s.gates := rfl
@[simp] theorem State.setScsr_routes (ps o : Nat) (v : Word) : (s.setScsr ps o v).routes = s.routes := rfl
@[simp] theorem State.setScsr_ports (ps o : Nat) (v : Word) : (s.setScsr ps o v).ports = s.ports := rfl
@[simp] theorem State.setScsr_xbars (ps o : Nat) (v : Word) : (s.setScsr ps o v).xbars = s.xbars := rfl
@[simp] theorem State.setScsr_dld (ps o : Nat) (v : Word) : (s.setScsr ps o v).dld = s.dld := rfl
@[simp] theorem State.setScsr_dldLimit (ps o : Nat) (v : Word) : (s.setScsr ps o v).dldLimit = s.dldLimit := rfl
@[simp] theorem State.setScsr_reds (ps o : Nat) (v : Word) : (s.setScsr ps o v).reds = s.reds := rfl
@[simp] theorem State.setScsr_opened (ps o : Nat) (v : Word) : (s.setScsr ps o v).opened = s.opened := rfl
@[simp] theorem State.setScsr_ended (ps o : Nat) (v : Word) : (s.setScsr ps o v).ended = s.ended := rfl
@[simp] theorem State.setScsr_ring (ps o : Nat) (v : Word) : (s.setScsr ps o v).ring = s.ring := rfl
@[simp] theorem State.setScsr_combHead (ps o : Nat) (v : Word) : (s.setScsr ps o v).combHead = s.combHead := rfl
@[simp] theorem State.setScsr_cmt (ps o : Nat) (v : Word) : (s.setScsr ps o v).cmt = s.cmt := rfl
@[simp] theorem State.setScsr_arbs (ps o : Nat) (v : Word) : (s.setScsr ps o v).arbs = s.arbs := rfl
@[simp] theorem State.setScsr_deliv (ps o : Nat) (v : Word) : (s.setScsr ps o v).deliv = s.deliv := rfl
@[simp] theorem State.setScsr_started (ps o : Nat) (v : Word) : (s.setScsr ps o v).started = s.started := rfl
@[simp] theorem State.setScsr_lastG (ps o : Nat) (v : Word) : (s.setScsr ps o v).lastG = s.lastG := rfl
@[simp] theorem State.setScsr_swi (ps o : Nat) (v : Word) : (s.setScsr ps o v).swi = s.swi := rfl
@[simp] theorem State.setScsr_hports (ps o : Nat) (v : Word) : (s.setScsr ps o v).hports = s.hports := rfl
@[simp] theorem State.setScsr_sess (ps o : Nat) (v : Word) : (s.setScsr ps o v).sess = s.sess := rfl
@[simp] theorem State.setScsr_nextSess (ps o : Nat) (v : Word) : (s.setScsr ps o v).nextSess = s.nextSess := rfl
@[simp] theorem State.setScsr_cpq (ps o : Nat) (v : Word) : (s.setScsr ps o v).cpq = s.cpq := rfl
@[simp] theorem State.setScsr_hostAcc (ps o : Nat) (v : Word) : (s.setScsr ps o v).hostAcc = s.hostAcc := rfl
@[simp] theorem State.setScsr_nextAcc (ps o : Nat) (v : Word) : (s.setScsr ps o v).nextAcc = s.nextAcc := rfl
@[simp] theorem State.setScsr_longs (ps o : Nat) (v : Word) : (s.setScsr ps o v).longs = s.longs := rfl
@[simp] theorem State.setScsr_outbox (ps o : Nat) (v : Word) : (s.setScsr ps o v).outbox = s.outbox := rfl
@[simp] theorem State.setScsr_mrs (ps o : Nat) (v : Word) : (s.setScsr ps o v).mrs = s.mrs := rfl
@[simp] theorem State.setScsr_qps (ps o : Nat) (v : Word) : (s.setScsr ps o v).qps = s.qps := rfl
@[simp] theorem State.setScsr_pwr (ps o : Nat) (v : Word) : (s.setScsr ps o v).pwr = s.pwr := rfl
@[simp] theorem State.setScsr_banks (ps o : Nat) (v : Word) : (s.setScsr ps o v).banks = s.banks := rfl
@[simp] theorem State.setScsr_tack (ps o : Nat) (v : Word) : (s.setScsr ps o v).tack = s.tack := rfl

/-! ### respond -/
@[simp] theorem State.respond_pending (st : Status) (v : Word) (b : List Byte) : (s.respond st v b).pending = s.pending := rfl
@[simp] theorem State.respond_clk (st : Status) (v : Word) (b : List Byte) : (s.respond st v b).clk = s.clk := rfl
@[simp] theorem State.respond_free (st : Status) (v : Word) (b : List Byte) : (s.respond st v b).free = s.free := rfl
@[simp] theorem State.respond_lsMap (st : Status) (v : Word) (b : List Byte) : (s.respond st v b).lsMap = s.lsMap := rfl
@[simp] theorem State.respond_health (st : Status) (v : Word) (b : List Byte) : (s.respond st v b).health = s.health := rfl
@[simp] theorem State.respond_stalls (st : Status) (v : Word) (b : List Byte) : (s.respond st v b).stalls = s.stalls := rfl
@[simp] theorem State.respond_grooms (st : Status) (v : Word) (b : List Byte) : (s.respond st v b).grooms = s.grooms := rfl
@[simp] theorem State.respond_nodes (st : Status) (v : Word) (b : List Byte) : (s.respond st v b).nodes = s.nodes := rfl
@[simp] theorem State.respond_mem (st : Status) (v : Word) (b : List Byte) : (s.respond st v b).mem = s.mem := rfl
@[simp] theorem State.respond_memUe (st : Status) (v : Word) (b : List Byte) : (s.respond st v b).memUe = s.memUe := rfl
@[simp] theorem State.respond_reqs (st : Status) (v : Word) (b : List Byte) : (s.respond st v b).reqs = s.reqs := rfl
@[simp] theorem State.respond_nextReq (st : Status) (v : Word) (b : List Byte) : (s.respond st v b).nextReq = s.nextReq := rfl
@[simp] theorem State.respond_nextXfer (st : Status) (v : Word) (b : List Byte) : (s.respond st v b).nextXfer = s.nextXfer := rfl
@[simp] theorem State.respond_csr (st : Status) (v : Word) (b : List Byte) : (s.respond st v b).csr = s.csr := rfl
@[simp] theorem State.respond_chans (st : Status) (v : Word) (b : List Byte) : (s.respond st v b).chans = s.chans := rfl
@[simp] theorem State.respond_slowMem (st : Status) (v : Word) (b : List Byte) : (s.respond st v b).slowMem = s.slowMem := rfl
@[simp] theorem State.respond_capLog2 (st : Status) (v : Word) (b : List Byte) : (s.respond st v b).capLog2 = s.capLog2 := rfl
@[simp] theorem State.respond_sheds (st : Status) (v : Word) (b : List Byte) : (s.respond st v b).sheds = s.sheds := rfl
@[simp] theorem State.respond_xinv (st : Status) (v : Word) (b : List Byte) : (s.respond st v b).xinv = s.xinv := rfl
@[simp] theorem State.respond_segs (st : Status) (v : Word) (b : List Byte) : (s.respond st v b).segs = s.segs := rfl
@[simp] theorem State.respond_loft (st : Status) (v : Word) (b : List Byte) : (s.respond st v b).loft = s.loft := rfl
@[simp] theorem State.respond_loftChans (st : Status) (v : Word) (b : List Byte) : (s.respond st v b).loftChans = s.loftChans := rfl
@[simp] theorem State.respond_pageReads (st : Status) (v : Word) (b : List Byte) : (s.respond st v b).pageReads = s.pageReads := rfl
@[simp] theorem State.respond_jobs (st : Status) (v : Word) (b : List Byte) : (s.respond st v b).jobs = s.jobs := rfl
@[simp] theorem State.respond_ljHead (st : Status) (v : Word) (b : List Byte) : (s.respond st v b).ljHead = s.ljHead := rfl
@[simp] theorem State.respond_pfaults (st : Status) (v : Word) (b : List Byte) : (s.respond st v b).pfaults = s.pfaults := rfl
@[simp] theorem State.respond_evictStopped (st : Status) (v : Word) (b : List Byte) : (s.respond st v b).evictStopped = s.evictStopped := rfl
@[simp] theorem State.respond_evicting (st : Status) (v : Word) (b : List Byte) : (s.respond st v b).evicting = s.evicting := rfl
@[simp] theorem State.respond_gates (st : Status) (v : Word) (b : List Byte) : (s.respond st v b).gates = s.gates := rfl
@[simp] theorem State.respond_routes (st : Status) (v : Word) (b : List Byte) : (s.respond st v b).routes = s.routes := rfl
@[simp] theorem State.respond_ports (st : Status) (v : Word) (b : List Byte) : (s.respond st v b).ports = s.ports := rfl
@[simp] theorem State.respond_xbars (st : Status) (v : Word) (b : List Byte) : (s.respond st v b).xbars = s.xbars := rfl
@[simp] theorem State.respond_dld (st : Status) (v : Word) (b : List Byte) : (s.respond st v b).dld = s.dld := rfl
@[simp] theorem State.respond_dldLimit (st : Status) (v : Word) (b : List Byte) : (s.respond st v b).dldLimit = s.dldLimit := rfl
@[simp] theorem State.respond_reds (st : Status) (v : Word) (b : List Byte) : (s.respond st v b).reds = s.reds := rfl
@[simp] theorem State.respond_opened (st : Status) (v : Word) (b : List Byte) : (s.respond st v b).opened = s.opened := rfl
@[simp] theorem State.respond_ended (st : Status) (v : Word) (b : List Byte) : (s.respond st v b).ended = s.ended := rfl
@[simp] theorem State.respond_ring (st : Status) (v : Word) (b : List Byte) : (s.respond st v b).ring = s.ring := rfl
@[simp] theorem State.respond_combHead (st : Status) (v : Word) (b : List Byte) : (s.respond st v b).combHead = s.combHead := rfl
@[simp] theorem State.respond_cmt (st : Status) (v : Word) (b : List Byte) : (s.respond st v b).cmt = s.cmt := rfl
@[simp] theorem State.respond_arbs (st : Status) (v : Word) (b : List Byte) : (s.respond st v b).arbs = s.arbs := rfl
@[simp] theorem State.respond_deliv (st : Status) (v : Word) (b : List Byte) : (s.respond st v b).deliv = s.deliv := rfl
@[simp] theorem State.respond_started (st : Status) (v : Word) (b : List Byte) : (s.respond st v b).started = s.started := rfl
@[simp] theorem State.respond_lastG (st : Status) (v : Word) (b : List Byte) : (s.respond st v b).lastG = s.lastG := rfl
@[simp] theorem State.respond_swi (st : Status) (v : Word) (b : List Byte) : (s.respond st v b).swi = s.swi := rfl
@[simp] theorem State.respond_hports (st : Status) (v : Word) (b : List Byte) : (s.respond st v b).hports = s.hports := rfl
@[simp] theorem State.respond_sess (st : Status) (v : Word) (b : List Byte) : (s.respond st v b).sess = s.sess := rfl
@[simp] theorem State.respond_nextSess (st : Status) (v : Word) (b : List Byte) : (s.respond st v b).nextSess = s.nextSess := rfl
@[simp] theorem State.respond_cpq (st : Status) (v : Word) (b : List Byte) : (s.respond st v b).cpq = s.cpq := rfl
@[simp] theorem State.respond_hostAcc (st : Status) (v : Word) (b : List Byte) : (s.respond st v b).hostAcc = s.hostAcc := rfl
@[simp] theorem State.respond_nextAcc (st : Status) (v : Word) (b : List Byte) : (s.respond st v b).nextAcc = s.nextAcc := rfl
@[simp] theorem State.respond_longs (st : Status) (v : Word) (b : List Byte) : (s.respond st v b).longs = s.longs := rfl
@[simp] theorem State.respond_outbox (st : Status) (v : Word) (b : List Byte) : (s.respond st v b).outbox = s.outbox := rfl
@[simp] theorem State.respond_mrs (st : Status) (v : Word) (b : List Byte) : (s.respond st v b).mrs = s.mrs := rfl
@[simp] theorem State.respond_qps (st : Status) (v : Word) (b : List Byte) : (s.respond st v b).qps = s.qps := rfl
@[simp] theorem State.respond_pwr (st : Status) (v : Word) (b : List Byte) : (s.respond st v b).pwr = s.pwr := rfl
@[simp] theorem State.respond_banks (st : Status) (v : Word) (b : List Byte) : (s.respond st v b).banks = s.banks := rfl
@[simp] theorem State.respond_tack (st : Status) (v : Word) (b : List Byte) : (s.respond st v b).tack = s.tack := rfl

/-! ### memWrite -/
@[simp] theorem State.memWrite_pending (a : Nat) (b : List Byte) : (s.memWrite a b).pending = s.pending := rfl
@[simp] theorem State.memWrite_clk (a : Nat) (b : List Byte) : (s.memWrite a b).clk = s.clk := rfl
@[simp] theorem State.memWrite_free (a : Nat) (b : List Byte) : (s.memWrite a b).free = s.free := rfl
@[simp] theorem State.memWrite_resp (a : Nat) (b : List Byte) : (s.memWrite a b).resp = s.resp := rfl
@[simp] theorem State.memWrite_lsMap (a : Nat) (b : List Byte) : (s.memWrite a b).lsMap = s.lsMap := rfl
@[simp] theorem State.memWrite_health (a : Nat) (b : List Byte) : (s.memWrite a b).health = s.health := rfl
@[simp] theorem State.memWrite_stalls (a : Nat) (b : List Byte) : (s.memWrite a b).stalls = s.stalls := rfl
@[simp] theorem State.memWrite_grooms (a : Nat) (b : List Byte) : (s.memWrite a b).grooms = s.grooms := rfl
@[simp] theorem State.memWrite_nodes (a : Nat) (b : List Byte) : (s.memWrite a b).nodes = s.nodes := rfl
@[simp] theorem State.memWrite_reqs (a : Nat) (b : List Byte) : (s.memWrite a b).reqs = s.reqs := rfl
@[simp] theorem State.memWrite_nextReq (a : Nat) (b : List Byte) : (s.memWrite a b).nextReq = s.nextReq := rfl
@[simp] theorem State.memWrite_nextXfer (a : Nat) (b : List Byte) : (s.memWrite a b).nextXfer = s.nextXfer := rfl
@[simp] theorem State.memWrite_csr (a : Nat) (b : List Byte) : (s.memWrite a b).csr = s.csr := rfl
@[simp] theorem State.memWrite_chans (a : Nat) (b : List Byte) : (s.memWrite a b).chans = s.chans := rfl
@[simp] theorem State.memWrite_slowMem (a : Nat) (b : List Byte) : (s.memWrite a b).slowMem = s.slowMem := rfl
@[simp] theorem State.memWrite_capLog2 (a : Nat) (b : List Byte) : (s.memWrite a b).capLog2 = s.capLog2 := rfl
@[simp] theorem State.memWrite_sheds (a : Nat) (b : List Byte) : (s.memWrite a b).sheds = s.sheds := rfl
@[simp] theorem State.memWrite_xinv (a : Nat) (b : List Byte) : (s.memWrite a b).xinv = s.xinv := rfl
@[simp] theorem State.memWrite_segs (a : Nat) (b : List Byte) : (s.memWrite a b).segs = s.segs := rfl
@[simp] theorem State.memWrite_loft (a : Nat) (b : List Byte) : (s.memWrite a b).loft = s.loft := rfl
@[simp] theorem State.memWrite_loftChans (a : Nat) (b : List Byte) : (s.memWrite a b).loftChans = s.loftChans := rfl
@[simp] theorem State.memWrite_pageReads (a : Nat) (b : List Byte) : (s.memWrite a b).pageReads = s.pageReads := rfl
@[simp] theorem State.memWrite_jobs (a : Nat) (b : List Byte) : (s.memWrite a b).jobs = s.jobs := rfl
@[simp] theorem State.memWrite_ljHead (a : Nat) (b : List Byte) : (s.memWrite a b).ljHead = s.ljHead := rfl
@[simp] theorem State.memWrite_pfaults (a : Nat) (b : List Byte) : (s.memWrite a b).pfaults = s.pfaults := rfl
@[simp] theorem State.memWrite_evictStopped (a : Nat) (b : List Byte) : (s.memWrite a b).evictStopped = s.evictStopped := rfl
@[simp] theorem State.memWrite_evicting (a : Nat) (b : List Byte) : (s.memWrite a b).evicting = s.evicting := rfl
@[simp] theorem State.memWrite_gates (a : Nat) (b : List Byte) : (s.memWrite a b).gates = s.gates := rfl
@[simp] theorem State.memWrite_routes (a : Nat) (b : List Byte) : (s.memWrite a b).routes = s.routes := rfl
@[simp] theorem State.memWrite_ports (a : Nat) (b : List Byte) : (s.memWrite a b).ports = s.ports := rfl
@[simp] theorem State.memWrite_xbars (a : Nat) (b : List Byte) : (s.memWrite a b).xbars = s.xbars := rfl
@[simp] theorem State.memWrite_dld (a : Nat) (b : List Byte) : (s.memWrite a b).dld = s.dld := rfl
@[simp] theorem State.memWrite_dldLimit (a : Nat) (b : List Byte) : (s.memWrite a b).dldLimit = s.dldLimit := rfl
@[simp] theorem State.memWrite_reds (a : Nat) (b : List Byte) : (s.memWrite a b).reds = s.reds := rfl
@[simp] theorem State.memWrite_opened (a : Nat) (b : List Byte) : (s.memWrite a b).opened = s.opened := rfl
@[simp] theorem State.memWrite_ended (a : Nat) (b : List Byte) : (s.memWrite a b).ended = s.ended := rfl
@[simp] theorem State.memWrite_ring (a : Nat) (b : List Byte) : (s.memWrite a b).ring = s.ring := rfl
@[simp] theorem State.memWrite_combHead (a : Nat) (b : List Byte) : (s.memWrite a b).combHead = s.combHead := rfl
@[simp] theorem State.memWrite_cmt (a : Nat) (b : List Byte) : (s.memWrite a b).cmt = s.cmt := rfl
@[simp] theorem State.memWrite_arbs (a : Nat) (b : List Byte) : (s.memWrite a b).arbs = s.arbs := rfl
@[simp] theorem State.memWrite_deliv (a : Nat) (b : List Byte) : (s.memWrite a b).deliv = s.deliv := rfl
@[simp] theorem State.memWrite_started (a : Nat) (b : List Byte) : (s.memWrite a b).started = s.started := rfl
@[simp] theorem State.memWrite_lastG (a : Nat) (b : List Byte) : (s.memWrite a b).lastG = s.lastG := rfl
@[simp] theorem State.memWrite_swi (a : Nat) (b : List Byte) : (s.memWrite a b).swi = s.swi := rfl
@[simp] theorem State.memWrite_hports (a : Nat) (b : List Byte) : (s.memWrite a b).hports = s.hports := rfl
@[simp] theorem State.memWrite_sess (a : Nat) (b : List Byte) : (s.memWrite a b).sess = s.sess := rfl
@[simp] theorem State.memWrite_nextSess (a : Nat) (b : List Byte) : (s.memWrite a b).nextSess = s.nextSess := rfl
@[simp] theorem State.memWrite_cpq (a : Nat) (b : List Byte) : (s.memWrite a b).cpq = s.cpq := rfl
@[simp] theorem State.memWrite_hostAcc (a : Nat) (b : List Byte) : (s.memWrite a b).hostAcc = s.hostAcc := rfl
@[simp] theorem State.memWrite_nextAcc (a : Nat) (b : List Byte) : (s.memWrite a b).nextAcc = s.nextAcc := rfl
@[simp] theorem State.memWrite_longs (a : Nat) (b : List Byte) : (s.memWrite a b).longs = s.longs := rfl
@[simp] theorem State.memWrite_outbox (a : Nat) (b : List Byte) : (s.memWrite a b).outbox = s.outbox := rfl
@[simp] theorem State.memWrite_mrs (a : Nat) (b : List Byte) : (s.memWrite a b).mrs = s.mrs := rfl
@[simp] theorem State.memWrite_qps (a : Nat) (b : List Byte) : (s.memWrite a b).qps = s.qps := rfl
@[simp] theorem State.memWrite_pwr (a : Nat) (b : List Byte) : (s.memWrite a b).pwr = s.pwr := rfl
@[simp] theorem State.memWrite_banks (a : Nat) (b : List Byte) : (s.memWrite a b).banks = s.banks := rfl
@[simp] theorem State.memWrite_tack (a : Nat) (b : List Byte) : (s.memWrite a b).tack = s.tack := rfl

end Sys2Proof.Machine
end

