-- ==== Sys2Proof/Laws/Perf.lean ====
section
/-! SUPPORT. Counting an event changes the counters of one stall and nothing else (R559 to R564). -/

namespace Sys2Proof.Machine

theorem State.setScsr_eq (s : State) (ps o : Nat) (v : Word) : ∃ m, s.setScsr ps o v = { s with stalls := m } := ⟨_, rfl⟩

theorem State.perfAdd_eq (ps : Nat) : ∀ (fuel : Nat) (s : State) (n k : Nat), ∃ m, s.perfAdd ps fuel n k = { s with stalls := m }
  | 0, s, _, _ => ⟨s.stalls, rfl⟩
  | fuel + 1, s, n, k => by
    unfold State.perfAdd
    dsimp only
    split_ifs
    · exact ⟨_, rfl⟩
    · obtain ⟨m, h⟩ := State.perfAdd_eq ps fuel (s.setScsr ps (0x1C48 + n * 0x10) (place 47 0 (fld (s.scsr ps (0x1C48 + n * 0x10)) 47 0 + k))) (n + 1)
        ((fld (s.scsr ps (0x1C48 + n * 0x10)) 47 0 + k) / 2 ^ 48)
      exact ⟨m, h⟩
    · exact ⟨_, rfl⟩

/-- A fold of operations that change the stalls alone changes the stalls alone. -/
theorem State.foldl_stalls {β : Type} (f : State → β → State) (hf : ∀ s b, ∃ m, f s b = { s with stalls := m }) :
    ∀ (l : List β) (s : State), ∃ m, l.foldl f s = { s with stalls := m }
  | [], s => ⟨s.stalls, rfl⟩
  | b :: l, s => by
    obtain ⟨m, h⟩ := hf s b
    obtain ⟨m', h'⟩ := State.foldl_stalls f hf l (f s b)
    exact ⟨m', by rw [List.foldl_cons, h', h]⟩

/-- What counting an event can do. -/
theorem State.perf_eq (s : State) (ps code : Nat) (pr : Option Priv) (r a : Option Nat) (k : Nat) :
    ∃ m, s.perf ps code pr r a k = { s with stalls := m } := by
  unfold State.perf
  split_ifs
  · exact ⟨s.stalls, rfl⟩
  · refine State.foldl_stalls _ (fun s n => ?_) _ _
    split_ifs
    · exact State.perfAdd_eq ps 8 s n k
    · exact ⟨s.stalls, rfl⟩

@[simp] theorem State.perf_pending (s : State) (ps code : Nat) (pr : Option Priv) (r a : Option Nat) (k : Nat) :
    (s.perf ps code pr r a k).pending = s.pending := by obtain ⟨m, h⟩ := s.perf_eq ps code pr r a k; rw [h]
@[simp] theorem State.perf_clk (s : State) (ps code : Nat) (pr : Option Priv) (r a : Option Nat) (k : Nat) :
    (s.perf ps code pr r a k).clk = s.clk := by obtain ⟨m, h⟩ := s.perf_eq ps code pr r a k; rw [h]
@[simp] theorem State.perf_free (s : State) (ps code : Nat) (pr : Option Priv) (r a : Option Nat) (k : Nat) :
    (s.perf ps code pr r a k).free = s.free := by obtain ⟨m, h⟩ := s.perf_eq ps code pr r a k; rw [h]
@[simp] theorem State.perf_resp (s : State) (ps code : Nat) (pr : Option Priv) (r a : Option Nat) (k : Nat) :
    (s.perf ps code pr r a k).resp = s.resp := by obtain ⟨m, h⟩ := s.perf_eq ps code pr r a k; rw [h]
@[simp] theorem State.perf_lsMap (s : State) (ps code : Nat) (pr : Option Priv) (r a : Option Nat) (k : Nat) :
    (s.perf ps code pr r a k).lsMap = s.lsMap := by obtain ⟨m, h⟩ := s.perf_eq ps code pr r a k; rw [h]
@[simp] theorem State.perf_health (s : State) (ps code : Nat) (pr : Option Priv) (r a : Option Nat) (k : Nat) :
    (s.perf ps code pr r a k).health = s.health := by obtain ⟨m, h⟩ := s.perf_eq ps code pr r a k; rw [h]
@[simp] theorem State.perf_grooms (s : State) (ps code : Nat) (pr : Option Priv) (r a : Option Nat) (k : Nat) :
    (s.perf ps code pr r a k).grooms = s.grooms := by obtain ⟨m, h⟩ := s.perf_eq ps code pr r a k; rw [h]
@[simp] theorem State.perf_nodes (s : State) (ps code : Nat) (pr : Option Priv) (r a : Option Nat) (k : Nat) :
    (s.perf ps code pr r a k).nodes = s.nodes := by obtain ⟨m, h⟩ := s.perf_eq ps code pr r a k; rw [h]
@[simp] theorem State.perf_mem (s : State) (ps code : Nat) (pr : Option Priv) (r a : Option Nat) (k : Nat) :
    (s.perf ps code pr r a k).mem = s.mem := by obtain ⟨m, h⟩ := s.perf_eq ps code pr r a k; rw [h]
@[simp] theorem State.perf_memUe (s : State) (ps code : Nat) (pr : Option Priv) (r a : Option Nat) (k : Nat) :
    (s.perf ps code pr r a k).memUe = s.memUe := by obtain ⟨m, h⟩ := s.perf_eq ps code pr r a k; rw [h]
@[simp] theorem State.perf_reqs (s : State) (ps code : Nat) (pr : Option Priv) (r a : Option Nat) (k : Nat) :
    (s.perf ps code pr r a k).reqs = s.reqs := by obtain ⟨m, h⟩ := s.perf_eq ps code pr r a k; rw [h]
@[simp] theorem State.perf_nextReq (s : State) (ps code : Nat) (pr : Option Priv) (r a : Option Nat) (k : Nat) :
    (s.perf ps code pr r a k).nextReq = s.nextReq := by obtain ⟨m, h⟩ := s.perf_eq ps code pr r a k; rw [h]
@[simp] theorem State.perf_nextXfer (s : State) (ps code : Nat) (pr : Option Priv) (r a : Option Nat) (k : Nat) :
    (s.perf ps code pr r a k).nextXfer = s.nextXfer := by obtain ⟨m, h⟩ := s.perf_eq ps code pr r a k; rw [h]
@[simp] theorem State.perf_csr (s : State) (ps code : Nat) (pr : Option Priv) (r a : Option Nat) (k : Nat) :
    (s.perf ps code pr r a k).csr = s.csr := by obtain ⟨m, h⟩ := s.perf_eq ps code pr r a k; rw [h]
@[simp] theorem State.perf_chans (s : State) (ps code : Nat) (pr : Option Priv) (r a : Option Nat) (k : Nat) :
    (s.perf ps code pr r a k).chans = s.chans := by obtain ⟨m, h⟩ := s.perf_eq ps code pr r a k; rw [h]
@[simp] theorem State.perf_slowMem (s : State) (ps code : Nat) (pr : Option Priv) (r a : Option Nat) (k : Nat) :
    (s.perf ps code pr r a k).slowMem = s.slowMem := by obtain ⟨m, h⟩ := s.perf_eq ps code pr r a k; rw [h]
@[simp] theorem State.perf_capLog2 (s : State) (ps code : Nat) (pr : Option Priv) (r a : Option Nat) (k : Nat) :
    (s.perf ps code pr r a k).capLog2 = s.capLog2 := by obtain ⟨m, h⟩ := s.perf_eq ps code pr r a k; rw [h]
@[simp] theorem State.perf_sheds (s : State) (ps code : Nat) (pr : Option Priv) (r a : Option Nat) (k : Nat) :
    (s.perf ps code pr r a k).sheds = s.sheds := by obtain ⟨m, h⟩ := s.perf_eq ps code pr r a k; rw [h]
@[simp] theorem State.perf_xinv (s : State) (ps code : Nat) (pr : Option Priv) (r a : Option Nat) (k : Nat) :
    (s.perf ps code pr r a k).xinv = s.xinv := by obtain ⟨m, h⟩ := s.perf_eq ps code pr r a k; rw [h]
@[simp] theorem State.perf_segs (s : State) (ps code : Nat) (pr : Option Priv) (r a : Option Nat) (k : Nat) :
    (s.perf ps code pr r a k).segs = s.segs := by obtain ⟨m, h⟩ := s.perf_eq ps code pr r a k; rw [h]
@[simp] theorem State.perf_loft (s : State) (ps code : Nat) (pr : Option Priv) (r a : Option Nat) (k : Nat) :
    (s.perf ps code pr r a k).loft = s.loft := by obtain ⟨m, h⟩ := s.perf_eq ps code pr r a k; rw [h]
@[simp] theorem State.perf_loftChans (s : State) (ps code : Nat) (pr : Option Priv) (r a : Option Nat) (k : Nat) :
    (s.perf ps code pr r a k).loftChans = s.loftChans := by obtain ⟨m, h⟩ := s.perf_eq ps code pr r a k; rw [h]
@[simp] theorem State.perf_pageReads (s : State) (ps code : Nat) (pr : Option Priv) (r a : Option Nat) (k : Nat) :
    (s.perf ps code pr r a k).pageReads = s.pageReads := by obtain ⟨m, h⟩ := s.perf_eq ps code pr r a k; rw [h]
@[simp] theorem State.perf_jobs (s : State) (ps code : Nat) (pr : Option Priv) (r a : Option Nat) (k : Nat) :
    (s.perf ps code pr r a k).jobs = s.jobs := by obtain ⟨m, h⟩ := s.perf_eq ps code pr r a k; rw [h]
@[simp] theorem State.perf_ljHead (s : State) (ps code : Nat) (pr : Option Priv) (r a : Option Nat) (k : Nat) :
    (s.perf ps code pr r a k).ljHead = s.ljHead := by obtain ⟨m, h⟩ := s.perf_eq ps code pr r a k; rw [h]
@[simp] theorem State.perf_pfaults (s : State) (ps code : Nat) (pr : Option Priv) (r a : Option Nat) (k : Nat) :
    (s.perf ps code pr r a k).pfaults = s.pfaults := by obtain ⟨m, h⟩ := s.perf_eq ps code pr r a k; rw [h]
@[simp] theorem State.perf_evictStopped (s : State) (ps code : Nat) (pr : Option Priv) (r a : Option Nat) (k : Nat) :
    (s.perf ps code pr r a k).evictStopped = s.evictStopped := by obtain ⟨m, h⟩ := s.perf_eq ps code pr r a k; rw [h]
@[simp] theorem State.perf_gates (s : State) (ps code : Nat) (pr : Option Priv) (r a : Option Nat) (k : Nat) :
    (s.perf ps code pr r a k).gates = s.gates := by obtain ⟨m, h⟩ := s.perf_eq ps code pr r a k; rw [h]
@[simp] theorem State.perf_routes (s : State) (ps code : Nat) (pr : Option Priv) (r a : Option Nat) (k : Nat) :
    (s.perf ps code pr r a k).routes = s.routes := by obtain ⟨m, h⟩ := s.perf_eq ps code pr r a k; rw [h]
@[simp] theorem State.perf_ports (s : State) (ps code : Nat) (pr : Option Priv) (r a : Option Nat) (k : Nat) :
    (s.perf ps code pr r a k).ports = s.ports := by obtain ⟨m, h⟩ := s.perf_eq ps code pr r a k; rw [h]
@[simp] theorem State.perf_xbars (s : State) (ps code : Nat) (pr : Option Priv) (r a : Option Nat) (k : Nat) :
    (s.perf ps code pr r a k).xbars = s.xbars := by obtain ⟨m, h⟩ := s.perf_eq ps code pr r a k; rw [h]
@[simp] theorem State.perf_dld (s : State) (ps code : Nat) (pr : Option Priv) (r a : Option Nat) (k : Nat) :
    (s.perf ps code pr r a k).dld = s.dld := by obtain ⟨m, h⟩ := s.perf_eq ps code pr r a k; rw [h]
@[simp] theorem State.perf_dldLimit (s : State) (ps code : Nat) (pr : Option Priv) (r a : Option Nat) (k : Nat) :
    (s.perf ps code pr r a k).dldLimit = s.dldLimit := by obtain ⟨m, h⟩ := s.perf_eq ps code pr r a k; rw [h]
@[simp] theorem State.perf_reds (s : State) (ps code : Nat) (pr : Option Priv) (r a : Option Nat) (k : Nat) :
    (s.perf ps code pr r a k).reds = s.reds := by obtain ⟨m, h⟩ := s.perf_eq ps code pr r a k; rw [h]
@[simp] theorem State.perf_opened (s : State) (ps code : Nat) (pr : Option Priv) (r a : Option Nat) (k : Nat) :
    (s.perf ps code pr r a k).opened = s.opened := by obtain ⟨m, h⟩ := s.perf_eq ps code pr r a k; rw [h]
@[simp] theorem State.perf_ended (s : State) (ps code : Nat) (pr : Option Priv) (r a : Option Nat) (k : Nat) :
    (s.perf ps code pr r a k).ended = s.ended := by obtain ⟨m, h⟩ := s.perf_eq ps code pr r a k; rw [h]
@[simp] theorem State.perf_ring (s : State) (ps code : Nat) (pr : Option Priv) (r a : Option Nat) (k : Nat) :
    (s.perf ps code pr r a k).ring = s.ring := by obtain ⟨m, h⟩ := s.perf_eq ps code pr r a k; rw [h]
@[simp] theorem State.perf_combHead (s : State) (ps code : Nat) (pr : Option Priv) (r a : Option Nat) (k : Nat) :
    (s.perf ps code pr r a k).combHead = s.combHead := by obtain ⟨m, h⟩ := s.perf_eq ps code pr r a k; rw [h]
@[simp] theorem State.perf_cmt (s : State) (ps code : Nat) (pr : Option Priv) (r a : Option Nat) (k : Nat) :
    (s.perf ps code pr r a k).cmt = s.cmt := by obtain ⟨m, h⟩ := s.perf_eq ps code pr r a k; rw [h]
@[simp] theorem State.perf_arbs (s : State) (ps code : Nat) (pr : Option Priv) (r a : Option Nat) (k : Nat) :
    (s.perf ps code pr r a k).arbs = s.arbs := by obtain ⟨m, h⟩ := s.perf_eq ps code pr r a k; rw [h]
@[simp] theorem State.perf_deliv (s : State) (ps code : Nat) (pr : Option Priv) (r a : Option Nat) (k : Nat) :
    (s.perf ps code pr r a k).deliv = s.deliv := by obtain ⟨m, h⟩ := s.perf_eq ps code pr r a k; rw [h]
@[simp] theorem State.perf_started (s : State) (ps code : Nat) (pr : Option Priv) (r a : Option Nat) (k : Nat) :
    (s.perf ps code pr r a k).started = s.started := by obtain ⟨m, h⟩ := s.perf_eq ps code pr r a k; rw [h]
@[simp] theorem State.perf_lastG (s : State) (ps code : Nat) (pr : Option Priv) (r a : Option Nat) (k : Nat) :
    (s.perf ps code pr r a k).lastG = s.lastG := by obtain ⟨m, h⟩ := s.perf_eq ps code pr r a k; rw [h]
@[simp] theorem State.perf_swi (s : State) (ps code : Nat) (pr : Option Priv) (r a : Option Nat) (k : Nat) :
    (s.perf ps code pr r a k).swi = s.swi := by obtain ⟨m, h⟩ := s.perf_eq ps code pr r a k; rw [h]
@[simp] theorem State.perf_hports (s : State) (ps code : Nat) (pr : Option Priv) (r a : Option Nat) (k : Nat) :
    (s.perf ps code pr r a k).hports = s.hports := by obtain ⟨m, h⟩ := s.perf_eq ps code pr r a k; rw [h]
@[simp] theorem State.perf_sess (s : State) (ps code : Nat) (pr : Option Priv) (r a : Option Nat) (k : Nat) :
    (s.perf ps code pr r a k).sess = s.sess := by obtain ⟨m, h⟩ := s.perf_eq ps code pr r a k; rw [h]
@[simp] theorem State.perf_nextSess (s : State) (ps code : Nat) (pr : Option Priv) (r a : Option Nat) (k : Nat) :
    (s.perf ps code pr r a k).nextSess = s.nextSess := by obtain ⟨m, h⟩ := s.perf_eq ps code pr r a k; rw [h]
@[simp] theorem State.perf_cpq (s : State) (ps code : Nat) (pr : Option Priv) (r a : Option Nat) (k : Nat) :
    (s.perf ps code pr r a k).cpq = s.cpq := by obtain ⟨m, h⟩ := s.perf_eq ps code pr r a k; rw [h]
@[simp] theorem State.perf_hostAcc (s : State) (ps code : Nat) (pr : Option Priv) (r a : Option Nat) (k : Nat) :
    (s.perf ps code pr r a k).hostAcc = s.hostAcc := by obtain ⟨m, h⟩ := s.perf_eq ps code pr r a k; rw [h]
@[simp] theorem State.perf_nextAcc (s : State) (ps code : Nat) (pr : Option Priv) (r a : Option Nat) (k : Nat) :
    (s.perf ps code pr r a k).nextAcc = s.nextAcc := by obtain ⟨m, h⟩ := s.perf_eq ps code pr r a k; rw [h]
@[simp] theorem State.perf_longs (s : State) (ps code : Nat) (pr : Option Priv) (r a : Option Nat) (k : Nat) :
    (s.perf ps code pr r a k).longs = s.longs := by obtain ⟨m, h⟩ := s.perf_eq ps code pr r a k; rw [h]
@[simp] theorem State.perf_outbox (s : State) (ps code : Nat) (pr : Option Priv) (r a : Option Nat) (k : Nat) :
    (s.perf ps code pr r a k).outbox = s.outbox := by obtain ⟨m, h⟩ := s.perf_eq ps code pr r a k; rw [h]
@[simp] theorem State.perf_mrs (s : State) (ps code : Nat) (pr : Option Priv) (r a : Option Nat) (k : Nat) :
    (s.perf ps code pr r a k).mrs = s.mrs := by obtain ⟨m, h⟩ := s.perf_eq ps code pr r a k; rw [h]
@[simp] theorem State.perf_qps (s : State) (ps code : Nat) (pr : Option Priv) (r a : Option Nat) (k : Nat) :
    (s.perf ps code pr r a k).qps = s.qps := by obtain ⟨m, h⟩ := s.perf_eq ps code pr r a k; rw [h]
@[simp] theorem State.perf_pwr (s : State) (ps code : Nat) (pr : Option Priv) (r a : Option Nat) (k : Nat) :
    (s.perf ps code pr r a k).pwr = s.pwr := by obtain ⟨m, h⟩ := s.perf_eq ps code pr r a k; rw [h]
@[simp] theorem State.perf_banks (s : State) (ps code : Nat) (pr : Option Priv) (r a : Option Nat) (k : Nat) :
    (s.perf ps code pr r a k).banks = s.banks := by obtain ⟨m, h⟩ := s.perf_eq ps code pr r a k; rw [h]
@[simp] theorem State.perf_tack (s : State) (ps code : Nat) (pr : Option Priv) (r a : Option Nat) (k : Nat) :
    (s.perf ps code pr r a k).tack = s.tack := by obtain ⟨m, h⟩ := s.perf_eq ps code pr r a k; rw [h]

end Sys2Proof.Machine
end

