-- ==== Sys2Proof/Laws/Groom.lean ====
section
/-! SUPPORT. What issuing one instruction does: the lemmas that the statements about groom instructions go through. -/

namespace Sys2Proof.Machine

@[simp] theorem State.perfGroom_groom (s : State) (gi c : Nat) (g : Groom) (j : Nat) : (s.perfGroom gi c g).groom j = s.groom j := by
  simp [State.perfGroom, State.groom]

theorem State.groom_setGroom (s : State) (i : Nat) (g : Groom) (h : g ≠ {}) : (s.setGroom i g).groom i = g := by
  exact Map.get_set_of_ne_default (fun _ => ({} : Groom)) s.grooms i h

@[simp] theorem State.groom_setGroom_of_ne (s : State) {i j : Nat} (g : Groom) (h : j ≠ i) : (s.setGroom i g).groom j = s.groom j := by
  simp [State.groom, State.setGroom, h]

/-- Two writes of one groom, the first not its reset value. -/
theorem State.setGroom_setGroom (s : State) (i : Nat) {a b : Groom} (ha : a ≠ {}) (hb : b ≠ {}) :
    (s.setGroom i a).setGroom i b = s.setGroom i b := by
  unfold State.setGroom; exact congrArg (fun m => { s with grooms := m }) (Map.set_set (fun _ => ({} : Groom)) s.grooms i ha hb)

/-- A groom that runs is not at its reset value. -/
theorem Groom.ne_of_running {g : Groom} (h : g.halted = false) : g ≠ {} := by
  intro e; rw [e] at h; cases h

theorem Groom.put_halted (g : Groom) (w : RegW) : (g.put w).halted = g.halted := by
  cases w <;> simp only [Groom.put] <;> split_ifs <;> rfl

theorem Groom.foldl_put_halted (ws : List RegW) : ∀ g : Groom, (ws.foldl Groom.put g).halted = g.halted := by
  induction ws with
  | nil => intro g; rfl
  | cons w ws ih => intro g; rw [List.foldl_cons, ih, Groom.put_halted]

/-- The groom that a retiring instruction leaves. -/
def Groom.retire (g : Groom) (ws : List RegW) (fl : Nat) : Groom :=
  let h := ws.foldl Groom.put g
  let h := if fl = 0 then h else h.setReg 0x68 (h.reg 0x68 ||| place 12 8 fl)
  { h with instret := h.instret + 1 }

theorem Groom.retire_halted (g : Groom) (ws : List RegW) (fl : Nat) : (g.retire ws fl).halted = g.halted := by
  simp only [Groom.retire]
  split_ifs <;> simp [Groom.setReg, Groom.foldl_put_halted]

theorem Groom.foldl_put_rq (ws : List RegW) : ∀ g : Groom, (ws.foldl Groom.put g).rq = g.rq := by
  induction ws with
  | nil => intro g; rfl
  | cons w ws ih =>
    intro g
    rw [List.foldl_cons, ih]
    cases w <;> simp only [Groom.put] <;> (try split_ifs) <;> rfl

theorem Groom.retire_rq (g : Groom) (ws : List RegW) (fl : Nat) : (g.retire ws fl).rq = g.rq := by
  simp only [Groom.retire]
  split_ifs <;> simp [Groom.setReg, Groom.foldl_put_rq]

theorem State.foldl_newReq_grooms {β : Type} (f : β → Req) (l : List β) : ∀ s : State,
    (l.foldl (fun s x => s.newReq (f x)) s).grooms = s.grooms := by
  induction l with
  | nil => intro; rfl
  | cons b l ih => intro s; rw [List.foldl_cons, ih]; rfl

/-- What retiring an entry does. -/
theorem State.retireOne_eq (s : State) (gi : Nat) (e : RetEntry) :
    s.retireOne gi e = (let h := (s.groom gi).retire e.writes e.flags
      e.stores.foldl (fun s x => s.newReq { h.request (.groomStore gi) .write x.addr x.data.length x.data x.mask with part := x.lane })
        ((s.setGroom gi h).perfGroom gi 0x60 h)) := rfl

@[simp] theorem State.perfGroom_nop (s : State) (gi c : Nat) (g : Groom) : (s.perfGroom gi c g).grooms = s.grooms := by
  simp [State.perfGroom]

/-- A groom that can issue now, with nothing unretired. -/
def Groom.free (g : Groom) : Prop := g.canIssue = true ∧ g.fetchOk = true ∧ g.rq = []

theorem Groom.free.running {g : Groom} (h : g.free) : g.halted = false := by
  have := h.1; simp [Groom.canIssue] at this; exact this.1.1

/-- Retirement with nothing unretired does nothing. -/
theorem State.settle_nil (s : State) (gi n : Nat) (h : (s.groom gi).rq = []) : s.settle gi n = s := by
  cases n with
  | zero => rfl
  | succ n => simp [State.settle, h]

/-- Retirement stops at an entry that waits for a request. -/
theorem State.settle_wait (s : State) (gi n : Nat) {e : RetEntry} {es : List RetEntry} (h : (s.groom gi).rq = e :: es)
    (hd : e.dst ≠ none) : s.settle gi n = s := by
  cases n with
  | zero => rfl
  | succ n => simp [State.settle, h, hd]

/-- The groom that has moved past one instruction. -/
def Groom.step (g : Groom) : Groom := { g with nextSeq := g.nextSeq + 1, pc := (g.pc + 4) % 0x400000 / 4 * 4 }

/-- Register writes do not look at the pc or the sequence number. -/
theorem Groom.foldl_put_step (ws : List RegW) : ∀ g : Groom, ws.foldl Groom.put g.step = (ws.foldl Groom.put g).step := by
  induction ws with
  | nil => intro; rfl
  | cons w ws ih =>
    intro g
    simp only [List.foldl_cons]
    rw [← ih]
    congr 1
    cases w <;> simp only [Groom.put, Groom.step] <;> (try split_ifs) <;> rfl

theorem Groom.retire_step (g : Groom) (ws : List RegW) (fl : Nat) : (g.step).retire ws fl = (g.retire ws fl).step := by
  simp only [Groom.retire, Groom.foldl_put_step]
  split_ifs <;> rfl

/-- An instruction that only writes registers, issued by a free groom: it retires at once. -/
theorem State.issue_writes (s : State) (gi : Nat) (f : Groom → IRes) (ws : List RegW) (fl : Nat) (st : List StoreOp)
    (hg : (s.groom gi).free) (hs : st = [] ∨ (s.groom gi).storeSlots + s.storesOut gi < 16)
    (hf : f (s.groom gi) = .ok { writes := ws, flags := fl, stores := st }) :
    s.issue gi f =
      (let h := ((s.groom gi).retire ws fl).step
       st.foldl (fun s x => s.newReq { h.request (.groomStore gi) .write x.addr x.data.length x.data x.mask with part := x.lane })
         ((s.setGroom gi h).perfGroom gi 0x60 h)) := by
  obtain ⟨h1, h2, h3⟩ := hg
  have hr : (s.groom gi).halted = false := Groom.free.running ⟨h1, h2, h3⟩
  unfold State.issue
  simp only [h1, h2, hf, if_true]
  have hm : s.memReady gi { writes := ws, flags := fl, stores := st } = true := by
    simp only [State.memReady, decide_true, Bool.true_or, Bool.true_and, Bool.or_eq_true, decide_eq_true_eq]
    exact hs
  simp only [hm, if_true]
  have hp : (s.groom gi).predict { writes := ws, flags := fl, stores := st } = (s.groom gi, false) := by
    simp [Groom.predict]
  simp only [State.accept, hp, List.foldl_nil, h3, List.nil_append, List.length_nil, Option.getD_none]
  have hne : ∀ r n p, ({ s.groom gi with rq := r, nextSeq := n, pc := p } : Groom) ≠ {} :=
    fun r n p => Groom.ne_of_running hr
  rw [show (33 : Nat) = 32 + 1 from rfl, State.settle]
  simp only [State.modGroom]
  have hb : (false = true) = False := by simp
  simp only [hb, if_false, State.groom_setGroom _ _ _ (hne _ _ _), and_self, if_true]
  rw [State.setGroom_setGroom _ _ (hne _ _ _) (Groom.ne_of_running (by exact hr))]
  have e1 : ({ s.groom gi with rq := [], nextSeq := (s.groom gi).nextSeq + 1, pc := ((s.groom gi).pc + 4) % 0x400000 / 4 * 4 } : Groom)
      = (s.groom gi).step := by rw [← h3]; rfl
  rw [e1, State.retireOne_eq]
  simp only [State.groom_setGroom _ _ _ (show (s.groom gi).step ≠ {} from Groom.ne_of_running hr), Groom.retire_step]
  rw [State.setGroom_setGroom _ _ (Groom.ne_of_running (by exact hr)) (Groom.ne_of_running (by
    simpa only [Groom.step] using (Groom.retire_halted _ ws fl).trans hr))]
  apply State.settle_nil
  rw [show ∀ t : State, t.groom gi = Map.get (fun _ => ({} : Groom)) t.grooms gi from fun _ => rfl,
    State.foldl_newReq_grooms (fun x : StoreOp => { ((s.groom gi).retire ws fl).step.request (.groomStore gi) .write x.addr x.data.length x.data x.mask with part := x.lane }),
    State.perfGroom_nop]
  show ((s.setGroom gi _).groom gi).rq = []
  rw [State.groom_setGroom _ _ _ (Groom.ne_of_running (by
    simpa only [Groom.step] using (Groom.retire_halted _ ws fl).trans hr))]
  simp only [Groom.step, Groom.retire_rq, h3]

/-- A load or atomic, issued by a free groom with no load of a CSR page outstanding: its requests are in flight and one
entry waits for them. -/
theorem State.issue_loads (s : State) (gi : Nat) (f : Groom → IRes) (d : LoadDst) (ls : List LoadOp) (got : Map Byte)
    (hg : (s.groom gi).free) (hc : s.csrLoadOut gi = false)
    (hf : f (s.groom gi) = .ok { dst := some d, loads := ls, got := got }) :
    s.issue gi f =
      (let g := s.groom gi
       ls.foldl (fun s l => s.newReq { g.request (.groomLoad gi g.nextSeq) l.op l.addr l.len l.data l.mask with part := l.lane })
        (s.setGroom gi { g with rq := [{ seq := g.nextSeq, pc := g.pc, dst := some d, left := ls.length, got := got }],
                                nextSeq := g.nextSeq + 1, pc := (g.pc + 4) % 0x400000 / 4 * 4 })) := by
  obtain ⟨h1, h2, h3⟩ := hg
  have hr : (s.groom gi).halted = false := Groom.free.running ⟨h1, h2, h3⟩
  unfold State.issue
  simp only [h1, h2, hf, if_true]
  have hm : s.memReady gi { dst := some d, loads := ls, got := got } = true := by
    simp [State.memReady, Groom.loadSlots, Groom.storeMeets, h3, hc]
  have hp : (s.groom gi).predict { dst := some d, loads := ls, got := got } = (s.groom gi, false) := by
    simp [Groom.predict]
  have hb : (false = true) = False := by simp
  simp only [hm, if_true, State.accept, hp, h3, List.nil_append, Option.getD_none, hb, if_false]
  refine State.settle_wait _ gi 33 (e := { seq := (s.groom gi).nextSeq, pc := (s.groom gi).pc, dst := some d, left := ls.length, got := got })
    (es := []) ?_ (by simp)
  rw [show ∀ t : State, t.groom gi = Map.get (fun _ => ({} : Groom)) t.grooms gi from fun _ => rfl,
    State.foldl_newReq_grooms (fun l : LoadOp => { (s.groom gi).request (.groomLoad gi (s.groom gi).nextSeq) l.op l.addr l.len l.data l.mask with part := l.lane })]
  show ((s.setGroom gi _).groom gi).rq = _
  rw [State.groom_setGroom _ _ _ (Groom.ne_of_running (by exact hr))]

end Sys2Proof.Machine
end

