-- ==== Sys2Proof/Laws/Memory.lean ====
section
/-! SUPPORT. Laws of byte memories: every operation keeps the canonical form, a byte written is read back, and no other byte
changes. -/

namespace Sys2Proof.Machine

theorem Memory.wf_writeBytes (bs : List Byte) : ∀ (m : Map Byte) (a : Nat), Memory.wf m = true → Memory.wf (writeBytes m a bs) = true := by
  induction bs with
  | nil => exact fun _ _ h => h
  | cons b bs ih => exact fun m a h => ih _ _ (Map.wf_set zeroB a b h)

theorem Memory.wf_writeLanes (l : List (Option Byte)) : ∀ (m : Map Byte) (a : Nat), Memory.wf m = true → Memory.wf (writeLanes m a l) = true := by
  induction l with
  | nil => exact fun _ _ h => h
  | cons o l ih =>
    intro m a h
    cases o with
    | none => exact ih _ _ h
    | some b => exact ih _ _ (Map.wf_set zeroB a b h)

theorem Memory.wf_filter (q : Nat × Byte → Bool) {m : Map Byte} (h : Memory.wf m = true) : Memory.wf (m.filter q) = true :=
  Map.wf_filter zeroB q h

theorem State.memWrite_wf (s : State) (a : Nat) (bs : List Byte) (h : Memory.wf s.mem = true) : Memory.wf (s.memWrite a bs).mem = true :=
  Memory.wf_writeBytes bs s.mem a h

@[simp] theorem State.reset_mem_wf : Memory.wf State.reset.mem = true := rfl
@[simp] theorem State.reset_loft_wf : Memory.wf State.reset.loft = true := rfl

/-- What one byte reads as after a write of bytes: the byte written there, or what it was. -/
theorem get_writeBytes (bs : List Byte) : ∀ (m : Map Byte) (a c : Nat), Memory.wf m = true →
    Map.get zeroB (writeBytes m a bs) c = if h : a ≤ c ∧ c - a < bs.length then bs[c - a]'h.2 else Map.get zeroB m c := by
  induction bs with
  | nil => intro m a c _; simp [writeBytes]
  | cons b bs ih =>
    intro m a c hm
    rw [writeBytes, ih _ _ _ (Map.wf_set zeroB a b hm)]
    rcases Nat.lt_trichotomy c a with h | h | h
    · rw [dif_neg (by omega), dif_neg (by omega), Map.get_set_of_ne zeroB m b (by omega)]
    · subst h
      rw [dif_neg (by omega), dif_pos (by simp), Map.get_set_self zeroB c b hm]
      simp
    · by_cases hl : c - (a + 1) < bs.length
      · rw [dif_pos ⟨by omega, hl⟩, dif_pos ⟨by omega, by simp only [List.length_cons]; omega⟩]
        have : c - a = (c - (a + 1)) + 1 := by omega
        simp [this]
      · rw [dif_neg (by omega), dif_neg (by simp only [List.length_cons]; omega), Map.get_set_of_ne zeroB m b (by omega)]

@[simp] theorem length_readBytes (m : Map Byte) : ∀ n a : Nat, (readBytes m a n).length = n := by
  intro n
  induction n with
  | zero => intro a; rfl
  | succ n ih => intro a; simp [readBytes, ih]

/-- Bytes read elsewhere do not see a write. -/
theorem readBytes_writeBytes_of_disjoint (bs : List Byte) (m : Map Byte) (a : Nat) (hm : Memory.wf m = true) :
    ∀ n c : Nat, (c + n ≤ a ∨ a + bs.length ≤ c) → readBytes (writeBytes m a bs) c n = readBytes m c n := by
  intro n
  induction n with
  | zero => intro c _; rfl
  | succ n ih =>
    intro c h
    simp only [readBytes]
    rw [ih (c + 1) (by omega), get_writeBytes bs m a c hm, dif_neg (by omega)]

/-- Bytes written are read back. -/
theorem readBytes_writeBytes (bs : List Byte) : ∀ (m : Map Byte) (a : Nat), Memory.wf m = true →
    readBytes (writeBytes m a bs) a bs.length = bs := by
  induction bs with
  | nil => intro m a _; rfl
  | cons b bs ih =>
    intro m a hm
    simp only [List.length_cons, readBytes]
    rw [get_writeBytes (b :: bs) m a a hm, dif_pos (by simp)]
    simp only [writeBytes, Nat.sub_self, List.getElem_cons_zero]
    rw [ih _ _ (Map.wf_set zeroB a b hm)]

end Sys2Proof.Machine
end

