-- ==== Sys2Proof/Laws/Sound.lean ====
section
/-! SUPPORT. The shared operations keep the invariant of the block: one lemma for each, which the proofs about commands cite
instead of unfolding. -/

namespace Sys2Proof.Safety

open Sys2Proof Sys2Proof.Machine

variable {s : State}

/-! ### A step that leaves the listed maps alone -/

/-- The invariant looks at the maps alone: a state with the same maps has it too. -/
theorem Sound.congr {t : State} (h : Sound s) (h1 : t.mem = s.mem) (h2 : t.loft = s.loft) (h3 : t.stalls = s.stalls)
    (h4 : t.grooms = s.grooms) (h5 : t.nodes = s.nodes) (h6 : t.reqs = s.reqs) (h7 : t.csr = s.csr) (h8 : t.chans = s.chans)
    (h9 : t.sheds = s.sheds) (h10 : t.gates = s.gates) (h11 : t.ports = s.ports) (h12 : t.xbars = s.xbars) (h13 : t.dld = s.dld)
    (h14 : t.routes = s.routes) (h15 : t.sess = s.sess) (h16 : t.mrs = s.mrs) (h17 : t.qps = s.qps) (h18 : t.hports = s.hports)
    (h19 : t.banks = s.banks) (h20 : t.arbs = s.arbs) (h21 : t.health = s.health) (h22 : t.lsMap = s.lsMap) : Sound t := by
  obtain ⟨c, l⟩ := h
  refine ⟨⟨?_, ?_, ?_, fun ps => ?_, ?_, ?_, fun i => ?_, ?_, ?_, ?_, ?_, ?_, ?_, ?_, ?_, ?_, ?_, ?_, ?_, ?_, ?_, ?_, ?_, ?_⟩, ?_⟩
  · rw [h1]; exact c.mem
  · rw [h2]; exact c.loft
  · rw [h3]; exact c.stalls
  · have := c.inStalls ps; unfold State.stall at *; rw [h3]; exact this
  · rw [h4]; exact c.grooms
  · rw [h5]; exact c.nodes
  · have := c.inNodes i; unfold State.node at *; rw [h5]; exact this
  · rw [h6]; exact c.reqs
  · rw [h7]; exact c.csr
  · rw [h8]; exact c.chans
  · rw [h9]; exact c.sheds
  · rw [h10]; exact c.gates
  · rw [h11]; exact c.ports
  · rw [h12]; exact c.xbars
  · rw [h13]; exact c.dld
  · rw [h14]; exact c.routes
  · rw [h15]; exact c.sess
  · rw [h16]; exact c.mrs
  · rw [h17]; exact c.qps
  · rw [h18]; exact c.hports
  · rw [h19]; exact c.banks
  · rw [h20]; exact c.arbs
  · rw [h21]; exact c.health
  · rw [h22]; exact c.lsMap
  · unfold lotteryOk at *; rw [h20]; exact l

/-! ### Parts of the state -/

theorem Sound.setStall (h : Sound s) (ps : Nat) {t : Stall} (ht : stallOk t = true) : Sound (s.setStall ps t) := by
  refine ⟨{ h.1 with stalls := Map.wf_set _ ps t h.1.stalls, inStalls := fun q => ?_ }, h.2⟩
  by_cases e : q = ps
  · subst e
    have : (s.setStall q t).stall q = t := Map.get_set_self _ q t h.1.stalls
    rw [this]; exact ht
  · have : (s.setStall ps t).stall q = s.stall q := Map.get_set_of_ne _ s.stalls t e
    rw [this]; exact h.1.inStalls q

theorem Sound.modStall (h : Sound s) (ps : Nat) {f : Stall → Stall} (hf : ∀ t, stallOk t = true → stallOk (f t) = true) :
    Sound (s.modStall ps f) := h.setStall ps (hf _ (h.1.inStalls ps))

theorem Sound.setGroom (h : Sound s) (gi : Nat) (g : Groom) : Sound (s.setGroom gi g) :=
  ⟨{ h.1 with grooms := Map.wf_set _ gi g h.1.grooms }, h.2⟩

theorem Sound.modGroom (h : Sound s) (gi : Nat) (f : Groom → Groom) : Sound (s.modGroom gi f) := h.setGroom gi _

theorem Sound.setNode (h : Sound s) (i : Nat) {n : Node} (hn : Map.wf (resetOf netRegs) n.csr = true) : Sound (s.setNode i n) := by
  refine ⟨{ h.1 with nodes := Map.wf_set _ i n h.1.nodes, inNodes := fun j => ?_ }, h.2⟩
  by_cases e : j = i
  · subst e
    have : (s.setNode j n).node j = n := Map.get_set_self _ j n h.1.nodes
    rw [this]; exact hn
  · have : (s.setNode i n).node j = s.node j := Map.get_set_of_ne _ s.nodes n e
    rw [this]; exact h.1.inNodes j

theorem Sound.modNode (h : Sound s) (i : Nat) {f : Node → Node}
    (hf : ∀ n, Map.wf (resetOf netRegs) n.csr = true → Map.wf (resetOf netRegs) (f n).csr = true) : Sound (s.modNode i f) :=
  h.setNode i (hf _ (h.1.inNodes i))

theorem Sound.setChan (h : Sound s) (ch : Nat) (c : Chan) : Sound (s.setChan ch c) :=
  ⟨{ h.1 with chans := Map.wf_set _ ch c h.1.chans }, h.2⟩

theorem Sound.setShed (h : Sound s) (n : Nat) (d : Shed) : Sound (s.setShed n d) :=
  ⟨{ h.1 with sheds := Map.wf_set _ n d h.1.sheds }, h.2⟩

theorem Sound.setGate (h : Sound s) (n : Nat) (d : Gate) : Sound (s.setGate n d) :=
  ⟨{ h.1 with gates := Map.wf_set _ n d h.1.gates }, h.2⟩

theorem Sound.modGate (h : Sound s) (n : Nat) (f : Gate → Gate) : Sound (s.modGate n f) := h.setGate n _

theorem Sound.setPort (h : Sound s) (p : Nat) (d : Port) : Sound (s.setPort p d) :=
  ⟨{ h.1 with ports := Map.wf_set _ p d h.1.ports }, h.2⟩

theorem Sound.modPort (h : Sound s) (p : Nat) (f : Port → Port) : Sound (s.modPort p f) := h.setPort p _

theorem Sound.setXbar (h : Sound s) (b : Nat) (d : Xbar) : Sound (s.setXbar b d) :=
  ⟨{ h.1 with xbars := Map.wf_set _ b d h.1.xbars }, h.2⟩

theorem Sound.setHport (h : Sound s) (p : Nat) (d : HPort) : Sound (s.setHport p d) :=
  ⟨{ h.1 with hports := Map.wf_set _ p d h.1.hports }, h.2⟩

theorem Sound.setSession (h : Sound s) (i : Nat) (d : Option Sess) : Sound (s.setSession i d) :=
  ⟨{ h.1 with sess := Map.wf_set _ i d h.1.sess }, h.2⟩

theorem Sound.setBank (h : Sound s) (i : Nat) (b : Bank) : Sound (s.setBank i b) :=
  ⟨{ h.1 with banks := Map.wf_set _ i b h.1.banks }, h.2⟩

theorem Sound.setReq (h : Sound s) (i : Nat) (r : Option Req) : Sound (s.setReq i r) :=
  ⟨{ h.1 with reqs := Map.wf_set _ i r h.1.reqs }, h.2⟩

theorem Sound.setHealth (h : Sound s) (ps : Nat) (v : Health) : Sound (s.setHealth ps v) :=
  ⟨{ h.1 with health := Map.wf_set _ ps v h.1.health }, h.2⟩

theorem Sound.setLs (h : Sound s) (ls ps : Nat) : Sound (s.setLs ls ps) :=
  ⟨{ h.1 with lsMap := Map.wf_set _ ls ps h.1.lsMap }, h.2⟩

/-- An arbiter whose generator is not zero. -/
theorem Sound.setArb (h : Sound s) (k : Nat) {a : ArbInst} (ha : a.lfsr ≠ 0) : Sound (s.setArb k a) := by
  refine ⟨{ h.1 with arbs := Map.wf_set _ k a h.1.arbs }, ?_⟩
  have h2 := h.2
  simp only [lotteryOk, List.all_eq_true, decide_eq_true_eq] at h2 ⊢
  intro p hp
  have hp : p ∈ Map.set arbDflt s.arbs k a := hp
  unfold Map.set at hp
  split_ifs at hp
  · exact h2 p (Map.mem_erase hp)
  · rcases Map.mem_put hp with rfl | hp
    · exact ha
    · exact h2 p hp

theorem Sound.setSeg (h : Sound s) (i : Nat) (d : SegSt) : Sound (s.setSeg i d) := ⟨{ h.1 with }, h.2⟩
theorem Sound.setLoftChan (h : Sound s) (i : Nat) (d : LoftChan) : Sound (s.setLoftChan i d) := ⟨{ h.1 with }, h.2⟩

/-! ### Parts of a stall -/

theorem stallOk_setQueue {t : Stall} (h : stallOk t = true) (q : Nat) (x : Queue) : stallOk (t.setQueue q x) = true := by
  simp only [stallOk, Bool.and_eq_true] at h ⊢
  exact ⟨⟨⟨Map.wf_set _ q x h.1.1.1, h.1.1.2⟩, h.1.2⟩, h.2⟩

theorem stallOk_setTreg {t : Stall} (h : stallOk t = true) (i : Nat) (x : TReg) : stallOk (t.setTreg i x) = true := by
  simp only [stallOk, Bool.and_eq_true] at h ⊢
  exact ⟨⟨⟨h.1.1.1, h.1.1.2⟩, Map.wf_set _ i x h.1.2⟩, h.2⟩

theorem stallOk_setObj {t : Stall} (h : stallOk t = true) (i : Nat) (x : SyncObj) : stallOk (t.setObj i x) = true := by
  simp only [stallOk, Bool.and_eq_true] at h ⊢
  exact ⟨h.1, Map.wf_set _ i x h.2⟩

theorem stallOk_setCsr {t : Stall} (h : stallOk t = true) (o : Nat) (v : Word) :
    stallOk { t with csr := Map.set (resetOf stallRegs) t.csr o v } = true := by
  simp only [stallOk, Bool.and_eq_true] at h ⊢
  exact ⟨⟨⟨h.1.1.1, Map.wf_set _ o v h.1.1.2⟩, h.1.2⟩, h.2⟩

/-- What a stall keeps beside these four maps does not matter. -/
theorem stallOk_congr {t u : Stall} (h : stallOk t = true) (h1 : u.queues = t.queues) (h2 : u.csr = t.csr) (h3 : u.tregs = t.tregs)
    (h4 : u.objs = t.objs) : stallOk u = true := by
  unfold stallOk at *; rw [h1, h2, h3, h4]; exact h

theorem Sound.setQueue (h : Sound s) (ps q : Nat) (x : Queue) : Sound (s.setQueue ps q x) :=
  h.modStall ps fun _ ht => stallOk_setQueue ht q x

theorem Sound.modQueue (h : Sound s) (ps q : Nat) (f : Queue → Queue) : Sound (s.modQueue ps q f) := h.setQueue ps q _

/-! ### Memories -/

theorem Sound.memWrite (h : Sound s) (a : Nat) (bs : List Byte) : Sound (s.memWrite a bs) :=
  ⟨{ h.1 with mem := Memory.wf_writeBytes bs s.mem a h.1.mem }, h.2⟩

theorem Sound.memWriteLe (h : Sound s) (a n v : Nat) : Sound (s.memWriteLe a n v) := h.memWrite a _

theorem Sound.scrWrite (h : Sound s) (ps a : Nat) (bs : List Byte) : Sound (s.scrWrite ps a bs) :=
  h.modStall ps fun _ ht => stallOk_congr ht rfl rfl rfl rfl

theorem Sound.scrWriteLe (h : Sound s) (ps a n v : Nat) : Sound (s.scrWriteLe ps a n v) := h.scrWrite ps a _

/-! ### Registers -/

theorem Sound.setDcsr (h : Sound s) (o : Nat) (v : Word) : Sound (s.setDcsr o v) :=
  ⟨{ h.1 with csr := Map.wf_set _ o v h.1.csr }, h.2⟩

theorem Sound.modDcsr (h : Sound s) (o : Nat) (f : Word → Word) : Sound (s.modDcsr o f) := h.setDcsr o _
theorem Sound.orDev (h : Sound s) (o : Nat) (v : Word) : Sound (s.orDev o v) := h.modDcsr o _

theorem Sound.bumpDev (h : Sound s) (o n : Nat) : Sound (s.bumpDev o n) := by
  unfold State.bumpDev; split_ifs; exacts [h, h.modDcsr o _]

theorem Sound.setScsr (h : Sound s) (ps o : Nat) (v : Word) : Sound (s.setScsr ps o v) :=
  h.modStall ps fun _ ht => stallOk_setCsr ht o v

theorem Sound.modScsr (h : Sound s) (ps o : Nat) (f : Word → Word) : Sound (s.modScsr ps o f) := h.setScsr ps o _
theorem Sound.orStall (h : Sound s) (ps o : Nat) (v : Word) : Sound (s.orStall ps o v) := h.modScsr ps o _
theorem Sound.postEv (h : Sound s) (ps e n : Nat) : Sound (s.postEv ps e n) := h.modScsr ps _ _

theorem Sound.bumpStall (h : Sound s) (ps o n : Nat) : Sound (s.bumpStall ps o n) := by
  unfold State.bumpStall; split_ifs; exacts [h, h.modScsr ps o _]

/-- The register map of a node stays canonical. -/
theorem nodeOk_setReg {n : Node} (h : Map.wf (resetOf netRegs) n.csr = true) (o : Nat) (v : Word) :
    Map.wf (resetOf netRegs) (n.setReg o v).csr = true := Map.wf_set _ o v h

/-! ### Reports and counts -/

theorem Sound.report (h : Sound s) (r : ErrRec) : Sound (s.report r) := by
  unfold State.report; split_ifs <;> exact ⟨{ h.1 with }, h.2⟩

theorem Sound.detect (h : Sound s) (st : Status) (cls sev unit id sub addr task : Nat) :
    Sound (s.detect st cls sev unit id sub addr task) := h.report _

theorem Sound.hostErr (h : Sound s) (v : Word) : Sound (s.hostErr v) := by
  unfold State.hostErr; split_ifs; exacts [h, (h.orDev _ v).report _]

/-- Posting an event to the open sessions lists no new one. -/
theorem wf_sessPost (e : Event) {m : Map (Option Sess)} (h : Map.wf noneOf m = true) :
    Map.wf noneOf (m.map fun p => (p.1, p.2.map (Sess.post e))) = true := by
  simp only [Map.wf, Bool.and_eq_true, List.all_eq_true, decide_eq_true_eq] at h ⊢
  refine ⟨?_, fun p hp => ?_⟩
  · obtain ⟨hr, -⟩ := h
    revert hr
    generalize 0 = b
    induction m generalizing b with
    | nil => exact fun _ => rfl
    | cons p m ih =>
      simp only [Map.rising, List.map_cons, Bool.and_eq_true]
      exact fun hr => ⟨hr.1, ih _ hr.2⟩
  · obtain ⟨q, hq, rfl⟩ := List.mem_map.mp hp
    have := h.2 q hq
    simp only [noneOf] at this ⊢
    simpa using this

theorem Sound.event (h : Sound s) (e : Event) : Sound (s.event e) := by
  have h2 : Sound { s with sess := s.sess.map fun p => (p.1, p.2.map (Sess.post e)) } :=
    ⟨{ h.1 with sess := wf_sessPost e h.1.sess }, h.2⟩
  unfold State.event
  dsimp only
  split_ifs
  · exact h2.hostErr 2
  · exact h2

theorem Sound.powerEvent (h : Sound s) (c : Nat) : Sound (s.powerEvent c) := h.event _
theorem Sound.pwrEvt (h : Sound s) (v : Word) : Sound (s.pwrEvt v) := (h.orDev _ v).report _

theorem Sound.capChange (h : Sound s) : Sound s.capChange := by
  unfold State.capChange; split_ifs
  · exact h
  · have := h.pwrEvt 4
    exact ⟨{ this.1 with }, this.2⟩

theorem Sound.elog (h : Sound s) (n : Nat) (e : ElogEntry) : Sound (s.elog n e) := h.setShed n _

theorem Sound.uncorrectable (h : Sound s) (st : Status) (blk : Nat) (fresh scrub : Bool) : Sound (s.uncorrectable st blk fresh scrub) := by
  unfold State.uncorrectable
  have h2 : Sound (if fresh ∧ !s.memUe.contains blk then { s with memUe := s.memUe ++ [blk] } else s) := by
    split_ifs; exacts [⟨{ h.1 with }, h.2⟩, h]
  dsimp only
  split
  · exact h2
  · exact ((h2.elog _ _).bumpDev _ _).detect _ _ _ _ _ _ _ _

theorem Sound.correctable (h : Sound s) (ch k : Nat) : Sound (s.correctable ch k) := by
  unfold State.correctable; split_ifs; exacts [h, (h.bumpDev _ _).detect _ _ _ _ _ _ _ _]

theorem Sound.respond (h : Sound s) (st : Status) (v : Word) (bs : List Byte) : Sound (s.respond st v bs) := ⟨{ h.1 with }, h.2⟩
theorem Sound.fresh (h : Sound s) : Sound s.fresh.2 := ⟨{ h.1 with }, h.2⟩

theorem Sound.perfAdd (ps : Nat) : ∀ (fuel : Nat) {s : State}, Sound s → ∀ n k, Sound (s.perfAdd ps fuel n k)
  | 0, _, h, _, _ => h
  | fuel + 1, s, h, n, k => by
    unfold State.perfAdd
    dsimp only
    split_ifs
    · exact h.setScsr ps _ _
    · exact Sound.perfAdd ps fuel (h.setScsr ps _ _) _ _
    · exact (h.setScsr ps _ _).orStall ps _ _

/-- A fold of operations that keep the invariant keeps it. -/
theorem Sound.foldl {β : Type} (f : State → β → State) (hf : ∀ s b, Sound s → Sound (f s b)) (l : List β) : Sound s → Sound (l.foldl f s) := by
  induction l generalizing s with
  | nil => exact fun h => h
  | cons b l ih => exact fun h => ih (hf s b h)

theorem Sound.perf (h : Sound s) (ps code : Nat) (pr : Option Priv) (r a : Option Nat) (k : Nat) : Sound (s.perf ps code pr r a k) := by
  unfold State.perf; split_ifs
  · exact h
  · exact Sound.foldl _ (fun t n ht => by split_ifs; exacts [Sound.perfAdd ps 8 ht n k, ht]) _ h

theorem Sound.stepEvent (h : Sound s) (step : Nat) (att : Option Nat) (fl : Nat) (nd : Option Nat) : Sound (s.stepEvent step att fl nd) := by
  unfold State.stepEvent
  dsimp only
  split_ifs
  · exact h.setDcsr _ _
  · exact (h.bumpDev _ _).orDev _ _
  · exact h.bumpDev _ _

end Sys2Proof.Safety
end

