-- ==== Sys2Proof/Tests/Slice0.lean ====
section
/-! SUPPORT. Tests: each well-formedness check refuses an operand past its bound and takes the last one below it, and small steps and
functions against the spec's worked examples and its reset values. -/

namespace Sys2Proof.Tests

open Sys2Proof Sys2Proof.Machine

/-! ### Well-formedness -/

def r0 : FmtR := { rd := 0, ra := 0, rb := 0, rc := 0 }
def p0 : Packet := { typ := 1, dst := 0, src := 0 }
theorem test_wf_groom : (Instr.add 4608 r0).wf = false ∧ (Instr.add 4607 r0).wf = true := by decide
theorem test_wf_stall : (Instr.spost 288).wf = false ∧ (Instr.spost 287).wf = true := by decide
theorem test_wf_queue : (Instr.listStart 0 5).wf = false ∧ (Instr.listStart 0 4).wf = true := by decide
theorem test_wf_bay : (Instr.latchOpen 136).wf = false ∧ (Instr.latchOpen 135).wf = true := by decide
theorem test_wf_quad : (Instr.migUnitCopy 4).wf = false ∧ (Instr.migUnitCopy 3).wf = true := by decide
theorem test_wf_dir : (Instr.netKeepalive 0 4).wf = false ∧ (Instr.netKeepalive 0 3).wf = true := by decide
theorem test_wf_lane : (Instr.laneLossOfLock 0 9 none).wf = false ∧ (Instr.laneLossOfLock 0 8 none).wf = true := by decide
theorem test_wf_bank : (Instr.bankSpare 0 64).wf = false ∧ (Instr.bankSpare 0 63).wf = true := by decide
theorem test_wf_col : (Instr.columnSpare 0 516).wf = false ∧ (Instr.columnSpare 0 515).wf = true := by decide
theorem test_wf_coll : (Instr.collectorFallback 0 6).wf = false ∧ (Instr.collectorFallback 0 5).wf = true := by decide
theorem test_wf_die : (Instr.pllUnlock 12).wf = false ∧ (Instr.pllUnlock 11).wf = true := by decide
theorem test_wf_win : (Instr.rwinCtlWrite .tack 0 64 0).wf = false ∧ (Instr.rwinCtlWrite .tack 0 63 0).wf = true := by decide
theorem test_wf_link : (Instr.trainingAttemptEnd 32 0).wf = false ∧ (Instr.trainingAttemptEnd 31 0).wf = true := by decide
theorem test_wf_hport : (Instr.roceSend 2 0).wf = false ∧ (Instr.roceSend 1 0).wf = true := by decide
theorem test_wf_slot : (Instr.engRequestComplete 0 48).wf = false ∧ (Instr.engRequestComplete 0 47).wf = true := by decide
theorem test_wf_xbar : (Instr.xbarDeadline 16).wf = false ∧ (Instr.xbarDeadline 15).wf = true := by decide
theorem test_wf_counter : (Instr.perfCounterWrap 0 8).wf = false ∧ (Instr.perfCounterWrap 0 7).wf = true := by decide
theorem test_wf_chanIx : (Instr.chceRead .tack 0 34).wf = false ∧ (Instr.chceRead .tack 0 33).wf = true := by decide
theorem test_wf_source : (Instr.intcDeliveryArrive 1152).wf = false ∧ (Instr.intcDeliveryArrive 1151).wf = true := by decide
theorem test_wf_arb : (Instr.arbDraw 3 0 []).wf = false ∧ (Instr.arbDraw 2 0 []).wf = true := by decide
theorem test_wf_tag : (Instr.rnrProbe 0 65536).wf = false ∧ (Instr.rnrProbe 0 65535).wf = true := by decide
theorem test_wf_rid : (Instr.reductionComplete 65536).wf = false ∧ (Instr.reductionComplete 65535).wf = true := by decide
theorem test_wf_tenant : (Instr.pagerEvict 65536).wf = false ∧ (Instr.pagerEvict 65535).wf = true := by decide
theorem test_wf_line : (Instr.groomLineFill 0 65536).wf = false ∧ (Instr.groomLineFill 0 65535).wf = true := by decide
theorem test_wf_lanes : okLanes (List.replicate 10 { symerr := 0, eye := 0, lock := true }) = false ∧
    okLanes (List.replicate 9 { symerr := 0, eye := 0, lock := true }) = true := by decide
theorem test_wf_unit : (Instr.pstateEnter (.yard 4)).wf = false ∧ (Instr.pstateEnter (.stall 288)).wf = false ∧ (Instr.pstateEnter .device).wf = true := by decide
theorem test_wf_packet : okPacket { p0 with typ := 256 } = false ∧ okPacket { p0 with dst := 16384 } = false ∧ okPacket { p0 with hops := 32 } = false ∧
    okPacket p0 = true := by decide
theorem test_wf_monitor : (Instr.agePredict (.nand 16)).wf = false ∧ (Instr.agePredict (.dram 136)).wf = false ∧ (Instr.agePredict (.nand 15)).wf = true := by decide
theorem test_wf_site : (Instr.ctrlParityError (.router 4608)).wf = false ∧ (Instr.ctrlParityError (.queue 0 5)).wf = false ∧
    (Instr.ctrlParityError (.slot 287 47)).wf = true := by decide
theorem test_wf_others : okEv 32 = false ∧ okEv 31 = true ∧ okTile 16 = false ∧ okTile 15 = true ∧ okDramBank 32 = false ∧ okDramBank 31 = true := by decide

/-! ### Worked examples of the spec -/

/-- "Worked example: decoding an address" (10_memory_tiers): logical channel 104, CH110, offset 0xA_2468_EA40. -/
theorem test_address_spread : spreadLc 0x51234767A40 = 104 ∧ State.reset.chanOf 104 = some 110 ∧ spreadCo 0x51234767A40 = 0xA2468EA40 := by decide +kernel

/-- "Worked example: a read to shed 0 around a dead node" (02_grid_and_network): groom 5 of PS 150 sits at node (25, 37) and its entry node
is (0, 1); requesters whose entry row is 20 move to row 21. -/
theorem test_entry_node : nodePos (150 * 16 + 5) = 37 * 64 + 25 ∧ State.reset.entry 0 (37 * 64 + 25) = some 64 ∧
    (State.reset.setNode (giAt (20 * 64)) { dead := true }).entry 0 (56 * 64 + 25) = some (21 * 64) := by decide +kernel

/-- "Worked example: one FP32 product in nine and six passes" (07_number_formats_and_multipass). -/
theorem test_sliced_product : (stepSliced 2 0x3F800801 0x3F800801 0).1 = 0x3F801003 ∧ (stepSliced 3 0x3F800801 0x3F800801 0).1 = 0x3F801002 := by decide +kernel

/-- "Worked example: the same sum from 8 devices and from 4" (13_gradient_reduction): 2^24 and seven ones, in either order. -/
def sumOf (l : List Nat) : Acc := l.foldl Acc.add {}
def red8 (r32 : Bool) : Red :=
  { rid := 0, epoch := 0, entry := 0, nelem := 1, fmt32 := false, rfmt32 := r32, mean := false, nanProp := true, compat := false, sexp := 0, group := 0,
    ncontrib := 8, nmemb := 1, step := 0, rank := 0, window := 1, deadline := 0, members := [0], res := 0, task := 0, tenant := 0, tok := none, dchk := 0,
    contribAt := 0, resultAt := 0 }
theorem test_exact_sum : (red8 true).round 8 (sumOf (asFp32 false 0x4B80 :: List.replicate 7 (asFp32 false 0x3F80))) = 0x4B800004 ∧
    (red8 true).round 8 (sumOf (List.replicate 7 (asFp32 false 0x3F80) ++ [asFp32 false 0x4B80])) = 0x4B800004 ∧
    (red8 false).round 8 (sumOf (asFp32 false 0x4B80 :: List.replicate 7 (asFp32 false 0x3F80))) = 0x4B80 := by decide +kernel

/-- "Worked example: a two-fold MMA" (06_matrix_array): the last writes of the two folds land at 1,160 and 1,672, and with 16-bit output
at 1,417. -/
def mma2 (ofmt : Nat) : Sched × Sched :=
  let a : ArrOp := { arrOpOf 0 with m := 256, n := 512, k := 128, drain := true, ofmt := ofmt }
  let f : FoldTime := { r := 128, c := 512, steps := 128, masked := 0, skips := 0 }
  let x := foldTime a { s0 := 8, gap := 0, last := 0 } f
  (x, foldTime a x f)
theorem test_fold_times : (mma2 0).1.last = 1160 ∧ (mma2 0).2.last = 1672 ∧ (mma2 1).2.last = 1417 := by decide +kernel

/-- "Worked example: two bays in one shed" (01_sled_and_dies): with CH67 RECEIVING the shed has no SPARE channel. -/
theorem test_no_spare : State.reset.spareChan 1 = some 32 ∧
    ((State.reset.setChan 66 { chanDflt 66 with state := 0 }).setChan 67 { chanDflt 67 with state := 7 }).spareChan 1 = none := by decide +kernel

/-! ### Steps -/

/-- A groom that runs adds 2 and 3 (R79). -/
def sAdd : State := State.reset.setGroom 0 { halted := false, x := [(1, 2), (2, 3)] }
theorem test_add : (match step { sAdd with pending := [.add 0 { rd := 3, ra := 1, rb := 2, rc := 0 }] } with
    | .next t => decide (Map.get zeroW (t.groom 0).x 3 = 5 ∧ (t.groom 0).pc = 4 ∧ t.pending = [])
    | _ => false) = true := by decide +kernel
/-- X0 discards what is written to it (R66). -/
theorem test_add_x0 : (match step { sAdd with pending := [.add 0 { rd := 0, ra := 1, rb := 2, rc := 0 }] } with
    | .next t => decide ((t.groom 0).x = [(1, 2), (2, 3)])
    | _ => false) = true := by decide +kernel
/-- An empty queue lets one NCLK pass. -/
theorem test_tick : (match step State.reset with | .next t => decide (t.clk = 1) | _ => false) = true := by decide +kernel
/-- No word spells a command. -/
theorem test_no_words : decodeTableWord 32 0 = none ∧ (State.reset.withFetchWord 32 0) = State.reset := ⟨rfl, rfl⟩

end Sys2Proof.Tests
end

