-- ==== Sys2Proof/Tests/Witnesses.lean ====
section
/-! SUPPORT. Witnesses: concrete states and operands that meet the hypotheses of the statements, clause by clause. -/

namespace Sys2Proof.Tests

open Sys2Proof Sys2Proof.Machine Sys2Proof.Claims

set_option Elab.async false

/-! ### Small states -/

/-- Groom 0 runs at KERNEL from scratch offset 0. -/
def gRun : Groom := { halted := false }
def sRun : State := State.reset.setGroom 0 gRun
/-- The same with registers X1 to X3 at hand. -/
def gX (x1 x2 x3 : Word) : Groom := { gRun with x := [(1, x1), (2, x2), (3, x3)] }
def sX (x1 x2 x3 : Word) : State := State.reset.setGroom 0 (gX x1 x2 x3)
/-- A groom at TASK whose program window holds its pc alone. -/
def gTask : Groom := { gRun with priv := .task, csr := [(0x48, 0), (0x50, 4)] }
def sTask : State := State.reset.setGroom 0 gTask

def fr : FmtR := { rd := 1, ra := 2, rb := 3, rc := 0 }
def fi (imm : BitVec 16) : FmtI := { rd := 1, ra := 0, imm := imm }
def fs (imm : BitVec 16) : FmtS := { rs := 1, ra := 2, imm := imm }

/-! ### Scalar instructions -/

theorem wit_ready : ready sRun 0 := by unfold ready; decide +kernel
theorem wit_ready_task : ready sTask 0 := by unfold ready; decide +kernel

theorem wit_ImmediateArithmetic : ready sRun 0 ∧ (fi 63).imm.toNat < 64 ∧ 64 ≤ (fi 64).imm.toNat ∧ (fi 127).imm.toNat < 128 ∧
    128 ≤ (fi 128).imm.toNat ∧ (fi 191).imm.toNat < 192 ∧ (fi 0).ra = 0 := ⟨wit_ready, by decide⟩

/-- Every scalar access of 8 bytes or fewer is aligned at 0. -/
theorem wit_LoadsAndAtomics : ready sRun 0 ∧ sRun.csrLoadOut 0 = false ∧
    (∀ e ∈ loadOps, (xr sRun 0 (fi 8).ra.toNat + simm (fi 8).imm).toNat % e.2.1 = 0) ∧
    (∀ e ∈ amoOps, (xr sRun 0 fr.ra.toNat).toNat % e.2.2.1 = 0) := by
  refine ⟨wit_ready, by decide +kernel, ?_, ?_⟩ <;> decide +kernel

theorem wit_Stores : ready sRun 0 ∧ sRun.storesOut 0 < 16 ∧ ∀ e ∈ storeOps, (xr sRun 0 (fs 8).ra.toNat + simm (fs 8).imm).toNat % e.2 = 0 := by
  refine ⟨wit_ready, by decide +kernel, ?_⟩; decide +kernel

/-- A branch that is taken and one that is not, for each condition. -/
theorem wit_BranchesAndJumps : ready sRun 0 ∧ (sRun.groom 0).pc < 0x400000 ∧ (sRun.groom 0).pc % 4 = 0 ∧
    (0 : Word) = 0 ∧ (0 : Word) ≠ 1 ∧ (-1 : Word).toInt < (0 : Word).toInt ∧ (0 : Word).toNat < (-1 : Word).toNat :=
  ⟨wit_ready, by decide +kernel⟩


/-! ### Vector instructions and exceptions -/

def fv (vd va vb : BitVec 5) (pg : BitVec 3) (ew : BitVec 2) : FmtV := { vd := vd, va := va, vb := vb, pg := pg, ew := ew }
def fm (pg : BitVec 3) (imm : BitVec 11) : FmtVM := { vd := 1, xa := 0, pg := pg, ew := 2, imm := imm }
def fx : FmtVMX := { vd := 1, xa := 0, xb := 3, pg := 0, ew := 2, top := 0 }

/-- The largest predicate number, the widest lane number, and an active lane. -/
theorem wit_VectorLanes : ready sRun 0 ∧ (fv 7 7 7 0 0).vd.toNat < 8 ∧ (fv 7 7 7 0 0).va.toNat < 8 ∧ (fv 7 7 7 0 0).vb.toNat < 8 ∧
    activeLanes sRun 0 (fv 0 0 0 0 3) 64 ≠ [] ∧ (fv 0 0 0 0 1).ew.toNat < 2 ∧ (fv 0 0 10 0 0).vb.toNat ≤ 10 ∧
    (fv 0 0 10 2 1).ew.toNat * 8 + (fv 0 0 10 2 1).pg.toNat ≤ 10 := by
  refine ⟨wit_ready, ?_⟩; decide +kernel

theorem wit_ContiguousVectorMemory : ready sRun 0 ∧ sRun.csrLoadOut 0 = false ∧ sRun.storesOut 0 < 16 ∧
    (xr sRun 0 (fm 0 1).xa.toNat + (fm 0 1).imm.signExtend 64 * 64).toNat % 2 ^ (fm 0 1).ew.toNat = 0 := by
  refine ⟨wit_ready, ?_⟩; decide +kernel

/-- X3 is the stride 4; the index register is zero. -/
theorem wit_StridedAndIndexedVectorMemory : ready (sX 0 0 4) 0 ∧ (sX 0 0 4).csrLoadOut 0 = false ∧ (sX 0 0 4).storesOut 0 < 16 ∧ fx.top = 0 ∧
    eachAligned (sX 0 0 4) 0 fx 64 (stridedAt (sX 0 0 4) 0 fx) ∧ eachAligned (sX 0 0 4) 0 fx 16 (indexedAt (sX 0 0 4) 0 fx) := by
  unfold ready eachAligned; decide +kernel

def sExl : State := State.reset.setGroom 0 { gRun with exl := true }
theorem wit_PreciseExceptionEntry : (ready sTask 0 ∧ (sTask.groom 0).exl = false ∧ (sTask.groom 0).priv = .task) ∧
    (ready sExl 0 ∧ (sExl.groom 0).exl = true ∧ sExl.tack.agg.length < 1024) := by
  unfold ready; decide +kernel

/-! ### Groom control -/

/-- A request of groom 0 in flight. -/
def storeReq : Req := groomReq sRun 0 (.groomStore 0) .write 0x1000 8 (leBytes 8 7) none
def sStoring : State := withReq sRun storeReq
/-- Software source 0 is asserted and aimed at groom 0. -/
def irqState (s : State) : State :=
  { s.setDcsr (intcBase + 0x1000 + 8 * 1088) (place 27 24 2 ||| place 48 48 1) with swi := 1 }
def sWait (w : GWait) : State := State.reset.setGroom 0 { gRun with wait := w }

theorem wit_FencesAndWaitForInterrupt : (ready sRun 0 ∧ sRun.storesOut 0 = 0 ∧ (sRun.groom 0).priv ≠ .task ∧ sRun.irqFor 0 = false) ∧
    (ready sStoring 0 ∧ sStoring.storesOut 0 ≠ 0) ∧ (ready (irqState sRun) 0 ∧ (irqState sRun).irqFor 0 = true) ∧
    ((sWait .wfi).groom 0).halted = false ∧ ((sWait .wfi).groom 0).wait = .wfi ∧ (irqState (sWait .wfi)).irqFor 0 = true := by
  unfold ready; decide +kernel

def sCall (x1 : Word) (xs : Map Word) : State := { State.reset.setGroom 0 { gRun with x := (1, x1) :: xs, wait := .tcall 0 none } with clk := 2500000 }

theorem wit_ReturnAndTackCalls : (ready sRun 0 ∧ (sRun.groom 0).priv ≠ .task) ∧
    ((sWait (.tcall 0 (some (St.ok, some 5)))).groom 0).wait = .tcall 0 (some (St.ok, some 5)) ∧
    ((sWait (.tcall 0 (some (St.ok, none)))).groom 0).wait = .tcall 0 (some (St.ok, none)) ∧
    (((sCall 0x0103 []).groom 0).halted = false ∧ ((sCall 0x0103 []).groom 0).wait = .tcall 0 none ∧
      Map.get zeroW ((sCall 0x0103 []).groom 0).x 1 ∉ [0x0101, 0x0102, 0x0201] ∧ 0 + 2500000 ≤ (sCall 0x0103 []).clk) := by
  unfold ready; decide +kernel

/-- A configuration record that its bank holds, read to the last bytes of scratch. -/
def recBank : Bank := { valid := true, seq := 9, sigOk := true, svn := 0, fwver := 0, image := [], recs := [{ typ := 9, bytes := [1, 2], sigOk := true }] }
def sCfg : State := (sCall 0x0101 [(2, 9), (4, 0x3FFFFE), (5, 2)]).setBank 0 recBank
theorem wit_TackRoomServesCalls :
    ((sCall 0x0102 []).groom 0).wait = .tcall 0 none ∧ Map.get zeroW ((sCall 0x0102 []).groom 0).x 1 = 0x0102 ∧
    ((sCfg.groom 0).wait = .tcall 0 none ∧ Map.get zeroW (sCfg.groom 0).x 1 = 0x0101 ∧ sCfg.winner = some 0 ∧
      ((sCfg.bank 0).recs.filter (fun r => r.sigOk && decide (r.typ = 9)))[0]? = some { typ := 9, bytes := [1, 2], sigOk := true } ∧
      0x3FFFFE + (([1, 2] : List Byte).take 2).length ≤ 0x400000) ∧
    (Map.get zeroW ((sCall 0x0201 [(2, 7), (3, 0x3FFFE0)]).groom 0).x 1 = 0x0201 ∧
      Map.get zeroW ((sCall 0x0201 [(2, 7), (3, 0x3FFFE0)]).groom 0).x 2 = 7 ∧ 0x3FFFE0 + 32 ≤ 0x400000) := by
  decide +kernel

/-- GROOM_FPCTL at TASK, an unlisted number, and one that TASK may not write. -/
theorem wit_CsrInstructions : (ready sTask 0 ∧ groomListed 0x68 = true ∧ mayAccess sTask 0 0x68 true ∧ mayAccess sTask 0 0x68 false) ∧
    (groomListed ((fi 0xFFF).imm.toNat % 4096 * 8) = false ∧ (sTask.groom 0).exl = false) ∧
    (groomListed 0x28 = true ∧ ¬ mayAccess sTask 0 0x28 true) ∧ (ready sRun 0 ∧ mayAccess sRun 0 0x40 true ∧ sRun.storesOut 0 = 0) := by
  unfold ready mayAccess; decide +kernel

def lst (seq : Nat) : QList := { off := 0x100, priv := .kernel, task := 0, tenant := 0, seq := seq }
/-- Queue 0 of stall 0 with `n` lists, none completed. -/
def withLists (s : State) (n : Nat) : State :=
  s.setQueue 0 0 { state := if n = 0 then .idle else .running, lists := (List.range n).map (fun i => lst (i + 1)), issued := n }
def frq (rc : BitVec 5) : FmtR := { rd := 1, ra := 2, rb := 3, rc := rc }

theorem wit_GroomEnqueuesLists : (ready (withLists sRun 7) 0 ∧ (withLists sRun 7).storesOut 0 = 0 ∧ (frq 4).rc.toNat < 5 ∧
      ((withLists sRun 7).queue 0 0).lists.length < 8) ∧ 8 ≤ ((withLists sRun 8).queue 0 0).lists.length ∧
    (((withLists (sWait (.cmdq 1 0 64)) 7).groom 0).halted = false ∧ ((withLists (sWait (.cmdq 1 0 64)) 7).groom 0).wait = .cmdq 1 0 64 ∧
      ((withLists (sWait (.cmdq 1 0 64)) 7).queue 0 0).lists.length < 8) := by
  unfold ready; decide +kernel

theorem wit_GroomWaitsForLists : (ready (withLists (sX 0 2 0) 1) 0 ∧ ((withLists (sX 0 2 0) 1).queue 0 0).issued < 2) ∧
    (ready (withLists (sX 0 1 0) 1) 0 ∧ 1 ≤ ((withLists (sX 0 1 0) 1).queue 0 0).issued ∧ ((withLists (sX 0 1 0) 1).queue 0 0).done < 1) ∧
    (0 ≤ ((withLists (sX 0 0 0) 1).queue 0 0).done) ∧
    (({ sWait (.cwait 1 0 0 10 5) with clk := 16 } : State).groom 0).wait = .cwait 1 0 0 10 5 ∧ 5 + 10 < 16 := by
  unfold ready; decide +kernel

def loadEnt : RetEntry := { seq := 0, pc := 0, dst := some (.x 1 8 true), left := 1 }
def loadReq (st : Status) : Req := { groomReq sRun 0 (.groomLoad 0 0) .read 0x1000 8 (leBytes 8 7) none with phase := .arrived, status := st }
def sLoad (st : Status) : State := withReq (State.reset.setGroom 0 { gRun with rq := [loadEnt], nextSeq := 1 }) (loadReq st)
def faulted : RetEntry := { seq := 0, pc := 8, fault := some { cls := 1, status := St.memRange, eval := 5, epc := 8, lane := 0 } }
def sFaulted : State := State.reset.setGroom 0 { gRun with rq := [faulted], nextSeq := 1 }
def sAsync : State := State.reset.setGroom 0 { gRun with asyncErr := [(St.memRange, 0x1000)] }
def endedStore (st : Status) : Req := { storeReq with phase := .arrived, status := st }
def sStored (st : Status) : State := withReq sRun (endedStore st)

theorem wit_FillsResponsesAndAsyncErrors : (sRun.groom 0).halted = false ∧
    ((sLoad St.ok).req 0 = some (loadReq St.ok) ∧ ((sLoad St.ok).groom 0).rq = [loadEnt]) ∧
    ((sLoad St.memRange).req 0 = some (loadReq St.memRange) ∧ ((sLoad St.memRange).groom 0).rq = [loadEnt]) ∧
    ((sFaulted.groom 0).rq = [faulted] ∧ (sFaulted.groom 0).wait = .none ∧ (sFaulted.groom 0).exl = false ∧ faulted.left = 0) ∧
    ((sStored St.memRange).req 0 = some (endedStore St.memRange)) ∧
    ((sAsync.groom 0).asyncErr = [(St.memRange, 0x1000)] ∧ (sAsync.groom 0).rq = []) := by
  refine ⟨?_, ?_, ?_, ?_, ?_, ?_⟩ <;> decide +kernel

def sHalting : State := State.reset.setGroom 0 { gRun with haltReq := true }

theorem wit_GroomRunControl : (Map.wf (fun _ => ({} : Groom)) State.reset.grooms = true ∧ (State.reset.groom 0).halted = true ∧
      bit (place 21 2 5) 61 = false ∧ bit (place 21 2 5) 62 = false) ∧
    (Map.wf (fun _ => ({} : Groom)) sRun.grooms = true ∧ (sRun.groom 0).halted = false) ∧
    ((sHalting.groom 0).haltReq = true ∧ (sHalting.groom 0).rq = [] ∧ sHalting.csrLoadOut 0 = false ∧ sHalting.storesOut 0 = 0) ∧
    (((sWait (.taskid 1 7)).groom 0).wait = .taskid 1 7 ∧ (sWait (.taskid 1 7)).storesOut 0 = 0) := by
  decide +kernel

/-! ### Engines -/

/-- A descriptor of 1 KiB of main memory at 0, one run. -/
def desc1k : List Byte := leBytes 8 0 ++ leBytes 8 0 ++ leBytes 8 1024 ++ leBytes 4 1024 ++ leBytes 4 1 ++ leBytes 4 1 ++ leBytes 4 1
def argsOf (op : Nat) : CmdArgs := { op := op, rows := 1, cols := 8, mfmt := 0, fmt := 0, treg := 1, scr := 0x2000, str := { n0 := 32, elen := 32, base := 0 } }
def partOf (st : PartSt) : Part := { kind := .main, addr := 0, len := 32, pos := 0, plen := 32, grp := 0, last := 0, st := st }
def ctxOf (op : Nat) (ps : List Part) : CmdCtx := { idx := 0, off := 0x140, lst := lst 1, waitEn := false, waitEv := 0, waitVal := 0, postEn := false, postEv := 0, args := argsOf op, parts := ps, groups := 1, buf := [(0, 1), (1, 2)] }
/-- Queue `q` of stall 0 runs a list of two commands whose first word is `w`; `m` is more of scratch. -/
def stCmd (q w : Nat) (cs : List CmdCtx) (m : Map Byte) : Stall :=
  { queues := [(q, { state := .running, lists := [lst 1], issued := 1, count := some 2, ctxs := cs })]
    scratch := writeBytes m 0x140 (leBytes 8 w) }
def sCmd (q w : Nat) (cs : List CmdCtx) (m : Map Byte) : State := State.reset.setStall 0 (stCmd q w cs m)

theorem wit_EngineCommandConsumesAndCompletes : ∀ e ∈ moveCmds.map (·.2),
    atCommand (sCmd e.1 e.2 [ctxOf e.2 [partOf .landed]] []) 0 e.1 e.2 (lst 1) 2 0 ∧
    lastGroup (sCmd e.1 e.2 [ctxOf e.2 [partOf .landed]] []) 0 e.1 e.2 (ctxOf e.2 [partOf .landed]) := by
  unfold atCommand lastGroup; decide +kernel

/-- A list whose header is good, at the last place where one command fits, and one whose header is not. -/
def sHead (off : Nat) (h : List Byte) : State :=
  State.reset.setStall 0 { queues := [(0, { state := .running, lists := [{ lst 1 with off := off }], issued := 1 })], scratch := writeBytes [] off h }
theorem wit_ListStartReadsHeader :
    (let s := sHead 0x3FFF80 [1, 0, 1]
     (s.queue 0 0).state = .running ∧ (s.queue 0 0).lists.head? = some { lst 1 with off := 0x3FFF80 } ∧ (s.queue 0 0).count = none ∧
     s.passHeld 0 0 = false ∧ (0x3FFF80 : Nat) % 64 = 0 ∧ 0x3FFF80 < 0x400000 ∧ s.scrGood 0 0x3FFF80 64 = true ∧
     headerStatus 0x3FFF80 (s.scrRec 0 0x3FFF80) = St.ok) ∧
    (let s := sHead 0x3FFFC0 [1, 0, 1]
     (s.queue 0 0).lists.head? = some { lst 1 with off := 0x3FFFC0 } ∧ s.scrGood 0 0x3FFFC0 64 = true ∧ headerStatus 0x3FFFC0 (s.scrRec 0 0x3FFFC0) ≠ St.ok) := by
  decide +kernel

/-- LDSCR of 1 KiB that waits for event counter 0 to reach 1. -/
def ldscrWait : Nat := 0x02 + 2 ^ 12 + 2 ^ 32
def sStart : State := sCmd 0 ldscrWait [] (writeBytes (writeBytes (writeBytes [] 0x148 (leBytes 8 0x200)) 0x150 (leBytes 8 0x2000)) 0x200 desc1k)
theorem wit_CmdStart : atCommand sStart 0 0 (sStart.cmdWord 0 (lst 1) 0 0 % 256) (lst 1) 2 0 ∧ noneStarted sStart 0 ∧
    sStart.scrGood 0 (0x100 + 64 + 64 * 0) 64 = true ∧ (sStart.checkCmd 0 0 (lst 1) 0 (sStart.cmdNat 0 (lst 1) 0)).2.2 = St.ok ∧
    (envOf (sStart.cmdNat 0 (lst 1) 0 % 2 ^ 64)).waitEn = true ∧ sStart.evMet 0 0 1 = false := by
  unfold atCommand noneStarted; decide +kernel

/-- NOP that waits for nothing and posts event 31. -/
def nopPost : Nat := 2 ^ 18 + 31 * 2 ^ 19
theorem wit_NopPostsAndPasses : ∀ q ∈ [0, 4], atCommand (sCmd q nopPost [] []) 0 q 0 (lst 1) 2 0 ∧ noneStarted (sCmd q nopPost [] []) 0 ∧
    ((sCmd q nopPost [] []).queue 0 q).ctxs = [] ∧ ((sCmd q nopPost [] []).stall 0).arr.inflight = [] ∧ ((sCmd q nopPost [] []).stall 0).sync = none ∧
    (sCmd q nopPost [] []).scrGood 0 0x140 64 = true ∧ resSet ((sCmd q nopPost [] []).cmdNat 0 (lst 1) 0) envFields = false := by
  unfold atCommand noneStarted; decide +kernel

/-- A part to be sent in the last slot, and one that has been answered beside one still to be sent. -/
def sSlots (op : Nat) (ps : List Part) (slots : List (Nat × Nat × Nat)) : State :=
  State.reset.setStall 0 { stCmd 0 op [ctxOf op ps] [] with slots := slots }
def slotReq (n : Nat) : Req := { src := .slot 0 n, priv := .kernel, task := 0, tenant := 0, addr := 0, op := .read, len := 32, data := [9], phase := .arrived }
def sAnswered : State := withReq (sSlots 0x02 [partOf (.issued 47), partOf .todo] [(47, 0, 0)]) (slotReq 47)

theorem wit_SlotsCarryRequestsAndData :
    (oneStarted (sSlots 0x02 [partOf .todo] []) 0 0 (ctxOf 0x02 [partOf .todo]) ∧
      (sSlots 0x02 [partOf .todo] []).source 0 (argsOf 0x02) (partOf .todo) = .go .read [] ∧
      ((sSlots 0x02 [partOf .todo] []).stall 0).freeSlotNo = some 0) ∧
    (oneStarted sAnswered 0 0 (ctxOf 0x02 [partOf (.issued 47), partOf .todo]) ∧ (sAnswered.stall 0).slots = [(47, 0, 0)] ∧
      sAnswered.req 0 = some (slotReq 47) ∧ opStore 0x02 = false) := by
  unfold oneStarted; decide +kernel

def loftRec : LoftRec := { action := 2, altFmt := none, deadline := 4, altBase := 0x10000 }
def ctxLoft : CmdCtx := { ctxOf 0x02 [partOf .todo] with args := { argsOf 0x02 with loft := some loftRec } }
def waitReq : Req := { slotReq 0 with phase := .walking, data := [] }
def sLate : State := { withReq (sSlots 0x02 [partOf (.issued 0)] [(0, 0, 0)]) waitReq with clk := 2 ^ 22 }
def sDead : State := { State.reset.setStall 0 (stCmd 0 0x02 [ctxLoft] []) with clk := 8 }
theorem wit_SlotWaitFlagAndLoftDeadline :
    ((sLate.stall 0).slots.find? (fun e => e.1 = 0) = some (0, 0, 0) ∧ sLate.req 0 = some waitReq ∧ waitReq.at_ + 2 ^ 22 ≤ sLate.clk) ∧
    (oneStarted sDead 0 0 ctxLoft ∧ ctxLoft.args.loft = some loftRec ∧ ctxLoft.t0 + 2 * loftRec.deadline ≤ sDead.clk) := by
  unfold oneStarted; decide +kernel

def sQueue (x : Queue) : State := State.reset.setStall 0 { queues := Map.set (fun _ => {}) [] 0 x }
theorem wit_QueueControl : ∀ x ∈ [({ state := .running, lists := [lst 1], issued := 1, pausing := true } : Queue), { state := .paused }, { state := .stopped, lists := [lst 1] }, {}],
    ((sQueue x).stall 0).pstate = .run ∧ noneStarted (sQueue x) 0 ∧ tidy (sQueue x) 0 ∧ (sQueue x).queue 0 0 = x ∧ ((sQueue x).stall 0).slotsOf 0 = 0 := by
  unfold noneStarted tidy; decide +kernel

def dbWord : Word := place 26 24 4 ||| place 21 0 0x100
def sDb (n lists : Nat) : State := State.reset.setStall 0 { db := List.replicate n dbWord, queues := Map.set (fun _ => {}) [] 4 { lists := (List.range lists).map lst, issued := lists } }
theorem wit_DoorbellsQuotasAndEvents : fld dbWord 26 24 < 5 ∧ ((sDb 31 0).stall 0).db.length < 32 ∧ 32 ≤ ((sDb 32 0).stall 0).db.length ∧
    5 ≤ fld (place 26 24 5) 26 24 ∧ (((sDb 1 7).stall 0).db = [dbWord] ∧ ((sDb 1 7).queue 0 4).lists.length < 8) ∧
    8 ≤ ((sDb 1 8).queue 0 4).lists.length ∧ fld (0x101010 : Word) 5 0 + fld (0x101010 : Word) 13 8 + fld (0x101010 : Word) 21 16 ≤ 48 ∧
    48 < fld (0x101011 : Word) 5 0 + fld (0x101011 : Word) 13 8 + fld (0x101011 : Word) 21 16 ∧ noneStarted (sDb 1 7) 0 ∧ tidy (sDb 1 7) 0 := by
  unfold noneStarted tidy; decide +kernel

/-! ### Tile registers and array -/

def treg4 (f : Nat) : TReg := { state := .defined, rows := 4, cols := 4, fmt := f, mask := 15 }
/-- T0 and T1 hold 4 by 4 BF16, T2 holds 4 by 4 FP32, and T15 one full row of 512 bytes. -/
def regs4 : Map TReg := [(0, treg4 0), (1, treg4 0), (2, treg4 2), (15, { state := .defined, rows := 128, cols := 256, fmt := 0, mask := BitVec.allOnes 128 })]
/-- The array queue stands at a command with these words. -/
def sArr (ws : List Nat) (a : Arr) : State :=
  State.reset.setStall 0
    { queues := [(2, { state := .running, lists := [lst 1], issued := 1, count := some 2 })]
      tregs := regs4
      arr := a
      scratch := writeBytes [] 0x140 (ws.flatMap (leBytes 8)) }
def cmdMma : List Nat := [0x40, (0 + 1 * 16 + 2 * 256) + (4 + 4 * 2 ^ 16) * 2 ^ 32, 4 + 2 ^ 11]
def cmdAdrain : List Nat := [0x41, (0 + 0 * 16 + 2 * 256) + (4 + 4 * 2 ^ 16) * 2 ^ 32, 0]
def cmdWsld : List Nat := [0x44, (0 + 1 * 16 + 0 * 256) + (0 + 4 * 2 ^ 16) * 2 ^ 32, 4]
def cmdWsmm : List Nat := [0x45, 2 * 256 + 4 * 2 ^ 32, 0]
def held4 : Arr := { held := some (4, 4, 0), w := List.replicate 4 [0, 0, 0, 0] }
def zOf (ws : List Nat) (a : Arr) : ArrOp := (arrOpOf ((sArr ws a).cmdNat 0 (lst 1) 0)).sized a

theorem wit_ArrayTakesMma : arrayAccepts (sArr cmdMma {}) 0 0x40 (lst 1) 2 0 (zOf cmdMma {}) := by
  unfold arrayAccepts arrayAt atCommand noneStarted tidy; decide +kernel
theorem wit_ArrayTakesAdrain : arrayAccepts (sArr cmdAdrain { vrow := 15 }) 0 0x41 (lst 1) 2 0 (zOf cmdAdrain { vrow := 15 }) := by
  unfold arrayAccepts arrayAt atCommand noneStarted tidy; decide +kernel
theorem wit_ArrayTakesWsld : arrayAccepts (sArr cmdWsld {}) 0 0x44 (lst 1) 2 0 (zOf cmdWsld {}) := by
  unfold arrayAccepts arrayAt atCommand noneStarted tidy; decide +kernel
theorem wit_ArrayTakesWsmm : arrayAccepts (sArr cmdWsmm held4) 0 0x45 (lst 1) 2 0 (zOf cmdWsmm held4) := by
  unfold arrayAccepts arrayAt atCommand noneStarted tidy; decide +kernel

/-- TCFG of T15 at the largest BF16 shape, and of a shape that is too wide; TREL of T0. -/
def cmdTcfg (cols : Nat) : List Nat := [0x70, 2 ^ 15 + (128 + cols * 2 ^ 16) * 2 ^ 32]
def tcfgLegal (ws : List Nat) : Bool :=
  let cmd := (sArr ws {}).cmdNat 0 (lst 1) 0
  decide (1 ≤ bits cmd 103 96 ∧ bits cmd 103 96 ≤ 128 ∧ bits cmd 127 124 ≤ 7 ∧ 1 ≤ bits cmd 122 112 ∧ bits cmd 122 112 ≤ maxCols (bits cmd 127 124))
theorem wit_TileConfiguration :
    (arrayAt (sArr (cmdTcfg 256) {}) 0 0x70 (lst 1) 2 0 ∧ resSet ((sArr (cmdTcfg 256) {}).cmdNat 0 (lst 1) 0) (envFields ++ arrFields 0x70) = false ∧
      tcfgLegal (cmdTcfg 256) = true ∧ ((sArr (cmdTcfg 256) {}).stall 0).owners 15 = 0) ∧
    (arrayAt (sArr (cmdTcfg 257) {}) 0 0x70 (lst 1) 2 0 ∧ resSet ((sArr (cmdTcfg 257) {}).cmdNat 0 (lst 1) 0) (envFields ++ arrFields 0x70) = false ∧
      tcfgLegal (cmdTcfg 257) = false) ∧
    (arrayAt (sArr [0x71, 1] {}) 0 0x71 (lst 1) 2 0 ∧ resSet ((sArr [0x71, 1] {}).cmdNat 0 (lst 1) 0) (envFields ++ arrFields 0x71) = false ∧
      bits ((sArr [0x71, 1] {}).cmdNat 0 (lst 1) 0) 79 64 = 1 ∧ ((sArr [0x71, 1] {}).stall 0).owners 0 = 0) ∧
    (treg4 0).written 4 = false := by
  unfold arrayAt atCommand noneStarted tidy; decide +kernel

def arrCmd (ds : List DrainRow) : ArrCmd := { idx := 0, op := 0x40, lst := lst 1, postEn := false, postEv := 0, reads := [], writes := [2], drains := ds }
def drain0 : DrainRow := { row := 0, fold := 0, dst := [(2, 0, [1, 2, 3, 4])] }
theorem wit_ArrayDrainsAndCompletes : ∀ ds ∈ [[], [drain0]], (let s := sArr cmdMma { inflight := [arrCmd ds] }
    (s.stall 0).pstate = .run ∧ noneStarted s 0 ∧ tidy s 0 ∧ (s.stall 0).arr.inflight = [arrCmd ds] ∧ (s.queue 0 2).cmdIdx + 1 < 2 ∧
    (s.queue 0 2).state = .running) := by
  unfold noneStarted tidy; decide +kernel

def sTile : State := sArr [] {}
/-- T0 is owned by a started LDTILE. -/
def sOwned : State := State.reset.setStall 0 { (stCmd 0 0x01 [{ ctxOf 0x01 [] with args := { argsOf 0x01 with treg := 0 } }] []) with tregs := regs4 }
theorem wit_TileDebugView : (sTile.stall 0).pstate = .run ∧ (0xFFFFF : Nat) % 512 + ([1] : List Byte).length ≤ 512 ∧
    ((sTile.stall 0).tileBad 15 127 511 1 = none ∧ ((sTile.stall 0).treg 15).state ≠ .unconf ∧ (sTile.stall 0).owners 15 = 0 ∧
      511 < ((sTile.stall 0).treg 15).rowLen) ∧
    ((sTile.stall 0).treg 14).state = .unconf ∧ ((sOwned.stall 0).treg 0).state ≠ .unconf ∧ (sOwned.stall 0).owners 0 ≠ 0 ∧ (0x100000 : Nat) ≤ 0x100000 := by
  decide +kernel

theorem wit_TileAndArrayRegisters : (sTile.stall 0).owners 0 = 0 ∧ (sOwned.stall 0).owners 0 ≠ 0 ∧ arrMapBad (place 9 0 514 ||| place 10 10 1) = true ∧
    arrMapBad (place 9 0 513 ||| place 10 10 1) = false ∧ ((sArr cmdMma { inflight := [arrCmd []] }).stall 0).arr.inflight ≠ [] ∧
    (sTile.stall 0).arr.inflight = [] := by
  decide +kernel

theorem wit_ReadsClearRcFields : (Priv.kernel ≠ .task ∧ (State.reset.stall 0).pstate = .run) ∧ StallClears (.trTiedRead, 0x1A40, 0xC007FFFFFFFFFFFF) ∧
    DeviceClears (fun p _ => .rxdropCntRead p, fun _ => 0x900038, 0xFFFFFFFF, 1, true) := by
  refine ⟨by decide +kernel, ?_, ?_⟩
  · simp [StallClears]
  · simp [DeviceClears]

/-! ### Network -/

/-- A read of scratch of stall 0 by groom 0, and states in which it is the only request. -/
def scrAddr : Nat := 0x400000001000
def netReq (addr : Nat) (op : MemOp) (p : Priv) : Req :=
  { src := .groomLoad 0 0, priv := p, task := 0, tenant := 0, addr := addr, op := op, len := 8 }
def oneReq (s : State) (r : Req) : State := { s with reqs := [(0, some r)], nextReq := 1 }
/-- The nodes of stall 0's first two grooms are open. -/
def sOpen : State := (State.reset.setNode 0 { fenced := false }).setNode 1 { fenced := false }
/-- Groom 0's router holds an entry: every destination by node 3, or unreachable. -/
def sDetour (w : Word) : State := State.reset.setNode 0 { fenced := false, csr := [(0x100, w)] }
def viaAll : Word := DetourE.word { cLo := 0, cHi := 63, rLo := 0, rHi := 71, viaCol := 5, viaRow := 5 }
def stopAll : Word := DetourE.word { cLo := 0, cHi := 63, rLo := 0, rHi := 71, unreach := true, deadDest := true }

theorem wit_NetworkInjection_refused :
    (isGlobal 0x300000000000 = false ∧ localRegion 0x300000000000 = none) ∧
    localRegion 0x600000000000 = some (.dev 0) ∧ localRegion 0x1FFFFFFFFFFFF = some (.loft 0xFFFFFFFFFFFF) := by decide +kernel

theorem wit_NetworkInjection_sent :
    (let r := netReq scrAddr .read .kernel
     ∀ s ∈ [oneReq sOpen r, oneReq (sDetour viaAll) r, oneReq (sDetour stopAll) r], s.req 0 = some r ∧ r.phase = .issued ∧ r.refusal = none ∧
       r.window = false ∧ s.destOf r scrAddr = .node 1 ∧ nodePos 1 = 1 ∧ (s.nodeAt r.src.node).fenced = false ∧ (s.nodeAt r.src.node).dead = false ∧
       s.heldBy 0 r = false ∧ s.routeHeld r 1 none = false ∧ s.routeHeld r 1 (some (detourVia viaAll 1)) = false) ∧
    (sOpen.nodeAt 0).detour 1 = none ∧ ((sDetour viaAll).nodeAt 0).detour 1 = some viaAll ∧ bit viaAll 62 = false ∧
    ((sDetour stopAll).nodeAt 0).detour 1 = some stopAll ∧ bit stopAll 62 = true := by decide +kernel

/-- The same request on its way: at the first node, at its destination, and its response at the requester. -/
def meshReq (pos : Nat) (ph : Phase) (st : Status) : Req :=
  { netReq scrAddr .read .kernel with phase := ph, path := [0, 1], pos := pos, pa := scrAddr, translated := true, status := st }

theorem wit_NetworkTransport :
    (bit ((sOpen.nodeAt 0).reg 8) (4 + dirOf 0 1) = false ∧ bit (((sOpen.setNode 0 { csr := [(8, 0xF0)] }).nodeAt 0).reg 8) (4 + dirOf 0 1) = true) ∧
    (∀ r ∈ [meshReq 1 .mesh St.ok, meshReq 1 .mesh St.netFlitUe], r.pos + 1 = r.path.length ∧ (oneReq sOpen r).olderOnWay r = false ∧
      localRegion r.addr = some (.scratch 0 0x1000)) ∧
    (sOpen.nodeAt 1).fenced = false ∧ ((State.reset.nodeAt 1).fenced = true ∧ bit ((State.reset.nodeAt 1).reg 8) 1 = false) ∧
    (meshReq 0 .back St.ok).pos = 0 ∧ (meshReq 0 .mesh St.ok).path[0]? = some 0 := by decide +kernel

theorem wit_NetworkRoutes : (0 : Nat) ≠ 1 ∧ (1 : Nat) ∈ xyPath 0 4607 ∧ (64 : Nat) ∉ xyPath 0 4607 := by decide +kernel

theorem net_tidy_of {s : State} (h : Map.wf (fun _ => ({} : Node)) s.nodes = true)
    (h2 : s.nodes.all (fun p => Map.wf (resetOf netRegs) p.2.csr) = true) : netTidy s :=
  ⟨h, fun i => Laws.get_all (fun _ => ({} : Node)) _ (fun n => Map.wf (resetOf netRegs) n.csr) (fun _ => rfl) h2 i⟩

/-- A router that has been silent, one that has been reported, and one that is dead. -/
def sSilent : State := { State.reset with clk := 4096 }
def sReported : State := State.reset.setNode 1 { reported := true }
def sDeadNode : State := oneReq (State.reset.setNode 1 { dead := true }) (meshReq 0 .mesh St.ok)
theorem wit_DeadRoutersAreCutOff :
    (netTidy sSilent ∧ neighbour (nodePos 0) 1 = some 1 ∧ Map.get zeroN (sSilent.node 0).seen 1 + 4096 ≤ sSilent.clk ∧ (sSilent.node 0).dead = false) ∧
    (netTidy sReported ∧ (sReported.node 1).reported = true ∧ (sReported.node 1).dead = false ∧ sReported.deadNodes.length < 8) ∧
    (netTidy sDeadNode ∧ Map.wf noneOf sDeadNode.reqs = true ∧ sDeadNode.req 0 = some (meshReq 0 .mesh St.ok) ∧ onWay (meshReq 0 .mesh St.ok) ∧
      (1 : Nat) ∈ sDeadNode.deadNodes ∧ (1 : Nat) ∈ (meshReq 0 .mesh St.ok).path) :=
  ⟨⟨net_tidy_of (by decide +kernel) (by decide +kernel), by decide +kernel⟩, ⟨net_tidy_of (by decide +kernel) (by decide +kernel), by decide +kernel⟩,
   ⟨net_tidy_of (by decide +kernel) (by decide +kernel), by decide +kernel, by decide +kernel, .inl rfl, by decide +kernel, by decide +kernel⟩⟩

theorem wit_FencesAndSweeps :
    (netTidy sDeadNode ∧ sweptBy 0 (meshReq 0 .mesh St.ok).src = true ∧ fld (place 21 16 1) 30 24 * 64 + fld (place 21 16 1) 21 16 ∈ (meshReq 0 .mesh St.ok).path ∧
      bit (place 0 0 1) 8 = false) ∧ bit (((State.reset.setNode 0 { csr := [(8, 1)] }).node 0).reg 8) 0 = true :=
  ⟨⟨net_tidy_of (by decide +kernel) (by decide +kernel), by decide +kernel⟩, by decide +kernel⟩

/-! ### Scratch, main memory and translation -/

def endReq (addr pa len : Nat) (op : MemOp) (data : List Byte) : Req :=
  { netReq addr op .kernel with phase := .endpoint, path := [0, 1], pos := 1, pa := pa, translated := true, len := len, data := data }

theorem wit_ScratchAccesses :
    (∀ r ∈ [endReq 0x4000003FFFF8 0x4000003FFFF8 8 .read [], endReq 0x4000003FFFF8 0x4000003FFFF8 8 .write (leBytes 8 7),
        endReq 0x4000003FFFF8 0x4000003FFFF8 8 (.amo .addD) (leBytes 8 7 ++ leBytes 8 0)],
      (oneReq State.reset r).req 0 = some r ∧ localRegion r.addr = some (.scratch 0 0x3FFFF8) ∧ (oneReq State.reset r).behind 0 r = false ∧ r.mask = none ∧
      (r.data.length = r.len ∨ r.data.length = 2 * r.len ∨ r.op = .read) ∧ ((oneReq State.reset r).stall 0).scratchUe = []) ∧
    (((oneReq (State.reset.setStall 0 { scratchUe := [1] }) (endReq 0x400000000008 0x400000000008 8 .read [])).stall 0).scratchUe = [1]) := by
  decide +kernel

theorem wit_MainMemoryAccesses :
    (∀ r ∈ [endReq 0x1000 0x1000 64 .read [], endReq 0x1000 0x1000 8 .write (leBytes 8 7), endReq 0x1000 0x1000 8 (.amo .addD) (leBytes 8 7 ++ leBytes 8 0)],
      (oneReq State.reset r).req 0 = some r ∧ isGlobal r.addr = false ∧ localRegion r.addr = some (.main 0x1000) ∧ (oneReq State.reset r).behind 0 r = false ∧
      (oneReq State.reset r).memGood r.pa r.len = true) ∧
    (64 ∈ blocksOf 0x1000 64 ∧ ({ State.reset with memUe := [64] } : State).chanOk 0x1000 = true) := by
  decide +kernel

theorem wit_RefreshAndScrub : (0 : Nat) < 136 ∧ 2 ^ 38 - 1 < 2 ^ State.reset.capLog2 ∧ (State.reset.chan 0).state = 0 ∧
    unspread (0 / 34 * 32 + (State.reset.chan 0).lc) (2 ^ 38 - 1) / 64 ∉ State.reset.memUe := by decide +kernel

/-- Translation is on, task 0 has a root table, and one leaf of 1 GiB maps its first addresses. -/
def sMapped : State := { State.reset.setDcsr (shedBase 0 + 8) 1 with
  mem := writeBytes (writeBytes (writeBytes [] 0 (leBytes 8 (2 ^ 13 + 1))) 8192 (leBytes 8 (0x4000 + 1))) 0x4000 (leBytes 8 7) }
def taskReq (ph : Phase) : Req := { netReq 0x1234 .write .task with phase := ph }
def walking (s : State) : State := (oneReq s (taskReq .walking)).setStall 0 { misses := [(0, 0, [0])] }
theorem wit_TranslationAndInvalidation :
    ((oneReq sMapped (taskReq .issued)).xlate 0 0 0x1234 .task true = .miss ∧ (taskReq .issued).window = true ∧
      ((oneReq sMapped (taskReq .issued)).stall 0).misses = [] ∧ (oneReq sMapped (taskReq .issued)).walksTo 0 < 80) ∧
    ((walking sMapped).walk 0 0x1234 none = .leaf 0x4000 7 30 ∧ (walking sMapped).leafCheck 7 30 0x1234 .task true = (St.ok, 0x1234) ∧
      ((walking sMapped).stall 0).misses = [(0, 0, [0])]) ∧
    (walking State.reset).walk 0 0x1234 none = .fault St.memNotMapped 0 ∧ pagerServes St.memNotMapped = false ∧
    fld (2 ^ 32 + 2 : Word) 1 0 = 2 ∧ fld (2 ^ 32 + 2 : Word) 63 32 ≠ 0 ∧ State.reset.xinv = none := by
  decide +kernel

/-! ### Bays and migration -/

def withChan (i : Nat) (c : Chan) : State := State.reset.setChan i c
def bayEmpty : State := withChan 135 { state := 4, lc := 0, dimm := none }
def module38 (slow : Bool) : Dimm := { capLog2 := 38, slow := slow, supported := true }
theorem wit_BaysAndModules : (State.reset.chan 135).state ≠ 3 ∧ (State.reset.chan 135).state ≠ 4 ∧ (State.reset.chan 135).state ≠ 6 ∧
    (bayEmpty.chan 135).state = 4 ∧ bayEmpty.capLog2 ≤ (module38 false).capLog2 ∧ (module38 true).slow = true ∧ bayEmpty.slowMem = false ∧
    (36 : Nat) < bayEmpty.capLog2 ∧ ((withChan 0 { state := 5, lc := 0, dimm := some (module38 false) }).chan 0).state = 5 := by
  decide +kernel

def migWord : Word := place 5 0 0 ||| place 13 8 32
def sMig (units : Nat) : State := (((State.reset.setChan 0 { chanDflt 0 with state := 2 }).setChan 32 { chanDflt 32 with state := 7 }).setShed 0
  { State.reset.shed 0 with mig := { active := true, src := 0, dst := 32, units := units } })
theorem wit_ChannelMigration : (fld migWord 5 0 = 0 ∧ fld migWord 13 8 = 32 ∧ (State.reset.chan 0).state = 0 ∧ (State.reset.chan 32).state = 1 ∧
      (State.reset.shed 0).mig.active = false) ∧ ((sMig 0).shed 0).mig.active = true ∧
    ((sMig (2 ^ 26)).shed 0).mig.units * 4096 = 2 ^ (sMig (2 ^ 26)).capLog2 ∧ Map.wf chanDflt (sMig (2 ^ 26)).chans = true := by
  decide +kernel

/-! ### Pager and loft -/

theorem chanOk_reset (pa : Nat) : State.reset.chanOk pa = true := by
  have h : ∀ lc < 128, (State.reset.chanOf lc).isSome = true := by decide +kernel
  refine h _ ?_
  unfold spreadLc
  refine Nat.xor_lt_two_pow (n := 7) (Nat.xor_lt_two_pow (Nat.xor_lt_two_pow (Nat.xor_lt_two_pow ?_ ?_) ?_) ?_) ?_ <;> omega

/-- A byte memory whose entries all lie outside a range reads as zero there. -/
theorem readLe_outside (m : Map Byte) : ∀ n a : Nat, (∀ p ∈ m, p.1 < a ∨ a + n ≤ p.1) → readLe m a n = 0 := by
  have hg : ∀ (l : Map Byte) (a : Nat), (∀ p ∈ l, p.1 ≠ a) → Map.get zeroB l a = 0 := by
    intro l
    induction l with
    | nil => exact fun _ _ => rfl
    | cons p l ih => intro a h; rw [Map.get, if_neg (h p (by simp))]; exact ih a (fun q hq => h q (by simp [hq]))
  intro n
  induction n with
  | zero => exact fun _ _ => rfl
  | succ n ih =>
    intro a h
    have h1 := hg m a (fun p hp => by have := h p hp; omega)
    have h2 := ih (a + 1) (fun p hp => by have := h p hp; omega)
    simp only [readLe, readBytes, leNat, h1] at h2 ⊢
    simp [h2]

/-- Task 0's table with one 64 KiB leaf at 0x104000, and tenant 0's entry at 2 MiB: LIMIT 10, USED 1, and a free list from 0x300000. -/
def pgMem (leaf : Nat) (free : Nat) : Map Byte :=
  let w := fun (m : Map Byte) (a v : Nat) => writeBytes m a (leBytes 8 v)
  w (w (w (w (w (w (w (w [] 0 0x100001) 0x100000 0x102001) 0x102000 0x103001) 0x103000 0x104001) 0x104000 leaf)
    0x200000 (10 + 2 ^ 32)) 0x200010 free) 0x200018 0x10000
def sPg (leaf free : Nat) (fs : List PFault) : State :=
  { (State.reset.setDcsr (shedBase 0 + 8) 1).setDcsr (shedBase 0 + 0x10) 0x200000 with
    mem := writeBytes (pgMem leaf free) 0x300000 (leBytes 8 0x310000)
    segs := [(0, .opn 1)]
    pfaults := fs }
def pf (st : Status) : PFault := { who := .inr 0, va := 0, task := 0, tenant := 0, write := false, status := st }

theorem chanOk_of {s : State} (h : s.chans = []) (pa : Nat) : s.chanOk pa = true := by
  have := chanOk_reset pa
  simp only [State.chanOk, State.chanOf, State.chan, h] at this ⊢
  exact this

theorem wit_soundMemory : soundMemory (sPg 0x87 0x300000 []) := ⟨by decide +kernel, rfl, chanOk_of rfl⟩

theorem wit_PagerServesFaults_alloc :
    (let s := sPg 0x87 0x300000 [pf St.memDemand]
     atPager s 0 (pf St.memDemand) ∧ Memory.wf s.mem = true ∧ poolAt s (pf St.memDemand) 0x104000 0x87 0x300000 ∧ bits 0x87 7 6 = 2 ∧
       bits (s.memLe (s.ttEntry 0) 8) 63 32 + 1 ≤ bits (s.memLe (s.ttEntry 0) 8) 31 0) ∧
    (let s := sPg 0x87 0 [pf St.memDemand]
     atPager s 0 (pf St.memDemand) ∧ s.walk 0 0 none = .leaf 0x104000 0x87 16 ∧ bits (s.memLe (s.ttEntry 0 + 16) 8) 44 16 = 0) := by
  unfold atPager poolAt apart; decide +kernel
theorem wit_PagerServesFaults_recall :
    (let s := sPg 0x47 0x300000 [pf St.memEvicted]
     atPager s 0 (pf St.memEvicted) ∧ Memory.wf s.mem = true ∧ poolAt s (pf St.memEvicted) 0x104000 0x47 0x300000 ∧ bits 0x47 7 6 = 1 ∧
       s.loftFault (bits 0x47 63 16 * 65536) = St.ok ∧ bits (s.memLe (s.ttEntry 0) 8) 63 32 + 1 < 2 ^ 32) ∧
    (let s := sPg 0x47 0 [pf St.memEvicted]
     s.walk 0 0 none = .leaf 0x104000 0x47 16 ∧ bits (s.memLe (s.ttEntry 0 + 16) 8) 44 16 = 0) := by
  unfold atPager poolAt apart; decide +kernel

def servedFault (st : Status) : PFault := { pf St.memDemand with served := some st }
def pagedReq : Req := { netReq 0 .read .task with phase := .paging }
theorem wit_PagerServiceDone : (oneReq (sPg 0x87 0 [servedFault St.ok]) pagedReq).pfaults[0]? = some (servedFault St.ok) ∧
    (oneReq (sPg 0x87 0 [servedFault St.ok]) pagedReq).req 0 = some pagedReq ∧ pagedReq.phase = .paging ∧ pagedReq.src ≠ .gone := by
  decide +kernel

/-- A page that still moves, and one that moves no more. -/
theorem wit_PagerMoveComplete :
    (let s := sPg 0x3200C7 0x300000 [pf St.memMoving]
     atPager s 0 (pf St.memMoving) ∧ s.evicting = none ∧ s.walk 0 0 none = .leaf 0x104000 0x3200C7 16 ∧ bits 0x3200C7 7 6 = 3 ∧ (s.finishMove 0 0x104000 0x3200C7 16).2 = St.ok) ∧
    (sPg 0x320007 0x300000 [pf St.memMoving]).walk 0 0 none = .leaf 0x104000 0x320007 16 ∧ bits 0x320007 7 6 ≠ 3 := by
  unfold atPager; decide +kernel

theorem flatMap_first {α : Type} (f : Nat → List α) : ∀ n, (∀ i, i < n → i ≠ 0 → f i = []) → 0 < n → (List.range n).flatMap f = f 0 := by
  intro n
  induction n with
  | zero => intro _ h; omega
  | succ n ih =>
    intro h _
    rw [List.range_succ, List.flatMap_append]
    rcases Nat.eq_zero_or_pos n with rfl | hn
    · simp
    · rw [ih (fun i hi => h i (by omega)) hn]; simp [h n (by omega) (by omega)]

/-- A table whose entries past the first are all empty has the leaves of its first entry. -/
theorem leaves_first (s : State) (l table va : Nat)
    (h : s.mem.all (fun p => decide (p.1 < table + 8 ∨ table + (levelBits (l + 1)).2.1 * 8 ≤ p.1)) = true) (hn : 0 < (levelBits (l + 1)).2.1) :
    s.leaves (l + 1) table va =
      (let e := s.memLe table 8
       if e % 2 = 0 ∨ !s.memGood table 8 then []
       else if bits e 1 1 = 1 then (if l = 3 then [] else [(table, e, (levelBits (l + 1)).2.2, va)])
       else s.leaves l (bits e 63 8 * 256) va) := by
  rw [State.leaves]
  generalize levelBits (l + 1) = x at h hn ⊢
  obtain ⟨lo, n, lg⟩ := x
  simp only [] at h hn ⊢
  rw [flatMap_first _ _ ?_ hn]
  · simp only [Nat.zero_mul, Nat.add_zero]
  · intro i hi h0
    have := readLe_outside s.mem 8 (table + i * 8) (fun p hp => by
      have := List.all_eq_true.mp h p hp
      simp only [decide_eq_true_eq] at this
      omega)
    simp only [State.memLe, this]
    simp

/-- Tenant 0's groom makes task 0 known; the one leaf maps a frame in main memory and is as old as a leaf can be. -/
def sEvict : State := ((sPg 0x32FE07 0x300000 []).setDcsr (shedBase 0 + 0x30) 1).setGroom 0 gRun

theorem leaves_sEvict : sEvict.taskLeaves 0 = [(0x104000, 0x32FE07, 16, 0)] := by
  have h : sEvict.leaves 4 0x100000 0 = [(0x104000, 0x32FE07, 16, 0)] := by
    rw [leaves_first _ _ _ _ (by decide +kernel) (by decide), show sEvict.memLe 0x100000 8 = 0x102001 by decide +kernel,
      show sEvict.memGood 0x100000 8 = true by decide +kernel]
    simp only [show bits 0x102001 63 8 * 256 = 0x102000 by decide, show bits 0x102001 1 1 = 0 by decide]
    rw [leaves_first _ _ _ _ (by decide +kernel) (by decide), show sEvict.memLe 0x102000 8 = 0x103001 by decide +kernel,
      show sEvict.memGood 0x102000 8 = true by decide +kernel]
    simp only [show bits 0x103001 63 8 * 256 = 0x103000 by decide, show bits 0x103001 1 1 = 0 by decide]
    rw [leaves_first _ _ _ _ (by decide +kernel) (by decide), show sEvict.memLe 0x103000 8 = 0x104001 by decide +kernel,
      show sEvict.memGood 0x103000 8 = true by decide +kernel]
    simp only [show bits 0x104001 63 8 * 256 = 0x104000 by decide, show bits 0x104001 1 1 = 0 by decide]
    rw [show sEvict.leaves 1 0x104000 0 = [(0x104000, 0x32FE07, 16, 0)] by decide +kernel]
    simp
  simp only [State.taskLeaves, show fld (sEvict.dcsr (shedBase 0 + 8)) 44 20 * 2 ^ 20 + 0 * 8 = 0 by decide +kernel,
    show sEvict.memLe 0 8 = 0x100001 by decide +kernel, show bits 0x100001 44 13 * 8192 = 0x100000 by decide, h]
  decide

def movingPg : State := (sEvict.devWrite 0x104000 (leBytes 8 (leafWith 0x32FE07 3 0x320000))).1.invalidatePage 0 0 16
theorem wit_PagerEvict : sEvict.hostMode 0 = false ∧ sEvict.tack.takeover = false ∧ sEvict.evictStopped = [] ∧ sEvict.evicting = none ∧ sEvict.xinv = none ∧
    bits (sEvict.memLe (sEvict.ttEntry 0 + 8) 8) 31 0 < bits (sEvict.memLe (sEvict.ttEntry 0) 8) 63 32 ∧
    bits (sEvict.memLe (sEvict.ttEntry 0 + 8) 8) 63 32 < bits (sEvict.memLe (sEvict.ttEntry 0) 8) 63 32 ∧
    oldest (sEvict.evictable 0) = some (0, 0x104000, 0x32FE07, 16, 0) ∧ bits (sEvict.memLe (sEvict.ttEntry 0 + 0x18) 8) 47 0 = 0x10000 ∧ movingPg.xinv = none ∧
    (movingPg.finishMove 0 0x104000 0x32FE07 16).2 = St.ok ∧
    (let u := (movingPg.finishMove 0 0x104000 0x32FE07 16).1
     bits (u.memLe (u.ttEntry 0) 8) 63 32 ≤ bits (u.memLe (u.ttEntry 0 + 8) 8) 63 32) := by
  refine ⟨by decide +kernel, by decide +kernel, by decide +kernel, by decide +kernel, by decide +kernel, by decide +kernel, by decide +kernel, ?_, by decide +kernel, by decide +kernel,
    by decide +kernel, by decide +kernel⟩
  unfold State.evictable
  rw [show sEvict.tasksOf 0 = [0] by decide +kernel]
  simp only [List.flatMap_cons, List.flatMap_nil, leaves_sEvict]
  decide +kernel

def sEvictWaits : State := { sEvict with
  evicting := some { tenant := 0, at_ := 0x104000, v := 0x32FE07, lg := 16 }
  xinv := some { scope := 2, task := 0, va := 0, pages := 1, waits := [] } }
theorem wit_PagerEvictWaits : (sEvictWaits.devRead (sEvictWaits.ttEntry 0) 32).1 = St.ok ∧ sEvictWaits.hostMode 0 = false ∧
    sEvictWaits.tack.takeover = false ∧ sEvictWaits.evictStopped = [] ∧ sEvictWaits.evicting.isSome = true ∧ sEvictWaits.xinv.isSome = true := by
  refine ⟨by decide +kernel, by decide +kernel, by decide +kernel, rfl, rfl, rfl⟩

theorem wit_AgerPass : fld (sEvict.dcsr (shedBase 0 + 0x30)) 7 0 ≠ 0 ∧ sEvict.xinv = none ∧
    (∀ j < 65536, j ≠ 0 → sEvict.memLe (fld (sEvict.dcsr (shedBase 0 + 8)) 44 20 * 2 ^ 20 + j * 8) 8 % 2 = 0) ∧
    apart (fld (sEvict.dcsr (shedBase 0 + 8)) 44 20 * 2 ^ 20) 524288 0x104000 8 ∧ sEvict.taskLeaves 0 = [(0x104000, 0x32FE07, 16, 0)] ∧ bits 0x32FE07 7 6 = 0 := by
  refine ⟨by decide +kernel, by decide +kernel, ?_, by unfold apart; decide +kernel, leaves_sEvict, by decide +kernel⟩
  intro j hj h0
  have hb : fld (sEvict.dcsr (shedBase 0 + 8)) 44 20 = 0 := by decide +kernel
  have hm : sEvict.mem.all (fun p => decide (p.1 < 8 ∨ 524288 ≤ p.1)) = true := by decide +kernel
  rw [hb]
  have := readLe_outside sEvict.mem 8 (0 * 2 ^ 20 + j * 8) (fun p hp => by
    have := List.all_eq_true.mp hm p hp
    simp only [decide_eq_true_eq] at this
    omega)
  simp only [State.memLe, this]

def loftReq (pa : Nat) : Req := endReq (0x1000000000000 + pa) pa 64 .read []
theorem wit_LoftReads :
    (localRegion (loftReq 0).addr = some (.loft 0) ∧ isGlobal (loftReq 0).addr = false ∧ (oneReq (sPg 0 0 []) (loftReq 0)).pageReads = [] ∧
      (oneReq (sPg 0 0 []) (loftReq 0)).loftFault (loftReq 0).pa = St.ok) ∧
    (loftEnd ≤ (loftReq loftEnd).pa ∧ localRegion (loftReq loftEnd).addr = some (.loft loftEnd)) ∧
    ((loftReq 0x10000).pa < loftEnd ∧ (sPg 0 0 []).loftWritten (loftReq 0x10000).pa = false ∧ ((sPg 0 0 []).loftChan 1).state ≠ 2) := by
  decide +kernel

/-- The loft job ring lies at 4 KiB with 16 entries, and its first entry writes unit 1 from 1 MiB. -/
def sRing (ws : List Nat) (js : List LoftJob) (segs : Map SegSt) : State :=
  { ((State.reset.setDcsr (shedBase 0 + 0x600) 0x1000).setDcsr (shedBase 0 + 0x608) 16) with
    mem := writeBytes [] 0x1000 (ws.flatMap (leBytes 8))
    jobs := js
    segs := segs }
def jobOf (op : Nat) : LoftJob := { idx := 0, op := op, la := 0x10000, pa := 0x100000, units := 1 }

theorem wit_LoftJobs_sound : soundMemory (sRing [1, 0x10000, 0x100000, 1] [] [(0, .opn 1)]) := ⟨by decide +kernel, rfl, chanOk_of rfl⟩

theorem wit_LoftJobs_tail : (let s := sRing [1, 0x10000, 0x100000, 1] [] [(0, .opn 1)]
    Memory.wf s.mem = true ∧ fld (s.dcsr (shedBase 0 + 0x608)) 12 0 ≠ 0 ∧ fld (1 : Word) 31 0 = (s.ljHead + 1) % 2 ^ 32 ∧
    s.ljEntry s.ljHead + 64 ≤ s.memBytes ∧ Map.wf devReset s.csr = true ∧ s.memLe (s.ljEntry s.ljHead) 8 % 256 ∈ [1, 2] ∧
    s.memLe (s.ljEntry s.ljHead + 8) 8 % 65536 = 0 ∧ 0 < s.memLe (s.ljEntry s.ljHead + 24) 8) := by
  decide +kernel
theorem wit_LoftJobs_run :
    (oneJob (sRing [] [jobOf 1] [(0, .opn 1)]) (jobOf 1) 1 ∧ ((sRing [] [jobOf 1] [(0, .opn 1)]).seg 0).wptr = some 1 ∧
      (jobOf 1).pa + (jobOf 1).units * 65536 ≤ (sRing [] [] []).memBytes) ∧
    ((sRing [] [jobOf 1] []).seg 0).wptr ≠ some ((jobOf 1).la % 2 ^ 30 / 65536) ∧
    (((sRing [] [jobOf 1] []).setLoftChan 3 { reserve := 0 }).loftChan 3).reserve = 0 ∧
    (oneJob (sRing [] [jobOf 2] [(0, .sealed)]) (jobOf 2) 2 ∧ (sRing [] [jobOf 2] [(0, .sealed)]).loftFault 0x10000 = St.ok) ∧
    (oneJob (sRing [] [jobOf 3] [(0, .sealed)]) (jobOf 3) 3 ∧ (sRing [] [jobOf 3] [(0, .sealed)]).seg 0 ≠ .erased ∧ (sRing [] [jobOf 3] [(0, .retired)]).seg 0 = .retired) ∧
    (oneJob (sRing [] [jobOf 4] [(0, .opn 1)]) (jobOf 4) 4 ∧ (sRing [] [jobOf 4] [(0, .opn 1)]).seg 0 = .opn 1 ∧ (sRing [] [jobOf 4] [(0, .sealed)]).seg 0 = .sealed) ∧
    (let s := { sRing [1] [{ jobOf 1 with res := some St.ok }] [] with ljHead := 0 }
     s.ljHead % 2 ^ 32 = fld (s.dcsr (shedBase 0 + 0x610)) 31 0 ∧ s.ljEntry 0 + 64 ≤ s.memBytes) := by
  unfold oneJob; decide +kernel

/-! ### Link layer and gates -/

def portUp : Port := { state := .up, good := 0x1FF, credit := [4096, 4096, 4096, 4096], peerValid := true }
def sPort (p : Nat) (x : Port) : State := State.reset.setPort p x
def pktTo (d : Nat) : Packet := { typ := 1, hops := 3, dst := d, src := 0x101, len := 8, addr := 0x1000, trk := true }
/-- Lane `l` alone has a closed eye. -/
def eyes (l : Nat) : List LaneSample := (List.range 9).map (fun i => { symerr := 0, eye := if i = l then 7 else 8, lock := true })

theorem wit_LinkPorts_train : ∀ p ∈ [0, 31],
    (Laws.canonicalB (sPort p {}) = true ∧ ((sPort p {}).port p).state = .training ∧ 4 ≤ (goodLanes 0x1E0).length ∧ (goodLanes 0x1E0).length < 8 ∧
      8 ≤ (goodLanes 0xFF).length) ∧
    ctlPlain (sPort p {}) p ∧ ((sPort p { state := .disabled }).port p).state = .disabled ∧ ctlPlain (sPort p { state := .disabled }) p ∧
    (bit ((sPort p { state := .down }).dcsr (linkBase p + 8)) 0 = true ∧ ((sPort p { state := .down }).port p).state = .down) ∧
    ((sPort p { state := .training, listening := true }).port p).listening = true := by
  unfold ctlPlain; decide +kernel
theorem wit_LinkPorts_spare : ∀ p ∈ [0, 31],
    Laws.canonicalB (sPort p portUp) = true ∧ ctlPlain (sPort p portUp) p ∧ bit ((sPort p portUp).dcsr (linkBase p + 8)) 0 = true ∧
    fullyUp ((sPort p portUp).port p) ∧ ((sPort p portUp).port p).carries = true ∧ ((sPort p portUp).port p).lossAt = none ∧
    ((sPort p { portUp with spareUsed := true }).port p).spareUsed = true := by
  unfold fullyUp ctlPlain; decide +kernel
theorem wit_LinkPorts_eyes (i : Nat) (y : LaneSample) (h : (eyes 7)[i]? = some y) :
    laneFails (fld ((sPort 31 portUp).dcsr (linkBase 31 + 0x10)) 3 0) y = decide (i = 7) ∧ y.lock = true := by
  have ht : fld ((sPort 31 portUp).dcsr (linkBase 31 + 0x10)) 3 0 = fld ((sPort 31 portUp).dcsr (linkBase 31 + 0x10)) 3 0 := rfl
  revert ht
  generalize fld ((sPort 31 portUp).dcsr (linkBase 31 + 0x10)) 3 0 = th
  intro _
  have hl : i < 9 := by
    have := (List.getElem?_eq_some_iff.mp h).1
    simpa [eyes] using this
  simp only [eyes, List.getElem?_map, List.getElem?_range hl, Option.map_some, Option.some.injEq] at h
  subst h
  simp only [laneFails, Nat.zero_mul]
  by_cases h7 : i = 7 <;> simp [h7]

def lpkt (hops : Nat) (typ : Nat) : Packet := { pktTo 0x2222 with hops := hops, typ := typ }
theorem wit_LinkLayer_receive : ((sPort 31 portUp).port 31).carries = true ∧ (1 : Nat) ≠ ((sPort 31 portUp).port 31).rxSeq ∧
    (typAssigned 1 = true ∧ (lpkt 3 1).hops ≠ 0) ∧
    ((lpkt 0 1).hops = 0 ∧ ¬ ((sPort 31 portUp).devidValid = true ∧ (lpkt 0 1).dst = (sPort 31 portUp).devid) ∧ (lpkt 0 1).isReq = true) ∧
    (typAssigned (lpkt 0 0x10).typ = true ∧ (lpkt 0 0x10).isReq = false) ∧ typAssigned 0x40 = false := by
  decide +kernel
def replaying : Port := { portUp with replay := [(3, lpkt 3 1), (4, lpkt 2 1)], want := some 4 }
theorem wit_LinkLayer_replay : replaying.replay = [(3, lpkt 3 1)] ++ (4, lpkt 2 1) :: [] ∧ (∀ e ∈ [(3, lpkt 3 1)], e.1 ≠ 4) ∧
    ((sPort 31 replaying).port 31).want = some 4 ∧ ((sPort 31 replaying).port 31).carries = true ∧
    ((sPort 31 { portUp with owe := [1, 0, 0, 0] }).port 31).owe ≠ [0, 0, 0, 0] := by
  decide +kernel
def sBeacon : State := { (sPort 31 portUp) with clk := 10000000, pwr := { State.reset.pwr with phase := 6 } }
theorem wit_LinkLayer_beacons : 6 ≤ sBeacon.pwr.phase ∧ (sBeacon.port 31).carries = true ∧ Config.serial + 1 ≠ Config.serial ∧
    (sBeacon.port 31).peerValid = true ∧ (sBeacon.port 31).beaconAt + 10000000 ≤ sBeacon.clk := by
  refine ⟨by decide +kernel, by decide +kernel, ?_, by decide +kernel, by decide +kernel⟩
  generalize Config.serial = x
  intro h
  bv_omega

/-- Gate `n` with this packet, port 9 up, and device 0x2222 reached by ports 9 and 31. -/
def sRoute (n : Nat) (k : Packet) : State :=
  { (State.reset.setGate n { inq := [k] }).setPort 9 portUp with routes := [(0x2222, 0x495F)] }
theorem wit_GateRouting_packets : ∀ n ∈ [0, 3],
    Laws.canonicalB (sRoute n (pktTo 0x2222)) = true ∧
    (((sRoute n (pktTo 0x2222)).gate n).inq = [pktTo 0x2222] ∧ ((sRoute n (pktTo 0x2222)).gate n).waitq = []) ∧
    ((sRoute n (pktTo 0x2222)).devidValid = false ∧ (sRoute n (pktTo 0x2222)).lookup n (pktTo 0x2222) = .port 9 false) ∧
    ((sRoute n (pktTo 0x2223)).lookup n (pktTo 0x2223) = .none ∧ (pktTo 0x2223).isReq = true) ∧
    (let s := (sRoute n (pktTo 5)).setDcsr (gateBase 0) (5 + 2 ^ 15)
     s.devidValid = true ∧ (pktTo 5).dst = s.devid ∧ typTaken (pktTo 5).typ = true) := by
  decide +kernel
theorem wit_GateRouting_registers : bit ((sRoute 3 (pktTo 5)).dcsr (gateBase 3 + 0x10)) 31 = false ∧
    windowOk ((sRoute 3 (pktTo 5)).window 63).1 ((sRoute 3 (pktTo 5)).window 63).2 = true ∧ bit (2 ^ 63 : Word) 63 = true ∧
    (let s := (sRoute 3 (pktTo 5)).setDcsr (gateBase 0 + 0x100 + 63 * 0x18) 0x200000000000
     windowOk (s.window 63).1 (s.window 63).2 = true) ∧
    (let s := ((sRoute 3 (pktTo 5)).setDcsr (gateBase 0 + 0x100 + 63 * 0x18) 0x200000000000).setDcsr (gateBase 0 + 0x108 + 63 * 0x18) 1
     windowOk (s.window 63).1 (s.window 63).2 = false) := by
  decide +kernel

/-! ### Remote requests -/

def tgtPkt (typ : Nat) (p : Priv) (addr : Nat) : Packet := { pktTo 5 with typ := typ, priv := p, addr := addr, trk := false, data := List.replicate 16 3, amop := 5 }
/-- Gate `n` has this packet for its device; window 63 starts at 0x10000, is 64 KiB long and has these bits in its CTL. -/
def sTgt (n : Nat) (k : Packet) (ctl : Word) : State :=
  ((State.reset.setGate n { tgt := [k] }).setDcsr (gateBase 0 + 0x100 + 63 * 0x18) 0x10000).setDcsr (gateBase 0 + 0x108 + 63 * 0x18) 1
    |>.setDcsr (gateBase 0 + 0x110 + 63 * 0x18) (place 63 63 1 ||| ctl)
def rights : Word := place 48 48 1 ||| place 49 49 1 ||| place 50 50 1
theorem wit_TargetServesRequests_windows : ∀ n ∈ [0, 3], ∀ typ ∈ [1, 2, 3],
    Laws.canonicalB (sTgt n (tgtPkt typ .kernel 0x1FFF0) rights) = true ∧
    ((sTgt n (tgtPkt typ .kernel 0x1FFF0) rights).gate n).tgt = [tgtPkt typ .kernel 0x1FFF0] ∧
    (List.range 64).find? (fun k => (sTgt n (tgtPkt typ .kernel 0x20000) rights).windowHolds k (tgtPkt typ .kernel 0x20000)) = none ∧
    (let s := sTgt n (tgtPkt typ .kernel 0x1FFF0) rights
     (List.range 64).find? (fun k => s.windowHolds k (tgtPkt typ .kernel 0x1FFF0)) = some 63 ∧ bit (rwinCtl s 63) (rightBit typ) = true ∧
       bit (rwinCtl s 63) 50 = true ∧ bit (rwinCtl s 63) 51 = false) ∧
    (let s := sTgt n (tgtPkt typ .task 0x10000) 1
     (List.range 64).find? (fun k => s.windowHolds k (tgtPkt typ .task 0x10000)) = some 63 ∧ (tgtPkt typ .task 0x10000).group ≠ fld (rwinCtl s 63) 15 0 ∧
       bit (rwinCtl s 63) (rightBit typ) = false) := by
  decide +kernel
def tackPkt (typ addr : Nat) : Packet := { tgtPkt typ .tack addr with len := 16 }
def lastPkt : Packet := { tackPkt 2 0xFF0 with trk := true, last := true, sigaddr := 0x2000, sigval := 1 }
theorem wit_TargetServesRequests_tack : (∀ typ ∈ [1, 2, 3], (sTgt 3 (tackPkt typ 0xFF0) 0).gate 3 = { tgt := [tackPkt typ 0xFF0] }) ∧
    amopOf (tackPkt 3 0xFF0).amop = some .casD ∧ (lastPkt.trk = true ∧ lastPkt.last = true ∧ lastPkt.pkt = 0) ∧
    (∀ m, ((sTgt 3 lastPkt 0).gate m).xfers = []) ∧ (sTgt 3 lastPkt 0).memUe = [] ∧ plainRange (sTgt 3 (tackPkt 3 0xFF0) 0) 0xFF0 (amopBytes 5) ∧
    plainRange (sTgt 3 lastPkt 0) 0xFF0 lastPkt.data.length ∧ plainRange (sTgt 3 lastPkt 0) 0x2000 8 := by
  refine ⟨by decide +kernel, by decide +kernel, by decide, ?_, rfl, ?_, ?_, ?_⟩
  · intro m
    have h := Laws.get_all (fun _ => ({} : Gate)) (sTgt 3 lastPkt 0).gates (fun g => g.xfers.isEmpty) (fun _ => rfl) (by decide +kernel) m
    exact List.isEmpty_iff.mp h
  all_goals unfold plainRange; decide +kernel

def globalReq (op : MemOp) (len : Nat) : Req :=
  { slotReq 0 with addr := 0x1000000001000, op := op, len := len, data := List.replicate len 0, phase := .global, path := [0] }
def trkEnt (held : Bool) : Trk := { owner := .req 0, gen := 2, pkt := { pktTo 0x2222 with tag := 6, gen := 2, addr := 0x1000000001000 }, at_ := 0, held := held }
def rspPkt (typ gen : Nat) (data : List Byte) : Packet := { typ := typ, dst := 5, src := 0x2222, tag := 6, gen := gen, len := data.length, data := data }
def sTrk (n : Nat) (e : Trk) (r : Req) (ps : List Packet) : State :=
  { (State.reset.setGate n { trk := [(6, some e)], tgt := ps }) with reqs := [(0, some r)], nextReq := 1, clk := 2 ^ 40 }
theorem wit_SourceTracksRequests_responses : ∀ n ∈ [0, 3],
    (let s := sTrk n (trkEnt false) (globalReq .read 8) [rspPkt 0x10 2 (List.replicate 8 1)]
     Laws.canonicalB s = true ∧ tracksOnly s n 6 (trkEnt false) 0 (globalReq .read 8) ∧ (s.gate n).tgt = [rspPkt 0x10 2 (List.replicate 8 1)] ∧
       (globalReq .read 8).data.length = (rspPkt 0x10 2 (List.replicate 8 1)).data.length) ∧
    (∀ typ ∈ [0x11, 0x12], let s := sTrk n (trkEnt false) (globalReq .write 8) [rspPkt typ 2 []]
     tracksOnly s n 6 (trkEnt false) 0 (globalReq .write 8) ∧ (s.gate n).tgt = [rspPkt typ 2 []]) ∧
    ((trkEnt false).gen = (rspPkt 0x10 2 []).gen ∧ (trkEnt false).pkt.dst = (rspPkt 0x10 2 []).src ∧ (trkEnt false).probed = false) ∧
    (let s := State.reset.setGate n { tgt := [rspPkt 0x10 2 []] }
     (s.gate n).tgt = [rspPkt 0x10 2 []] ∧ ∀ m < 4, (s.gate m).entry 6 = none) := by
  unfold tracksOnly; decide +kernel
theorem wit_SourceTracksRequests_limits :
    (∀ h ∈ [true, false], let s := sTrk 3 (trkEnt h) (globalReq .write 8) []
     tracksOnly s 3 6 (trkEnt h) 0 (globalReq .write 8) ∧ (trkEnt h).heldAt + fld (s.dcsr (gateBase 3 + 8)) 31 24 * 256 ≤ s.clk ∧
       (trkEnt h).at_ + 2 ^ fld (s.dcsr (gateBase 3 + 8)) 15 8 ≤ s.clk) ∧
    (let x : XferEnt := { src := 1, xfer := 2, at_ := 0 }
     let s := { State.reset.setGate 3 { xfers := [x] } with clk := 2 ^ 40 }
     (s.gate 3).xfers = [x] ∧ x.at_ + 2 * 2 ^ fld (s.dcsr (gateBase 3 + 8)) 15 8 ≤ s.clk) := by
  unfold tracksOnly; decide +kernel

/-! ### Sync -/

def event127 (v : Nat) : SyncObj := { kind := 1, value := v }
def sema (v : Nat) : SyncObj := { kind := 2, value := v }
def lock (held abandoned : Bool) (task : Nat) : SyncObj := { kind := 3, held := held, abandoned := abandoned, value := task }
def barrier (n v : Nat) : SyncObj := { kind := 4, count := n, value := v }
/-- Stall 0's sync queue stands at a command on its object 127, with RESULT at the last place. -/
def syncWords (op idx ls val res : Nat) : List Nat := [op, idx + ls * 256 + val * 2 ^ 32, res, 0, 0]
def syncStall (ws : List Nat) (x : SyncObj) : Stall :=
  { queues := [(4, { state := .running, lists := [lst 1], issued := 1, count := some 2 })]
    objs := Map.set (fun _ => {}) [] 127 x
    scratch := writeBytes [] 0x140 (ws.flatMap (leBytes 8)) }
def sSync (op val : Nat) (x : SyncObj) : State := State.reset.setStall 0 (syncStall (syncWords op 127 0 val 0x3FFFF0) x)
def syncReady (op val : Nat) (x : SyncObj) : Prop :=
  let s := sSync op val x
  let c := syncCmd s 0 op (lst 1) 0
  syncAt s 0 op (lst 1) 2 0 ∧ s.syncCheck (lst 1) (s.cmdNat 0 (lst 1) 0) = St.ok ∧ s.psOf c.ls = 0 ∧ (s.stall 0).obj c.index = x ∧ c.val = val ∧
    (s.stall 0).waitersOf c.index = 0 ∧ (s.stall 0).waiters.length < 256

theorem syncReady_of {op val : Nat} {x : SyncObj}
    (h : (let s := sSync op val x
          let c := syncCmd s 0 op (lst 1) 0
          ((s.queue 0 4).state = .running ∧ (s.queue 0 4).lists.head? = some (lst 1) ∧ (s.queue 0 4).count = some 2 ∧ (s.queue 0 4).cmdIdx = 0 ∧ 0 + 1 < 2 ∧
            (s.queue 0 4).pausing = false ∧ (s.queue 0 4).aborting = false ∧ (s.stall 0).pstate = .run ∧ s.cmdWord 0 (lst 1) 0 0 % 256 = op) ∧
          (∀ q ∈ [0, 1, 3], (s.queue 0 q).ctxs = []) ∧ (s.stall 0).sync = none ∧ s.scrGood 0 (0x100 + 64 + 64 * 0) 64 = true ∧
          s.envReady 0 (envOf (s.cmdWord 0 (lst 1) 0 0)) = true ∧ s.syncCheck (lst 1) (s.cmdNat 0 (lst 1) 0) = St.ok ∧ s.psOf c.ls = 0 ∧
          (s.stall 0).obj c.index = x ∧ c.val = val ∧ (s.stall 0).waitersOf c.index = 0 ∧ (s.stall 0).waiters.length < 256)) :
    syncReady op val x :=
  ⟨⟨h.1, h.2.1, h.2.2.1, h.2.2.2.1, h.2.2.2.2.1⟩, h.2.2.2.2.2⟩

theorem wit_SyncCommands_posts : Laws.canonicalB (sSync 0xA0 1 (event127 (2 ^ 32 - 1))) = true ∧ syncReady 0xA0 1 (event127 (2 ^ 32 - 1)) ∧
    (syncReady 0xA0 1 (sema (2 ^ 32 - 2)) ∧ (sema (2 ^ 32 - 2)).value + 1 < 2 ^ 32) ∧
    (syncReady 0xA0 1 (sema (2 ^ 32 - 1)) ∧ 2 ^ 32 ≤ (sema (2 ^ 32 - 1)).value + 1) := by
  exact ⟨by decide +kernel, syncReady_of (by decide +kernel), ⟨syncReady_of (by decide +kernel), by decide +kernel⟩, syncReady_of (by decide +kernel),
    by decide +kernel⟩
theorem wit_SyncCommands_waits : (syncReady 0xA1 5 (sema 5) ∧ 0 < 5 ∧ 5 ≤ (sema 5).value) ∧ (syncReady 0xA1 5 (sema 4) ∧ (sema 4).value < 5) ∧
    (syncReady 0xA1 5 (event127 (2 ^ 31 + 4)) ∧ ((event127 (2 ^ 31 + 4)).value + 2 ^ 32 - 5 % 2 ^ 32) % 2 ^ 32 < 2 ^ 31) ∧
    (syncReady 0xA1 5 (event127 4) ∧ 2 ^ 31 ≤ ((event127 4).value + 2 ^ 32 - 5 % 2 ^ 32) % 2 ^ 32) := by
  exact ⟨⟨syncReady_of (by decide +kernel), by decide +kernel⟩, ⟨syncReady_of (by decide +kernel), by decide +kernel⟩,
    ⟨syncReady_of (by decide +kernel), by decide +kernel⟩, syncReady_of (by decide +kernel), by decide +kernel⟩
theorem wit_SyncCommands_locks : syncReady 0xA2 0 (lock false false 0) ∧ syncReady 0xA2 0 (lock false true 0) ∧ syncReady 0xA2 0 (lock true false 1) ∧
    syncReady 0xA2 0 (lock true false 0) ∧ syncReady 0xA3 1 (lock true true 0) ∧ syncReady 0xA3 0 (lock false false 0) ∧ (lst 1).task = 0 := by
  refine ⟨?_, ?_, ?_, ?_, ?_, ?_, rfl⟩ <;> exact syncReady_of (by decide +kernel)
theorem wit_SyncCommands_others : (syncReady 0xA4 0 (barrier 2 0) ∧ (barrier 2 0).value % 65536 + 1 < (barrier 2 0).count) ∧
    (syncReady 0xA4 0 (barrier 2 1) ∧ (barrier 2 1).count ≤ (barrier 2 1).value % 65536 + 1) ∧ syncReady 0xA6 0 (sema 7) ∧
    syncReady 0xA0 1 {} ∧ syncReady 0xA1 1 {} ∧ syncReady 0xA2 0 {} ∧ syncReady 0xA3 0 {} ∧ syncReady 0xA4 0 {} := by
  exact ⟨⟨syncReady_of (by decide +kernel), by decide +kernel⟩, ⟨syncReady_of (by decide +kernel), by decide +kernel⟩, syncReady_of (by decide +kernel),
    syncReady_of (by decide +kernel), syncReady_of (by decide +kernel), syncReady_of (by decide +kernel), syncReady_of (by decide +kernel),
    syncReady_of (by decide +kernel)⟩

/-- A VAL in a reserved place fails the check of every sync command. -/
theorem wit_SyncCommands_refused : ∀ op ∈ [0xA0, 0xA1, 0xA2, 0xA3, 0xA4, 0xA5, 0xA6],
    (let s := State.reset.setStall 0 (syncStall (syncWords op 127 0 0 3) {})
     s.cmdWord 0 (lst 1) 0 0 % 256 = op ∧ s.scrGood 0 0x140 64 = true ∧ s.envReady 0 (envOf (s.cmdWord 0 (lst 1) 0 0)) = true ∧
       s.syncCheck (lst 1) (s.cmdNat 0 (lst 1) 0) ≠ St.ok ∧ (s.stall 0).sync = none) := by
  decide +kernel
theorem syncAt_of {s : State} {op : Nat}
    (h : ((s.queue 0 4).state = .running ∧ (s.queue 0 4).lists.head? = some (lst 1) ∧ (s.queue 0 4).count = some 2 ∧ (s.queue 0 4).cmdIdx = 0 ∧ 0 + 1 < 2 ∧
            (s.queue 0 4).pausing = false ∧ (s.queue 0 4).aborting = false ∧ (s.stall 0).pstate = .run ∧ s.cmdWord 0 (lst 1) 0 0 % 256 = op) ∧
          (∀ q ∈ [0, 1, 3], (s.queue 0 q).ctxs = []) ∧ (s.stall 0).sync = none ∧ s.scrGood 0 (0x100 + 64 + 64 * 0) 64 = true ∧
          s.envReady 0 (envOf (s.cmdWord 0 (lst 1) 0 0)) = true) : syncAt s 0 op (lst 1) 2 0 := h

/-- Barrier slot `b` of this device, with `n` members and this key at the master. -/
def xbarSet (s : State) (b n key : Nat) (x : Xbar) : State :=
  { ((s.setDcsr (xbarCfg b) (place 13 0 5 ||| place 16 16 1)).setDcsr (xbarCfg b + 8) (BitVec.ofNat 64 n)).setDcsr (xbarCfg b + 16) (BitVec.ofNat 64 key) with
    xbars := Map.set (fun _ => {}) s.xbars b x }
def res0 : XResult := { vand := 1, vor := 3, nmiss := 0, low := 0, status := St.ok }
def sXbarrive (x : Xbar) (devid : Word) : State :=
  (xbarSet (State.reset.setStall 0 (syncStall (syncWords 0xA5 15 0 0 0x40) {})) 15 2 0 x).setDcsr (gateBase 0) devid
theorem wit_SyncCommands_xbarrive :
    (∀ d ∈ [0, 5], ∀ x ∈ [({} : Xbar), { kept := some (0, res0) }],
      let s := sXbarrive x (BitVec.ofNat 64 d ||| place 15 15 (min d 1))
      s.syncCheck (lst 1) (s.cmdNat 0 (lst 1) 0) = St.ok ∧ s.devidValid = decide (d = 5) ∧ (syncCmd s 0 0xA5 (lst 1) 0).index = 15 ∧
        (s.xbar 15).kept = x.kept ∧ (syncCmd s 0 0xA5 (lst 1) 0).key = 0 ∧ s.gates = []) ∧
    syncAt (sXbarrive {} 5) 0 0xA5 (lst 1) 2 0 := by
  exact ⟨by decide +kernel, syncAt_of (by decide +kernel)⟩

/-! A command in the unit of stall 1, whose object stands in stall 0, where the command of stall 2 may wait. -/
def syncC (op ls : Nat) (ph : SyncPh) : SyncCmd :=
  { idx := 0, lst := lst 1, op := op, index := 127, ls := ls, val := 1, result := 0x3FFFF0, tmo := 5, key := 7, vote := 1, postEn := true, postEv := 31, ph := ph, start := 0 }
def unitStall (c : SyncCmd) : Stall :=
  { queues := [(4, { state := .running, lists := [lst 1], issued := 1, count := some 2 })]
    sync := some c }
def sUnit (c : SyncCmd) (o : Stall) : State :=
  { ((State.reset.setStall 0 o).setStall 1 (unitStall c)).setStall 2 (unitStall (syncC 0xA1 0 .waiting)) with clk := 10 }
def owner (w : List Waiter) : Stall := { objs := Map.set (fun _ => {}) [] 127 (event127 0), waiters := w }
theorem wit_SyncCompletion_arrive : ∀ w ∈ [([] : List Waiter), [{ obj := 127, ps := 2 }]],
    (let s := sUnit (syncC 0xA0 0 .toOwner) (owner w)
     Laws.canonicalB s = true ∧ (s.stall 1).sync = some (syncC 0xA0 0 .toOwner) ∧ s.psOf 0 = 0 ∧ (s.stall 0).pstate = .run ∧
       ((s.stall 0).obj 127).kind = 1 ∧ (s.stall 0).waiters = w ∧ (s.stall 2).sync = some (syncC 0xA1 0 .waiting) ∧
       ((event127 0).value + 1 + 2 ^ 32 - 1) % 2 ^ 32 % 2 ^ 32 < 2 ^ 31) := by
  decide +kernel
theorem wit_SyncCompletion_ends : ∀ e ∈ ([(syncC 0xA5 0 (.answer St.ok 1 2 true), owner []), (syncC 0xA2 0 (.answer St.syncTenant 0 0 false), owner []),
      (syncC 0xA1 0 .retry, owner []), (syncC 0xA1 0 .withdrawing, owner [{ obj := 127, ps := 1 }]), (syncC 0xA1 1 .waiting, owner [])] : List (SyncCmd × Stall)),
    syncRuns (sUnit e.1 e.2) 1 (lst 1) e.1 ∧ ((sUnit e.1 e.2).stall 0).waiters = e.2.waiters ∧ e.1.postEv < 32 ∧
    ((sUnit e.1 e.2).psOf 0 = 0 ∧ (sUnit e.1 e.2).psOf 1 = 1) ∧ e.1.start + 2 * e.1.tmo ≤ (sUnit e.1 e.2).clk := by
  unfold syncRuns noneStarted; decide +kernel
def sOwnWait : State := { State.reset.setStall 1 { unitStall (syncC 0xA1 1 .waiting) with waiters := [{ obj := 127, ps := 1 }] } with clk := 10 }
theorem wit_SyncCompletion_timeout : syncRuns sOwnWait 1 (lst 1) (syncC 0xA1 1 .waiting) ∧ (syncC 0xA1 1 .waiting).ph = .waiting ∧
    (syncC 0xA1 1 .waiting).tmo ≠ 0 ∧ (syncC 0xA1 1 .waiting).start + 2 * 5 ≤ sOwnWait.clk ∧ sOwnWait.psOf 1 = 1 ∧
    (sOwnWait.stall 1).waiters = [{ obj := 127, ps := 1 }] := by
  unfold syncRuns noneStarted; decide +kernel
theorem wit_SyncCompletion_objects : (∀ k, (State.reset.stall k).waiters = []) ∧ (State.reset.stall 287).pstate = .run ∧
    (5 ≤ fld (5 : Word) 2 0 ∧ fld (4 ||| place 31 16 256 : Word) 31 16 = 256 ∧ fld (4 ||| place 31 16 257 : Word) 31 16 = 257) ∧
    (let s := sOwnWait.setScsr 1 0x1900 127
     (s.stall 1).pstate = .run ∧ fld (s.scsr 1 0x1900) 6 0 = 127 ∧ (s.stall 1).waitersOf 127 ≠ 0) := by
  exact ⟨fun k => rfl, by decide +kernel⟩

def arrPkt (rank : Nat) (key : Word) : Packet := { typ := 0x30, dst := 5, src := 0x2222, trk := true, body := .arrival 15 rank key 0xF0 }
def relPkt (key : Word) : Packet := { typ := 0x31, dst := 5, src := 0x2222, trk := true, body := .release 15 key res0 }
def rank0 : Arrival := { rank := 0, dev := 5, vote := 0xFF }
/-- A packet for gate 3, and slot 15 with two members and key 9 at the master. -/
def sBar (p : Packet) (x : Xbar) : State := xbarSet (State.reset.setGate 3 { tgt := [p] }) 15 2 9 x
theorem wit_CrossDeviceBarriers_arrivals :
    (∀ key ∈ [7, 9, 11], let s := sBar (arrPkt 1 (BitVec.ofNat 64 key)) { cur := [rank0], firstAt := some 0 }
     Laws.canonicalB s = true ∧ (s.gate 3).tgt = [arrPkt 1 (BitVec.ofNat 64 key)] ∧ s.xbarEn 15 = true ∧ s.xbarKey 15 = 9 ∧
       (s.xbar 15).cur.length + 1 = s.xbarN 15 ∧ (s.xbar 15).nxt = [] ∧ (∀ y ∈ (s.xbar 15).cur, y.dev ≠ 0x2222 ∧ y.rank ≠ 1)) ∧
    (let s := sBar (arrPkt 1 9) {}
     (s.xbar 15).cur.length + 1 < s.xbarN 15 ∧ ∀ y ∈ (s.xbar 15).cur, y.dev ≠ 0x2222 ∧ y.rank ≠ 1) ∧
    (let s := sBar (arrPkt 1 9) { cur := [{ rank0 with dev := 0x2222 }] }
     (∃ y ∈ (s.xbar 15).cur, y.dev = 0x2222) ∧ (s.xbar 15).cur.length < s.xbarN 15) ∧
    ((7 : Word).toNat + 1 < (9 : Word).toNat ∧ (9 : Word).toNat + 1 < (11 : Word).toNat ∧ (9 : Word) ≠ BitVec.allOnes 64 ∧ (11 : Word) ≠ BitVec.allOnes 64) := by
  decide +kernel
def sBarLate : State :=
  { ((sBar (arrPkt 1 9) { cur := [rank0], firstAt := some 0 }).setDcsr (xbarCfg 15 + 8) (place 14 0 2 ||| place 39 32 10)) with clk := 1024 }
def sRelease (ph : SyncPh) : State := { sBar (relPkt 7) {} with stalls := [(0, unitStall { syncC 0xA5 0 ph with index := 15 })] }
theorem wit_CrossDeviceBarriers_others :
    ((sBarLate.xbar 15).firstAt = some 0 ∧ sBarLate.xbarEn 15 = true ∧ sBarLate.xbarLog2 15 = 10 ∧ 0 + 2 ^ 10 ≤ sBarLate.clk ∧
      (sBarLate.xbar 15).cur.length < sBarLate.xbarN 15 ∧ (sBarLate.xbar 15).nxt = []) ∧
    (((sRelease .atMaster).gate 3).tgt = [relPkt 7] ∧ (sRelease .atMaster).cmtAwaits 15 7 = false ∧
      ((sRelease .atMaster).stall 0).sync = some { syncC 0xA5 0 .atMaster with index := 15 } ∧ (syncC 0xA5 0 .atMaster).key = 7) ∧
    ((sRelease .toOwner).gate 3).tgt = [relPkt 7] ∧ State.reset.xbarEn 15 = false := by
  decide +kernel
theorem wit_CrossDeviceBarriers_kept : ∀ ps c, ((sRelease .toOwner).stall ps).sync = some c → c.ph ≠ .atMaster := by
  intro ps c h
  have := Laws.get_all (fun _ => ({} : Stall)) (sRelease .toOwner).stalls (fun t => match t.sync with | some d => decide (d.ph ≠ .atMaster) | none => true)
    (fun _ => rfl) (by decide +kernel) ps
  rw [show Map.get (fun _ => ({} : Stall)) (sRelease .toOwner).stalls ps = (sRelease .toOwner).stall ps from rfl, h] at this
  simpa using this

/-! ### Combiners -/

/-- A ring of 16 entries at 0x200000, with one of these words to take. -/
def sEnt (ws : List Nat) (m : Map Byte) : State :=
  { (((State.reset.setDcsr (combBase 0 + 0x100) 0x200000).setDcsr (combBase 0 + 0x108) 16).setDcsr (combBase 0 + 0x110) 1) with
    mem := writeBytes m 0x200000 (ws.flatMap (leBytes 8)) }
def entW (op rid epoch action : Nat) : Nat := op + rid * 2 ^ 32 + epoch * 2 ^ 48 + action * 2 ^ 56
/-- A descriptor: 1,000 BF16 elements of two contributors, rank 1 of two members, WINDOW 1. -/
def desc2 : List Byte := leBytes 4 1000 ++ leBytes 4 0 ++ leBytes 4 2 ++ leBytes 4 2 ++ leBytes 8 7 ++ leBytes 4 (1 + 2 ^ 16) ++ leBytes 4 1 ++
  leBytes 8 0x202000 ++ leBytes 8 0x300000 ++ leBytes 8 0
def openMem : Map Byte := writeBytes (writeBytes [] 0x201000 desc2) 0x202000 (leBytes 2 0x2222 ++ leBytes 2 0)
def red1 (epoch : Nat) (st : RedSt) : Red :=
  { rid := 9, epoch := epoch, entry := 0, nelem := 1000, fmt32 := false, rfmt32 := false, mean := false, nanProp := true, compat := false, sexp := 0,
    group := 0, ncontrib := 2, nmemb := 2, step := 7, rank := 1, window := 1, deadline := 1, members := [0x2222, 5], res := 0x300000, task := 0,
    tenant := 0, tok := none, dchk := 0x1234, state := st, contribAt := 4096, resultAt := 8192 }
def withRed (s : State) (r : Red) : State := { s with reds := [r], opened := [(9, r.epoch + 1)] }
def entOf (s : State) : RingEnt := s.ringHead.getD { idx := 0, st := 0, op := 0, w := fun _ => 0 }

theorem ringAt_of {s : State} {op : Nat} (h : (match s.ringHead with
    | some e => decide (e.st = St.ok ∧ e.op = op ∧ e.resBad = false)
    | none => false) = true) : ringAt s (entOf s) op := by
  unfold ringAt entOf
  cases hr : s.ringHead with
  | none => simp [hr] at h
  | some e => simp only [hr, decide_eq_true_eq] at h; exact ⟨rfl, h⟩

theorem wit_CombinerRing_open : Laws.canonicalB (sEnt [entW 1 9 255 0, 0x201000] openMem) = true ∧
    ringAt (sEnt [entW 1 9 255 0, 0x201000] openMem) (entOf (sEnt [entW 1 9 255 0, 0x201000] openMem)) 1 ∧
    (let s := sEnt [entW 1 9 255 0, 0x201000] openMem
     let bs := (s.devRead 0x201000 64).2
     (entOf s).w 1 % 64 = 0 ∧ s.devRead ((entOf s).w 1) 64 = (St.ok, bs) ∧ descBad (leNat bs) = false ∧
       s.devRead (rf (leNat bs) 0x20 44 0) (2 * rf (leNat bs) 0x0C 14 0) = (St.ok, leBytes 2 0x2222 ++ leBytes 2 0) ∧
       (halfWords (leBytes 2 0x2222 ++ leBytes 2 0)).getD (rf (leNat bs) 0x18 14 0) 0x10000 = s.devid ∧ s.reds = []) ∧
    (∃ r ∈ (withRed (sEnt [entW 1 9 255 0, 0x201000] openMem) (red1 3 .opn)).reds, r.rid = (entOf (sEnt [entW 1 9 255 0, 0x201000] openMem)).rid) := by
  exact ⟨by decide +kernel, ringAt_of (by decide +kernel), by decide +kernel, by decide +kernel⟩
theorem wit_CombinerRing_acts : ∀ e ∈ [(2, 0), (3, 0), (4, 0), (4, 1), (4, 2)],
    ringAt (sEnt [entW e.1 9 255 e.2, 0x300000] []) (entOf (sEnt [entW e.1 9 255 e.2, 0x300000] [])) e.1 ∧
    (sEnt [entW e.1 9 255 e.2, 0x300000] []).red 9 255 = none ∧ (entOf (sEnt [entW e.1 9 255 e.2, 0x300000] [])).rid = 9 ∧
    (entOf (sEnt [entW e.1 9 255 e.2, 0x300000] [])).action = e.2 ∧
    (∀ st ∈ [RedSt.opn, .held], (withRed (sEnt [entW e.1 9 255 e.2, 0x300000] []) (red1 255 st)).red
      (entOf (sEnt [entW e.1 9 255 e.2, 0x300000] [])).rid (entOf (sEnt [entW e.1 9 255 e.2, 0x300000] [])).epoch = some (red1 255 st) ∧
      (withRed (sEnt [entW e.1 9 255 e.2, 0x300000] []) (red1 255 st)).ringHead.isSome = true) := by
  intro e he
  simp only [List.mem_cons, List.not_mem_nil, or_false] at he
  rcases he with rfl | rfl | rfl | rfl | rfl <;> exact ⟨ringAt_of (by decide +kernel), by decide +kernel⟩
/-- Every block is closed, so DROP has nothing to close. -/
theorem wit_CombinerRing_drop : { red1 255 .held with blks := [(1, { st := .closedCount })], nelem := 1000 }.openOwned = [] ∧ (red1 255 .held).openOwned = [1] := by
  decide +kernel
def sDigest (n out : Nat) : State := sEnt [5, 0x300000, 0, n, out] []
theorem wit_CombinerRing_digest : (ringAt (sDigest 3 0x400020) (entOf (sDigest 3 0x400020)) 5 ∧ (entOf (sDigest 3 0x400020)).w 3 = 3 ∧
      (entOf (sDigest 3 0x400020)).w 4 % 32 = 0) ∧
    (ringAt (sDigest 0 0x400020) (entOf (sDigest 0 0x400020)) 5 ∧ (entOf (sDigest 0 0x400020)).w 3 = 0) ∧
    (ringAt (sDigest 3 0x400010) (entOf (sDigest 3 0x400010)) 5 ∧ (entOf (sDigest 3 0x400010)).w 4 % 32 ≠ 0) ∧
    ((sDigest 3 0).ring.filter (fun j => j.op = 5)).length < 4 := by
  exact ⟨⟨ringAt_of (by decide +kernel), by decide +kernel⟩, ⟨ringAt_of (by decide +kernel), by decide +kernel⟩,
    ⟨ringAt_of (by decide +kernel), by decide +kernel⟩, by decide⟩
def digestJob : RingJob := { idx := 0, op := 5, rid := 0, epoch := 0, addr := 0x300000, len := 3, out := 0x400020 }
def sDigesting : State := { sDigest 3 0x400020 with ring := [digestJob], combHead := 1 }
theorem wit_CombinerRing_digestComplete : sDigesting.ring = [digestJob] ∧
    sDigesting.unitRead .kernel 0 0 0x300000 3 = some (sDigesting, St.ok, [0, 0, 0]) ∧ soundMemory sDigesting ∧
    0x400020 + 32 ≤ sDigesting.memBytes ∧ sDigesting.ringEntry 0 + 64 ≤ sDigesting.memBytes ∧ apart 0x400020 32 (sDigesting.ringEntry 0) 64 := by
  refine ⟨rfl, by decide +kernel, ⟨by decide +kernel, rfl, chanOk_of rfl⟩, by decide +kernel, by decide +kernel, by unfold apart; decide +kernel⟩

def combPktTo (typ b : Nat) (data : List Byte) (bad : Bool) : Packet :=
  { typ := typ, dst := 5, src := 0x2222, trk := true, tag := 3, data := data, len := data.length, body := .comb 9 255 b false 0x1234 0x3FFF false false bad }
/-- Gate 3 has this packet, and the reduction 9 is open. -/
def sComb (p : Packet) (r : Red) : State := withRed ((State.reset.setGate 3 { tgt := [p] }).setDcsr (gateBase 0) (5 ||| place 15 15 1)) r
def ones (n : Nat) : List Byte := (List.range n).flatMap (fun _ => [0x80, 0x3F])
def blk1 (x : Blk) : Red := { red1 255 .opn with blks := [(1, x)] }
theorem wit_CombinerSums_packets : (∀ e ∈ [(0x20, 1), (0x21, 0), (0x22, 0)], ∀ x ∈ [({} : Blk), { n0 := 1 }, { n0 := 2 }, { st := .closedCount }],
    Laws.canonicalB (sComb (combPktTo e.1 e.2 [] true) (blk1 x)) = true ∧
    ((sComb (combPktTo e.1 e.2 [] true) (blk1 x)).gate 3).tgt = [combPktTo e.1 e.2 [] true] ∧
    (sComb (combPktTo e.1 e.2 [] true) (blk1 x)).reds.find? (fun y => y.rid = 9) = some (blk1 x) ∧
    (blk1 x).epoch + 1 ≤ Map.get zeroN (sComb (combPktTo e.1 e.2 [] true) (blk1 x)).opened 9 ∧
    Map.get zeroN (sComb (combPktTo e.1 e.2 [] true) (blk1 x)).ended 9 ≤ (blk1 x).epoch ∧ (combPktTo e.1 e.2 [] true).group = (blk1 x).group) ∧
    ∃ d n i x, (combPktTo 0x20 1 [] true).body = .comb 9 255 1 false 0x1234 d n i x := by
  exact ⟨by decide +kernel, _, _, _, _, rfl⟩
/-- The first contribution, the last, one too many, and one beyond the window. -/
theorem wit_CombinerSums_contributions :
    (∀ x ∈ [({} : Blk), { n0 := 1 }, { n0 := 2 }], (blk1 x).admits 1 = true ∧ ((blk1 x).blk 1).st = .opn ∧ ((blk1 x).halves (blk1 x).fmt32 1).contains false = true) ∧
    (({} : Blk).n0 < 2 ∧ ((blk1 {}).accumulate 1 false 0x2222 St.ok (ones 488)).full 1 = false) ∧
    ((blk1 { n0 := 1 }).accumulate 1 false 0x2222 St.ok (ones 488)).full 1 = true ∧ (blk1 { n0 := 1 }).ncontrib ≤ ((blk1 { n0 := 2 }).blk 1).count false ∧
    { blk1 {} with nelem := 512 * 20, window := 1 }.admits 18 = false ∧
    (elemsOf false ((blk1 {}).elems 1) (ones 488))[487]? = some 0x3F800000 ∧ Map.wf (fun _ => ({} : Acc)) ((blk1 {}).blk 1).acc = true ∧
    fp32.decode 0x3F800000 = .fin false 0x800000 (-23) := by
  decide +kernel
def resPkt : Packet := combPktTo 0x21 0 (ones 8) false
theorem wit_CombinerSums_results : (∀ x ∈ (sComb resPkt (blk1 {})).reds, (sComb resPkt (blk1 {})).unitAwake x.res = true) ∧ (0 : Nat) ∉ (blk1 {}).written ∧
    ((blk1 {}).halves (blk1 {}).rfmt32 0).length = 1 ∧
    (match ((sComb resPkt (blk1 {})).setGate 3 {}).unitWrite .kernel 0 0 0x300000 (ones 8) with
     | some (u, st) => decide (st = St.ok ∧ u.reds = [blk1 {}])
     | none => false) = true := by
  refine ⟨by decide +kernel, by decide, by decide +kernel, by decide +kernel⟩
def sCombLate (mode : Word) : State := { (withRed State.reset (red1 255 .opn)).setDcsr hostifBase mode with clk := 8192 }
theorem wit_CombinerSums_deadlines : (∀ m ∈ [0, 1], redOpen (sCombLate (BitVec.ofNat 64 (4 * m))) (red1 255 .opn) ∧
      (sCombLate (BitVec.ofNat 64 (4 * m))).hostMode 2 = decide (m = 1)) ∧
    (red1 255 .opn).contribAt ≤ 8192 ∧ (red1 255 .opn).openOwned ≠ [] ∧ (red1 255 .opn).resultAt ≤ 8192 ∧ (red1 255 .opn).left ≠ 0 ∧
    (red1 255 .opn).compat = false ∧ (red1 255 .opn).contribDone = false := by
  unfold redOpen; decide +kernel
def pushJob : RingJob := { idx := 1, op := 2, rid := 9, epoch := 255, addr := 0x500000, blocks := [0, 1] }
def sPushing : State := { (withRed State.reset (red1 255 .opn)).setDcsr (gateBase 0) (5 ||| place 15 15 1) with ring := [pushJob] }
theorem wit_CombinerSums_push : sPushing.ring = [pushJob] ∧ sPushing.nextPush 0 = some (pushJob, red1 255 .opn, 0) ∧ (red1 255 .opn).ownerOf 0 ≠ 1 ∧
    sPushing.devidValid = true ∧ sPushing.unitAwake 0x300000 = true ∧
    sPushing.unitRead .kernel 0 0 0x500000 1024 = some (sPushing, St.ok, List.replicate 1024 0) := by
  decide +kernel
def redDone : Red := { red1 255 .opn with written := [0, 1] }
def sRedDone : State := withRed ((State.reset.setDcsr (combBase 0 + 0x100) 0x200000).setDcsr (combBase 0 + 0x108) 16) redDone
theorem wit_CombinerSums_complete : sRedDone.reds.find? (fun x => x.rid = 9) = some redDone ∧ redDone.left = 0 ∧ redDone.copies = 0 ∧ sRedDone.ring = [] ∧
    soundMemory sRedDone ∧ sRedDone.ringEntry 0 + 64 ≤ sRedDone.memBytes := by
  exact ⟨by decide +kernel, by decide, rfl, rfl, ⟨by decide +kernel, rfl, chanOk_of rfl⟩, by decide +kernel⟩

/-! ### Training, commits -/

/-- Stall 287 with these step registers, and a list of task 0 on queue 0 where `busy`. -/
def sPass (w str : Word) (busy : Bool) : State :=
  let s := State.reset.setStall 287 (if busy then { queues := [(0, { state := .running, lists := [lst 1], issued := 1, count := some 2 })] } else {})
  (s.setScsr 287 0x1A00 w).setScsr 287 0x1A08 str
def streams : Word := place 63 63 1 ||| place 31 16 1 ||| place 47 32 2
theorem wit_TrainingPasses_pass : (∀ w ∈ [0, 1, 2, 8, 9, 0x10, 0x11, 0x19], Laws.canonicalB (sPass (BitVec.ofNat 64 w) streams false) = true ∧
      ((sPass (BitVec.ofNat 64 w) streams false).stall 287).pstate = .run ∧ (sPass (BitVec.ofNat 64 w) streams false).scsr 287 0x1A00 = BitVec.ofNat 64 w) ∧
    ((sPass 8 streams false).passReady 287 = true ∧ (sPass 0x19 streams false).passReady 287 = true ∧ (sPass 0 streams false).passReady 287 = false) ∧
    (bit (2 : Word) 1 = true ∧ bit (8 : Word) 3 = true ∧ (bit (1 : Word) 0 = true ∧ bit (1 : Word) 4 = false) ∧ bit (0x11 : Word) 4 = true ∧ bit (4 : Word) 2 = true) := by
  decide +kernel
theorem wit_TrainingPasses_streams : (sPass 0 streams true).streamBusy 287 0 = true ∧
    ((sPass 0 streams false).streamBusy 287 0 = false ∧ (sPass 0 streams false).streamBusy 287 1 = false ∧ (sPass 0 streams false).streamBusy 287 2 = false ∧
      (sPass 0 streams false).blockQ 287 = 0) ∧
    (bit streams 63 = true ∧ fld (place 63 63 1 : Word) 15 0 = fld (place 63 63 1 : Word) 31 16) ∧
    ¬ (bit streams 63 = true ∧ (fld streams 15 0 = fld streams 31 16 ∨ fld streams 15 0 = fld streams 47 32 ∨ fld streams 31 16 = fld streams 47 32)) ∧
    ((sPass 0 0 false).stall 287).triples = [] ∧ ((sPass 0 0 false).stall 287).flushing = [] := by
  decide +kernel
def triple0 : Triple := { half := 1, lgrp := 63, fmt := 7, nconv := 1, novf := 2, nflush := 3 }
def sFlush : State := (State.reset.setStall 287 { flushing := [triple0] }).setScsr 287 0x1A20 0x600000
theorem wit_TrainingPasses_flush : Laws.canonicalB sFlush = true ∧ (sFlush.stall 287).pstate = .run ∧ (sFlush.stall 287).flushing = [triple0] ∧ soundMemory sFlush ∧
    fld (sFlush.scsr 287 0x1A20) 44 12 * 4096 + triple0.half * 12288 + triple0.lgrp * 192 + triple0.fmt * 24 + 24 ≤ sFlush.memBytes := by
  exact ⟨by decide +kernel, by decide +kernel, by decide +kernel, ⟨by decide +kernel, rfl, chanOk_of rfl⟩, by decide +kernel⟩

/-- The commit controller in a state: step 255, attempt 1, the flip table of two entries at 0x100000, the journal at 0x80040, slot 15. -/
def sCmt (c : CmtSt) (cfg : Word) (m : Map Byte) : State :=
  let s := (xbarSet State.reset 15 2 9 {}).setDcsr (cmtBase + 8) (place 55 0 255 ||| place 63 56 1)
  let s := ((s.setDcsr (cmtBase + 0x10) 9).setDcsr (cmtBase + 0x18) (place 3 0 15 ||| place 31 24 20 ||| cfg)).setDcsr (cmtBase + 0x38) (0x100000 ||| place 63 48 2)
  { s.setDcsr (cmtBase + 0x40) 0x80040 with cmt := { state := c, vote := 3, votedAt := 5 }, mem := m }
theorem wit_journalOk : journalOk (sCmt .doubt 0 []) ∧ journalOk (sCmt .doubt 0x110 []) :=
  ⟨⟨⟨by decide +kernel, rfl, chanOk_of rfl⟩, by decide +kernel⟩, ⟨by decide +kernel, rfl, chanOk_of rfl⟩, by decide +kernel⟩
theorem wit_CommitRounds_states : ∀ c ∈ [CmtSt.idle, .opn, .preparing, .voted, .doubt, .committed, .aborted], Laws.canonicalB (sCmt c 0 []) = true ∧ (sCmt c 0 []).cmt.state = c := by
  decide +kernel
theorem wit_CommitRounds_open : ((sCmt .idle 0 []).cmtStep ≠ 0 ∧ (sCmt .idle 0 []).cmtEntries ≠ 0 ∧ (sCmt .idle 0 []).cmtJrnl ≠ 0 ∧
      (sCmt .idle 0 []).xbarEn (sCmt .idle 0 []).cmtSlot = true) ∧ State.reset.cmtStep = 0 ∧ State.reset.cmt.state = .idle ∧ (sCmt .idle 0 []).hostMode 3 = false ∧
    (sCmt .idle 0 []).drainDue = false ∧ ((sCmt .idle 0 []).setDcsr (cmtBase + 0x58) (1 ||| place 31 8 5)).drainDue = true := by
  decide +kernel
theorem wit_CommitRounds_votes : (sCmt .preparing 0 []).voteReady = true ∧ { sCmt .preparing 0 [] with cmt := { state := .preparing, ckState := 1 } }.voteReady = false ∧
    (sCmt .voted 0 []).clk < (sCmt .voted 0 []).cmt.votedAt + 2 ^ fld (sCmt .voted 0 []).cmtCfg 31 24 ∧
    (let s := { sCmt .voted 0 [] with clk := 5 + 2 ^ 20 }
     s.cmt.votedAt + 2 ^ fld s.cmtCfg 31 24 ≤ s.clk) := by
  decide +kernel
def voteRes (a o n : Nat) (st : Status) : XResult := { vand := BitVec.ofNat 32 a, vor := BitVec.ofNat 32 o, nmiss := n, low := 0, status := st }
def cmtPkt (r : XResult) : Packet := { typ := 0x31, dst := 5, src := 0x2222, trk := true, body := .release 15 9 r }
def sDecide (cfg : Word) (r : XResult) : State := (sCmt .voted cfg []).setGate 3 { tgt := [cmtPkt r] }
/-- Native and compatible rounds: all agree, some do not, and one member is missing, as many as the compatible round allows. -/
theorem wit_CommitRounds_releases : ∀ e ∈ [((3, 3), 0), ((1, 3), 0), ((3, 3), 1), ((3, 3), 2)], ∀ cfg ∈ [0, 16 + 256],
    (let r := voteRes e.1.1 e.1.2 e.2 (if e.2 = 0 then St.ok else St.syncBarMissing)
     let s := sDecide (BitVec.ofNat 64 cfg) r
     (s.gate 3).tgt = [cmtPkt r] ∧ (cmtPkt r).body = .release s.cmtSlot s.cmtKey r ∧ s.cmt.state = .voted ∧ s.stalls = [] ∧
       bit s.cmtCfg 4 = decide (cfg ≠ 0) ∧
       decide ((r.vand.toNat ^^^ r.vor.toNat) &&& 0xFFFFFF10 = 0 ∧ r.vand.toNat % 4 = 3) = decide (e.1.1 = 3) ∧
       (cfg ≠ 0 → (r.nmiss ≤ fld s.cmtCfg 23 8 ↔ e.2 ≤ 1))) := by
  decide +kernel

/-- A good journal of the round in each phase. -/
def sJournal (phase : Nat) : State := sCmt .idle 0 (writeBytes [] 0x80040 (journal phase 1 255 9 3))
theorem wit_CommitRecovery_finish : (sCmt .opn 0 []).cmt.state ≠ .idle ∧ (∀ phase ∈ [1, 2, 3, 4, 5],
      (let s := sJournal phase
       let j := s.memLe s.cmtJrnl 64
       Laws.canonicalB s = true ∧ s.cmt.state = .idle ∧ rf j 0 7 0 = phase ∧ rf j 0x18 63 32 = crc32c (s.memRead s.cmtJrnl 28) ∧ Memory.wf s.mem = true ∧
         s.cmtJrnl + 64 ≤ s.memBytes)) ∧
    (let s := sCmt .idle 0 []
     rf (s.memLe s.cmtJrnl 64) 0 7 0 = 0) := by
  decide +kernel
/-- The first entry of the table has been registered by the step, the second by another. -/
def flipMem : Map Byte := writeBytes (writeBytes [] 0x100000 (leBytes 8 (255 + 2 ^ 40) ++ leBytes 8 1)) 0x100040 (leBytes 8 (254 + 2 ^ 40) ++ leBytes 8 1)
theorem wit_CommitRecovery_flip : (let s := sCmt .flipping 0 flipMem
      s.cmt.state = .flipping ∧ Memory.wf s.mem = true ∧ s.cmtTable + 64 * s.cmtEntries ≤ s.memBytes ∧ apart s.cmtTable (64 * s.cmtEntries) s.cmtJrnl 64 ∧
        (let e := s.memLe (s.cmtTable + 64 * 0) 64
         rf e 8 0 0 = 1 ∧ rf e 0 47 0 = s.cmtStep % 2 ^ 40 + s.cmtAttempt * 2 ^ 40 ∧ s.cmt.finishing = false) ∧
        (let e := s.memLe (s.cmtTable + 64 * 1) 64
         rf e 0 47 0 ≠ s.cmtStep % 2 ^ 40 + s.cmtAttempt * 2 ^ 40)) ∧
    journalOk (sCmt .flipping 0 flipMem) := by
  refine ⟨by unfold apart; decide +kernel, ⟨by decide +kernel, rfl, chanOk_of rfl⟩, by decide +kernel⟩
/-- A drain under way, and one whose log area is not aligned. -/
def sDrain (la : Word) : State := (({ sCmt .opn 0 [] with cmt := { state := .opn, ckState := 1, ckStep := 255 } }.setDcsr (cmtBase + 0x60) la).setDcsr (cmtBase + 0x68) 0x700000)
theorem wit_CommitRecovery_drain : (sDrain 0x40000000).cmt.ckState ≠ 0 ∧ (sDrain 64).cmt.ckState ≠ 0 ∧ ((sDrain 64).drain none).2.1 ≠ St.ok := by
  decide +kernel

/-! ### Arbiters and interrupts -/

def sArb (k i : Nat) (a : ArbInst) : State := State.reset.setArb (arbKey k i) a
def arb0 (o : Option (Nat × Nat)) (granted frozen : Bool) : ArbInst := { lfsr := 0x12345678, owner := o, granted := granted, frozen := frozen }
/-- The last instance of each kind, idle, frozen, with a privileged owner, with another, and parked. -/
theorem wit_ArbiterDraws : (∀ e ∈ [(0, 271), (1, 31), (2, 18431)], ∀ f ∈ [false, true], ∀ o ∈ [none, some (7, 0), some (0, 63)], ∀ gr ∈ [false, true],
      e.2 < arbCount e.1 ∧ (sArb e.1 e.2 (arb0 o gr f)).arb (arbKey e.1 e.2) = arb0 o gr f ∧ (arb0 o gr f).ignored = none) ∧
    (arbCount 0 ≤ 272 ∧ arbCount 3 ≤ 0) ∧ (arbPriv 2 7 = true ∧ arbPriv 2 0 = false) ∧
    (∀ r ∈ [(7, 0), (0, 63), (0, 0)], r.1 < 8) ∧ [(7, 0), (0, 0)].filter (· ≠ (0, 0)) ≠ [] := by
  decide +kernel
theorem wit_ArbiterControl : (arbCount (fld (0x3 : Word) 1 0) ≤ fld (0x3 : Word) 22 8 ∧ arbCount (fld (place 22 8 272 : Word) 1 0) ≤ fld (place 22 8 272 : Word) 22 8) ∧
    fld (place 31 31 1 ||| place 22 8 271 : Word) 22 8 < arbCount (fld (place 31 31 1 ||| place 22 8 271 : Word) 1 0) ∧
    (let s := withReq (sArb 0 271 { arb0 (some (7, 63)) true false with wait := 2 ^ 20 }) (endReq scrAddr 0x1000 8 .read [])
     Laws.canonicalB s = true ∧ (s.arb (arbKey 0 271)).owner = some (7, 63) ∧ 2 ^ 20 ≤ (s.arb (arbKey 0 271)).wait ∧
       s.req 0 = some (endReq scrAddr 0x1000 8 .read []) ∧ (endReq scrAddr 0x1000 8 .read []).phase = .endpoint ∧ s.tack.agg.length < 1024) ∧
    (sArb 0 271 (arb0 none false false)).arb (arbKey 0 271) = arb0 none false false ∧ (arb0 none false false).wait < 2 ^ 20 := by
  decide +kernel

/-- The groom in context 0 takes interrupts, and software source 0 is aimed at it. -/
def gIrq : Groom := { gRun with ie := true }
def sIrq : State := irqState (State.reset.setGroom 0 gIrq)
def sIrqStarted (g : Groom) (swi : Word) : State := { irqState (State.reset.setGroom 0 g) with started := [{ src := 1088, g := 0, t0 := 0 }], swi := swi }
theorem wit_InterruptDelivery_start : Laws.canonicalB sIrq = true ∧ waiting sIrq 1088 ∧ sIrq.pendingSrcs = [1088] ∧ sIrq.candidates 1088 = [0] ∧
    State.reset.pendingSrcs = [] := by
  unfold waiting; decide +kernel
theorem wit_InterruptDelivery_arrive : ∀ e ∈ [(gIrq, 1), (gIrq, 0), (gRun, 1), ({ gIrq with exl := true }, 1)],
    (let s := sIrqStarted e.1 (BitVec.ofNat 64 e.2)
     s.started.find? (fun x => x.src = 1088) = some { src := 1088, g := 0, t0 := 0 } ∧ ready s (s.gctx 0) ∧ (s.groom (s.gctx 0)).asyncErr = [] ∧
       s.csrLoadOut (s.gctx 0) = false ∧ s.asserted 1088 = decide (e.2 = 1) ∧ s.groom (s.gctx 0) = e.1) := by
  unfold ready; decide +kernel
theorem wit_InterruptDelivery_registers : 1151 < fld (1152 : Word) 10 0 ∧ fld (1151 : Word) 10 0 ≤ 1151 := by decide

/-! ### The host interface -/

def hostKey : List Byte := List.replicate 32 7
/-- A request of halter with its AUTH under the session's key. -/
def hostReq (op sess seq : Nat) (params : List Byte) : List Byte :=
  let h := leBytes 1 1 ++ leBytes 1 0 ++ leBytes 2 op ++ leBytes 4 sess ++ leBytes 4 seq ++ leBytes 2 0 ++ leBytes 2 params.length
  h ++ authOf hostKey (h ++ List.replicate 16 0 ++ params) ++ params
def sess1 (mgmt : Bool) : Sess :=
  { mgmt := mgmt, key := hostKey, src := 1, n := 100, cache := [(100, [1]), (37, [2])], hnonce := [], openAt := 0, firstReply := [], lastAt := 0 }
/-- PHASE 7, and session 1 is open. -/
def sHost (mgmt : Bool) : State := { State.reset.setSession 1 (some (sess1 mgmt)) with pwr := { State.reset.pwr with phase := 7 }, nextSess := 2 }
def hPkt (op sess seq : Nat) (params : List Byte) : HalterPkt := { bytes := hostReq op sess seq params, mgmt := true, src := 77 }
theorem served_iff (s : State) : served s ↔ (s.tack.takeover = false ∧ s.hostServed = true) := Iff.rfl

theorem wit_HalterPackets_early : Laws.canonicalB (sHost true) = true ∧ ¬ served State.reset ∧ served (sHost true) ∧ hVer [2] ≠ 1 ∧
    (hVer [1] = 1 ∧ ¬ wellSized [1]) ∧ (∀ e ∈ [(2, 0, 0), (2, 9, 0), (1, 0, 0)], wellSized (hostReq e.1 e.2.1 e.2.2 [])) ∧
    (hSession (hostReq 2 0 0 []) = 0 ∧ hOpcode (hostReq 2 0 0 []) ≠ 1) ∧ (hSession (hostReq 2 9 0 []) ≠ 0 ∧ (sHost true).session 9 = none) ∧
    (hSession (hostReq 1 0 0 []) = 0 ∧ hOpcode (hostReq 1 0 0 []) = 1 ∧ hSeq (hostReq 1 0 0 []) = 0 ∧ (sHost true).session 0 = none ∧
      (sHost true).cpFull true = false) := by
  simp only [served_iff]; unfold wellSized; decide +kernel
/-- SEQ values at every boundary, in a session that has taken 100. -/
theorem wit_HalterPackets_session : ∀ seq ∈ [36, 37, 100, 101, 102, 116, 117],
    (let l := hostReq 3 1 seq []
     wellSized l ∧ hSession l = 1 ∧ hSeq l = seq ∧ (l.drop 16).take 16 = authOf hostKey l ∧ ((l.take 16 ++ List.replicate 16 0).drop 16).take 16 ≠
       authOf hostKey (l.take 16 ++ List.replicate 16 0)) := by
  unfold wellSized; decide +kernel
def cmdH (op seq : Nat) (params : List Byte) : CpCmd :=
  { session := 1, seq := seq, opcode := op, params := params, src := 77, mgmt := true, raw := leBytes 8 0 ++ leBytes 8 0 }
def sFull : State := { sHost true with cpq := List.replicate 256 (cmdH 3 5 []) }
theorem wit_HalterPackets_queue : (sHost true).session 1 = some (sess1 true) ∧ (sHost true).cpFull true = false ∧ (sess1 true).hold = [] ∧
    (∀ x ∈ (sHost true).cpq ++ [cmdH 3 101 []], hostOpDefined x.opcode = true) ∧ (sFull.session 1 = some (sess1 true) ∧ sFull.cpFull true = true) ∧
    (sess1 true).cache.find? (fun e => e.1 = 37) = some (37, [2]) ∧ (sess1 true).cache.find? (fun e => e.1 = 100) = some (100, [1]) ∧
    (sHost true).clk < (sess1 true).lastAt + 150000000000 ∧
    (let s := { sHost true with clk := 150000000000 }
     (sess1 true).lastAt + 150000000000 ≤ s.clk) := by
  decide +kernel

/-- The command processor's head is this command, and another waits behind it. -/
def sCp (c : CpCmd) : State := { sHost c.mgmt with cpq := [c, cmdH 3 9 []] }
def hostReady (op : Nat) (params : List Byte) : Prop := hostAt (sCp (cmdH op 8 params)) (cmdH op 8 params) [cmdH 3 9 []] (sess1 true) op
theorem wit_HostChecks :
    (∀ op ∈ [6, 7, 0x302, 0x303, 0x403, 0x501, 0x502, 0x601, 0x602], (let c := { cmdH op 8 [] with mgmt := false }
      (sCp c).cpq = c :: [cmdH 3 9 []] ∧ (sCp c).session 1 = some (sess1 false) ∧ c.opcode = op ∧ (sCp c).tack.takeover = false ∧ c.mgmt = false)) ∧
    (∀ op ∈ sizedRows.map (fun e => e.2.1), (let c := { cmdH op 8 (List.replicate 1500 0) with raw := leBytes 8 (2 ^ 8) ++ leBytes 8 0 }
      (sCp c).session 1 = some (sess1 true) ∧ hReserved c.raw = true)) ∧
    (∀ e ∈ sizedRows.map (fun e => e.2.2.1), (List.replicate 1500 (0 : Byte)).length ≠ e) ∧ hReserved (cmdH 3 8 []).raw = false ∧
    (∀ op ∈ [0x301, 0x404], ({ sCp (cmdH op 8 []) with pwr := { State.reset.pwr with phase := 6 } } : State).earlyOk op = false) ∧
    (cmdH 3 8 []).opcode ≠ 2 := by
  decide +kernel

/-! ### Commands of the host: the device -/

def nonce1 : List Byte := List.replicate 16 9
/-- SESSION_OPEN of the MGMT role by credential 0, which bank 0 holds. -/
def openParams : List Byte := [1, 0, 0, 0] ++ nonce1
def openCmd : CpCmd := { session := 0, seq := 0, opcode := 1, params := openParams, src := 77, mgmt := true, raw := hostReq 1 0 0 openParams }
def credBank : Bank := { recBank with recs := [{ typ := 4, bytes := hostKey ++ [3], sigOk := true }] }
def sOpening : State := { (sHost true).setBank 0 credBank with cpq := [openCmd, cmdH 3 9 []] }
theorem wit_HostDeviceCommands_open : Laws.canonicalB sOpening = true ∧ sOpening.nextSess ≠ 0 ∧ sOpening.openKey openCmd = some hostKey ∧ hReserved openCmd.raw = false ∧
    hb openParams 1 1 = 0 ∧ openParams.length = 20 ∧ (∀ e ∈ sOpening.sess, ∀ x ∈ e.2, x.hnonce ≠ (openParams.drop 4).take 16) ∧
    sOpening.sessCount false + sOpening.sessCount true < 64 ∧ sOpening.tack.takeover = false := by
  decide +kernel

def deviceCmds : List (Nat × List Byte) :=
  [(2, []), (3, []), (4, leBytes 8 (devSpace + hostifBase) ++ [1]), (5, leBytes 8 (devSpace + hostifBase) ++ leBytes 8 1), (6, [0x7F, 0]), (6, [0x80, 0]),
   (7, [0, 0] ++ leBytes 2 513 ++ leBytes 4 287), (7, [1, 0, 0, 0] ++ leBytes 4 0), (7, [2, 0, 0, 0] ++ leBytes 4 135),
   (0x101, leBytes 2 0xFFFF ++ leBytes 2 1024 ++ leBytes 8 0xC00), (0x102, leBytes 2 0xFFFF ++ leBytes 2 1 ++ leBytes 8 0xFFF ++ [5]),
   (0x103, [135]), (0x104, [135]), (0x105, [3, 31]), (0x106, leBytes 8 (3 * 2 ^ 32) ++ leBytes 8 0 ++ leBytes 8 0x200000000000), (0x107, [0, 0, 0, 0]),
   (0x108, [1, 2] ++ leBytes 4 0 ++ leBytes 2 4096 ++ List.replicate 28 0), (0x109, leBytes 4 767)]
theorem wit_hostAt_device : ∀ e ∈ deviceCmds, hostReady e.1 e.2 := by
  unfold hostReady hostAt; decide +kernel
/-- The session of the CTRL role. -/
theorem wit_hostAt_ctrl : ∀ e ∈ deviceCmds.filter (fun e => e.1 = 0x101 ∨ e.1 = 0x102),
    (let c := { cmdH e.1 8 e.2 with mgmt := false }
     hostAt (sCp c) c [cmdH 3 9 []] (sess1 false) e.1) := by
  unfold hostAt; decide +kernel
theorem wit_HostDeviceCommands_registers :
    (match (taken (sCp (cmdH 4 8 [])) []).hostCsrRead .tack (devSpace + hostifBase) with | some (_, st, _) => decide (st = St.ok) | none => false) = true ∧
    (match (taken (sCp (cmdH 4 8 [])) []).hostCsrRead .task (devSpace + hostifBase) with | some (_, st, _) => decide (st ≠ St.ok) | none => false) = true ∧
    (match (taken (sCp (cmdH 5 8 [])) []).hostCsrWrite .tack (devSpace + hostifBase) 1 with | some (_, st) => decide (st = St.ok) | none => false) = true := by
  decide +kernel
def sSpare (m : Word) : State := (State.reset.setDcsr hostifBase 0x40).setScsr 287 0x1420 m
theorem wit_HostDeviceCommands_spares : (sSpare 0).hostMode 6 = true ∧
    (bypassed ((sSpare 0).scsr 287 0x1420) 513 = false ∧ colsLeft ((sSpare 0).scsr 287 0x1420) ≠ 0) ∧
    (let s := sSpare (place 10 10 1 ||| place 26 26 1)
     bypassed (s.scsr 287 0x1420) 513 = false ∧ colsLeft (s.scsr 287 0x1420) = 0) ∧
    ((sSpare 0).healthOf 287 ≠ .active ∧ (sSpare 0).healthOf 0 = .active ∧ (∃ x, x < 288 ∧ 64 ≤ x % 72 ∧ (sSpare 0).healthOf x = .spare) ∧ (sSpare 0).tack.todo = []) ∧
    ((State.reset.chan 102).state = 0 ∧ State.reset.spareChan (102 / 34) = some 32) ∧
    (((State.reset.setChan 134 { chanDflt 134 with state := 0 }).setChan 135 { chanDflt 135 with state := 0 }).spareChan (102 / 34) = none) := by
  refine ⟨by decide +kernel, by decide +kernel, by decide +kernel, ⟨by decide +kernel, by decide +kernel, ⟨64, by decide +kernel⟩, rfl⟩, by decide +kernel,
    by decide +kernel⟩
theorem wit_HostDeviceCommands_memory : plainRange State.reset 0xC00 1024 ∧ plainRange State.reset 0xFFF 1 ∧ (1 : Nat) ≤ 1024 := by
  unfold plainRange; decide +kernel
theorem wit_HostDeviceCommands_bays : (State.reset.chan 135).state = 1 ∧ (State.reset.chan 0).state = 0 ∧ 1 < (bayEmpty.chan 135).state ∧
    State.reset.lcServed 3 31 = true ∧
    (let s := State.reset.setChan (102 + 31) { chanDflt (102 + 31) with state := 5 }
     s.lcServed 3 31 = false ∧ s.spareChan 3 = some 32) ∧
    (let s := ((State.reset.setChan (102 + 31) { chanDflt (102 + 31) with state := 5 }).setChan 134 { chanDflt 134 with state := 4 }).setChan 135 { chanDflt 135 with state := 4 }
     s.lcServed 3 31 = false ∧ s.spareChan 3 = none) := by
  decide +kernel
def mr0 : Mr := { task := 0, tenant := 0, rights := 3, addr := 0, len := 4096 }
def qp0 (p : Nat) : Option Qp := (match execQpCreate (sCp (cmdH 0x108 8 ([BitVec.ofNat 8 p, 2] ++ leBytes 4 0 ++ leBytes 2 4096 ++ List.replicate 28 0))) with
  | .next t => Map.get noneOf t.qps (256 * (p + 1))
  | _ => none)
theorem wit_HostDeviceCommands_roce :
    (∀ e ∈ deviceCmds.filter (fun e => e.1 = 0x106), hb e.2 4 1 ≤ 3 ∧ hb e.2 5 3 = 0 ∧ mrOk (hb e.2 8 8) (hb e.2 16 8) = true) ∧
    (∀ e ∈ deviceCmds.filter (fun e => e.1 = 0x108), qpOk e.2 = true) ∧ Map.get noneOf State.reset.mrs 0 = none ∧
    freeEntry State.reset.qps 512 256 = some 512 ∧ Map.get noneOf State.reset.qps 767 = none ∧
    Map.get noneOf (Map.set noneOf [] 4095 (some mr0)) 4095 ≠ none := by
  decide +kernel
/-- Every entry is in use. -/
theorem wit_HostDeviceCommands_full : (∀ i, i < 4096 → Map.get noneOf ((List.range 4096).map (fun i => (i, some mr0))) i ≠ none) ∧
    freeEntry ((List.range 256).map (fun i => (512 + i, qp0 1))) 512 256 = none := by
  refine ⟨?_, by decide +kernel⟩
  intro i hi
  have : ∀ (l : List Nat), i ∈ l → Map.get noneOf (l.map (fun i => (i, some mr0))) i ≠ none := by
    intro l
    induction l with
    | nil => simp
    | cons a l ih =>
      intro h
      by_cases ha : a = i
      · subst ha; simp [Map.get]
      · simp only [List.map_cons, Map.get, if_neg ha]
        exact ih (by simpa [Ne.symm ha] using h)
  exact this _ (by simpa using hi)

/-! ### Commands of the host: the units -/

def unitCmds : List (Nat × List Byte) :=
  [(0x201, [255, 0, 0, 0] ++ leBytes 8 dbWord.toNat), (0x202, leBytes 2 4095 ++ leBytes 2 0 ++ leBytes 4 0x3FFFFC), (0x203, leBytes 2 4095 ++ [0]),
   (0x203, leBytes 2 4095 ++ [1]), (0x204, [255, 4, 3]), (0x205, leBytes 2 65535), (0x301, []), (0x302, leBytes 2 16383),
   (0x303, leBytes 2 16382 ++ leBytes 2 2 ++ leBytes 8 0), (0x304, [63, 0, 0, 0] ++ List.replicate 24 0), (0x305, [15, 0, 0, 0] ++ List.replicate 24 0),
   (0x306, [31, 3, 7]), (0x401, [1, 1]), (0x402, [3]), (0x403, leBytes 8 0), (0x404, []), (0x501, []), (0x502, leBytes 2 3900), (0x503, [0xFF, 4]),
   (0x503, [255, 0]), (0x601, leBytes 4 0x1FFFFBF ++ leBytes 2 1 ++ [0, 0, 7]), (0x601, leBytes 4 0x1FFFFC0 ++ leBytes 2 1 ++ [0, 0, 7]), (0x602, leBytes 4 100),
   (0x603, List.replicate 32 5), (0x604, leBytes 4 0xFFFFF), (0x701, [3]), (0x702, leBytes 4 0xFFFFFFFF), (0x703, leBytes 4 9)]
theorem wit_hostAt_units : ∀ e ∈ unitCmds, hostReady e.1 e.2 := by
  unfold hostReady hostAt; decide +kernel
def sUnitCp (op : Nat) : State := (taken (sCp (cmdH op 8 [])) [cmdH 3 9 []]).setNode 0 { fenced := false }
/-- An awake stall's pages answer, those behind a closed port with a failure, and a page asleep does not. -/
theorem wit_HostUnitCommands_pages :
    ((sUnitCp 0x201).hostCsrWrite .tack (stallWin 0 + 0x8000000 + 0x240) dbWord).isSome = true ∧
    (((sUnitCp 0x201).setStall 0 { pstate := .gated }).hostCsrWrite .tack (stallWin 0 + 0x8000000 + 0x240) dbWord).isSome = false ∧
    (((sUnitCp 0x202).setStall 0 { pstate := .gated }).hostCsrWrite .tack ((sUnitCp 0x202).runctlAddr 0) (BitVec.ofNat 64 (2 ^ 60))).isSome = false ∧
    ((sUnitCp 0x202).hostCsrWrite .tack ((sUnitCp 0x202).runctlAddr 4095) (BitVec.ofNat 64 (2 ^ 60 + 4))).isSome = true ∧
    (match (sUnitCp 0x203).hostCsrWrite .tack ((sUnitCp 0x203).runctlAddr 0) (BitVec.ofNat 64 (2 ^ 61)) with | some (_, st) => decide (st = St.ok) | none => false) = true ∧
    (match (sUnitCp 0x203).hostCsrWrite .tack ((sUnitCp 0x203).runctlAddr 4095) (BitVec.ofNat 64 (2 ^ 61)) with | some (_, st) => decide (st ≠ St.ok) | none => false) = true ∧
    ((sUnitCp 0x204).hostCsrWrite .tack (stallWin 0 + 0x8000000 + 0x18 + 4 * 0x40) 1).isSome = true := by
  decide +kernel
theorem wit_HostUnitCommands_states : State.reset.tack.activating = none ∧
    ({ State.reset with tack := { State.reset.tack with activating := some (1, 8) } } : State).tack.activating ≠ none ∧
    (State.reset.loftFault 0 ≠ St.ok) ∧ coolNormal 1800 5000 800 false = true ∧ coolNormal 1799 5000 800 false = false ∧
    ({ State.reset with pwr := { State.reset.pwr with tsup := 1800, flow := 800, coolStopped := true } } : State).pwr.coolStopped = true ∧
    (capOk 0 = true ∧ capOk 1000 = true ∧ capOk 3900 = true) ∧ (State.reset.setDcsr hostifBase 0x10).hostMode 4 = true ∧
    State.reset.fwCheck 100 ≠ St.ok ∧ (sess1 true).lostCnt = 0 := by
  decide +kernel
/-- A package without an image or records passes the checks of an activation. -/
def withPkg (s : State) : State :=
  { s with tack := { s.tack with standbyOk := true, stagedLen := 64, staged := writeBytes [] 0 (leBytes 4 0x50574658) } }
theorem wit_HostUnitCommands_package : (withPkg State.reset).fwCheck 64 = St.ok := by decide +kernel
def longEnd : LongCmd := { cmd := cmdH 0x103 8 [135], res := some (St.ok, []) }
theorem wit_HostUnitCommands_long : (let s := { sHost true with longs := [longEnd] }
    s.tack.takeover = false ∧ s.hostServed = true ∧ s.longs = [longEnd] ∧ longEnd.res = some (St.ok, []) ∧ s.session longEnd.cmd.session = some (sess1 true)) := by
  decide +kernel

/-! ### RoCE, coolant and supply, bring-up -/

def qpOf (db : Nat) : Qp := { port := 1, db := db, task := 5, tenant := 6, pmtu := 4096, dqpn := 0, spsn := 0, dpsn := 0, dgid := 0 }
/-- Host port 1 is up; queue pair 512, the region 0 in memory and the region 4095 in the scratch of stall 287, whose port is closed. -/
def sQp (db : Nat) : State :=
  { (State.reset.setHport 1 { state := 2, pmd := 5 }).setNode 0 { fenced := false } with
    qps := [(512, some (qpOf db))], mrs := [(0, some mr0), (4095, some { mr0 with addr := 0x411F00000000 })] }
def frame (kind : FrameKind) (fill : Nat) : EthFrame :=
  { bytes := 9216, tags := 1, vid := 1, prio := 0, mgmt := false, ipExtra := false, kind := kind, roceFill := fill }
theorem wit_HostPortsAndRoce_frames : Laws.canonicalB (sQp 0) = true ∧ ((sQp 0).hport 1).state = 2 ∧ (State.reset.hport 1).state ≠ 2 ∧ ((sQp 0).hport 1).pmd = 5 ∧
    5 < (State.reset.setHport 1 { pmd := 15 } |>.hport 1).pmd ∧
    (let s := (sQp 0).setDcsr (hostifBase + 0x18) (place 11 0 1)
     (frame .roce 1572865).vid = fld (s.dcsr (hostifBase + 0x18)) 11 0 ∧ (s.hport 1).state = 2) ∧
    9216 < { frame .roce 0 with bytes := 9217 }.bytes ∧ ({ frame .roce 0 with mgmt := true, tags := 0 } : EthFrame).mgmt = true := by
  decide +kernel
theorem rkey_inj {i j : Nat} (hi : i < 4096) (hj : j < 4096) (h : rkeyOf i = rkeyOf j) : i = j := by
  simp only [rkeyOf] at h
  omega
theorem wit_HostPortsAndRoce_regions : onQp (sQp 1) 1 512 (qpOf 1) ∧ onQp (sQp 0) 1 512 (qpOf 0) ∧ grants (sQp 1) 0 mr0 1 4080 16 ∧ grants (sQp 1) 0 mr0 0 4080 16 ∧
    grants (sQp 1) 4095 { mr0 with addr := 0x411F00000000 } 1 0x411F00000000 16 ∧
    (∀ i m, rkeyOf 0 = rkeyOf i → ¬ grants (sQp 1) i m 1 4081 16) ∧ (∀ q, ¬ onQp (sQp 1) 1 513 q) := by
  refine ⟨by unfold onQp; decide +kernel, by unfold onQp; decide +kernel, by unfold grants; decide +kernel, by unfold grants; decide +kernel,
    by unfold grants; decide +kernel, ?_, ?_⟩
  · rintro i m h ⟨hi, hm, -, -, hl⟩
    obtain rfl := rkey_inj (by omega) hi h
    have : m = mr0 := by
      rw [show Map.get noneOf (sQp 1).mrs 0 = some mr0 by decide +kernel] at hm
      exact (Option.some.inj hm).symm
    subst this
    revert hl
    decide
  · rintro q ⟨h, -⟩
    rw [show Map.get noneOf (sQp 1).qps 513 = none by decide +kernel] at h
    cases h
def bytes16 : List Byte := List.replicate 16 3
def afterImm : State := (match (sQp 1).unitWrite .kernel 0 0 4080 bytes16 with | some (u, _) => u | none => State.reset)
theorem wit_HostPortsAndRoce_accesses : (sQp 1).unitRead .kernel 0 0 4080 16 = some (sQp 1, St.ok, List.replicate 16 0) ∧
    (match (sQp 1).unitWrite .kernel 0 0 4080 bytes16 with | some (_, st) => decide (st = St.ok) | none => false) = true ∧
    (match (sQp 1).unitWrite .kernel 0 0 0x411F00000000 bytes16 with | some (_, st) => decide (st ≠ St.ok) | none => false) = true ∧
    (afterImm.node (afterImm.psOf 0 * 16)).shut .kernel = false ∧ afterImm.psOf 0 < 288 ∧ (afterImm.stall (afterImm.psOf 0)).pstate = .run ∧
    (afterImm.stall (afterImm.psOf 0)).db.length < 32 ∧ ((sDb 32 0).stall 0).db.length = 32 ∧
    (bits (0x0FFFF400 : BitVec 32).toNat 10 8 < 5 ∧ (0x0FFFF400 : BitVec 32).getLsbD 11 = false ∧ bits (0x0FFFF400 : BitVec 32).toNat 31 28 = 0) ∧
    5 ≤ bits (0x500 : BitVec 32).toNat 10 8 ∧ (0x800 : BitVec 32).getLsbD 11 = true := by
  decide +kernel

/-- Samples at the edges: normal, degraded, and each warning. -/
theorem wit_Coolant_samples : ∀ e ∈ ([(1800, 5000, 800, false), (3500, 5000, 800, false)] : List (Int × Int × Nat × Bool)),
    (1800 ≤ e.1 ∧ e.1 ≤ 3500 ∧ e.2.1 ≤ 5000 ∧ 800 ≤ e.2.2.1 ∧ e.2.2.2 = false) ∧ ¬ (e.1 < 1500 ∨ 4500 < e.1 ∨ 5800 < e.2.1 ∨ e.2.2.1 < 600 ∨ e.2.2.2 = true) := by
  decide
theorem wit_Coolant_degraded : ∀ e ∈ ([(1799, 5000, 800, false), (1500, 5000, 800, false), (1800, 5800, 800, false), (4500, 0, 600, false)] : List (Int × Int × Nat × Bool)),
    ¬ (1800 ≤ e.1 ∧ e.1 ≤ 3500 ∧ e.2.1 ≤ 5000 ∧ 800 ≤ e.2.2.1 ∧ e.2.2.2 = false) ∧ ¬ (e.1 < 1500 ∨ 4500 < e.1 ∨ 5800 < e.2.1 ∨ e.2.2.1 < 600 ∨ e.2.2.2 = true) := by
  decide
def sPwr (f : Pwr → Pwr) : State := { State.reset with pwr := f State.reset.pwr }
theorem wit_Coolant_states : (sPwr id).pwr.warnAbsent < 10000 ∧ (sPwr id).pwr.degAbsent < 10000 ∧
    (let s := sPwr (fun p => { p with coolWarn := true, warnAbsent := 10000 })
     s.pwr.coolWarn = true ∧ 10000 ≤ s.pwr.warnAbsent) ∧
    (let s := sPwr (fun p => { p with stopLeak := 100 })
     100 ≤ s.pwr.stopLeak ∧ s.pwr.coolStopped = false) ∧
    (sPwr (fun p => { p with coolStopped := true })).pwr.coolStopped = true ∧ (sPwr (fun p => { p with stopping := some 1 })).pwr.stopping ≠ none ∧
    (State.reset.pwr.stopping = none ∧ State.reset.pwr.coolStopped = false) ∧
    (let s := sPwr (fun p => { p with supplyCap := true, stable := 5000 })
     s.pwr.supplyCap = true ∧ 5000 ≤ s.pwr.stable ∧ s.pwr.below320 = false) ∧ State.reset.pwr.supplyCap = false := by
  decide +kernel

def sBoot (phase : Nat) : State := sPwr (fun p => { p with inlet := true, phase := phase })
theorem wit_BringUp : (∀ ph ∈ [0, 1, 2, 3, 4, 5, 6], Laws.canonicalB (sBoot ph) = true ∧ (sBoot ph).pwr.inlet = true ∧ (sBoot ph).pwr.coolStopped = false ∧
      (sBoot ph).pwr.stopping = none ∧ (sBoot ph).pwr.failStep = 0 ∧ (sBoot ph).pwr.phase = ph) ∧
    (State.reset.pwr.inlet = false ∧ ¬ State.reset.pwr.inlet = true) ∧ (sBoot 1).winner.isSome = true ∧
    ({ sBoot 1 with banks := (List.range 4).map (fun i => (i, { recBank with valid := false })) } : State).winner = none ∧
    ((sBoot 6).setBank 0 { recBank with recs := [{ typ := 1, bytes := [5, 1], sigOk := true }] }).records 1 ≠ [] ∧
    33 ≤ ((List.range 288).filter (fun ps => (List.range 33).contains ps)).length ∧
    (∀ ch, ch < 136 → ((sBoot 4).chan ch).dimm.any (fun d => d.supported) = true) ∧
    (let s := sPwr (fun p => { p with stopping := some 3, dimmSupply := true })
     s.pwr.stopping = some 3 ∧ s.pwr.coolStopped = false) := by
  decide +kernel

/-! ### Power states, errors, sparing -/

def psCfg (max : Nat) : Word := 0x023C098900401400 ||| BitVec.ofNat 64 max
/-- A stall at rest, with MAXSTATE, a HOSTIF_MODE and its STALL_PWR_NEXT. -/
def sIdle (max : Nat) (mode next : Word) : State := ((State.reset.setDcsr (pwrBase + 0x20) (psCfg max)).setDcsr hostifBase mode).setScsr 0 0x1B00 next
def sAsleep (p : PState) (n : Nat) : State := (State.reset.setStall 0 { pstate := p }).setScsr 0 0x1B00 (place 63 63 1 ||| place 39 0 n)
theorem wit_PowerStates_registers : ((1000 : Nat) ≤ 3900 ∧ fld (999 : Word) 15 0 < 1000 ∧ 3900 < fld (3901 : Word) 15 0) ∧
    (let v := psCfg 4
     fld v 2 0 ≤ 4 ∧ ¬ (fld v 15 8 * 64 < 63 ∨ fld v 31 16 * 1024 < 6250 ∨ fld v 47 32 * 1024 < 250000 ∨ fld v 63 48 * 65536 < 3750000)) ∧
    4 < fld (psCfg 5) 2 0 ∧ fld (psCfg 0 &&& 0xFFFFFFFFFFFF00FF) 15 8 * 64 < 63 ∧ (3900 ≤ State.reset.cap.1 ∧ State.reset.cap.1 < 3901) ∧
    (sPwr (fun p => { p with duty := 64 })).pwr.duty = 64 := by
  decide +kernel
theorem wit_PowerStates_stalls : (∀ m ∈ [0, 1, 2, 4], Laws.canonicalB (sIdle m 0 0) = true ∧ (sIdle m 0 0).healthOf 0 = .active ∧ ((sIdle m 0 0).stall 0).pstate = .run ∧
      (sIdle m 0 0).stallIdle 0 = true ∧ (sIdle m 0 0).hostMode 4 = false ∧ (sIdle m 0 0).psAllowed 2 ((sIdle m 0 0).nextEvent 0) = decide (2 ≤ m) ∧
      (sIdle m 0 0).psAllowed 1 ((sIdle m 0 0).nextEvent 0) = decide (1 ≤ m)) ∧
    ((sIdle 4 0 (place 63 63 1 ||| place 39 0 9)).psAllowed 2 ((sIdle 4 0 (place 63 63 1 ||| place 39 0 9)).nextEvent 0) = false ∧
      (sIdle 4 0x10 0).hostMode 4 = true ∧ sRun.stallIdle 0 = false) := by
  decide +kernel
theorem wit_PowerStates_wakes : (∀ p ∈ [PState.gated, .sret], ∀ n ∈ [63, 64, 6250, 6251], ((sAsleep p n).stall 0).pstate = p ∧ (sAsleep p n).nextEvent 0 = some n) ∧
    (State.reset.stall 287).pstate = .run ∧
    (let s := sPwr (fun p => { p with deep := true })
     s.pwr.deep = true) ∧
    (bit ((sAsleep .gated 0).scsr 0 0x1B00) 63 = true ∧ fld ((sAsleep .gated 0).scsr 0 0x1B00) 39 0 = 0 ∧ fld ((sAsleep .gated 1).scsr 0 0x1B00) 39 0 ≠ 0) := by
  decide +kernel
theorem wit_PowerStates_yards : ∀ y ∈ [0, 3], (sIdle 4 0 0).pwr.deep = false ∧ (∀ ps ∈ (sIdle 4 0 0).yardStalls y, (sIdle 4 0 0).stallIdle ps = true) ∧
    (sIdle 4 0 0).psAllowed 3 ((sIdle 4 0 0).nextOf ((sIdle 4 0 0).yardStalls y)) = true ∧ (sIdle 4 0 0).deviceIdle = true ∧
    (sIdle 4 0 0).psAllowed 4 (sIdle 4 0 0).nextDevice = true := by
  decide +kernel

def sTack (f : Tack → Tack) : State := { State.reset with tack := f State.reset.tack }
def parRec (sev : Nat) : ErrRec := { status := St.arrayParity, cls := 5, sev := sev, unit := 1, id := 3, sub := 9 }
theorem wit_ErrorsAndTakeover_records : (∀ sev ∈ [0, 1], ∀ seen ∈ [[], [(St.arrayParity, 3, 9, 0)]], ∀ mode ∈ [0, 0x20, 0x40],
      (let s := (sTack (fun t => { t with agg := [parRec sev], seen := seen })).setDcsr hostifBase (BitVec.ofNat 64 mode)
       Laws.canonicalB s = true ∧ s.tack.agg = [parRec sev] ∧ s.tack.takeover = false ∧ (parRec sev).action = 0 ∧ s.tack.log.length < 1024 ∧ s.sess = [] ∧
         s.hostMode 5 = decide (mode = 0x20) ∧ s.hostMode 6 = decide (mode = 0x40) ∧ s.tack.todo = [] ∧ s.tack.seen = seen ∧ s.clk < 0 + 216000000000000)) ∧
    State.reset.tack.agg = [] := by
  decide +kernel
theorem wit_roomy : roomy State.reset ∧ roomy (sHost true) := by
  constructor
  · intro e he
    have : State.reset.sess = [] := rfl
    simp [this] at he
  · intro e he d hd
    have h : (sHost true).sess = [(1, some (sess1 true))] := by decide +kernel
    rw [h] at he
    simp only [List.mem_cons, List.not_mem_nil, or_false] at he
    subst he
    obtain rfl := Option.some.inj hd
    decide
theorem wit_ErrorsAndTakeover_rooms : (∀ m ∈ [0, 1, 2], (sTack (fun t => { t with missed := m })).tack.missed = m) ∧
    ((sTack (fun t => { t with standbyOk := true })).tack.standbyOk = true ∧ (sTack (fun t => { t with standbyOk := true })).tack.takeover = false) ∧
    (State.reset.tack.standbyOk = false ∧ State.reset.tack.takeover = false ∧ State.reset.tack.restartFails < 3 ∧ State.reset.tack.fwStage = 0) ∧
    ((sTack (fun t => { t with takeover := true })).tack.takeover = true ∧ (sTack (fun t => { t with takeover := true })).tack.fwStage ≠ 2) ∧
    3 ≤ (sTack (fun t => { t with restartFails := 3 })).tack.restartFails ∧ (sTack (fun t => { t with fwStage := 1 })).tack.fwStage = 1 ∧
    (let s := { sTack (fun t => { t with fwStage := 1, activating := some (1, 8) }) with longs := [{ longEnd with res := none }] }
     s.tack.activating = some (longEnd.cmd.session, longEnd.cmd.seq) ∧ s.longs = [{ longEnd with res := none }]) := by
  decide +kernel
def shedReq : Req := { endReq 0x1000 0x1000 8 .read [] with src := .slot 0 0 }
theorem wit_ErrorsAndTakeover_parity : State.reset.tack.agg.length < 1024 ∧
    ((waitReq.src = .slot 0 0 ∧ (sLate.stall 0).slots.find? (fun e => e.1 = 0) = some (0, 0, 0) ∧ sLate.req 0 = some waitReq)) ∧
    (let s := oneReq State.reset shedReq
     s.req 0 = some shedReq ∧ shedReq.atShed = true ∧ ((s.chanOf (spreadLc shedReq.pa)).map (· / 34)).isSome = true) := by
  decide +kernel

def job (kind sub : Nat) : SpareJob := { kind := kind, ps := 0, sub := sub }
/-- Stall 0 at rest with one sparing decided, its column map and its spare bank. -/
def sSpareJob (kind sub : Nat) (map : Word) (bank : Option Nat) : State :=
  { (State.reset.setStall 0 { bank := bank }).setScsr 0 0x1420 map with tack := { State.reset.tack with todo := [job kind sub] } }
theorem wit_SparingAndAgeing_rest : ∀ e ∈ ([(0, 513, 0, none), (0, 513, 2 ^ 10, none), (0, 513, 2 ^ 10 + 2 ^ 26, none), (2, 15, 0, none), (2, 15, 0, some 3), (3, 0, 0, none),
      (1, 0, 0, none)] : List (Nat × Nat × Nat × Option Nat)),
    (let s := sSpareJob e.1 e.2.1 (BitVec.ofNat 64 e.2.2.1) e.2.2.2
     Laws.canonicalB s = true ∧ restsFor s 0 (job e.1 e.2.1) ∧ bypassed (s.scsr 0 0x1420) 513 = false ∧ fld (s.scsr 0 0x1420) 25 16 = 0 ∧
       bit (s.scsr 0 0x1420) 10 = decide (e.2.2.1 ≠ 0) ∧ bit (s.scsr 0 0x1420) 26 = decide (2 ^ 26 ≤ e.2.2.1) ∧ (s.stall 0).bank = e.2.2.2) := by
  unfold restsFor noneStarted; decide +kernel
def noSpares (s : State) : State := { s with health := (List.range 4).flatMap (fun y => (List.range 8).map (fun k => (y * 72 + 64 + k, Health.failed))) }
theorem wit_SparingAndAgeing_stall : (let s := sSpareJob 1 0 0 none
      s.healthOf 0 = .active ∧ s.reqs = [] ∧ (∀ g, g < 16 → (s.groom (0 * 16 + g)).halted = true) ∧
        spareFor (fun k => decide (s.healthOf k = .spare)) 0 = some 64 ∧ s.lsOf 0 = some 0 ∧ (64 : Nat) ≠ 0 ∧ ∀ q ∈ [0, 1, 3], (s.queue 64 q).ctxs = []) ∧
    spareFor (fun k => decide ((noSpares (sSpareJob 1 0 0 none)).healthOf k = .spare)) 0 = none := by
  decide +kernel
def aged23 (m : Monitor) (days : Nat) : State :=
  sTack (fun t => { t with age := [{ mon := m, cnt := 23, sum := 23 * 600, means := (List.range days).map (fun i => ((days - i) * 86400000, 24 * (620 - days - i))) }] })
theorem wit_SparingAndAgeing_age : ((aged23 (.ring 0) 0).tack.ageOf (.ring 0)).cnt = 23 ∧ (State.reset.tack.ageOf (.ring 0)).cnt < 23 ∧
    (State.reset.tack.ageOf .cap).means = [] ∧ State.reset.ageLimit .cap = false ∧ (State.reset.setLoftChan 3 { reserve := 0 }).ageLimit (.nand 3) = true ∧
    fld (State.reset.dcsr 0x48) 15 0 ≤ 0xFFFF ∧ ((0 : Nat) < fld (State.reset.dcsr 0x48) 15 0) := by
  decide +kernel

/-! ### Counters, registers, steps -/

/-- Stall 287 counts, and counters 6 and 7 stand at these values. -/
def sPerf (en cfg6 cfg7 cnt6 cnt7 : Word) : State :=
  ((((State.reset.setScsr 287 0x1C00 en).setScsr 287 (0x1C40 + 6 * 16) cfg6).setScsr 287 (0x1C40 + 7 * 16) cfg7).setScsr 287 (0x1C48 + 6 * 16) cnt6).setScsr 287
    (0x1C48 + 7 * 16) cnt7
def top48 : Word := place 47 0 (2 ^ 48 - 1)
theorem wit_PerformanceCounters_select : Laws.canonicalB (sPerf 1 0x100 0x1E0 top48 0) = true ∧ ((sPerf 1 0x100 0x1E0 top48 0).stall 287).pstate = .run ∧
    (bit (4 : Word) 2 = true ∧ bit (3 : Word) 2 = false) ∧ (0x2000 : Word) &&& ~~~0xFFFF1FFF ≠ 0 ∧
    ((0xFFFF00FF : Word) &&& ~~~0xFFFF1FFF = 0 ∧ perfAttrs (fld (0xFFFF00FF : Word) 7 0) = none) ∧ fld (0xFFFF00E0 : Word) 7 0 = 0xE0 ∧
    ((0xFFFE000B : Word) &&& ~~~0xFFFF1FFF = 0 ∧ fld (0xFFFE000B : Word) 7 0 ≤ 0x0B ∧ fld (0xFFFE000B : Word) 31 16 ≠ 0xFFFF) ∧
    ((0xFFFF000B : Word) &&& ~~~0xFFFF1FFF = 0 ∧ fld (0xFFFF000B : Word) 31 16 = 0xFFFF ∧ bit (0xFFFF000B : Word) 12 = false) := by
  decide +kernel
theorem wit_PerformanceCounters_wrap : (∀ e ∈ [(0, 0x1E0), (6, 0x1E0), (7, 0x100)], ∀ c7 ∈ [0, 1],
      (let s := sPerf 1 0x100 (BitVec.ofNat 64 e.2) top48 (BitVec.ofNat 64 c7)
       bit (s.scsr 287 0x1C00) 0 = true ∧ bit (s.scsr 287 (0x1C40 + 6 * 16)) 8 = true ∧ fld (s.scsr 287 (0x1C48 + 6 * 16)) 47 0 = 2 ^ 48 - 1 ∧
         fld (s.scsr 287 (0x1C48 + 7 * 16)) 47 0 < 2 ^ 48 - 1)) ∧
    (let s := sPerf 1 0x100 0x1E0 top48 0
     bit (s.scsr 287 (0x1C40 + 7 * 16)) 8 = true ∧ fld (s.scsr 287 (0x1C40 + 7 * 16)) 7 0 = 0xE0) ∧
    (let s := sPerf 1 0x100 0x100 top48 0
     fld (s.scsr 287 (0x1C40 + 7 * 16)) 7 0 ≠ 0xE0) ∧
    (let s := sPerf 1 0x100 0x1E0 0 top48
     fld (s.scsr 287 (0x1C48 + 7 * 16)) 47 0 = 2 ^ 48 - 1) ∧
    bit ((sPerf 0 0 0 0 0).scsr 287 0x1C00) 0 = false := by
  decide +kernel

theorem wit_RegisterWrites : (localRegion 0x300000000000 = none ∧ localRegion (devSpace + 0x48) = some (.dev 0x48)) ∧
    (let s := State.reset.setStall 0 { pstate := .gated }
     s.regAwake (.scsr 0 0x240) = false ∧ Laws.canonicalB s = true) ∧
    (State.reset.regAwake (.dev 0x48) = true ∧ (State.reset.regWrite .task false 1 (.dev 0x48)).2 = St.privilege ∧
      (State.reset.regWrite .kernel false 1 (.dev 0x48)).2 ≠ St.privilege) ∧
    ((4 : Nat) ≠ 8 ∧ (devSpace + 0x4C) % 8 ≠ 0 ∧ (devSpace + 0x48) % 8 = 0) ∧
    (devBlk 0x1F0000 = none ∨ devBlk 0xFFFFF8 = none) ∧ (0xFFFFF8 : Nat) < 0x1000000 ∧
    (fld (0 : Word) 15 0 = 0 ∧ 3650 < fld (3651 : Word) 15 0 ∧ fld (3650 : Word) 15 0 ≤ 3650 ∧ 1 ≤ fld (1 : Word) 15 0) := by
  decide +kernel

theorem reset_sound : Safety.Sound State.reset := ⟨Laws.canonical_of (by decide +kernel), by decide +kernel⟩
/-- A sound state whose front command acts, and the state that it leaves. -/
def sWaiting : State := { sMapped with pending := [.add 0 (fr)] }
theorem wit_StepKeeps : Safety.Sound sWaiting ∧ Memory.wf sWaiting.mem = true ∧ Memory.wf sWaiting.loft = true ∧ Safety.lotteryOk sWaiting = true ∧
    ∃ t, step sWaiting = .next t :=
  ⟨⟨Laws.canonical_of (by decide +kernel), by decide +kernel⟩, by decide +kernel, by decide +kernel, by decide +kernel, _, rfl⟩
theorem wit_TickCountsTime : (∀ n ∈ [0, 1], ∀ c ∈ [0, 1],
      (let s := { sAsleep .gated n with clk := c }
       Laws.canonicalB s = true ∧ s.pending = [] ∧ bit (s.scsr 0 0x1C00) 0 = false ∧ bit (s.scsr 0 0x1B00) 63 = true ∧
         (fld (s.scsr 0 0x1B00) 39 0 ≠ 0 ↔ n = 1))) := by
  decide +kernel
/-- One instruction of each format, from a groom that runs; a store leaves with its request. -/
theorem wit_GroomInstructionsKeep : Safety.Canonical sRun ∧ (∃ t, exec (.amocasD 0 fr) sRun = .next t) ∧ (∃ t, exec (.jalr 0 (fi 4)) sRun = .next t) ∧
    (∃ t, exec (.vredadd 0 (fv 1 2 3 0 3)) sRun = .next t) ∧ (∃ t, exec (.std 0 (fs 8)) sRun = .next t) ∧ (∃ t, exec (.beq 0 ⟨1, 2, 4⟩) sRun = .next t) ∧
    (∃ t, exec (.vst 0 (fm 0 0)) sRun = .next t) ∧ (∃ t, exec (.vsct 0 fx) sRun = .next t) :=
  ⟨Laws.canonical_of (by decide +kernel), ⟨_, rfl⟩, ⟨_, rfl⟩, ⟨_, rfl⟩, ⟨_, rfl⟩, ⟨_, rfl⟩, ⟨_, rfl⟩, _, rfl⟩
end Sys2Proof.Tests
end

section
/-! SUPPORT. Register access: what a read of a stored register with RC fields leaves, the path of a register write from its address to its
register, and the statement on both (R5, R6, R8, R13, R557, R571). -/

namespace Sys2Proof.Machine

open Sys2Proof.Claims (answered rearmed StallClears DeviceClears)

variable {s : State} {p : Priv}

/-! ### Plain writes of device registers -/

@[simp] theorem State.dcsr_answered (st : Status) (v : Word) (l : List Byte) (o : Nat) : (answered s st v l).dcsr o = s.dcsr o := rfl

/-- A register without a rule of its own takes what its access types leave of the write, and no other register changes. -/
theorem State.dcsr_devPlain_self (h : Map.wf devReset s.csr = true) (a : Nat) (k : RegKind) (v : Word) :
    (s.devPlain a k v).1.dcsr a = k.afterWrite (s.dcsr a) v :=
  Map.get_set_self devReset a _ h

theorem State.dcsr_devPlain_of_ne {a o : Nat} (k : RegKind) (v : Word) (h : o ≠ a) : (s.devPlain a k v).1.dcsr o = s.dcsr o :=
  Map.get_set_of_ne devReset s.csr _ h

/-! ### Reads of stall registers -/

/-- The RC fields of the register that a table lists at an offset. -/
def rcFields (rs : List RegKind) (o : Nat) : Option Word := (findReg rs o).map fun k => BitVec.ofNat 64 k.rc

/-- A listed register, and what a read leaves of it. -/
theorem findReg_of_rcFields {rs : List RegKind} {o : Nat} {m : Word} (h : rcFields rs o = some m) :
    ∃ k, findReg rs o = some k ∧ BitVec.ofNat 64 k.rc = m ∧ ∀ w, k.afterRead w = w &&& ~~~m := by
  obtain ⟨k, hk, rfl⟩ := Option.map_eq_some_iff.mp h
  exact ⟨k, hk, rfl, fun _ => rfl⟩

theorem State.readStall_task {ps : Nat} (hrun : (s.stall ps).pstate = .run) (o : Nat) :
    s.readStall .task ps o = answered s St.privilege 0 [] := by
  simp [State.readStall, hrun, State.respond, answered]

theorem State.readStall_clears {ps o : Nat} {m : Word} (hrun : (s.stall ps).pstate = .run) (hp : p ≠ .task) (h : rcFields stallRegs o = some m) :
    s.readStall p ps o = answered (rearmed (s.setScsr ps o (s.scsr ps o &&& ~~~m))) St.ok (s.scsr ps o) [] := by
  obtain ⟨k, hk, -, hread⟩ := findReg_of_rcFields h
  simp only [State.readStall, hrun, hp, hk, hread, ne_eq, not_true_eq_false, if_false]
  rfl

/-- Each command that reads a stall register with RC fields reads the register at its offset, whose RC fields the table gives. -/
theorem stallClears_reads {e : (Priv → Nat → Instr) × Nat × Word} (h : StallClears e) :
    rcFields stallRegs e.2.1 = some e.2.2 ∧ ∀ (s : State) (p : Priv) (ps : Nat), exec (e.1 p ps) s = .next (s.readStall p ps e.2.1) := by
  simp only [StallClears, List.mem_cons, List.not_mem_nil, or_false] at h
  rcases h with rfl | rfl | rfl | rfl | rfl | rfl | rfl | rfl | rfl | rfl | rfl | rfl | rfl | rfl | rfl | rfl <;>
    exact ⟨rfl, fun _ _ _ => rfl⟩

/-! ### Reads of device registers -/

/-- Blocks whose registers with RC fields are sources of interrupts: a read looks at the sources again (R474). -/
def DevBlk.rearms : DevBlk → Bool
  | .shed _ | .gate _ => false
  | _ => true

/-- Registers whose value is the stored one and whose read does nothing but clear RC fields. -/
def DevBlk.stores (a o : Nat) : DevBlk → Bool
  | .shed n => decide (a = shedBase n + o ∧ 0x100 ≤ o ∧ o < 0x430 ∧ (o - 0x100) % 0x18 ≠ 0)
  | .gate _ => decide (o ≠ 0x18 ∧ o ≠ 0x20)
  | .link _ => decide (o ≠ 0x00 ∧ o < 0x38)
  | .hostif => decide (0x20 < o)
  | _ => false

theorem State.devView_of_stores {b : DevBlk} {a o : Nat} (h : b.stores a o = true) : s.devView b a o = s.dcsr a := by
  cases b with
  | shed n =>
    obtain ⟨rfl, hlo, hhi, hrow⟩ := of_decide_eq_true h
    simp only [State.devView, State.shedView, hrow, and_false, if_false, show ¬ (0x500 ≤ o ∧ o < 0x520) by omega]
    split
    case h_7 => rw [if_neg (by omega)]
    all_goals omega
  | gate n =>
    obtain ⟨h1, h2⟩ := of_decide_eq_true h
    simp [State.devView, h1, h2]
  | link n =>
    obtain ⟨h1, h2⟩ := of_decide_eq_true h
    simp only [State.devView, show ¬ (0x40 ≤ o ∧ o < 0x88) by omega, if_false]
    split
    · omega
    · omega
    · rfl
  | hostif =>
    have h1 : 0x20 < o := of_decide_eq_true h
    simp only [State.devView]
    split
    · omega
    · omega
    · omega
    · rfl
  | tack | comb | intc | sync | pwr | arb => cases h

theorem State.devReadEffect_of_stores {b : DevBlk} {a o : Nat} {k : RegKind} (h : b.stores a o = true) (hk : k.rc ≠ 0) :
    s.devReadEffect b a o k =
      if b.rearms then rearmed (s.setDcsr a (k.afterRead (s.dcsr a))) else s.setDcsr a (k.afterRead (s.dcsr a)) := by
  cases b with
  | shed n =>
    obtain ⟨-, hlo, -, -⟩ := of_decide_eq_true h
    simp [State.devReadEffect, DevBlk.rearms, hk, show o ≠ 0x58 by omega]
  | gate n =>
    obtain ⟨h1, -⟩ := of_decide_eq_true h
    simp [State.devReadEffect, DevBlk.rearms, hk, h1]
  | _ => simp only [State.devReadEffect, DevBlk.rearms, hk, if_false, if_true]; rfl

/-- The state after a read that answers a device register and clears the fields `m`; `again`: its source is looked at again. -/
def State.readCleared (s : State) (a : Nat) (m : Word) (again : Bool) : State :=
  answered (if again then rearmed (s.setDcsr a (s.dcsr a &&& ~~~m)) else s.setDcsr a (s.dcsr a &&& ~~~m)) St.ok (s.dcsr a) []

/-- An address of device CSR space holds a register with the RC fields `m`, of which `q` holds. -/
def rcRegister (q : DevBlk → Nat → Bool) (a : Nat) (m : Word) : Bool :=
  match devBlk a with
  | some (b, o) => decide (rcFields b.regs o = some m) && q b o
  | none => false

theorem rcRegister_iff {q : DevBlk → Nat → Bool} {a : Nat} {m : Word} :
    rcRegister q a m = true ↔ ∃ b o, devBlk a = some (b, o) ∧ rcFields b.regs o = some m ∧ q b o = true := by
  unfold rcRegister
  split
  · next b o h => simp [h]
  · next h => simp [h]

/-- A stored register with RC fields; `again` says whether its read looks at interrupt sources again. -/
def storedRc (a : Nat) (m : Word) (again : Bool) : Bool :=
  rcRegister (fun b o => b.stores a o && decide (b.rearms = again) && decide (m ≠ 0)) a m

theorem State.readReg_task (a : Nat) : s.readReg .task a = answered s St.privilege 0 [] := rfl
theorem State.readDev_task (a : Nat) : s.readDev .task a = answered s St.privilege 0 [] := rfl

theorem State.readReg_listed {a o : Nat} {b : DevBlk} {k : RegKind} (hp : p ≠ .task) (hb : devBlk a = some (b, o))
    (hk : findReg b.regs o = some k) : s.readReg p a = answered (s.devReadEffect b a o k) St.ok (s.devView b a o) [] := by
  simp only [State.readReg, State.devRegRead, hp, if_false, hb, hk]
  rfl

theorem State.readReg_clears {a : Nat} {m : Word} {again : Bool} (hp : p ≠ .task) (h : storedRc a m again = true) :
    s.readReg p a = s.readCleared a m again := by
  obtain ⟨b, o, hb, hrc, hq⟩ := rcRegister_iff.mp h
  simp only [Bool.and_eq_true, decide_eq_true_eq] at hq
  obtain ⟨⟨hstores, rfl⟩, hm⟩ := hq
  obtain ⟨k, hk, rfl, hread⟩ := findReg_of_rcFields hrc
  have hk0 : k.rc ≠ 0 := fun h0 => hm (by rw [h0]; rfl)
  rw [State.readReg_listed hp hb hk, State.devReadEffect_of_stores hstores hk0, State.devView_of_stores hstores, hread]
  rfl

theorem State.readDev_clears {a : Nat} {m : Word} (hp : p ≠ .task) (h : rcRegister (fun _ _ => true) a m = true) :
    s.readDev p a = s.readCleared a m true := by
  obtain ⟨b, o, hb, hrc, -⟩ := rcRegister_iff.mp h
  obtain ⟨k, hk, -, hread⟩ := findReg_of_rcFields hrc
  simp only [State.readDev, hp, if_false, hb, hk, hread]
  rfl

/-- A command of a privilege reads the device register at `a`, answers it and clears `m`; TASK is refused. -/
def ClearsOnRead (i : Priv → Instr) (a : Nat) (m : Word) (again : Bool) : Prop :=
  ∀ s : State, (∀ p, p ≠ .task → exec (i p) s = .next (s.readCleared a m again)) ∧ exec (i .task) s = .next (answered s St.privilege 0 [])

theorem clearsOnRead_readReg {i : Priv → Instr} {a a' : Nat} {m : Word} {again : Bool} (hi : ∀ p s, exec (i p) s = .next (s.readReg p a'))
    (ha : a' = a) (h : storedRc a m again = true) : ClearsOnRead i a m again := by
  subst ha
  exact fun s => ⟨fun p hp => by rw [hi, State.readReg_clears hp h], hi .task s⟩

theorem clearsOnRead_readDev {i : Priv → Instr} {a a' : Nat} {m : Word} (hi : ∀ p s, exec (i p) s = .next (s.readDev p a'))
    (ha : a' = a) (h : rcRegister (fun _ _ => true) a m = true) : ClearsOnRead i a m true := by
  subst ha
  exact fun s => ⟨fun p hp => by rw [hi, State.readDev_clears hp h], hi .task s⟩

section
variable {i : Priv → Nat → Instr} {o n : Nat} {m : Word}

/-- A register of every gate, by its offset in the gate's page. -/
theorem clearsOnRead_gate (hi : ∀ p n s, exec (i p n) s = .next (s.readReg p (gateBase n + o)))
    (hrc : ∀ n, n < 4 → storedRc (0x200000 + o + n * 0x10000) m false = true) (hn : n < 4) :
    ClearsOnRead (i · n) (0x200000 + o + n * 0x10000) m false :=
  clearsOnRead_readReg (fun p => hi p n) (by unfold gateBase; omega) (hrc n hn)

/-- A register of every link port. -/
theorem clearsOnRead_link (hi : ∀ p n s, exec (i p n) s = .next (s.readReg p (linkBase n + o)))
    (hrc : ∀ n, n < 32 → storedRc (0x300000 + o + n * 0x1000) m true = true) (hn : n < 32) :
    ClearsOnRead (i · n) (0x300000 + o + n * 0x1000) m true :=
  clearsOnRead_readReg (fun p => hi p n) (by unfold linkBase; omega) (hrc n hn)

/-- A register of every combiner. -/
theorem clearsOnRead_comb (hi : ∀ p n s, exec (i p n) s = .next (s.readDev p (combBase n + o)))
    (hrc : ∀ n, n < 4 → rcRegister (fun _ _ => true) (0x400000 + o + n * 0x10000) m = true) (hn : n < 4) :
    ClearsOnRead (i · n) (0x400000 + o + n * 0x10000) m true :=
  clearsOnRead_readDev (fun p => hi p n) (by unfold combBase; omega) (hrc n hn)

end

/-- Each command of the list reads its register, which the tables list with the RC fields that the command clears. -/
theorem deviceClears_clearsOnRead {e : (Priv → Nat → Instr) × (Nat → Nat) × Word × Nat × Bool} (h : DeviceClears e) {n : Nat} (hn : n < e.2.2.2.1) :
    ClearsOnRead (e.1 · n) (e.2.1 n) e.2.2.1 e.2.2.2.2 := by
  simp only [DeviceClears, List.mem_cons, List.not_mem_nil, or_false] at h
  rcases h with rfl | rfl | rfl | rfl | rfl | rfl | rfl | rfl | rfl | rfl | rfl | rfl | rfl | rfl | rfl | rfl | rfl <;> dsimp only at hn ⊢
  · exact clearsOnRead_gate (i := .mcRecRead) (o := 0x30) (fun _ _ _ => rfl) (by decide) hn
  · exact clearsOnRead_gate (i := .tmoCntRead) (o := 0x38) (fun _ _ _ => rfl) (by decide) hn
  · exact clearsOnRead_gate (i := .rnrCntRead) (o := 0x40) (fun _ _ _ => rfl) (by decide) hn
  · exact clearsOnRead_link (i := .linkReplayRead) (o := 0x20) (fun _ _ _ => rfl) (by decide) hn
  · exact clearsOnRead_link (i := .fecCeRead) (o := 0x28) (fun _ _ _ => rfl) (by decide) hn
  · exact clearsOnRead_link (i := .fecUeRead) (o := 0x30) (fun _ _ _ => rfl) (by decide) hn
  · exact clearsOnRead_comb (i := .accCeRead) (o := 0x10) (fun _ _ _ => rfl) (by decide) hn
  · exact clearsOnRead_comb (i := .nakCntRead) (o := 0x18) (fun _ _ _ => rfl) (by decide) hn
  · exact clearsOnRead_comb (i := .discardCntRead) (o := 0x20) (fun _ _ _ => rfl) (by decide) hn
  · exact clearsOnRead_comb (i := .dropCntRead) (o := 0x28) (fun _ _ _ => rfl) (by decide) hn
  · exact clearsOnRead_comb (i := .elemCntRead) (o := 0x30) (fun _ _ _ => rfl) (by decide) hn
  · exact clearsOnRead_readDev (fun _ _ => rfl) (a' := combBase 0 + 0x540) rfl (by decide)
  · exact clearsOnRead_readDev (fun _ _ => rfl) (a' := syncBase) rfl (by decide)
  · exact clearsOnRead_readDev (fun _ _ => rfl) (a' := arbBase + 0x38) rfl (by decide)
  · exact clearsOnRead_readDev (fun _ _ => rfl) (a' := arbBase + 0x40) rfl (by decide)
  · exact clearsOnRead_readReg (fun _ _ => rfl) (a' := hostifBase + 0x30) rfl (by decide)
  · exact clearsOnRead_readReg (fun _ _ => rfl) (a' := hostifBase + 0x38) rfl (by decide)

/-! ### Reads of channel counts, error logs and NET registers -/

/-- SHED_CHCE and SHED_CHUE of every channel are stored registers, and their reads look at no interrupt source. -/
theorem storedRc_channelCounts : ∀ shed, shed < 4 → ∀ ch, ch < 34 →
    storedRc (0x100108 + shed * 0x10000 + ch * 0x18) 0xFFFFFFFF false = true ∧
    storedRc (0x100108 + shed * 0x10000 + ch * 0x18 + 8) 0xFFFFFFFF false = true := by
  decide +kernel

theorem clearsOnRead_chce {shed ch : Nat} (hs : shed < 4) (hc : ch < 34) :
    ClearsOnRead (.chceRead · shed ch) (0x100108 + shed * 0x10000 + ch * 0x18) 0xFFFFFFFF false :=
  clearsOnRead_readReg (fun _ _ => rfl) (by unfold shedBase; omega) (storedRc_channelCounts shed hs ch hc).1

theorem clearsOnRead_chue {shed ch : Nat} (hs : shed < 4) (hc : ch < 34) :
    ClearsOnRead (.chueRead · shed ch) (0x100108 + shed * 0x10000 + ch * 0x18 + 8) 0xFFFFFFFF false :=
  clearsOnRead_readReg (fun _ _ => rfl) (by unfold shedBase; omega) (storedRc_channelCounts shed hs ch hc).2

/-- SHED_ELOG_INFO of every shed. -/
theorem elogInfo_listed : ∀ shed, shed < 4 → devBlk (shedBase shed + 0x58) = some (.shed shed, 0x58) ∧
    rcFields (DevBlk.shed shed).regs 0x58 = some 0xFFFF833FFFFF := by
  decide

/-- A read of SHED_ELOG_INFO takes the oldest entry of the log (R310). -/
theorem exec_elogInfoRead {shed : Nat} (hs : shed < 4) (hp : p ≠ .task) :
    exec (.elogInfoRead p shed) s = .next (answered
      (s.setShed shed { s.shed shed with elog := (s.shed shed).elog.drop 1, lost := 0 }) St.ok (s.elogInfo shed) []) := by
  obtain ⟨hb, hrc⟩ := elogInfo_listed shed hs
  obtain ⟨k, hk, -⟩ := findReg_of_rcFields hrc
  exact congrArg Host.Outcome.next (State.readReg_listed hp hb hk)

theorem exec_netErrCntRead (gi : Nat) (hp : p ≠ .task) :
    exec (.netErrCntRead p gi) s = .next (answered (s.setNode gi ((s.node gi).setReg 0x20 ((s.node gi).reg 0x20 &&& ~~~0xFFFF)))
      St.ok (s.netRead gi 0x20) []) := by
  obtain ⟨k, hk, -, hread⟩ := findReg_of_rcFields (show rcFields netRegs 0x20 = some 0xFFFF from rfl)
  have hpage : s.netPageRead p gi 0x20 = (s.setNode gi ((s.node gi).setReg 0x20 ((s.node gi).reg 0x20 &&& ~~~0xFFFF)), St.ok, s.netRead gi 0x20) := by
    simp only [State.netPageRead, hp, if_false, hk, hread, State.modNode]
  show Host.Outcome.next ((s.netPageRead p gi 0x20).1.respond (s.netPageRead p gi 0x20).2.1 (s.netPageRead p gi 0x20).2.2) = _
  rw [hpage]
  rfl

/-- Reads of registers with RC fields answer the value and clear the fields (R5, R13). -/
theorem readsClearRcFields : Claims.ReadsClearRcFields := by
  intro s p hp
  refine ⟨fun e he ps hrun => ?_, fun e he n hn => ?_, fun shed ch hs hc => ?_, fun gi => exec_netErrCntRead gi hp, fun shed hs => exec_elogInfoRead hs hp⟩
  · obtain ⟨hrc, hexec⟩ := stallClears_reads he
    exact ⟨by rw [hexec, State.readStall_clears hrun hp hrc], by rw [hexec, State.readStall_task hrun]⟩
  · obtain ⟨hread, htask⟩ := deviceClears_clearsOnRead he hn s
    exact ⟨hread p hp, htask⟩
  · exact ⟨(clearsOnRead_chce hs hc s).1 p hp, (clearsOnRead_chue hs hc s).1 p hp⟩

/-! ### The path of a register write -/

section
variable {a len : Nat} {v : Word} {r : Region}

theorem exec_registerWrite : exec (.registerWrite p a len v) s = execRegisterWrite p a len v s := rfl

theorem exec_registerWrite_noRegion (h : localRegion a = none) :
    exec (.registerWrite p a len v) s = .next (answered s St.memRange 0 []) := by
  simp only [exec_registerWrite, execRegisterWrite, State.csrWrite, h]
  rfl

variable (h : localRegion a = some r)
include h

/-- Every write of a page that sleeps waits (R530). -/
theorem exec_registerWrite_asleep (hw : s.regAwake r = false) : exec (.registerWrite p a len v) s = .next s := by
  simp [exec_registerWrite, execRegisterWrite, State.csrWrite, h, hw]

theorem exec_registerWrite_privilege (hw : s.regAwake r = true) (hx : (s.regWrite p false v r.aligned).2 = St.privilege) :
    exec (.registerWrite p a len v) s = .next (answered s St.privilege 0 []) := by
  simp only [exec_registerWrite, execRegisterWrite, State.csrWrite, h, hw, hx, if_true]
  rfl

theorem exec_registerWrite_unsupported (hw : s.regAwake r = true) (hx : (s.regWrite p false v r.aligned).2 ≠ St.privilege)
    (hlen : len ≠ 8 ∨ a % 8 ≠ 0) : exec (.registerWrite p a len v) s = .next (answered s St.unsupported 0 []) := by
  simp only [exec_registerWrite, execRegisterWrite, State.csrWrite, h, hw, hx, hlen, if_true, if_false]
  rfl

theorem exec_registerWrite_whole (hw : s.regAwake r = true) (hx : (s.regWrite p false v r.aligned).2 ≠ St.privilege) (ha : a % 8 = 0) :
    exec (.registerWrite p a 8 v) s =
      .next (answered (s.regWrite p false v r.aligned).1 (s.regWrite p false v r.aligned).2 0 []) := by
  simp only [exec_registerWrite, execRegisterWrite, State.csrWrite, h, hw, hx, ha]
  rfl

end

/-! ### Writes of device CSR space -/

theorem localRegion_dev {o : Nat} (ho : o < 0x1000000) : localRegion (devSpace + o) = some (.dev o) := by
  have hd : devSpace = 0x600000000000 := rfl
  unfold localRegion
  rw [if_neg (by omega), if_neg (by omega), if_pos (by omega), Nat.add_sub_cancel_left]

section
variable {o : Nat} {v : Word} {t : State} {st : Status}

/-- The start of a register is its own aligned place. -/
theorem Region.aligned_dev (h8 : o % 8 = 0) : (Region.dev o).aligned = .dev o := by
  simp only [Region.aligned, Nat.div_mul_cancel (Nat.dvd_of_mod_eq_zero h8)]

/-- A write of a whole register of device CSR space returns what the register's rule says. -/
theorem exec_registerWrite_dev (ho : o < 0x1000000) (h8 : o % 8 = 0) (hx : s.devRegWrite p o v = (t, st)) (hst : st ≠ St.privilege) :
    exec (.registerWrite p (devSpace + o) 8 v) s = .next (answered t st 0 []) := by
  have hreg : s.regWrite p false v (Region.dev o).aligned = (t, st) := by rw [Region.aligned_dev h8]; exact hx
  rw [exec_registerWrite_whole (localRegion_dev ho) rfl (by rw [hreg]; exact hst) (by unfold devSpace; omega), hreg]

/-- A write that the register's rule refuses for its privilege changes nothing. -/
theorem exec_registerWrite_dev_privilege (ho : o < 0x1000000) (h8 : o % 8 = 0) (hx : (s.devRegWrite p o v).2 = St.privilege) :
    exec (.registerWrite p (devSpace + o) 8 v) s = .next (answered s St.privilege 0 []) :=
  exec_registerWrite_privilege (localRegion_dev ho) rfl (by rw [Region.aligned_dev h8]; exact hx)

theorem State.devRegWrite_task : s.devRegWrite .task o v = (s, St.privilege) := rfl

theorem State.devRegWrite_unlisted (hp : p ≠ .task) (h : devBlk o = none ∨ ∃ b k, devBlk o = some (b, k) ∧ findReg b.regs k = none) :
    s.devRegWrite p o v = (s, St.ok) := by
  simp only [State.devRegWrite, hp, if_false]
  rcases h with hb | ⟨b, k, hb, hk⟩
  · simp only [hb]
  · simp only [hb, hk]

/-- ARB_ERR and TACK_AGE_CFG as the tables list them (R476, R557). -/
def arbErrReg : RegKind := ⟨0x30, 0x8, 1, 0x0, 0x0, 0x0, 0x1, 0x0, 0x0, 0x0⟩
def ageCfgReg : RegKind := ⟨0x48, 0x8, 1, 0x1E, 0x0, 0xFFFF, 0x0, 0x0, 0x0, 0x0⟩

theorem State.devRegWrite_arbErr_tack : s.devRegWrite .tack (arbBase + 0x30) v =
    ((s.devPlain (arbBase + 0x30) arbErrReg v).1, St.ok) := rfl
theorem State.devRegWrite_arbErr_kernel : s.devRegWrite .kernel (arbBase + 0x30) v = (s, St.privilege) := rfl

/-- A write clears the W1C bits that it sets and leaves the others (R5, R6). -/
theorem arbErrReg_afterWrite_bit (w v : Word) : bit (arbErrReg.afterWrite w v) 0 = (bit w 0 && !bit v 0) := by
  simp [RegKind.afterWrite, arbErrReg, bit]

theorem State.devRegWrite_ageCfg (hp : p ≠ .task) :
    s.devRegWrite p 0x48 v = if fld v 15 0 < 1 ∨ 3650 < fld v 15 0 then (s, St.badParam) else ((s.devPlain 0x48 ageCfgReg v).1, St.ok) := by
  cases p with
  | task => exact absurd rfl hp
  | kernel => rfl
  | tack => rfl

/-- Equal bits of a field make equal fields. -/
theorem fld_congr {w v : Word} {hi : Nat} (h : ∀ i, i ≤ hi → w.getLsbD i = v.getLsbD i) : fld w hi 0 = fld v hi 0 := by
  refine Nat.eq_of_testBit_eq fun i => ?_
  simp only [fld, Nat.shiftRight_zero, Nat.testBit_mod_two_pow, BitVec.testBit_toNat]
  by_cases hle : i ≤ hi
  · rw [h i hle]
  · simp [hle]

theorem ageCfgReg_afterWrite_days (w v : Word) : fld (ageCfgReg.afterWrite w v) 15 0 = fld v 15 0 := by
  refine fld_congr fun i hi => ?_
  have hrw : (BitVec.ofNat 64 0xFFFF).getLsbD i = true := by interval_cases i <;> rfl
  simp only [RegKind.afterWrite, ageCfgReg, BitVec.getLsbD_or, BitVec.getLsbD_and, BitVec.getLsbD_not, BitVec.getLsbD_zero, hrw]
  simp [show i < 64 by omega]

end

/-- A register write passes its checks in order and then follows its register's rule (R6, R8, R13, R530, R557, R571). -/
theorem registerWrites : Claims.RegisterWrites := by
  intro s p a len v hs
  refine ⟨exec_registerWrite_noRegion,
    fun r hr => ⟨exec_registerWrite_asleep hr, exec_registerWrite_privilege hr, exec_registerWrite_unsupported hr, exec_registerWrite_whole hr⟩,
    fun o ho h8 => ⟨?task, fun hlisted hp => ?unlisted⟩, ?arbErr, ?arbErrKernel, fun hp => ⟨fun hbad => ?ageCfgBad, fun hlo hhi => ?ageCfg⟩⟩
  case task =>
    exact exec_registerWrite_dev_privilege ho h8 (by rw [State.devRegWrite_task])
  case unlisted =>
    exact exec_registerWrite_dev ho h8 (State.devRegWrite_unlisted hp hlisted) (by decide)
  case arbErr =>
    refine ⟨_, exec_registerWrite_dev (o := arbBase + 0x30) (by decide) (by decide) State.devRegWrite_arbErr_tack (by decide), rfl, ?_, fun o ho => ?_⟩
    · rw [State.dcsr_answered, State.dcsr_devPlain_self hs.csr, arbErrReg_afterWrite_bit]
    · rw [State.dcsr_answered, State.dcsr_devPlain_of_ne arbErrReg v ho]
  case arbErrKernel =>
    exact exec_registerWrite_dev_privilege (o := arbBase + 0x30) (by decide) (by decide) (by rw [State.devRegWrite_arbErr_kernel])
  case ageCfgBad =>
    exact exec_registerWrite_dev (o := 0x48) (by decide) (by decide) ((State.devRegWrite_ageCfg hp).trans (if_pos (by omega))) (by decide)
  case ageCfg =>
    refine ⟨_, exec_registerWrite_dev (o := 0x48) (by decide) (by decide) ((State.devRegWrite_ageCfg hp).trans (if_neg (by omega))) (by decide), rfl, ?_⟩
    rw [State.dcsr_answered, State.dcsr_devPlain_self hs.csr, ageCfgReg_afterWrite_days]

/-- Settles O58: reads clear their RC fields by the register tables, and a write's checks come in their order before its register's rule. -/
theorem registerAccess : Obligations.RegisterAccess :=
  ⟨readsClearRcFields, registerWrites⟩

end Sys2Proof.Machine
end

section
/-! SUPPORT. Coolant and supply: what the reports of power changes leave as it was, the rows of the coolant table, and the statement on
caps, warnings and stop conditions (R20 to R23, R521 to R525). -/

namespace Sys2Proof.Machine

variable {s : State}

/-! ### Reports change the sessions, the registers and the tack rooms alone -/

theorem State.report_eq (s : State) (r : ErrRec) : ∃ a, s.report r = { s with tack := a } := by
  unfold State.report
  split_ifs
  · exact ⟨_, rfl⟩
  · exact ⟨_, rfl⟩

@[simp] theorem State.report_mem (s : State) (r : ErrRec) : (s.report r).mem = s.mem := by
  obtain ⟨a, h⟩ := s.report_eq r
  rw [h]

@[simp] theorem State.report_chan (s : State) (r : ErrRec) (ch : Nat) : (s.report r).chan ch = s.chan ch := by
  obtain ⟨a, h⟩ := s.report_eq r
  rw [h]
  rfl

@[simp] theorem State.report_dcsr (s : State) (r : ErrRec) (o : Nat) : (s.report r).dcsr o = s.dcsr o := by
  obtain ⟨a, h⟩ := s.report_eq r
  rw [h]
  rfl

theorem State.hostErr_eq (s : State) (v : Word) : ∃ k a, s.hostErr v = { s with csr := k, tack := a } := by
  unfold State.hostErr
  split_ifs
  · exact ⟨s.csr, s.tack, rfl⟩
  · obtain ⟨a, h⟩ := (s.orDev (hostifBase + 0x28) v).report_eq { status := St.ok, cls := 12, sev := 0, unit := 5, id := 0 }
    exact ⟨_, a, h⟩

theorem State.event_eq (s : State) (e : Event) : ∃ m k a, s.event e = { s with sess := m, csr := k, tack := a } := by
  unfold State.event
  dsimp only
  split_ifs
  · obtain ⟨k, a, h⟩ := ({ s with sess := s.sess.map fun p => (p.1, p.2.map (Sess.post e)) } : State).hostErr_eq 2
    exact ⟨_, k, a, h⟩
  · exact ⟨_, s.csr, s.tack, rfl⟩

theorem State.powerEvent_eq (s : State) (n : Nat) : ∃ m k a, s.powerEvent n = { s with sess := m, csr := k, tack := a } :=
  s.event_eq _

theorem State.pwrEvt_eq (s : State) (v : Word) : ∃ k a, s.pwrEvt v = { s with csr := k, tack := a } := by
  obtain ⟨a, h⟩ := (s.orDev (pwrBase + 8) v).report_eq { status := St.ok, cls := 14, sev := 0, unit := 7, id := 0 }
  exact ⟨_, a, h⟩

theorem State.capChange_eq (s : State) :
    ∃ k a, s.capChange = { s with csr := k, tack := a, pwr := { s.pwr with lastCap := s.cap.1 } } := by
  unfold State.capChange
  split_ifs with hcap
  · exact ⟨s.csr, s.tack, by rw [hcap]⟩
  · obtain ⟨k, a, h⟩ := s.pwrEvt_eq 4
    exact ⟨k, a, by rw [h]⟩

/-! ### What the reports of power leave as it was -/

@[simp] theorem State.powerEvent_pwr (s : State) (n : Nat) : (s.powerEvent n).pwr = s.pwr := by
  obtain ⟨m, k, a, h⟩ := s.powerEvent_eq n; rw [h]
@[simp] theorem State.powerEvent_mem (s : State) (n : Nat) : (s.powerEvent n).mem = s.mem := by
  obtain ⟨m, k, a, h⟩ := s.powerEvent_eq n; rw [h]
@[simp] theorem State.powerEvent_stalls (s : State) (n : Nat) : (s.powerEvent n).stalls = s.stalls := by
  obtain ⟨m, k, a, h⟩ := s.powerEvent_eq n; rw [h]
@[simp] theorem State.powerEvent_grooms (s : State) (n : Nat) : (s.powerEvent n).grooms = s.grooms := by
  obtain ⟨m, k, a, h⟩ := s.powerEvent_eq n; rw [h]
@[simp] theorem State.powerEvent_reqs (s : State) (n : Nat) : (s.powerEvent n).reqs = s.reqs := by
  obtain ⟨m, k, a, h⟩ := s.powerEvent_eq n; rw [h]
@[simp] theorem State.powerEvent_loft (s : State) (n : Nat) : (s.powerEvent n).loft = s.loft := by
  obtain ⟨m, k, a, h⟩ := s.powerEvent_eq n; rw [h]
@[simp] theorem State.powerEvent_cpq (s : State) (n : Nat) : (s.powerEvent n).cpq = s.cpq := by
  obtain ⟨m, k, a, h⟩ := s.powerEvent_eq n; rw [h]
@[simp] theorem State.pwrEvt_pwr (s : State) (v : Word) : (s.pwrEvt v).pwr = s.pwr := by
  obtain ⟨k, a, h⟩ := s.pwrEvt_eq v; rw [h]
@[simp] theorem State.pwrEvt_mem (s : State) (v : Word) : (s.pwrEvt v).mem = s.mem := by
  obtain ⟨k, a, h⟩ := s.pwrEvt_eq v; rw [h]
@[simp] theorem State.capChange_pwr (s : State) : s.capChange.pwr = { s.pwr with lastCap := s.cap.1 } := by
  obtain ⟨k, a, h⟩ := s.capChange_eq; rw [h]
@[simp] theorem State.capChange_mem (s : State) : s.capChange.mem = s.mem := by
  obtain ⟨k, a, h⟩ := s.capChange_eq; rw [h]

/-! ### Registers of PWR under reports -/

theorem State.dcsr_setDcsr_self (h : Map.wf devReset s.csr = true) (o : Nat) (v : Word) : (s.setDcsr o v).dcsr o = v :=
  Map.get_set_self devReset o v h

theorem State.dcsr_setDcsr_of_ne {o p : Nat} (v : Word) (h : p ≠ o) : (s.setDcsr o v).dcsr p = s.dcsr p :=
  Map.get_set_of_ne devReset s.csr v h

theorem State.hostErr_dcsr {o : Nat} (v : Word) (h : o ≠ hostifBase + 0x28) : (s.hostErr v).dcsr o = s.dcsr o := by
  unfold State.hostErr
  split_ifs
  · rfl
  · rw [State.report_dcsr]
    exact State.dcsr_setDcsr_of_ne _ h

theorem State.event_dcsr {o : Nat} (e : Event) (h : o ≠ hostifBase + 0x28) : (s.event e).dcsr o = s.dcsr o := by
  unfold State.event
  dsimp only
  split_ifs
  · exact State.hostErr_dcsr 2 h
  · rfl

theorem State.powerEvent_dcsr {o : Nat} (n : Nat) (h : o ≠ hostifBase + 0x28) : (s.powerEvent n).dcsr o = s.dcsr o :=
  State.event_dcsr _ h

theorem State.pwrEvt_csr (s : State) (v : Word) : (s.pwrEvt v).csr = (s.orDev (pwrBase + 8) v).csr := by
  obtain ⟨a, h⟩ := (s.orDev (pwrBase + 8) v).report_eq { status := St.ok, cls := 14, sev := 0, unit := 7, id := 0 }
  show ((s.orDev (pwrBase + 8) v).report _).csr = _
  rw [h]

theorem State.pwrEvt_dcsr_self (h : Map.wf devReset s.csr = true) (v : Word) :
    (s.pwrEvt v).dcsr (pwrBase + 8) = s.dcsr (pwrBase + 8) ||| v := by
  rw [State.dcsr, s.pwrEvt_csr]
  exact State.dcsr_setDcsr_self h _ _

theorem State.pwrEvt_dcsr_of_ne {o : Nat} (v : Word) (h : o ≠ pwrBase + 8) : (s.pwrEvt v).dcsr o = s.dcsr o := by
  rw [State.dcsr, s.pwrEvt_csr]
  exact State.dcsr_setDcsr_of_ne _ h

theorem State.pwrEvt_wf (h : Map.wf devReset s.csr = true) (v : Word) : Map.wf devReset (s.pwrEvt v).csr = true := by
  rw [s.pwrEvt_csr]
  exact Map.wf_set devReset _ _ h

theorem State.capChange_dcsr_of_ne {o : Nat} (h : o ≠ pwrBase + 8) : s.capChange.dcsr o = s.dcsr o := by
  unfold State.capChange
  split_ifs
  · rfl
  · exact State.pwrEvt_dcsr_of_ne 4 h

/-- Noting a change of the cap clears no bit of PWR_EVT. -/
theorem State.capChange_keeps_pwrEvt (h : Map.wf devReset s.csr = true) {i : Nat} (hi : bit (s.dcsr (pwrBase + 8)) i = true) :
    bit (s.capChange.dcsr (pwrBase + 8)) i = true := by
  unfold State.capChange
  split_ifs
  · exact hi
  · show bit ((s.pwrEvt 4).dcsr (pwrBase + 8)) i = true
    rw [State.pwrEvt_dcsr_self h]
    simp only [bit] at hi
    simp [bit, hi]

/-! ### The effective cap (R524) -/

theorem State.cap_le_of_coolWarn (h : s.pwr.coolWarn = true) : s.cap.1 ≤ 1560 := by
  simp only [State.cap, h, if_true]
  split_ifs <;> dsimp only at * <;> omega

theorem State.cap_le_of_coolDeg (h : s.pwr.coolDeg = true) : s.cap.1 ≤ 3100 := by
  simp only [State.cap, h, if_true]
  split_ifs <;> dsimp only at * <;> omega

theorem State.cap_le_of_supplyCap (h : s.pwr.supplyCap = true) : s.cap.1 ≤ 1560 := by
  simp only [State.cap, h, true_and]
  split_ifs <;> dsimp only at * <;> omega

/-! ### The rows of the coolant table (R20) -/

theorem warns_iff {sup ret : Int} {flow : Nat} {wet : Bool} :
    warns sup ret flow wet = true ↔ sup < 1500 ∨ 4500 < sup ∨ 5800 < ret ∨ flow < 600 ∨ wet = true := by
  simp only [warns, Bool.or_eq_true, decide_eq_true_eq]
  tauto

theorem coolNormal_iff {sup ret : Int} {flow : Nat} {wet : Bool} :
    coolNormal sup ret flow wet = true ↔ 1800 ≤ sup ∧ sup ≤ 3500 ∧ ret ≤ 5000 ∧ 800 ≤ flow ∧ wet = false := by
  simp only [coolNormal, Bool.and_eq_true, decide_eq_true_eq, Bool.not_eq_true']
  tauto

theorem not_warns_iff {sup ret : Int} {flow : Nat} {wet : Bool} :
    warns sup ret flow wet = false ↔ ¬ (sup < 1500 ∨ 4500 < sup ∨ 5800 < ret ∨ flow < 600 ∨ wet = true) := by
  rw [Bool.eq_false_iff, ne_eq, warns_iff]

theorem not_coolNormal_iff {sup ret : Int} {flow : Nat} {wet : Bool} :
    coolNormal sup ret flow wet = false ↔ ¬ (1800 ≤ sup ∧ sup ≤ 3500 ∧ ret ≤ 5000 ∧ 800 ≤ flow ∧ wet = false) := by
  rw [Bool.eq_false_iff, ne_eq, coolNormal_iff]

theorem degrades_iff {sup ret : Int} {flow : Nat} {wet : Bool} :
    degrades sup ret flow wet = true ↔ coolNormal sup ret flow wet = false ∧ warns sup ret flow wet = false := by
  simp [degrades]

theorem degradeCond_iff {sup ret : Int} {flow : Nat} :
    degradeCond sup ret flow = true ↔
      (1500 ≤ sup ∧ sup < 1800) ∨ (3500 < sup ∧ sup ≤ 4500) ∨ (5000 < ret ∧ ret ≤ 5800) ∨ (600 ≤ flow ∧ flow < 800) := by
  simp [degradeCond]

theorem not_warns_of_coolNormal {sup ret : Int} {flow : Nat} {wet : Bool} (h : coolNormal sup ret flow wet = true) :
    warns sup ret flow wet = false := by
  obtain ⟨h1, h2, h3, h4, rfl⟩ := coolNormal_iff.mp h
  rw [not_warns_iff]
  rintro (h | h | h | h | h)
  · omega
  · omega
  · omega
  · omega
  · cases h

theorem not_degradeCond_of_coolNormal {sup ret : Int} {flow : Nat} {wet : Bool} (h : coolNormal sup ret flow wet = true) :
    degradeCond sup ret flow = false := by
  obtain ⟨h1, h2, h3, h4, -⟩ := coolNormal_iff.mp h
  rw [Bool.eq_false_iff, ne_eq, degradeCond_iff]
  omega

/-- Outside the normal row and no warning, some condition of the COOL_DEGRADED row holds. -/
theorem degradeCond_of_degrades {sup ret : Int} {flow : Nat} {wet : Bool} (h : degrades sup ret flow wet = true) :
    degradeCond sup ret flow = true := by
  obtain ⟨hn, hw⟩ := degrades_iff.mp h
  rw [not_coolNormal_iff] at hn
  rw [not_warns_iff] at hw
  rw [degradeCond_iff]
  cases wet
  · simp only [and_true] at hn
    simp only [Bool.false_eq_true, or_false] at hw
    omega
  · simp at hw

theorem streak_of {c : Bool} (h : c = true) (top n : Nat) : streak top n c = min top (n + 1) := by simp [streak, h]
theorem streak_of_not {c : Bool} (h : c = false) (top n : Nat) : streak top n c = 0 := by simp [streak, h]
theorem streak_decide (p : Prop) [Decidable p] (top n : Nat) : streak top n (decide p) = if p then min top (n + 1) else 0 := by
  simp [streak]

/-! ### A sample -/

/-- A POWER event that may be due. -/
theorem State.powerEvent_if_eq (s : State) (p : Prop) [Decidable p] (n : Nat) :
    ∃ m k a, (if p then s.powerEvent n else s) = { s with sess := m, csr := k, tack := a } := by
  split_ifs
  · exact s.powerEvent_eq n
  · exact ⟨s.sess, s.csr, s.tack, rfl⟩

/-- A sample changes the power state as `Pwr.sample` says, and notes the cap. -/
theorem State.coolantSample_eq (s : State) (sup ret : Int) (flow : Nat) (wet : Bool) :
    ∃ m k a n, s.coolantSample sup ret flow wet =
      { s with sess := m, csr := k, tack := a, pwr := { s.pwr.sample sup ret flow wet with lastCap := n } } := by
  obtain ⟨k, a, h⟩ := ({ s with pwr := s.pwr.sample sup ret flow wet } : State).capChange_eq
  unfold State.coolantSample
  dsimp only
  generalize State.capChange _ = t at h ⊢
  obtain ⟨m1, k1, a1, h1⟩ := t.powerEvent_if_eq ((!s.pwr.coolDeg && t.pwr.coolDeg) = true) 1
  rw [h1]
  obtain ⟨m2, k2, a2, h2⟩ := State.powerEvent_if_eq { t with sess := m1, csr := k1, tack := a1 } ((!s.pwr.coolWarn && t.pwr.coolWarn) = true) 2
  exact ⟨m2, k2, a2, _, h2.trans (by rw [h])⟩

/-- The claim about a sample (R20, R21). -/
theorem exec_coolantSample (s : State) (sup ret : Int) (flow : Nat) (wet : Bool) :
    ∃ t, exec (.coolantSample sup ret flow wet) s = .next t ∧ t.mem = s.mem ∧ t.stalls = s.stalls ∧
      ∃ n, t.pwr = { s.pwr.sample sup ret flow wet with lastCap := n } := by
  obtain ⟨m, k, a, n, h⟩ := s.coolantSample_eq sup ret flow wet
  exact ⟨_, congrArg Host.Outcome.next h, rfl, rfl, n, rfl⟩

/-! ### Lifting a cap, and stopping -/

theorem exec_coolCapLift_idle (hw : s.pwr.warnAbsent < 10000) (hd : s.pwr.degAbsent < 10000) : exec .coolCapLift s = .next s := by
  have hw' : decide (10000 ≤ s.pwr.warnAbsent) = false := decide_eq_false (by omega)
  have hd' : decide (10000 ≤ s.pwr.degAbsent) = false := decide_eq_false (by omega)
  show execCoolCapLift s = _
  simp only [execCoolCapLift, hw', hd', Bool.and_false, Bool.not_false, Bool.and_self, if_true]

theorem exec_coolCapLift_warn (hc : s.pwr.coolWarn = true) (hw : 10000 ≤ s.pwr.warnAbsent) :
    ∃ t, exec .coolCapLift s = .next t ∧ t.pwr.coolWarn = false ∧
      t.pwr.coolDeg = (s.pwr.coolDeg && decide (s.pwr.degAbsent < 10000)) := by
  have hlift : (s.pwr.coolWarn && decide (10000 ≤ s.pwr.warnAbsent)) = true := by rw [hc, decide_eq_true hw, Bool.and_self]
  refine ⟨_, congrArg Host.Outcome.next (if_neg ?_), ?_, ?_⟩
  · rw [hlift, Bool.not_true, Bool.false_and]
    exact Bool.false_ne_true
  · rw [State.powerEvent_pwr, State.capChange_pwr]
    dsimp only
    rw [hlift, Bool.not_true, Bool.and_false]
  · rw [State.powerEvent_pwr, State.capChange_pwr]
    dsimp only
    by_cases habs : 10000 ≤ s.pwr.degAbsent
    · rw [decide_eq_true habs, decide_eq_false (Nat.not_lt.mpr habs), Bool.and_true, Bool.and_not_self, Bool.and_false]
    · rw [decide_eq_false habs, decide_eq_true (Nat.not_le.mp habs), Bool.and_false, Bool.not_false]

/-- A stop condition has been held for its time (R20). -/
def Pwr.stopHeld (p : Pwr) : Bool := decide (2000 ≤ p.stopSup ∨ 2000 ≤ p.stopRet ∨ 2000 ≤ p.stopFlow ∨ 100 ≤ p.stopLeak)

theorem exec_coolStop_idle (h : s.pwr.stopHeld = false ∨ s.pwr.coolStopped = true) : exec .coolStop s = .next s := by
  refine congrArg Host.Outcome.next (if_pos ?_)
  show (s.pwr.coolStopped || !s.pwr.stopHeld) = true
  rcases h with h | h
  · rw [h, Bool.not_false, Bool.or_true]
  · rw [h, Bool.true_or]

theorem exec_coolStop_stops (h : s.pwr.stopHeld = true) (hc : s.pwr.coolStopped = false) :
    ∃ t, exec .coolStop s = .next t ∧ t.pwr.coolStopped = true ∧ t.pwr.phase = 0 ∧ t.stalls = [] ∧ t.grooms = [] ∧
       t.reqs = [] ∧ t.loft = s.loft ∧ t.cpq = s.cpq ∧ t.mem = s.mem := by
  refine ⟨_, congrArg Host.Outcome.next (if_neg ?_), ?_⟩
  · show ¬ (s.pwr.coolStopped || !s.pwr.stopHeld) = true
    rw [h, hc, Bool.not_true, Bool.or_self]
    exact Bool.false_ne_true
  · exact ⟨by rw [State.powerEvent_pwr], by rw [State.powerEvent_pwr]; rfl, State.powerEvent_stalls _ 3, State.powerEvent_grooms _ 3,
      State.powerEvent_reqs _ 3, State.powerEvent_loft _ 3, State.powerEvent_cpq _ 3, State.powerEvent_mem _ 3⟩

theorem exec_dimmSupplyRemove_stopping (hot : Bool) (h : s.pwr.coolStopped = true ∨ s.pwr.stopping ≠ none) :
    exec (.dimmSupplyRemove hot) s = .next { s with pwr := { s.pwr with dimmSupply := false } } := by
  refine congrArg Host.Outcome.next (if_pos ?_)
  rw [Bool.or_eq_true, Option.isSome_iff_ne_none]
  exact h

theorem exec_dimmSupplyRemove_running (hot : Bool) (hc : s.pwr.coolStopped = false) (hs : s.pwr.stopping = none) :
    exec (.dimmSupplyRemove hot) s = .next s := by
  refine congrArg Host.Outcome.next (if_neg ?_)
  rw [hc, hs]
  exact Bool.false_ne_true

/-! ### Supply (R521, R522) -/

/-- A stop sequence starts where none runs. -/
theorem State.stopFor_of_running (hs : s.pwr.stopping = none) (hc : s.pwr.coolStopped = false) (cause : Nat) :
    s.stopFor cause = { s with pwr := { s.pwr with stopping := some cause } } := by
  refine if_neg ?_
  rw [hs, hc]
  rintro (h | h) <;> cases h

theorem State.stopFor_eq (s : State) (cause : Nat) : ∃ x, s.stopFor cause = { s with pwr := { s.pwr with stopping := x } } := by
  unfold State.stopFor
  split_ifs
  · exact ⟨s.pwr.stopping, rfl⟩
  · exact ⟨_, rfl⟩

/-- The power state that a DC-link sample leaves, but for the cap that it notes and the stop sequence that it starts. -/
def Pwr.dcSample (p : Pwr) (dv : Nat) : Pwr :=
  { p with dclink := dv, supplyCap := p.supplyCap || decide (dv < 3600), below320 := p.below320 || decide (dv < 3200),
           stable := streak 5000 p.stable (decide (3700 < dv)) }

/-- The state after a DC-link sample, before it stops the package. -/
def State.dcNoted (s : State) (dv : Nat) : State :=
  let u : State := { s with pwr := s.pwr.dcSample dv }
  if decide (dv < 3600) && (!s.pwr.supplyCap || decide (3600 ≤ s.pwr.dclink)) then ((u.pwrEvt 1).capChange).powerEvent 4 else u

theorem State.dclinkSample_eq (s : State) (dv : Nat) :
    s.dclinkSample dv = if dv < 3200 then (s.dcNoted dv).stopFor 1 else s.dcNoted dv := rfl

theorem State.dcNoted_mem (s : State) (dv : Nat) : (s.dcNoted dv).mem = s.mem := by
  unfold State.dcNoted
  split_ifs
  · rw [State.powerEvent_mem, State.capChange_mem, State.pwrEvt_mem]
  · rfl

theorem State.dcNoted_pwr (s : State) (dv : Nat) : ∃ n, (s.dcNoted dv).pwr = { s.pwr.dcSample dv with lastCap := n } := by
  unfold State.dcNoted
  split_ifs
  · exact ⟨_, by rw [State.powerEvent_pwr, State.capChange_pwr, State.pwrEvt_pwr]⟩
  · exact ⟨s.pwr.lastCap, rfl⟩

/-- What a DC-link sample leaves of memory and of the power state. -/
theorem State.dclinkSample_pwr (s : State) (dv : Nat) : (s.dclinkSample dv).mem = s.mem ∧
    ∃ n x, (s.dclinkSample dv).pwr = { s.pwr.dcSample dv with lastCap := n, stopping := x } := by
  obtain ⟨n, hn⟩ := s.dcNoted_pwr dv
  rw [State.dclinkSample_eq]
  split_ifs
  · obtain ⟨x, hx⟩ := (s.dcNoted dv).stopFor_eq 1
    rw [hx]
    exact ⟨s.dcNoted_mem dv, n, x, by dsimp only; rw [hn]⟩
  · exact ⟨s.dcNoted_mem dv, n, s.pwr.stopping, hn⟩

theorem exec_dclinkSample_stops (hs : s.pwr.stopping = none) (hc : s.pwr.coolStopped = false) {dv : Nat} (hdv : dv < 3200) :
    ∃ t, exec (.dclinkSample dv) s = .next t ∧ t.pwr.stopping = some 1 := by
  obtain ⟨n, hn⟩ := s.dcNoted_pwr dv
  refine ⟨_, congrArg Host.Outcome.next ((s.dclinkSample_eq dv).trans (if_pos hdv)), ?_⟩
  rw [State.stopFor_of_running (by rw [hn]; exact hs) (by rw [hn]; exact hc)]

theorem exec_pllUnlock (hs : s.pwr.stopping = none) (hc : s.pwr.coolStopped = false) {die : Nat} (hdie : die < 12) :
    ∃ t, exec (.pllUnlock die) s = .next t ∧ t.pwr.stopping = some 4 ∧ t.pwr.plls.getLsbD die = false := by
  refine ⟨_, congrArg Host.Outcome.next (State.stopFor_of_running (by exact hs) (by exact hc) 4), rfl, ?_⟩
  show (s.pwr.plls &&& ~~~BitVec.ofNat 12 (2 ^ die)).getLsbD die = false
  rw [BitVec.getLsbD_and, BitVec.getLsbD_not, BitVec.getLsbD_ofNat, Nat.testBit_two_pow_self, decide_eq_true hdie]
  exact Bool.and_false _

theorem exec_supplyOk_idle (h : s.pwr.supplyCap = false ∨ s.pwr.stable < 5000 ∨ s.pwr.below320 = true) : exec .supplyOk s = .next s := by
  refine congrArg Host.Outcome.next (if_neg ?_)
  rw [Bool.and_eq_true, Bool.and_eq_true, decide_eq_true_eq, Bool.not_eq_true']
  rintro ⟨⟨hcap, hst⟩, hlow⟩
  rcases h with h | h | h
  · rw [h] at hcap; cases hcap
  · omega
  · rw [h] at hlow; cases hlow

theorem exec_supplyOk_lifts (hcsr : Map.wf devReset s.csr = true) (hcap : s.pwr.supplyCap = true) (hst : 5000 ≤ s.pwr.stable)
    (hlow : s.pwr.below320 = false) :
    ∃ t, exec .supplyOk s = .next t ∧ t.pwr.supplyCap = false ∧ bit (t.dcsr (pwrBase + 8)) 1 = true := by
  refine ⟨_, congrArg Host.Outcome.next (if_pos ?_), ?_, ?_⟩
  · rw [hcap, hlow, decide_eq_true hst]
    rfl
  · rw [State.powerEvent_pwr, State.capChange_pwr, State.pwrEvt_pwr]
  · rw [State.powerEvent_dcsr 5 (by decide)]
    refine State.capChange_keeps_pwrEvt (State.pwrEvt_wf (by exact hcsr) 2) ?_
    rw [State.pwrEvt_dcsr_self (by exact hcsr)]
    simp [bit]

/-! ### The statement -/

/-- A sample sets or keeps the two caps and counts each stop condition (R20, R21). -/
theorem Pwr.sample_rows (p : Pwr) (sup ret : Int) (flow : Nat) (wet : Bool) :
    let q := p.sample sup ret flow wet
    let w := warns sup ret flow wet
    let n := coolNormal sup ret flow wet
    (w = true → q.coolWarn = true ∧ q.warnAbsent = 0) ∧
    (w = false → q.coolWarn = p.coolWarn ∧ q.warnAbsent = min 10000 (p.warnAbsent + 1)) ∧
    (w = false → n = false → q.coolDeg = true ∧ q.degAbsent = 0) ∧
    (n = true → q.coolDeg = p.coolDeg ∧ q.degAbsent = min 10000 (p.degAbsent + 1)) := by
  refine ⟨fun hw => ?_, fun hw => ?_, fun hw hn => ?_, fun hn => ?_⟩
  · exact ⟨by simp only [Pwr.sample, hw, Bool.or_true], streak_of_not (by rw [hw]; rfl) _ _⟩
  · exact ⟨by simp only [Pwr.sample, hw, Bool.or_false], streak_of (by rw [hw]; rfl) _ _⟩
  · have hd : degrades sup ret flow wet = true := degrades_iff.mpr ⟨hn, hw⟩
    exact ⟨by simp only [Pwr.sample, hd, Bool.or_true], streak_of_not (by rw [degradeCond_of_degrades hd]; rfl) _ _⟩
  · have hd : degrades sup ret flow wet = false := by simp only [degrades, hn, Bool.not_true, Bool.false_and]
    exact ⟨by simp only [Pwr.sample, hd, Bool.or_false], streak_of (by rw [not_degradeCond_of_coolNormal hn]; rfl) _ _⟩

/-- Settles O48: each power command changes the power state as its rule says, and its reports reach the sessions, the registers and the
tack rooms alone. -/
theorem coolantAndSupply : Obligations.CoolantAndSupply := by
  intro s hs
  refine ⟨fun sup ret flow wet => ?sample, exec_coolCapLift_idle, exec_coolCapLift_warn, ⟨?idle, ?stops⟩,
    fun hot => ⟨exec_dimmSupplyRemove_stopping hot, exec_dimmSupplyRemove_running hot⟩,
    fun hn hc => ⟨?refLoss, fun die => exec_pllUnlock hn hc, fun dv => exec_dclinkSample_stops hn hc⟩, fun dv => ?dclink,
    exec_supplyOk_lifts hs.csr, exec_supplyOk_idle⟩
  case sample =>
    obtain ⟨t, ht, hmem, hstalls, n, hp⟩ := exec_coolantSample s sup ret flow wet
    obtain ⟨hwarn, hcalm, hdeg, hnormal⟩ := s.pwr.sample_rows sup ret flow wet
    refine ⟨t, ht, hmem, hstalls, by rw [hp]; rfl, by rw [hp]; rfl, by rw [hp]; rfl, by rw [hp]; rfl, fun h => ?_, fun h => ?_,
      fun h h' => ?_, fun h => ?_, ?_, ?_, ?_, ?_⟩
    · obtain ⟨hon, habs⟩ := hwarn (warns_iff.mpr h)
      have hcw : t.pwr.coolWarn = true := by rw [hp]; exact hon
      exact ⟨hcw, State.cap_le_of_coolWarn hcw, by rw [hp]; exact habs⟩
    · rw [hp]
      exact hcalm (not_warns_iff.mpr h)
    · obtain ⟨hon, habs⟩ := hdeg (not_warns_iff.mpr h) (not_coolNormal_iff.mpr h')
      have hcd : t.pwr.coolDeg = true := by rw [hp]; exact hon
      exact ⟨hcd, State.cap_le_of_coolDeg hcd, by rw [hp]; exact habs⟩
    · rw [hp]
      exact hnormal (coolNormal_iff.mpr h)
    · rw [hp]
      exact streak_decide _ _ _
    · rw [hp]
      exact streak_decide _ _ _
    · rw [hp]
      exact streak_decide _ _ _
    · rw [hp]
      rfl
  case idle =>
    refine fun h => exec_coolStop_idle ?_
    rw [Pwr.stopHeld, decide_eq_false_iff_not]
    exact h
  case stops => exact fun h hc => exec_coolStop_stops (decide_eq_true h) hc
  case refLoss => exact congrArg Host.Outcome.next (State.stopFor_of_running (by exact hn) (by exact hc) 3)
  case dclink =>
    obtain ⟨hmem, n, x, hp⟩ := s.dclinkSample_pwr dv
    refine ⟨_, rfl, hmem, by rw [hp]; rfl, fun h => ?_, fun h => ?_, ?_⟩
    · have hcap : (s.dclinkSample dv).pwr.supplyCap = true := by
        rw [hp]
        show (s.pwr.supplyCap || decide (dv < 3600)) = true
        rw [decide_eq_true h, Bool.or_true]
      exact ⟨hcap, State.cap_le_of_supplyCap hcap⟩
    · rw [hp]
      show (s.pwr.supplyCap || decide (dv < 3600)) = s.pwr.supplyCap
      rw [decide_eq_false (by omega), Bool.or_false]
    · rw [hp]
      exact streak_decide _ _ _

end Sys2Proof.Machine
end

section
/-! SUPPORT. Fields of words, channels and sheds read after a write, and the statement on bays, modules and migration (R27, R28, R30, R31,
R295, R310). -/

namespace Sys2Proof.Machine

open Sys2Proof.Claims (answered)

variable {s : State}

/-! ### Fields of words -/

theorem testBit_fld (w : Word) (hi lo i : Nat) : (fld w hi lo).testBit i = (decide (i < hi + 1 - lo) && w.getLsbD (lo + i)) := by
  rw [fld, Nat.testBit_mod_two_pow, Nat.testBit_shiftRight, BitVec.testBit_toNat]

theorem getLsbD_place (hi lo v i : Nat) : (place hi lo v).getLsbD i =
    (decide (i < 64) && (decide (lo ≤ i) && (decide (i - lo < hi + 1 - lo) && v.testBit (i - lo)))) := by
  rw [place, BitVec.getLsbD_ofNat, Nat.testBit_shiftLeft, Nat.testBit_mod_two_pow]

theorem fld_or (a b : Word) (hi lo : Nat) : fld (a ||| b) hi lo = fld a hi lo ||| fld b hi lo := by
  refine Nat.eq_of_testBit_eq fun i => ?_
  rw [Nat.testBit_or, testBit_fld, testBit_fld, testBit_fld, BitVec.getLsbD_or, Bool.and_or_distrib_left]

/-- A field reads back what was placed in it. -/
theorem fld_place_self {hi lo : Nat} (h : hi < 64) (v : Nat) : fld (place hi lo v) hi lo = v % 2 ^ (hi + 1 - lo) := by
  refine Nat.eq_of_testBit_eq fun i => ?_
  rw [testBit_fld, getLsbD_place, Nat.testBit_mod_two_pow, Nat.add_sub_cancel_left]
  by_cases hi' : i < hi + 1 - lo
  · simp [hi', show lo + i < 64 by omega]
  · simp [hi']

/-- A field apart from the one that was placed is zero. -/
theorem fld_place_apart {hi lo hi' lo' : Nat} (h : hi' < lo ∨ hi < lo') (v : Nat) : fld (place hi' lo' v) hi lo = 0 := by
  refine Nat.eq_of_testBit_eq fun i => ?_
  rw [testBit_fld, getLsbD_place, Nat.zero_testBit]
  by_cases hin : i < hi + 1 - lo
  · rcases h with h | h
    · simp [show ¬ lo + i - lo' < hi' + 1 - lo' by omega]
    · simp [show ¬ lo' ≤ lo + i by omega]
  · simp [hin]

theorem bit_or (a b : Word) (i : Nat) : bit (a ||| b) i = (bit a i || bit b i) := BitVec.getLsbD_or

theorem bit_place_one {i : Nat} (h : i < 64) : bit (place i i 1) i = true := by
  rw [bit, getLsbD_place]
  simp [h]

/-! ### Channels and sheds read after a write -/

theorem chanDflt_state_le (ch : Nat) : (chanDflt ch).state ≤ 1 := by
  simp only [chanDflt]
  split_ifs <;> omega

/-- A channel that is neither ACTIVE nor SPARE is not as shipped, so it reads as it was written. -/
theorem State.chan_setChan (s : State) (ch : Nat) {c : Chan} (h : 1 < c.state) : (s.setChan ch c).chan ch = c := by
  refine Map.get_set_of_ne_default chanDflt s.chans ch fun he => ?_
  have := chanDflt_state_le ch
  rw [he] at h
  omega

theorem State.chan_setChan_of_ne (s : State) {i j : Nat} (c : Chan) (h : j ≠ i) : (s.setChan i c).chan j = s.chan j :=
  Map.get_set_of_ne chanDflt s.chans c h

theorem State.chan_setChan_self (h : Map.wf chanDflt s.chans = true) (ch : Nat) (c : Chan) : (s.setChan ch c).chan ch = c :=
  Map.get_set_self chanDflt ch c h

/-- A shed with a migration in progress is not at its reset value. -/
theorem State.shed_setShed (s : State) (n : Nat) {d : Shed} (h : d.mig.active = true) : (s.setShed n d).shed n = d :=
  Map.get_set_of_ne_default (fun _ => ({} : Shed)) s.sheds n fun he => by rw [he] at h; cases h

/-! ### Bays (R27, R28, R30, R31) -/

@[simp] theorem State.elog_mem (s : State) (n : Nat) (e : ElogEntry) : (s.elog n e).mem = s.mem := rfl

@[simp] theorem State.bumpDev_mem (s : State) (o n : Nat) : (s.bumpDev o n).mem = s.mem := by
  unfold State.bumpDev
  split_ifs
  · rfl
  · rfl

theorem State.failChan_mem (s : State) (ch : Nat) : (s.failChan ch).mem = s.mem := by
  unfold State.failChan
  dsimp only
  split
  · rfl
  · rw [State.report_mem, State.bumpDev_mem, State.elog_mem, State.setChan_mem, State.setShed_mem]
    cases (s.shed (ch / 34)).mig.other (ch % 34) with
    | none => rfl
    | some i =>
      dsimp only
      split_ifs
      · exact State.setChan_mem s _ _
      · exact State.setChan_mem s _ _
      · rfl

theorem exec_latchOpen_empties {bay : Nat} (h : (s.chan bay).state = 3 ∨ (s.chan bay).state = 4 ∨ (s.chan bay).state = 6) :
    exec (.latchOpen bay) s = .next (s.setChan bay { s.chan bay with state := 4, dimm := none }) :=
  congrArg Host.Outcome.next (if_pos (by tauto))

/-- A bay whose latch opens while its module is in use. -/
theorem exec_latchOpen_fault {bay : Nat} (h3 : (s.chan bay).state ≠ 3) (h4 : (s.chan bay).state ≠ 4) (h6 : (s.chan bay).state ≠ 6) :
    ∃ t, exec (.latchOpen bay) s = .next t ∧ (t.chan bay).state = 6 ∧ (t.chan bay).last = St.bayLockFault ∧ t.mem = s.mem := by
  refine ⟨_, congrArg Host.Outcome.next (if_neg (by tauto)), ?_, ?_, ?_⟩
  · rw [State.report_chan, State.chan_setChan _ _ (by exact (by decide : 1 < 6))]
  · rw [State.report_chan, State.chan_setChan _ _ (by exact (by decide : 1 < 6))]
  · rw [State.report_mem, State.setChan_mem]
    split_ifs
    · rfl
    · exact s.failChan_mem bay

section
variable {bay : Nat} {d : Dimm}

theorem exec_latchClose_admits (h : (s.chan bay).state = 4) (hslow : d.slow = true → s.slowMem = true) (hcap : s.capLog2 ≤ d.capLog2) :
    exec (.latchClose bay (some d)) s = .next (s.setChan bay { s.chan bay with state := 5, last := St.ok, dimm := some d }) := by
  show execLatchClose bay (some d) s = _
  have hfast : ¬ (d.slow = true ∧ (!s.slowMem) = true) := by
    rintro ⟨hd, hs⟩
    rw [hslow hd] at hs
    cases hs
  simp only [execLatchClose, h, ne_eq, not_true_eq_false, if_false, if_neg hfast, if_neg (Nat.not_lt.mpr hcap)]

theorem exec_latchClose_slow (h : (s.chan bay).state = 4) (hd : d.slow = true) (hs : s.slowMem = false) :
    exec (.latchClose bay (some d)) s = .next (s.setChan bay { s.chan bay with last := St.dimmSpeed, dimm := some d }) := by
  show execLatchClose bay (some d) s = _
  simp only [execLatchClose, h, hd, hs, ne_eq, not_true_eq_false, if_false, Bool.not_false, and_self, if_true]

theorem exec_latchClose_small (h : (s.chan bay).state = 4) (hslow : d.slow = true → s.slowMem = true) (hcap : d.capLog2 < s.capLog2) :
    exec (.latchClose bay (some d)) s = .next (s.setChan bay { s.chan bay with last := St.dimmCapacity, dimm := some d }) := by
  show execLatchClose bay (some d) s = _
  have hfast : ¬ (d.slow = true ∧ (!s.slowMem) = true) := by
    rintro ⟨hd, hs⟩
    rw [hslow hd] at hs
    cases hs
  simp only [execLatchClose, h, ne_eq, not_true_eq_false, if_false, if_neg hfast, if_pos hcap]

theorem exec_latchClose_none (h : (s.chan bay).state = 4) :
    exec (.latchClose bay none) s = .next (s.setChan bay { s.chan bay with last := St.dimmNotPresent, dimm := none }) :=
  congrArg Host.Outcome.next (if_neg (by simp [h]))

theorem exec_admitDone_supported (h : (s.chan bay).state = 5) (hd : (s.chan bay).dimm = some d) (hok : d.supported = true) :
    exec (.admitDone bay true) s = .next (s.setChan bay { s.chan bay with state := 1, last := St.ok }) := by
  show execAdmitDone bay true s = _
  simp only [execAdmitDone, h, hd, hok, ne_eq, not_true_eq_false, if_false, Bool.and_self, if_true]

theorem exec_admitDone_failed (h : (s.chan bay).state = 5) :
    exec (.admitDone bay false) s = .next (s.setChan bay { s.chan bay with state := 4, last := St.dimmTrainFail }) := by
  show execAdmitDone bay false s = _
  simp only [execAdmitDone, h, ne_eq, not_true_eq_false, if_false, Bool.false_and, Bool.false_eq_true]

end

theorem baysAndModules : Claims.BaysAndModules := fun _ _ =>
  ⟨exec_latchOpen_empties, fun h3 h4 h6 _ => exec_latchOpen_fault h3 h4 h6, fun _ => exec_latchClose_admits, fun _ => exec_latchClose_slow,
    fun _ => exec_latchClose_small, exec_latchClose_none, fun _ => exec_admitDone_supported, exec_admitDone_failed⟩

/-! ### Migration (R295, R310) -/

section
variable {n a b : Nat}

/-- A migration that starts: the source is MIGRATING. -/
theorem State.startMig_chan_src (s : State) (n : Nat) (hab : a ≠ b) :
    (s.startMig n a b).chan (n * 34 + a) = { s.chan (n * 34 + a) with state := 2 } := by
  refine (State.chan_setChan_of_ne _ _ (by omega)).trans ?_
  exact State.chan_setChan s _ (by exact (by decide : 1 < 2))

/-- The destination is RECEIVING, with the logical channel of the source. -/
theorem State.startMig_chan_dst (s : State) (n : Nat) (hab : a ≠ b) :
    (s.startMig n a b).chan (n * 34 + b) = { s.chan (n * 34 + b) with state := 7, lc := (s.chan (n * 34 + a)).lc } := by
  refine (State.chan_setChan _ _ (by exact (by decide : 1 < 7))).trans ?_
  rw [State.chan_setChan_of_ne s _ (by omega), State.chan_setChan s _ (by exact (by decide : 1 < 2))]

theorem State.startMig_mig (s : State) (n a b : Nat) : ((s.startMig n a b).shed n).mig =
    if (s.shed n).mig.active then { (s.shed n).mig with queued := (s.shed n).mig.queued ++ [(a, b)] }
    else { (s.shed n).mig with active := true, src := a, dst := b, units := 0, end_ := St.ok } := by
  rw [State.startMig, State.shed_setShed]
  · rfl
  · dsimp only
    split_ifs with h
    · exact h
    · rfl

@[simp] theorem State.startMig_mem (s : State) (n a b : Nat) : (s.startMig n a b).mem = s.mem := rfl

/-- A write of SHED_MIG_CTL at TACK with START set. -/
theorem State.migWrite_start (s : State) (n : Nat) (v : Word) (ha : fld v 5 0 = a) (hb : fld v 13 8 = b) :
    s.migWrite .tack n (v ||| place 16 16 1) =
      (let u := s.setDcsr (shedBase n + 0x40) (place 5 0 a ||| place 13 8 b)
       if 34 ≤ a ∨ 34 ≤ b ∨ (s.chan (n * 34 + a)).state ≠ 0 ∨ (s.chan (n * 34 + b)).state ≠ 1 ∨ (s.shed n).mig.active = true then
         (u, St.memMigState)
       else (u.startMig n a b, St.ok)) := by
  have hsrc : fld (v ||| place 16 16 1) 5 0 = a := by rw [fld_or, fld_place_apart (.inr (by decide)), Nat.or_zero, ha]
  have hdst : fld (v ||| place 16 16 1) 13 8 = b := by rw [fld_or, fld_place_apart (.inr (by decide)), Nat.or_zero, hb]
  have hstart : bit (v ||| place 16 16 1) 16 = true := by rw [bit_or, bit_place_one (by decide), Bool.or_true]
  simp only [State.migWrite, hsrc, hdst, hstart, ne_eq, not_true_eq_false, if_false, Bool.not_true, Bool.false_eq_true]
  rfl

end

/-- What a write of SHED_MIG_CTL answers. -/
theorem exec_migStart (p : Priv) (n : Nat) (v : Word) (s : State) : exec (.migStart p n v) s =
    .next ((s.migWrite p n (v ||| place 16 16 1)).1.respond (s.migWrite p n (v ||| place 16 16 1)).2) := rfl

theorem exec_migStart_starts {n a b : Nat} {v : Word} (ha : a < 34) (hb : b < 34) (hab : a ≠ b) (hva : fld v 5 0 = a) (hvb : fld v 13 8 = b)
    (hsrc : (s.chan (n * 34 + a)).state = 0) (hdst : (s.chan (n * 34 + b)).state = 1) (hfree : (s.shed n).mig.active = false) :
    ∃ t, exec (.migStart .tack n v) s = .next t ∧ t.resp = { status := St.ok } ∧ (t.chan (n * 34 + a)).state = 2 ∧
      (t.chan (n * 34 + b)).state = 7 ∧ (t.chan (n * 34 + b)).lc = (s.chan (n * 34 + a)).lc ∧
      (t.shed n).mig = { (s.shed n).mig with active := true, src := a, dst := b, units := 0, end_ := St.ok } ∧ t.mem = s.mem := by
  obtain ⟨u, hrun, hchans, hsheds, hmem⟩ : ∃ u : State, s.migWrite .tack n (v ||| place 16 16 1) = (u.startMig n a b, St.ok) ∧
      u.chans = s.chans ∧ u.sheds = s.sheds ∧ u.mem = s.mem := by
    refine ⟨_, (State.migWrite_start s n v hva hvb).trans (if_neg ?_), rfl, rfl, rfl⟩
    rw [hsrc, hdst, hfree]
    simp [ha, hb]
  have hchan (k : Nat) : u.chan k = s.chan k := by rw [State.chan, hchans, State.chan]
  have hshed : u.shed n = s.shed n := by rw [State.shed, hsheds, State.shed]
  refine ⟨(u.startMig n a b).respond St.ok, by rw [exec_migStart, hrun], rfl, ?_, ?_, ?_, ?_, hmem⟩
  · exact congrArg Chan.state (u.startMig_chan_src n hab)
  · exact congrArg Chan.state (u.startMig_chan_dst n hab)
  · refine (congrArg Chan.lc (u.startMig_chan_dst n hab)).trans ?_
    show (u.chan (n * 34 + a)).lc = _
    rw [hchan]
  · refine (u.startMig_mig n a b).trans ?_
    rw [hshed, hfree]
    rfl

theorem exec_migStart_refused {n a b : Nat} {v : Word} (hva : fld v 5 0 = a) (hvb : fld v 13 8 = b)
    (h : (s.chan (n * 34 + a)).state ≠ 0 ∨ (s.chan (n * 34 + b)).state ≠ 1 ∨ (s.shed n).mig.active = true) :
    ∃ t, exec (.migStart .tack n v) s = .next t ∧ t.resp = { status := St.memMigState } ∧ t.chans = s.chans ∧ t.sheds = s.sheds ∧
      t.mem = s.mem := by
  have hrun := (State.migWrite_start s n v hva hvb).trans (if_pos (.inr (.inr h)))
  exact ⟨(s.setDcsr _ _).respond St.memMigState, by rw [exec_migStart, hrun], rfl, rfl, rfl, rfl⟩

theorem exec_migStart_privilege {p : Priv} (n : Nat) (v : Word) (hp : p ≠ .tack) :
    exec (.migStart p n v) s = .next (answered s St.privilege 0 []) := by
  rw [exec_migStart, show s.migWrite p n (v ||| place 16 16 1) = (s, St.privilege) from if_pos hp]
  rfl

theorem exec_migrationDone {n a b : Nat} (hab : a ≠ b) (hact : (s.shed n).mig.active = true) (hsrc : (s.shed n).mig.src = a)
    (hdst : (s.shed n).mig.dst = b) (hend : (s.shed n).mig.units * 4096 = 2 ^ s.capLog2) (hwf : Map.wf chanDflt s.chans = true) :
    ∃ t, exec (.migrationDone n) s = .next t ∧ (t.chan (n * 34 + b)).state = 0 ∧
      (t.chan (n * 34 + b)).lc = (s.chan (n * 34 + a)).lc ∧ (t.chan (n * 34 + a)).state = 3 ∧ t.mem = s.mem := by
  subst hsrc hdst
  have hB : ∀ u : State, ∀ c, (u.setChan (n * 34 + (s.shed n).mig.src) c).chan (n * 34 + (s.shed n).mig.dst) =
      u.chan (n * 34 + (s.shed n).mig.dst) := fun u c => State.chan_setChan_of_ne u c (by omega)
  refine ⟨_, congrArg Host.Outcome.next (if_pos ⟨hact, hend⟩), ?_, ?_, ?_, rfl⟩
  · exact congrArg Chan.state ((hB _ _).trans (State.chan_setChan_self hwf _ _))
  · refine (congrArg Chan.lc ((hB _ _).trans (State.chan_setChan_self hwf _ _))).trans ?_
    rfl
  · exact congrArg Chan.state (State.chan_setChan _ _ (by exact (by decide : 1 < 3)))

theorem channelMigration : Claims.ChannelMigration := by
  intro s n src dst v hsrc hdst hne
  exact ⟨fun hva hvb => ⟨exec_migStart_starts hsrc hdst hne hva hvb, exec_migStart_refused hva hvb, fun _ => exec_migStart_privilege n v⟩,
    fun hact hmore => congrArg Host.Outcome.next (if_pos ⟨hact, hmore⟩), exec_migrationDone hne⟩

/-- Settles O28: each bay command changes its own channel as its state says, and a migration hands the logical channel over within its
shed. -/
theorem baysAndMigration : Obligations.BaysAndMigration :=
  ⟨baysAndModules, channelMigration⟩

end Sys2Proof.Machine
end

section
/-! SUPPORT. Host ports and RoCE: what a module, a frame and a packet of a queue pair do, and the statement on them (R25, R137, R479 to R481,
R495 to R497, R503). -/

namespace Sys2Proof.Machine

open Sys2Proof.Claims (onQp grants)

variable {s u : State} {port qpn : Nat} {q : Qp}

/-! ### Ports and frames (R25, R479 to R481, R503) -/

theorem exec_hostModuleInsert_supported {pmd w : Nat} (h1 : 1 ≤ pmd) (h5 : pmd ≤ 5) (hw : w ≤ 12) :
    exec (.hostModuleInsert port pmd w) s = .next (s.setHport port { s.hport port with pmd := pmd, state := 1 }) := by
  have hok : decide (1 ≤ pmd ∧ pmd ≤ 5 ∧ w ≤ 12) = true := decide_eq_true ⟨h1, h5, hw⟩
  show execHostModuleInsert port pmd w s = _
  simp only [execHostModuleInsert, hok, if_true]

theorem exec_hostModuleInsert_unsupported {pmd w : Nat} (h : pmd = 0 ∨ 5 < pmd ∨ 12 < w) :
    exec (.hostModuleInsert port pmd w) s = .next (s.setHport port { s.hport port with pmd := 15, state := 0 }) := by
  have hbad : decide (1 ≤ pmd ∧ pmd ≤ 5 ∧ w ≤ 12) = false := decide_eq_false (by omega)
  show execHostModuleInsert port pmd w s = _
  simp only [execHostModuleInsert, hbad, Bool.false_eq_true, if_false]

theorem exec_hostPortLinkChange {k : Nat} (hk : k ≤ 2) (h : k = 0 ∨ (1 ≤ (s.hport port).pmd ∧ (s.hport port).pmd ≤ 5)) :
    exec (.hostPortLinkChange port k) s = .next (s.setHport port { s.hport port with state := k }) :=
  congrArg Host.Outcome.next (if_pos (h.imp_right fun hp => ⟨hk, hp⟩))

theorem exec_hostPortLinkChange_unsupported {k : Nat} (hk : k ≠ 0) (h : 5 < (s.hport port).pmd) :
    exec (.hostPortLinkChange port k) s = .next s := by
  refine congrArg Host.Outcome.next (if_neg ?_)
  rintro (h0 | ⟨-, -, h5⟩)
  · exact hk h0
  · omega

section
variable {f : EthFrame}

theorem exec_ethFrameReceive_down (h : (s.hport port).state ≠ 2) : exec (.ethFrameReceive port f) s = .next s :=
  congrArg Host.Outcome.next (if_pos h)

theorem exec_ethFrameReceive_bad (hup : (s.hport port).state = 2) (hbad : frameBad (s.dcsr (hostifBase + 0x18)) f = true) :
    exec (.ethFrameReceive port f) s = .next (s.bumpDev (hostifBase + 0x38) 1) :=
  congrArg Host.Outcome.next ((if_neg (not_not_intro hup)).trans (if_pos hbad))

/-- Frames outside the subset (R480, R481). -/
theorem frameBad_of {v : Word} (h : 9216 < f.bytes ∨ 2 ≤ f.tags ∨ f.kind = .tcp ∨ f.kind = .other ∨ f.ipExtra = true ∨
    (f.mgmt = true ∧ (f.tags = 0 ∨ f.vid ≠ fld v 27 16))) : frameBad v f = true := by
  simp only [frameBad, Bool.or_eq_true, decide_eq_true_eq]
  rcases h with h | h | h | h | h | ⟨hm, h⟩
  · exact .inl (.inl (.inl h))
  · exact .inl (.inl (.inr (.inl h)))
  · exact .inl (.inl (.inr (.inr (.inl h))))
  · exact .inl (.inl (.inr (.inr (.inr h))))
  · exact .inl (.inr h)
  · refine .inr ?_
    rw [hm, if_pos rfl, decide_eq_true_eq]
    exact h.imp_right .inl

/-- A tagged frame of the data plane's VLAN lies in the subset. -/
theorem frameBad_of_tagged {v : Word} (hb : f.bytes ≤ 9216) (ht : f.tags = 1) (hv : f.vid = fld v 11 0) (h0 : f.vid ≠ 0)
    (hx : f.ipExtra = false) (hm : f.mgmt = false) (hk : f.kind ≠ .tcp ∧ f.kind ≠ .other) : frameBad v f = false := by
  have hvlan : fld v 11 0 ≠ 0 := hv ▸ h0
  simp only [frameBad, hx, hm, ht, ← hv, h0, hk, Bool.false_eq_true, if_false]
  simp [hb]

theorem exec_ethFrameReceive_roce (hup : (s.hport port).state = 2) (hgood : frameBad (s.dcsr (hostifBase + 0x18)) f = false)
    (hk : f.kind = .roce) : exec (.ethFrameReceive port f) s = .next (s.setHport port { s.hport port with
      paused := if 1572864 < f.roceFill then true else if f.roceFill < 1048576 then false else (s.hport port).paused }) := by
  show execEthFrameReceive port f s = _
  simp only [execEthFrameReceive, hup, hgood, hk, ne_eq, not_true_eq_false, if_false, Bool.false_eq_true]

theorem exec_ethFrameReceive_echo (hup : (s.hport port).state = 2) (hgood : frameBad (s.dcsr (hostifBase + 0x18)) f = false)
    (hk : f.kind = .arp ∨ f.kind = .neighbour ∨ f.kind = .echo) :
    exec (.ethFrameReceive port f) s = .next (s.setHport port { s.hport port with echoes := (s.hport port).echoes + 1 }) := by
  show execEthFrameReceive port f s = _
  rcases hk with hk | hk | hk <;>
    simp only [execEthFrameReceive, hup, hgood, hk, ne_eq, not_true_eq_false, if_false, Bool.false_eq_true]

end

/-! ### Queue pairs and regions (R495) -/

theorem State.qp_of_onQp (h : onQp s port qpn q) : s.qp port qpn = some q := by
  obtain ⟨hq, hport, hup⟩ := h
  simp only [State.qp, hq, hport, hup, and_self, if_true]

theorem State.qp_eq_none (h : ∀ q, ¬ onQp s port qpn q) : s.qp port qpn = none := by
  unfold State.qp
  split
  next q hq =>
    refine if_neg ?_
    rintro ⟨hport, hup⟩
    exact h q ⟨hq, hport, hup⟩
  next => rfl

theorem rkeyOf_mod {i : Nat} (h : i < 4096) : rkeyOf i % 4096 = i := by
  unfold rkeyOf
  omega

theorem State.mrFor_of_grants {i right addr len : Nat} {m : Mr} (h : grants s i m right addr len) :
    s.mrFor (rkeyOf i) right addr len = some m := by
  obtain ⟨hi, hm, hright, hlo, hhi⟩ := h
  simp only [State.mrFor, rkeyOf_mod hi, hm, hright, hlo, hhi, and_self, if_true]

theorem State.mrFor_eq_none {rkey right addr len : Nat} (h : ∀ i m, rkey = rkeyOf i → ¬ grants s i m right addr len) :
    s.mrFor rkey right addr len = none := by
  unfold State.mrFor
  split
  next m hm =>
    refine if_neg ?_
    rintro ⟨hkey, hright, hlo, hhi⟩
    exact h (rkey % 4096) m hkey.symm ⟨Nat.mod_lt _ (by decide), hm, hright, hlo, hhi⟩
  next => rfl

/-- A port that has answered is not at its reset value. -/
theorem State.ans_roceAnswer (s : State) (port : Nat) (a : RoceAns) : ((s.roceAnswer port a).hport port).ans = some a := by
  refine congrArg HPort.ans (Map.get_set_of_ne_default (fun _ => ({} : HPort)) s.hports port fun he => ?_)
  have := congrArg HPort.ans he
  cases this

@[simp] theorem State.roceAnswer_mem (s : State) (port : Nat) (a : RoceAns) : (s.roceAnswer port a).mem = s.mem := rfl

theorem State.roceFault_mem (s : State) (port qpn rkey addr : Nat) (st : Status) : (s.roceFault port qpn rkey addr st).mem = s.mem := by
  obtain ⟨m, k, a, h⟩ := s.event_eq
    { code := 11, d0 := BitVec.ofNat 64 qpn, d1 := BitVec.ofNat 64 rkey, d2 := BitVec.ofNat 64 st.toNat, d3 := BitVec.ofNat 64 addr }
  rw [State.roceFault, State.roceAnswer_mem, h]

/-! ### Accesses (R495, R496) -/

section
variable {rkey addr len : Nat} {data : List Byte} (hqp : s.qp port qpn = some q)
include hqp

theorem exec_roceSend : exec (.roceSend port qpn) s = .next (s.setHport port { s.hport port with ans := some .nakInvalid }) := by
  show execRoceSend port qpn s = _
  simp only [execRoceSend, hqp]
  rfl

/-- A rate becomes what its rule says. -/
theorem State.qpRate_qps (f : Nat → Nat) : Map.get noneOf (s.qpRate port qpn f).qps qpn = some { q with rate := f q.rate } := by
  simp only [State.qpRate, hqp]
  exact Map.get_set_of_ne_default noneOf s.qps qpn (Option.some_ne_none _)

theorem exec_roceRdmaWrite_refused (h : s.mrFor rkey 1 addr data.length = none) :
    exec (.roceRdmaWrite port qpn rkey addr data) s = .next (s.setHport port { s.hport port with ans := some .nakAccess }) := by
  show execRoceRdmaWrite port qpn rkey addr data s = _
  simp only [execRoceRdmaWrite, hqp, State.roceWrite, h, Bool.false_eq_true, if_false]
  rfl

theorem exec_roceRdmaRead_refused (h : s.mrFor rkey 0 addr len = none) :
    exec (.roceRdmaRead port qpn rkey addr len) s = .next (s.setHport port { s.hport port with ans := some .nakAccess }) := by
  show execRoceRdmaRead port qpn rkey addr len s = _
  simp only [execRoceRdmaRead, hqp, h]
  rfl

theorem exec_roceRdmaRead_ok {m : Mr} {bs : List Byte} (hm : s.mrFor rkey 0 addr len = some m)
    (hread : s.unitRead .kernel m.task m.tenant addr len = some (u, St.ok, bs)) :
    exec (.roceRdmaRead port qpn rkey addr len) s = .next (u.roceAnswer port (.ack bs)) := by
  show execRoceRdmaRead port qpn rkey addr len s = _
  simp only [execRoceRdmaRead, hqp, hm, hread, if_true]

/-- A write whose data have landed is acknowledged. -/
theorem exec_roceRdmaWrite_written (h : s.roceWrite port qpn rkey addr data = some (u, true)) :
    exec (.roceRdmaWrite port qpn rkey addr data) s = .next (u.roceAnswer port (.ack [])) := by
  show execRoceRdmaWrite port qpn rkey addr data s = _
  simp only [execRoceRdmaWrite, hqp, h, if_true]

theorem exec_roceRdmaWrite_failed (h : s.roceWrite port qpn rkey addr data = some (u, false)) :
    exec (.roceRdmaWrite port qpn rkey addr data) s = .next u := by
  show execRoceRdmaWrite port qpn rkey addr data s = _
  simp only [execRoceRdmaWrite, hqp, h, Bool.false_eq_true, if_false]

/-- A queue pair without doorbells writes alone. -/
theorem exec_roceWriteImm_plain (hdb : q.db = 0) (h : s.roceWrite port qpn rkey addr data = some (u, true)) (imm : BitVec 32) :
    exec (.roceWriteImm port qpn rkey addr data imm) s = .next (u.roceAnswer port (.ack [])) := by
  show execRoceWriteImm port qpn rkey addr data imm s = _
  simp only [execRoceWriteImm, hqp, h, hdb, Bool.not_true, Bool.false_eq_true, if_false, if_true]

/-- The doorbell rings once the data are written. -/
theorem exec_roceWriteImm_doorbell {t : State} (hdb : q.db ≠ 0) (h : s.roceWrite port qpn rkey addr data = some (u, true))
    {imm : BitVec 32} (hbell : u.roceDoorbell port qpn rkey q imm = some t) :
    exec (.roceWriteImm port qpn rkey addr data imm) s = .next t := by
  show execRoceWriteImm port qpn rkey addr data imm s = _
  simp only [execRoceWriteImm, hqp, h, hdb, hbell, Bool.not_true, Bool.false_eq_true, if_false, Option.getD_some]

end

section
variable {rkey addr : Nat} {data : List Byte} {m : Mr} {st : Status} (hm : s.mrFor rkey 1 addr data.length = some m)
include hm

theorem State.roceWrite_ok (h : s.unitWrite .kernel m.task m.tenant addr data = some (u, St.ok)) :
    s.roceWrite port qpn rkey addr data = some (u, true) := by
  simp only [State.roceWrite, hm, h, if_true]

theorem State.roceWrite_fault (h : s.unitWrite .kernel m.task m.tenant addr data = some (u, st)) (hst : st ≠ St.ok) :
    s.roceWrite port qpn rkey addr data = some (u.roceFault port qpn rkey addr st, false) := by
  simp only [State.roceWrite, hm, h, hst, if_false]

end

/-! ### Doorbells of immediate values (R137, R497) -/

section
variable {imm : BitVec 32}

/-- A one-bit field is that bit. -/
theorem bits_one (v i : Nat) : bits v i i = b2n (v.testBit i) := by
  rw [bits, Nat.add_sub_cancel_left, Nat.pow_one, Nat.shiftRight_eq_div_pow, Nat.testBit_eq_decide_div_mod_eq, b2n]
  rcases Nat.mod_two_eq_zero_or_one (v / 2 ^ i) with h | h <;> simp [h]

theorem immEntry_eq_none (h : 5 ≤ bits imm.toNat 10 8 ∨ imm.getLsbD 11 = true ∨ bits imm.toNat 31 28 ≠ 0) : immEntry q imm = none := by
  refine if_pos (h.imp_right (Or.imp_left fun h11 => ?_))
  rw [bits_one, BitVec.testBit_toNat, h11]
  decide

/-- The doorbell entry of a defined immediate value. -/
def doorbellEntry (q : Qp) (v : Nat) : Word :=
  place 21 0 (bits v 27 12 * 64) ||| place 26 24 (bits v 10 8) ||| place 28 28 (q.db - 1) ||| place 47 32 q.task ||| place 63 48 q.tenant

theorem immEntry_eq_some (hq : bits imm.toNat 10 8 < 5) (h11 : imm.getLsbD 11 = false) (htop : bits imm.toNat 31 28 = 0) :
    immEntry q imm = some (bits imm.toNat 7 0, doorbellEntry q imm.toNat) := by
  refine if_neg ?_
  rw [bits_one, BitVec.testBit_toNat, h11]
  rintro (h | h | h)
  · omega
  · exact h rfl
  · exact h htop

theorem bits_lt (v hi lo : Nat) : bits v hi lo < 2 ^ (hi + 1 - lo) := Nat.mod_lt _ (Nat.two_pow_pos _)

/-- The fields of a doorbell entry: list offset, queue, task and tenant. -/
theorem fld_doorbellEntry (q : Qp) (v : Nat) : fld (doorbellEntry q v) 21 0 = bits v 27 12 * 64 ∧
    fld (doorbellEntry q v) 26 24 = bits v 10 8 ∧ fld (doorbellEntry q v) 47 32 = q.task % 65536 ∧
    fld (doorbellEntry q v) 63 48 = q.tenant % 65536 := by
  have hoff := bits_lt v 27 12
  have hcode := bits_lt v 10 8
  refine ⟨?_, ?_, ?_, ?_⟩ <;>
    simp only [doorbellEntry, fld_or, fld_place_self, fld_place_apart, Nat.reduceLT, true_or, or_true, Nat.or_zero, Nat.zero_or]
  · exact Nat.mod_eq_of_lt (by omega)
  · exact Nat.mod_eq_of_lt hcode
  · rfl
  · rfl

theorem localRegion_doorbell {ps : Nat} (h : ps < 288) : localRegion (stallWin ps + 0x8000240) = some (.scsr ps 0x240) := by
  have hmod : (0x400000000000 + ps * 0x100000000 + 0x8000240) % 0x100000000 = 0x8000240 := by omega
  have hdiv : (0x400000000000 + ps * 0x100000000 + 0x8000240 - 0x400000000000) / 0x100000000 = ps := by omega
  unfold localRegion stallWin
  rw [if_neg (by omega), if_pos (by omega), hmod, hdiv]
  rfl

section
variable {ps : Nat} (hopen : (u.node (ps * 16)).shut .kernel = false) (hps : ps < 288) (hrun : (u.stall ps).pstate = .run) {ls : Nat} {e : Word}
  (himm : immEntry q imm = some (ls, e)) (hls : u.psOf ls = ps)
include hopen hps hrun himm hls

theorem State.roceDoorbell_full {rkey : Nat} (hfull : (u.stall ps).db.length = 32) :
    u.roceDoorbell port qpn rkey q imm = some (u.roceAnswer port .rnr) := by
  have hshut : u.shutTo .kernel (stallWin ps + 0x8000240) = false := by rw [State.shutTo, localRegion_doorbell hps]; exact hopen
  simp only [State.roceDoorbell, himm, hls, hshut, hrun, hfull, Bool.false_eq_true, if_false, ne_eq, not_true_eq_false, le_refl, if_true]

theorem State.roceDoorbell_rings {rkey : Nat} (hroom : (u.stall ps).db.length < 32) (hq : fld e 26 24 < 5) :
    u.roceDoorbell port qpn rkey q imm =
      some ((u.setStall ps { u.stall ps with db := (u.stall ps).db ++ [e] }).roceAnswer port (.ack [])) := by
  have hshut : u.shutTo .kernel (stallWin ps + 0x8000240) = false := by rw [State.shutTo, localRegion_doorbell hps]; exact hopen
  have hfree : ¬ 32 ≤ (u.stall ps).db.length := by omega
  have hcode : ¬ 5 ≤ dbQueue e := by unfold dbQueue; omega
  have hwrite : u.doorbellWrite .kernel ps e = (u.setStall ps { u.stall ps with db := (u.stall ps).db ++ [e] }, St.ok) := by
    simp only [State.doorbellWrite, hfree, hcode, if_false]
    rfl
  simp only [State.roceDoorbell, himm, hls, hshut, hrun, hfree, hwrite, Bool.false_eq_true, if_false, ne_eq, not_true_eq_false]

end

end

/-- A stall with a doorbell entry is not at its reset value. -/
theorem State.db_setStall (u : State) (ps : Nat) (t : Stall) (e : Word) :
    ((u.setStall ps { t with db := t.db ++ [e] }).stall ps).db = t.db ++ [e] := by
  refine congrArg Stall.db (Map.get_set_of_ne_default (fun _ => ({} : Stall)) u.stalls ps fun he => ?_)
  have := congrArg Stall.db he
  simp at this

/-- A packet for no queue pair of its port is dropped. -/
theorem exec_roce_dropped (h : s.qp port qpn = none) {rkey addr len : Nat} {data : List Byte} : ∀ i ∈ [Instr.roceRdmaWrite port qpn rkey addr data,
    .roceWriteImm port qpn rkey addr data 0, .roceRdmaRead port qpn rkey addr len, .roceSend port qpn, .roceCnp port qpn,
    .roceRateRecover port qpn], exec i s = .next s := by
  intro i hi
  simp only [List.mem_cons, List.not_mem_nil, or_false] at hi
  rcases hi with rfl | rfl | rfl | rfl | rfl | rfl
  · show execRoceRdmaWrite _ _ _ _ _ s = _
    simp only [execRoceRdmaWrite, h]
  · show execRoceWriteImm _ _ _ _ _ _ s = _
    simp only [execRoceWriteImm, h]
  · show execRoceRdmaRead _ _ _ _ _ s = _
    simp only [execRoceRdmaRead, h]
  · show execRoceSend _ _ s = _
    simp only [execRoceSend, h]
  · show Host.Outcome.next (s.qpRate port qpn _) = _
    simp only [State.qpRate, h]
  · show Host.Outcome.next (s.qpRate port qpn _) = _
    simp only [State.qpRate, h]

/-! ### The statement -/

/-- A write with an immediate value that names no doorbell: the data stay written, and the value is refused (R497). -/
theorem exec_roceWriteImm_invalid (hqp : s.qp port qpn = some q) {rkey addr : Nat} {data : List Byte} {imm : BitVec 32} (hdb : q.db ≠ 0)
    (hwrite : s.roceWrite port qpn rkey addr data = some (u, true)) (himm : immEntry q imm = none) :
    ∃ t, exec (.roceWriteImm port qpn rkey addr data imm) s = .next t ∧ t.mem = u.mem ∧ (t.hport port).ans = some .nakInvalid := by
  have hbell : u.roceDoorbell port qpn rkey q imm = some (u.roceAnswer port .nakInvalid) := by simp only [State.roceDoorbell, himm]
  exact ⟨_, exec_roceWriteImm_doorbell hqp hdb hwrite hbell, rfl, u.ans_roceAnswer port _⟩

/-- Settles O47: frames and packets act on their port by its state, an access asks its region first, and a doorbell follows its data. -/
theorem hostPortsAndRoce : Obligations.HostPortsAndRoce := by
  intro s port hs
  refine ⟨fun pmd w => ⟨exec_hostModuleInsert_supported, exec_hostModuleInsert_unsupported⟩,
    fun k hk => ⟨exec_hostPortLinkChange hk, exec_hostPortLinkChange_unsupported⟩,
    fun f => ⟨exec_ethFrameReceive_down, fun hup hbad => ?bad, fun hup hbytes htags hvid h0 hx hm => ⟨fun hk => ?roce, fun hk => ?echo⟩⟩,
    fun qpn q hon => ?packets, fun qpn rkey addr data len hno => exec_roce_dropped (State.qp_eq_none hno)⟩
  case bad => exact ⟨_, exec_ethFrameReceive_bad hup (frameBad_of hbad), rfl, State.dcsr_setDcsr_self hs.csr _ _⟩
  case roce => exact exec_ethFrameReceive_roce hup (frameBad_of_tagged hbytes htags hvid h0 hx hm (by simp [hk])) hk
  case echo =>
    refine exec_ethFrameReceive_echo hup (frameBad_of_tagged hbytes htags hvid h0 hx hm ?_) hk
    rcases hk with hk | hk | hk <;> simp [hk]
  case packets =>
    have hqp := State.qp_of_onQp hon
    refine ⟨exec_roceSend hqp, ⟨_, rfl, State.qpRate_qps hqp _⟩, ⟨_, rfl, State.qpRate_qps hqp _⟩,
      fun rkey addr data len hw hr => ⟨exec_roceRdmaWrite_refused hqp (State.mrFor_eq_none hw), exec_roceRdmaRead_refused hqp (State.mrFor_eq_none hr)⟩,
      fun i m addr len hg u bs hread => ?read, fun i m addr data hg u st hwrite => ⟨fun hst => ?written, fun hst => ?fault⟩⟩
    case read => exact ⟨_, exec_roceRdmaRead_ok hqp (State.mrFor_of_grants hg) hread, rfl, u.ans_roceAnswer port _⟩
    case fault =>
      have hfault := State.roceWrite_fault (port := port) (qpn := qpn) (State.mrFor_of_grants hg) hwrite hst
      exact ⟨_, exec_roceRdmaWrite_failed hqp hfault, State.ans_roceAnswer _ port _, u.roceFault_mem _ _ _ _ _⟩
    case written =>
      subst hst
      have hdone := State.roceWrite_ok (port := port) (qpn := qpn) (State.mrFor_of_grants hg) hwrite
      refine ⟨⟨_, exec_roceRdmaWrite_written hqp hdone, rfl, u.ans_roceAnswer port _⟩, fun imm => ⟨fun hdb => ?plain,
        fun hdb himm => exec_roceWriteImm_invalid hqp hdb hdone (immEntry_eq_none himm),
        fun hdb hq h11 htop hopen hps hrun => ⟨fun hroom => ?rings, fun hfull => ?full⟩⟩⟩
      case plain => rw [exec_roceWriteImm_plain hqp hdb hdone, exec_roceRdmaWrite_written hqp hdone]
      case rings =>
        obtain ⟨hoff, hcode, htask, htenant⟩ := fld_doorbellEntry q imm.toNat
        have hbell := State.roceDoorbell_rings (port := port) (qpn := qpn) (rkey := rkeyOf i) hopen hps hrun
          (immEntry_eq_some (q := q) hq h11 htop) rfl hroom (by rw [hcode]; exact hq)
        exact ⟨_, _, exec_roceWriteImm_doorbell hqp hdb hdone hbell, rfl, State.ans_roceAnswer _ port _, u.db_setStall _ _ _,
          hoff, hcode, htask, htenant⟩
      case full =>
        have hbell := State.roceDoorbell_full (port := port) (qpn := qpn) (rkey := rkeyOf i) hopen hps hrun
          (immEntry_eq_some (q := q) hq h11 htop) rfl hfull
        exact ⟨_, exec_roceWriteImm_doorbell hqp hdb hdone hbell, rfl, State.ans_roceAnswer _ port _, rfl⟩

end Sys2Proof.Machine
end

section
/-! SUPPORT. How the command processor takes the command at its head: a row that admits it runs, and its reply or its start goes out (R482,
R489, R490, R493). -/

namespace Sys2Proof.Machine

open Sys2Proof.Claims (hostAt taken ends replied accepted)

variable {s u : State} {c : CpCmd} {l : List CpCmd} {d : Sess}

/-! ### Replies -/

/-- The processor stops at a defined opcode. -/
theorem State.skipUndefined_of_defined (h : ∀ x ∈ s.cpq, hostOpDefined x.opcode = true) (n : Nat) : s.skipUndefined n = s := by
  cases n with
  | zero => rfl
  | succ n =>
    unfold State.skipUndefined
    split
    next c l hq => exact if_pos (h c (by rw [hq]; exact List.mem_cons_self))
    next => rfl

/-- The packet that a reply to a command is. -/
def CpCmd.replyMsg (c : CpCmd) (k : List Byte) (final : Bool) (st : Status) (data : List Byte) : HostMsg :=
  { dst := c.src, bytes := hostPacket (1 + 2 * b2n final) c.opcode c.session c.seq st data (some k) }

/-- A reply reaches the outbox, and its session's cache. -/
theorem State.replyTo_eq (u : State) (c : CpCmd) (k : List Byte) (final : Bool) (st : Status) (data : List Byte) :
    ∃ m, u.replyTo c (some k) final st data = { u with sess := m, outbox := u.outbox ++ [c.replyMsg k final st data] } := by
  unfold State.replyTo
  dsimp only
  cases u.session c.session with
  | none => exact ⟨u.sess, rfl⟩
  | some d => exact ⟨_, rfl⟩

/-- The session that a reply leaves remembers it. -/
theorem State.session_replyTo (u : State) (c : CpCmd) (k : List Byte) (final : Bool) (st : Status) (data : List Byte) :
    (u.replyTo c (some k) final st data).session c.session = (u.session c.session).map fun d =>
      d.remember c.seq (c.replyMsg k final st data).bytes := by
  unfold State.replyTo
  dsimp only
  cases h : u.session c.session with
  | none => exact h
  | some d => exact Map.get_set_of_ne_default noneOf u.sess c.session (Option.some_ne_none _)

/-- The last reply of a command that leaves defined opcodes behind it. -/
theorem ends_eq (hq : ∀ x ∈ u.cpq, hostOpDefined x.opcode = true) (st : Status) (data : List Byte) :
    ends u c d st data = u.replyTo c (some d.key) true st data := by
  obtain ⟨m, h⟩ := u.replyTo_eq c d.key true st data
  refine State.skipUndefined_of_defined ?_ 320
  rw [h]
  exact hq

/-! ### Rows -/

/-- A row admits a command: its plane, its reserved parameters, its parameters, and the mode of its function. -/
def HostOp.admits (h : HostOp) (s : State) (c : CpCmd) : Bool :=
  (!h.mgmtOnly || c.mgmt) && !h.rsvd.any (fun f => decide (hb c.params f.1 f.2 ≠ 0)) && h.ok c.params &&
    (match h.mode with | some m => s.hostMode m | none => true)

/-- A command of an open session whose row admits it passes every check (R490). -/
theorem State.hostCheck_ok {h : HostOp} (hadm : h.admits s c = true) (hr : hReserved c.raw = false) (he : s.earlyOk h.op = true) :
    s.hostCheck h c = St.ok := by
  simp only [HostOp.admits, Bool.and_eq_true, Bool.or_eq_true, Bool.not_eq_true'] at hadm
  obtain ⟨⟨⟨hm, hz⟩, hok⟩, hmode⟩ := hadm
  have hplane : ¬ (h.mgmtOnly = true ∧ (!c.mgmt) = true) := by
    rintro ⟨hon, hc⟩
    rcases hm with hm | hm
    · rw [hm] at hon; cases hon
    · rw [hm] at hc; cases hc
  simp only [State.hostCheck, if_neg hplane, hr, hz, hok, he, Bool.false_eq_true, or_self, if_false, Bool.not_true]
  revert hmode
  cases h.mode with
  | none => exact fun _ => rfl
  | some m =>
    intro (hmode : s.hostMode m = true)
    refine if_neg ?_
    show ¬ (!s.hostMode m) = true
    rw [hmode]
    exact Bool.false_ne_true

section
variable {h : HostOp} {run : State → CpCmd → HostRes} {i : Instr} (hi : exec i s = .next (s.hostTake h run)) (ha : hostAt s c l d h.op)
  (hadm : h.admits s c = true)
include ha hadm

/-- What taking the command at the head comes to, by what its row makes of it. -/
theorem State.hostTake_run :
    (run (taken s l) c = .wait → s.hostTake h run = s) ∧
    (∀ u st data, run (taken s l) c = .done u st data → s.hostTake h run = ends u c d st data) ∧
    (∀ u res, run (taken s l) c = .started u res → s.hostTake h run =
      ((({ u with longs := u.longs ++ [{ cmd := c, res := res }] } : State).replyTo c (some d.key) false St.ok []).skipUndefined 320)) := by
  obtain ⟨hcpq, hop, htake, he, hr, hses, -⟩ := ha
  have hcheck := State.hostCheck_ok hadm hr he
  have hkey : s.keyOf c = some d.key := by rw [State.keyOf, hses]; rfl
  have hgo : ¬ (c.opcode ≠ h.op ∨ s.tack.takeover = true) := by simp [hop, htake]
  have htaken : ({ s with cpq := l, outbox := [] } : State) = taken s l := rfl
  refine ⟨fun hrun => ?_, fun u st data hrun => ?_, fun u res hrun => ?_⟩ <;>
    simp only [State.hostTake, hcpq, if_neg hgo, hcheck, htaken, hrun, hkey, ne_eq, not_true_eq_false, if_false]
  all_goals rfl

include hi

theorem exec_host_waits (hrun : run (taken s l) c = .wait) : exec i s = .next s :=
  hi.trans (congrArg Host.Outcome.next ((State.hostTake_run ha hadm).1 hrun))

theorem exec_host_ends {st : Status} {data : List Byte} (hrun : run (taken s l) c = .done u st data) :
    exec i s = .next (ends u c d st data) :=
  hi.trans (congrArg Host.Outcome.next ((State.hostTake_run ha hadm).2.1 u st data hrun))

/-- A command that ends is answered, and its row's effect stands. -/
theorem exec_host_replies {st : Status} {data : List Byte} {P : State → Prop} (hrun : run (taken s l) c = .done u st data) (hq : u.cpq = l)
    (ho : u.outbox = []) (hP : ∀ m o, P { u with sess := m, outbox := o }) :
    ∃ t, exec i s = .next t ∧ replied t c d l st data ∧ P t := by
  obtain ⟨-, -, -, -, -, -, hdef⟩ := id ha
  obtain ⟨m, hm⟩ := u.replyTo_eq c d.key true st data
  have hend := (ends_eq (c := c) (d := d) (by rw [hq]; exact hdef) st data).trans hm
  refine ⟨_, (exec_host_ends hi ha hadm hrun).trans (congrArg Host.Outcome.next hend), ⟨?_, hq⟩, hP _ _⟩
  rw [ho]
  rfl

/-- A command that ends and does nothing more is answered. -/
theorem exec_host_replies_only {st : Status} {data : List Byte} (hrun : run (taken s l) c = .done u st data) (hq : u.cpq = l)
    (ho : u.outbox = []) : ∃ t, exec i s = .next t ∧ replied t c d l st data := by
  obtain ⟨t, ht, hrep, -⟩ := exec_host_replies (P := fun _ => True) hi ha hadm hrun hq ho fun _ _ => trivial
  exact ⟨t, ht, hrep⟩

/-- The session of a command that ends remembers its reply. -/
theorem exec_host_replies_session {st : Status} {data : List Byte} (hrun : run (taken s l) c = .done u st data) (hq : u.cpq = l)
    (ho : u.outbox = []) : ∃ t b, exec i s = .next t ∧ replied t c d l st data ∧
      t.session c.session = (u.session c.session).map (fun e => e.remember c.seq b) := by
  obtain ⟨-, -, -, -, -, -, hdef⟩ := id ha
  have hend := ends_eq (c := c) (d := d) (by rw [hq]; exact hdef) st data
  obtain ⟨m, hm⟩ := u.replyTo_eq c d.key true st data
  refine ⟨_, _, (exec_host_ends hi ha hadm hrun).trans (congrArg Host.Outcome.next hend), ⟨?_, ?_⟩, u.session_replyTo c d.key true st data⟩
  · rw [hm, ho]
    rfl
  · rw [hm, hq]

/-- A long command that goes on is accepted, and its row's effect stands. -/
theorem exec_host_starts {res : Option (Status × List Byte)} {P : State → Prop} (hrun : run (taken s l) c = .started u res) (hq : u.cpq = l)
    (ho : u.outbox = []) (hl : u.longs = s.longs) (hP : ∀ m o g, P { u with sess := m, outbox := o, longs := g }) :
    ∃ t, exec i s = .next t ∧ accepted s t c d l res ∧ P t := by
  obtain ⟨-, -, -, -, -, -, hdef⟩ := id ha
  obtain ⟨m, hm⟩ := State.replyTo_eq { u with longs := u.longs ++ [{ cmd := c, res := res }] } c d.key false St.ok []
  have hgo := (State.hostTake_run (run := run) ha hadm).2.2 u res hrun
  rw [hm, State.skipUndefined_of_defined (by dsimp only; rw [hq]; exact hdef)] at hgo
  refine ⟨_, hi.trans (congrArg Host.Outcome.next hgo), ⟨?_, hq, ?_⟩, hP _ _ _⟩
  · dsimp only
    rw [ho]
    rfl
  · dsimp only
    rw [hl]

end

end Sys2Proof.Machine
end

section
/-! SUPPORT. Untranslated accesses to a good range of main memory: what a read returns and what a write leaves, byte by byte (R283, R290,
R291). -/

namespace Sys2Proof.Map

/-- Where a rising map has its first entry, another that reads like it has no later first entry. -/
theorem head_le_of_get {α : Type} {d : Nat → α} {i j : Nat} {v w : α} {m n : Map α} (hv : v ≠ d i) (hn : rising j ((j, w) :: n) = true)
    (hget : ∀ k, get d ((i, v) :: m) k = get d ((j, w) :: n) k) : j ≤ i := by
  by_contra hlt
  have hi := hget i
  rw [get_of_rising d _ hn (Nat.lt_of_not_le hlt)] at hi
  simp only [get, if_true] at hi
  exact hv hi

theorem rising_self {α : Type} {b j : Nat} {w : α} {n : Map α} (h : rising b ((j, w) :: n) = true) :
    rising j ((j, w) :: n) = true ∧ rising (j + 1) n = true := by
  simp only [rising, Bool.and_eq_true, decide_eq_true_eq] at h ⊢
  exact ⟨⟨Nat.le_refl _, h.2⟩, h.2⟩

/-- Rising maps without default entries that read alike are equal. -/
theorem eq_of_rising_of_get {α : Type} {d : Nat → α} : ∀ (m n : Map α) (b : Nat), rising b m = true → rising b n = true →
    (∀ p ∈ m, p.2 ≠ d p.1) → (∀ p ∈ n, p.2 ≠ d p.1) → (∀ k, get d m k = get d n k) → m = n
  | [], [], _, _, _, _, _, _ => rfl
  | [], (j, w) :: n, _, _, _, _, hpn, hget => by
    have hj := hget j
    simp only [get, if_true] at hj
    exact absurd hj.symm (hpn _ List.mem_cons_self)
  | (i, v) :: m, [], _, _, _, hpm, _, hget => by
    have hi := hget i
    simp only [get, if_true] at hi
    exact absurd hi (hpm _ List.mem_cons_self)
  | (i, v) :: m, (j, w) :: n, b, hm, hn, hpm, hpn, hget => by
    obtain ⟨hmi, hmTail⟩ := rising_self hm
    obtain ⟨hnj, hnTail⟩ := rising_self hn
    obtain rfl : i = j := Nat.le_antisymm (head_le_of_get (hpn _ List.mem_cons_self) hmi fun k => (hget k).symm)
      (head_le_of_get (hpm _ List.mem_cons_self) hnj hget)
    obtain rfl : v = w := by
      have hi := hget i
      simpa only [get, if_true] using hi
    refine congrArg ((i, v) :: ·) (eq_of_rising_of_get m n (i + 1) hmTail hnTail (fun p hp => hpm p (List.mem_cons_of_mem _ hp))
      (fun p hp => hpn p (List.mem_cons_of_mem _ hp)) fun k => ?_)
    rcases Nat.lt_or_ge i k with hk | hk
    · have := hget k
      simpa only [get, if_neg (Nat.ne_of_lt hk)] using this
    · rw [get_of_rising d m hmTail (by omega), get_of_rising d n hnTail (by omega)]

/-- Canonical maps that read alike are equal. -/
theorem eq_of_get {α : Type} [DecidableEq α] (d : Nat → α) {m n : Map α} (hm : wf d m = true) (hn : wf d n = true)
    (hget : ∀ k, get d m k = get d n k) : m = n := by
  simp only [wf, Bool.and_eq_true, List.all_eq_true, decide_eq_true_eq] at hm hn
  exact eq_of_rising_of_get m n 0 hm.1 hn.1 hm.2 hn.2 hget

end Sys2Proof.Map

namespace Sys2Proof.Machine

open Sys2Proof.Claims (plainRange)

variable {s : State}

/-! ### Writes of lanes -/

/-- What one byte reads as after a write of lanes: the lane's byte, or what it was. -/
theorem get_writeLanes (l : List (Option Byte)) : ∀ (m : Map Byte) (a x : Nat), Memory.wf m = true →
    Map.get zeroB (writeLanes m a l) x = if a ≤ x then (l.getD (x - a) none).getD (Map.get zeroB m x) else Map.get zeroB m x := by
  induction l with
  | nil => intro m a x _; simp [writeLanes]
  | cons o l ih =>
    intro m a x hm
    have hstep : ∀ m' : Map Byte, Memory.wf m' = true → Map.get zeroB m' x = (if x = a then o.getD (Map.get zeroB m x) else Map.get zeroB m x) →
        Map.get zeroB (writeLanes m' (a + 1) l) x =
          if a ≤ x then ((o :: l).getD (x - a) none).getD (Map.get zeroB m x) else Map.get zeroB m x := by
      intro m' hm' hget
      rw [ih m' (a + 1) x hm', hget]
      rcases Nat.lt_trichotomy x a with h | h | h
      · rw [if_neg (by omega), if_neg (by omega), if_neg (by omega)]
      · subst h
        rw [if_neg (by omega), if_pos rfl, if_pos (Nat.le_refl _), Nat.sub_self, List.getD_cons_zero]
      · rw [if_pos (by omega), if_neg (by omega), if_pos (by omega), show x - a = (x - (a + 1)) + 1 by omega, List.getD_cons_succ]
    cases o with
    | none => exact hstep m hm (by simp)
    | some v =>
      refine hstep _ (Map.wf_set zeroB a v hm) ?_
      by_cases hx : x = a
      · rw [hx, Map.get_set_self zeroB a v hm, if_pos rfl, Option.getD_some]
      · rw [Map.get_set_of_ne zeroB m v hx, if_neg hx]

/-- The lanes of one block, at the byte `x` of that block. -/
theorem get_writeLanes_block {m : Map Byte} (hm : Memory.wf m = true) (pa b : Nat) (lanes : List (Option Byte)) (x : Nat) :
    Map.get zeroB (writeLanes m (b * 64) (blockLanes pa b lanes)) x =
      if x / 64 = b ∧ pa ≤ x then (lanes.getD (x - pa) none).getD (Map.get zeroB m x) else Map.get zeroB m x := by
  rw [get_writeLanes _ m _ x hm]
  by_cases hb : x / 64 = b
  · have hlo : b * 64 ≤ x := by omega
    have hhi : x - b * 64 < 64 := by omega
    have hlane : (blockLanes pa b lanes).getD (x - b * 64) none = if x < pa then none else lanes.getD (x - pa) none := by
      simp only [blockLanes, List.getD_eq_getElem?_getD, List.getElem?_map, List.getElem?_range hhi, Option.map_some, Option.getD_some,
        Nat.add_sub_cancel' hlo]
    rw [if_pos hlo, hlane]
    by_cases hx : x < pa
    · rw [if_pos hx, if_neg (by omega), Option.getD_none]
    · rw [if_neg hx, if_pos ⟨hb, by omega⟩]
  · rw [if_neg (by tauto : ¬ (x / 64 = b ∧ pa ≤ x))]
    split_ifs with hlo
    · have hlane : (blockLanes pa b lanes).getD (x - b * 64) none = none := by
        refine (List.getD_eq_getElem?_getD ..).trans ?_
        rw [List.getElem?_eq_none (by simp only [blockLanes, List.length_map, List.length_range]; omega), Option.getD_none]
      rw [hlane, Option.getD_none]
    · rfl

/-- Memory after writes of the lanes of several blocks. -/
def blocksWritten (pa : Nat) (lanes : List (Option Byte)) (bs : List Nat) (m : Map Byte) : Map Byte :=
  bs.foldl (fun m b => writeLanes m (b * 64) (blockLanes pa b lanes)) m

theorem blocksWritten_wf (pa : Nat) (lanes : List (Option Byte)) (bs : List Nat) : ∀ m : Map Byte, Memory.wf m = true →
    Memory.wf (blocksWritten pa lanes bs m) = true := by
  induction bs with
  | nil => exact fun _ hm => hm
  | cons b bs ih => exact fun m hm => ih _ (Memory.wf_writeLanes _ m _ hm)

theorem get_blocksWritten (pa : Nat) (lanes : List (Option Byte)) (bs : List Nat) (x : Nat) : ∀ m : Map Byte, Memory.wf m = true →
    Map.get zeroB (blocksWritten pa lanes bs m) x =
      if x / 64 ∈ bs ∧ pa ≤ x then (lanes.getD (x - pa) none).getD (Map.get zeroB m x) else Map.get zeroB m x := by
  induction bs with
  | nil => intro m _; simp [blocksWritten]
  | cons b bs ih =>
    intro m hm
    refine (ih _ (Memory.wf_writeLanes _ m _ hm)).trans ?_
    rw [get_writeLanes_block hm]
    by_cases hx : pa ≤ x
    · by_cases hb : x / 64 = b
      · cases lanes.getD (x - pa) none with
        | none => simp
        | some v => simp [hb, hx]
      · simp [hb, hx]
    · simp [hx]

/-- Blocks that a range touches. -/
theorem mem_blocksOf {a n b : Nat} : b ∈ blocksOf a n ↔ 0 < n ∧ a / 64 ≤ b ∧ b ≤ (a + n - 1) / 64 := by
  unfold blocksOf
  split_ifs with hn
  · simp [hn]
  · simp only [List.mem_map, List.mem_range]
    constructor
    · rintro ⟨k, hk, rfl⟩
      omega
    · rintro ⟨-, hlo, hhi⟩
      exact ⟨b - a / 64, by omega, by omega⟩

/-- Writing the lanes of data over all the blocks of its range writes the data. -/
theorem blocksWritten_eq_writeBytes {m : Map Byte} (hm : Memory.wf m = true) (pa : Nat) (data : List Byte) :
    blocksWritten pa (data.map some) (blocksOf pa data.length) m = writeBytes m pa data := by
  refine Map.eq_of_get zeroB (blocksWritten_wf _ _ _ _ hm) (Memory.wf_writeBytes data m pa hm) fun x => ?_
  rw [get_blocksWritten _ _ _ _ _ hm, get_writeBytes data m pa x hm]
  by_cases h : pa ≤ x ∧ x - pa < data.length
  · rw [dif_pos h, if_pos ⟨mem_blocksOf.mpr (by omega), h.1⟩]
    simp [List.getD_eq_getElem?_getD, h.2]
  · rw [dif_neg h]
    split_ifs with hx
    · rw [List.getD_eq_getElem?_getD, List.getElem?_eq_none (by rw [List.length_map]; omega), Option.getD_none, Option.getD_none]
    · rfl

/-! ### Good ranges (R290, R294) -/

/-- The channel of an address is the channel of its block. -/
theorem State.chanOk_block (s : State) (pa : Nat) : s.chanOk (pa / 64 * 64) = s.chanOk pa := by
  have h : pa / 64 * 64 / 4096 = pa / 4096 := by omega
  simp only [State.chanOk, spreadLc, h]

theorem State.memGood_iff {pa n : Nat} : s.memGood pa n = true ↔ ∀ b ∈ blocksOf pa n, b ∉ s.memUe ∧ s.chanOk (b * 64) = true := by
  simp [State.memGood]

/-- A read of a good range reads. -/
theorem State.shedLoad_good {pa n : Nat} (hn : 0 < n) (h : s.memGood pa n = true) : s.shedLoad pa n = (s, St.ok) := by
  rw [State.memGood_iff] at h
  have hchan : s.chanOk pa = true := by
    rw [← State.chanOk_block]
    exact (h _ (mem_blocksOf.mpr ⟨hn, Nat.le_refl _, by omega⟩)).2
  have hbad : (blocksOf pa n).filter s.memUe.contains = [] := by
    rw [List.filter_eq_nil_iff]
    intro b hb
    rw [List.contains_iff_mem]
    exact (h b hb).1
  simp only [State.shedLoad, hchan, hbad, Bool.not_true, Bool.false_eq_true, if_false, List.foldl_nil, if_true]

theorem writeLanes_of_none (l : List (Option Byte)) : ∀ (m : Map Byte) (a : Nat), l.all Option.isNone = true → writeLanes m a l = m := by
  induction l with
  | nil => exact fun _ _ _ => rfl
  | cons o l ih =>
    intro m a h
    rw [List.all_cons, Bool.and_eq_true, Option.isNone_iff_eq_none] at h
    rw [h.1]
    exact ih m (a + 1) h.2

/-- A good block takes its lanes. -/
theorem State.writeBlock_good {pa b : Nat} (hue : b ∉ s.memUe) (hchan : s.chanOk (b * 64) = true) (lanes : List (Option Byte)) :
    s.writeBlock pa b lanes = ({ s with mem := writeLanes s.mem (b * 64) (blockLanes pa b lanes) }, St.ok) := by
  have hkept : s.memUe.filter (· ≠ b) = s.memUe := List.filter_eq_self.mpr fun x hx => decide_eq_true fun he => hue (he ▸ hx)
  have hgood : s.memUe.contains b = false := by rw [← Bool.not_eq_true, List.contains_iff_mem]; exact hue
  unfold State.writeBlock
  dsimp only
  split_ifs with hnone hbad
  · rw [writeLanes_of_none _ _ _ hnone]
  · rw [hchan] at hbad
    cases hbad
  · rw [hkept]
  · rw [hgood] at *
    contradiction
  · rfl

theorem State.memStore_blocks {pa : Nat} (lanes : List (Option Byte)) (bs : List Nat) : ∀ s : State,
    (∀ b ∈ bs, b ∉ s.memUe ∧ s.chanOk (b * 64) = true) →
    bs.foldl (fun (p : State × Status) b =>
      let (t, st) := p.1.writeBlock pa b lanes
      (t, if p.2 = St.ok then st else p.2)) (s, St.ok) = ({ s with mem := blocksWritten pa lanes bs s.mem }, St.ok) := by
  induction bs with
  | nil => exact fun _ _ => rfl
  | cons b bs ih =>
    intro s h
    obtain ⟨hue, hchan⟩ := h b List.mem_cons_self
    rw [List.foldl_cons, State.writeBlock_good hue hchan]
    exact ih { s with mem := writeLanes s.mem (b * 64) (blockLanes pa b lanes) } fun x hx => h x (List.mem_cons_of_mem _ hx)

/-- A write of a good range writes its data and nothing else. -/
theorem State.memStore_good {pa : Nat} {data : List Byte} (hwf : Memory.wf s.mem = true) (h : s.memGood pa data.length = true) :
    s.memStore pa (data.map some) = ({ s with mem := writeBytes s.mem pa data }, St.ok) := by
  unfold State.memStore
  rw [List.length_map, State.memStore_blocks _ _ s (State.memGood_iff.mp h), blocksWritten_eq_writeBytes hwf]

/-! ### Accesses of a unit at TACK (R283) -/

/-- An access within one page is made in one piece. -/
theorem State.unitPieces_one {p : Priv} {task tenant a n fuel : Nat} {op : MemOp} {data bs : List Byte} {t : State} (hn : 0 < n)
    (hpage : a % 4096 + n ≤ 4096) (hpiece : s.unitPiece (unitReq p task tenant a op n (data.take n)) = some (t, St.ok, bs)) :
    s.unitPieces p task tenant op (fuel + 2) a n data = some (t, St.ok, bs) := by
  have hmin : min n (4096 - a % 4096) = n := by omega
  have hrest : t.unitPieces p task tenant op (fuel + 1) (a + n) (n - n) (data.drop n) = some (t, St.ok, []) := by
    rw [Nat.sub_self, State.unitPieces, if_pos rfl]
  rw [State.unitPieces, if_neg (by omega)]
  simp only [hmin, hpiece, hrest, ne_eq, not_true_eq_false, if_false, List.append_nil]

section
variable {a n : Nat} (h : plainRange s a n)
include h

theorem localRegion_plain : localRegion a = some (.main a) := by
  obtain ⟨hn, -, -, ha, -⟩ := h
  exact if_pos (by omega)

theorem isGlobal_plain : isGlobal a = false := by
  obtain ⟨hn, -, -, ha, -⟩ := h
  exact Nat.testBit_lt_two_pow (by omega)

/-- TACK addresses main memory by physical address. -/
theorem State.directXlate_plain {r : Req} (hr : r.addr = a) (hp : r.priv = .tack) : s.directXlate r = (s, St.ok, a) := by
  obtain ⟨hn, -, hmem, ha, -⟩ := h
  have hloft : a.testBit 48 = false := Nat.testBit_lt_two_pow (by omega)
  have hpa : a % 2 ^ 48 = a := Nat.mod_eq_of_lt (by omega)
  have hin : ¬ s.memBytes ≤ a := by omega
  simp only [State.directXlate, State.xlate, State.untranslated, hp, hr, hloft, hpa, hin, true_or, if_true, Bool.not_false, Bool.false_eq_true,
    and_false, false_and, or_self, if_false]

theorem Req.refusal_plain {r : Req} (hr : r.addr = a) : r.refusal = none := by
  simp only [Req.refusal, hr, isGlobal_plain h, localRegion_plain h, Bool.false_eq_true, if_false]

theorem State.shutTo_plain (p : Priv) : s.shutTo p a = false := by
  rw [State.shutTo, localRegion_plain h]

/-- A piece of a plain range goes to main memory. -/
theorem State.unitPiece_plain {r : Req} (hr : r.addr = a) (hp : r.priv = .tack) :
    (r.op = .read → r.len = n → s.unitPiece r = some (s, St.ok, s.memRead a n)) ∧
    (r.op = .write → r.data.length = n → Memory.wf s.mem = true →
      s.unitPiece r = some ({ s with mem := writeBytes s.mem a r.data }, St.ok, [])) := by
  have hx := State.directXlate_plain h hr hp
  have hno := Req.refusal_plain h hr
  have hshut := State.shutTo_plain h r.priv
  have hreg := localRegion_plain h
  have hloc := isGlobal_plain h
  obtain ⟨hn, -, -, -, hgood⟩ := h
  refine ⟨fun hop hlen => ?_, fun hop hlen hwf => ?_⟩
  · have hload := State.shedLoad_good hn hgood
    simp only [State.unitPiece, State.direct, hr, hshut, hloc, hno, hreg, hx, hop, hlen, hload, Bool.false_eq_true, if_false, ne_eq,
      not_true_eq_false, if_true]
  · have hstore := State.memStore_good hwf (hlen ▸ hgood)
    simp only [State.unitPiece, State.direct, hr, hshut, hloc, hno, hreg, hx, hop, hstore, Bool.false_eq_true, if_false, ne_eq,
      not_true_eq_false]

theorem State.unitRead_plain (task tenant : Nat) : s.unitRead .tack task tenant a n = some (s, St.ok, s.memRead a n) := by
  obtain ⟨hn, hpage, -⟩ := id h
  exact State.unitPieces_one hn hpage ((State.unitPiece_plain h rfl rfl).1 rfl rfl)

theorem State.unitWrite_plain (task tenant : Nat) {data : List Byte} (hlen : data.length = n) (hwf : Memory.wf s.mem = true) :
    s.unitWrite .tack task tenant a data = some ({ s with mem := writeBytes s.mem a data }, St.ok) := by
  obtain ⟨hn, hpage, -⟩ := id h
  have hall : data.take n = data := List.take_of_length_le (Nat.le_of_eq hlen)
  have hpiece := (State.unitPiece_plain h (r := unitReq .tack task tenant a .write n (data.take n)) rfl rfl).2 rfl (by
    show (data.take n).length = n
    rw [hall, hlen]) hwf
  rw [State.unitWrite, hlen, State.unitPieces_one hn hpage hpiece]
  show some (({ s with mem := writeBytes s.mem a (data.take n) } : State), St.ok) = _
  rw [hall]

end

end Sys2Proof.Machine
end

section
/-! SUPPORT. The host commands of sessions, registers and SPARE_SET (R485, R487, R494, R499, R546). -/

namespace Sys2Proof.Machine

open Sys2Proof.Claims (hostAt taken ends replied accepted plainRange)

variable {s t u : State} {c : CpCmd} {l : List CpCmd} {d : Sess}

/-! ### Sessions (R485, R487) -/

/-- The session that an accepted open makes (R485). -/
def State.newSess (s : State) (c : CpCmd) (key : List Byte) : Sess :=
  let dn := fixLen 16 (Config.dnonce s.free)
  let k := hmac key ((c.params.drop 4).take 16 ++ dn ++ leBytes 4 s.nextSess)
  { mgmt := c.mgmt, key := k, src := c.src, hnonce := (c.params.drop 4).take 16, openAt := s.clk,
    firstReply := hostPacket 3 1 0 0 St.ok (leBytes 4 s.nextSess ++ dn) (some k), lastAt := s.clk }

/-- An open that a credential covers, whose nonce is new and for which there is room. -/
theorem State.sessionOpen_ok {key : List Byte} (hkey : s.openKey c = some key) (hr : hReserved c.raw = false) (hz : hb c.params 1 1 = 0)
    (hlen : c.params.length = 20) (hnew : ∀ e ∈ s.sess, ∀ x, e.2 = some x → x.hnonce ≠ (c.params.drop 4).take 16)
    (hroom : s.sessCount false + s.sessCount true < 64) (hctrl : c.mgmt = false → s.sessCount false < 56) :
    s.sessionOpen c = (({ s with nextSess := s.nextSess + 1, free := s.free + 1 } : State).setSession s.nextSess
      (some (s.newSess c key))).out c.src (s.newSess c key).firstReply := by
  have hlimit : ¬ (64 ≤ s.sessCount false + s.sessCount true ∨ (!c.mgmt) = true ∧ 56 ≤ s.sessCount false) := by
    rintro (h | ⟨hm, h⟩)
    · omega
    · have := hctrl (Bool.not_eq_true' _ ▸ hm)
      omega
  simp only [State.sessionOpen, hkey, hr, hz, hlen, Bool.false_eq_true, ne_eq, not_true_eq_false, or_self, if_false]
  split
  next b hb =>
    obtain ⟨e, he, hfound⟩ := List.exists_of_findSome?_eq_some hb
    split at hfound
    next x hx =>
      rw [if_neg fun hsame => hnew e he x hx hsame.1] at hfound
      cases hfound
    next => cases hfound
  next => exact if_neg hlimit

theorem exec_sessionOpen {key : List Byte} (hcpq : s.cpq = c :: l) (hop : c.opcode = 1) (htake : s.tack.takeover = false)
    (hkey : s.openKey c = some key) (hr : hReserved c.raw = false) (hz : hb c.params 1 1 = 0) (hlen : c.params.length = 20)
    (hnew : ∀ e ∈ s.sess, ∀ x, e.2 = some x → x.hnonce ≠ (c.params.drop 4).take 16)
    (hroom : s.sessCount false + s.sessCount true < 64) (hctrl : c.mgmt = false → s.sessCount false < 56)
    (hdef : ∀ x ∈ l, hostOpDefined x.opcode = true) :
    exec .sessionOpen s = .next ((({ taken s l with nextSess := s.nextSess + 1, free := s.free + 1 } : State).setSession s.nextSess
      (some (s.newSess c key))).out c.src (s.newSess c key).firstReply) := by
  have hses : c.session = 0 := by
    unfold State.openKey at hkey
    split at hkey
    next => cases hkey
    next =>
      dsimp only at hkey
      split_ifs at hkey with h
      exact h.1
  have hgo : ¬ (c.opcode ≠ 1 ∨ s.tack.takeover = true) := by simp [hop, htake]
  have hopen := State.sessionOpen_ok (s := taken s l) hkey hr hz hlen hnew hroom hctrl
  show execSessionOpen s = _
  simp only [execSessionOpen, hcpq, if_neg hgo, hses, if_true]
  refine congrArg Host.Outcome.next ((State.skipUndefined_of_defined ?_ 320).trans hopen)
  show ∀ x ∈ ((taken s l).sessionOpen c).cpq, _
  rw [hopen]
  exact hdef

theorem exec_sessionClose (hs : Map.wf noneOf s.sess = true) (ha : hostAt s c l d 2) (hp : c.params = []) :
    ∃ t, exec .sessionClose s = .next t ∧ replied t c d l St.ok [] ∧ t.session c.session = none := by
  obtain ⟨t, b, ht, hrep, hses⟩ := exec_host_replies_session (i := .sessionClose) rfl ha (by simp [HostOp.admits, hp]) rfl rfl rfl
  refine ⟨t, ht, hrep, ?_⟩
  rw [hses, show ((taken s l).setSession c.session none).session c.session = none from Map.get_set_self noneOf c.session none hs]
  rfl

theorem exec_devInfo (ha : hostAt s c l d 3) (hp : c.params = []) :
    ∃ t, exec .devInfo s = .next t ∧ replied t c d l St.ok s.devInfo :=
  exec_host_replies_only rfl ha (by simp [HostOp.admits, hp]) rfl rfl rfl

/-! ### Registers (R494, R499) -/

theorem State.csrReads_one {p : Priv} {a : Nat} {st : Status} {bs : List Byte} (h : s.hostCsrRead p a = some (u, st, bs)) :
    s.csrReads p a 1 = if st = St.ok then some (u, 1, St.ok, bs) else some (u, 0, st, []) := by
  by_cases hst : st = St.ok
  · simp only [State.csrReads, h, hst, ne_eq, not_true_eq_false, if_false, if_true, List.append_nil]
  · simp only [State.csrReads, h, hst, ne_eq, not_false_eq_true, if_false, if_true]

theorem exec_csrRead (ha : hostAt s c l d 4) (hlen : c.params.length = 9) (hone : hb c.params 8 1 = 1) {st : Status} {bs : List Byte}
    (hread : (taken s l).hostCsrRead c.priv (hb c.params 0 8) = some (u, st, bs)) :
    (st = St.ok → exec .csrRead s = .next (ends u c d st (leBytes 1 1 ++ leBytes 3 0 ++ bs))) ∧
    (st ≠ St.ok → exec .csrRead s = .next (ends u c d st (leBytes 1 0 ++ leBytes 3 0))) := by
  have hreads := State.csrReads_one hread
  refine ⟨fun hst => exec_host_ends rfl ha (by simp [HostOp.admits, hlen, hone]) ?_,
    fun hst => exec_host_ends rfl ha (by simp [HostOp.admits, hlen, hone]) ?_⟩
  · rw [if_pos hst] at hreads
    simp only [hone, hreads, hst]
  · rw [if_neg hst] at hreads
    simp only [hone, hreads, List.append_nil]

theorem exec_csrWrite (ha : hostAt s c l d 5) (hlen : c.params.length = 16) {st : Status}
    (hwrite : (taken s l).hostCsrWrite c.priv (hb c.params 0 8) (BitVec.ofNat 64 (hb c.params 8 8)) = some (u, st)) :
    exec .csrWrite s = .next (ends u c d st []) :=
  exec_host_ends rfl ha (by simp [HostOp.admits, hlen]) (by simp only [hwrite, HostRes.ofWrite])

theorem exec_modeSet (hs : Map.wf devReset s.csr = true) (ha : hostAt s c l d 6) (hm : c.mgmt = true) (hlen : c.params.length = 2)
    (hv : hb c.params 0 2 ≤ 0x7F) :
    ∃ t, exec .modeSet s = .next t ∧ replied t c d l St.ok (leBytes 2 (s.dcsr hostifBase).toNat) ∧
      t.dcsr hostifBase = BitVec.ofNat 64 (hb c.params 0 2) :=
  exec_host_replies (u := (taken s l).modeSet (hb c.params 0 2)) rfl ha (by simp [HostOp.admits, hlen, hm]) (if_neg (Nat.not_lt.mpr hv)) rfl rfl
    fun _ _ => State.dcsr_setDcsr_self (s := taken s l) hs hostifBase _

theorem exec_modeSet_reserved (ha : hostAt s c l d 6) (hm : c.mgmt = true) (hlen : c.params.length = 2) (hv : 0x7F < hb c.params 0 2) :
    ∃ t, exec .modeSet s = .next t ∧ replied t c d l St.reservedSet [] ∧ t.csr = s.csr :=
  exec_host_replies (u := taken s l) rfl ha (by simp [HostOp.admits, hlen, hm]) (if_pos hv) rfl rfl fun _ _ => rfl

/-! ### SPARE_SET (R546) -/

/-- With no sparing under way, a command's sparing is decided. -/
theorem State.spareJob_first (htodo : s.tack.todo = []) (kind ps sub : Nat) : s.spareJob c kind ps sub =
    .started (s.modTack fun k => { k with todo := [{ kind := kind, ps := ps, sub := sub, long := some (c.session, c.seq) }] }) none := by
  simp only [State.spareJob, State.findJob, State.decideSpare, State.modTack, htodo, List.find?_nil, List.any_nil, Bool.false_eq_true, if_false,
    List.nil_append]

/-- A spare stall anywhere in the package can be taken. -/
theorem isSome_spareFor {free : Nat → Bool} {ps x : Nat} (hx : x < 288) (hrow : 64 ≤ x % 72) (hfree : free x = true) :
    (spareFor free ps).isSome = true := by
  have hmem : ∀ y, y = x / 72 → x ∈ ((List.range 8).map (· + y * 72 + 64)).filter free := by
    rintro y rfl
    refine List.mem_filter.mpr ⟨List.mem_map.mpr ⟨x % 72 - 64, List.mem_range.mpr (by omega), by omega⟩, hfree⟩
  unfold spareFor
  dsimp only
  split
  · rfl
  · rw [List.isSome_head?]
    exact List.ne_nil_of_mem (List.mem_flatMap.mpr ⟨x / 72, List.mem_range.mpr (by omega), hmem _ rfl⟩)

theorem State.state_of_spareChan {n x : Nat} (h : s.spareChan n = some x) : (s.chan (n * 34 + x)).state = 1 := by
  simpa using List.find?_some h

section
variable (hu : hb c.params 0 1 = 0) (hby : bypassed (s.scsr (hb c.params 4 4) 0x1420) (hb c.params 2 2) = false)
include hu hby

theorem State.spareSet_column_none (hleft : colsLeft (s.scsr (hb c.params 4 4) 0x1420) = 0) : s.spareSet c = .done s St.rasNoSpare [] := by
  simp only [State.spareSet, hu, hby, hleft, Bool.false_eq_true, if_false, if_true]

theorem State.spareSet_column (hleft : colsLeft (s.scsr (hb c.params 4 4) 0x1420) ≠ 0) :
    s.spareSet c = s.spareJob c 0 (hb c.params 4 4) (hb c.params 2 2) := by
  simp only [State.spareSet, hu, hby, hleft, Bool.false_eq_true, if_false]

end

section
variable (hu : hb c.params 0 1 = 1)
include hu

theorem State.spareSet_stall_inactive (hact : s.healthOf (hb c.params 4 4) ≠ .active) : s.spareSet c = .done s St.rasSpareState [] := by
  simp only [State.spareSet, hu, hact, ne_eq, not_false_eq_true, if_true]

theorem State.spareSet_stall (hact : s.healthOf (hb c.params 4 4) = .active) {x : Nat} (hx : x < 288) (hrow : 64 ≤ x % 72)
    (hspare : s.healthOf x = .spare) : s.spareSet c = s.spareJob c 1 (hb c.params 4 4) 0 := by
  have hsome := isSome_spareFor (free := fun x => decide (s.healthOf x = .spare)) (ps := hb c.params 4 4) hx hrow (decide_eq_true hspare)
  have hleft : (spareFor (fun x => decide (s.healthOf x = .spare)) (hb c.params 4 4)).isNone = false := by
    rw [Option.isNone_eq_false_iff]
    exact hsome
  simp only [State.spareSet, hu, hact, hleft, ne_eq, not_true_eq_false, if_false, Bool.false_eq_true]

end

section
variable (hu : hb c.params 0 1 = 2) (hact : (s.chan (hb c.params 4 4)).state = 0)
include hu hact

theorem State.spareSet_channel_none (hnone : s.spareChan (hb c.params 4 4 / 34) = none) : s.spareSet c = .done s St.rasNoSpare [] := by
  simp only [State.spareSet, hu, hact, hnone, ne_eq, not_true_eq_false, if_false]

theorem State.spareSet_channel {x : Nat} (hsome : s.spareChan (hb c.params 4 4 / 34) = some x) :
    s.spareSet c = .started (s.startMig (hb c.params 4 4 / 34) (hb c.params 4 4 % 34) x) none := by
  simp only [State.spareSet, hu, hact, hsome, ne_eq, not_true_eq_false, if_false]

end

theorem State.startMig_cpq (s : State) (n a b : Nat) : (s.startMig n a b).cpq = s.cpq := rfl

theorem State.startMig_outbox (s : State) (n a b : Nat) : (s.startMig n a b).outbox = s.outbox := rfl

theorem State.startMig_longs (s : State) (n a b : Nat) : (s.startMig n a b).longs = s.longs := rfl

/-- The migration that leaves a channel of the package. -/
theorem State.startMig_leaves {ch x : Nat} (hact : (s.chan ch).state = 0) (hsome : s.spareChan (ch / 34) = some x) :
    ((s.startMig (ch / 34) (ch % 34) x).chan ch).state = 2 ∧ ((s.startMig (ch / 34) (ch % 34) x).shed (ch / 34)).mig.active = true := by
  have hch : ch / 34 * 34 + ch % 34 = ch := by omega
  have hne : ch % 34 ≠ x := by
    rintro rfl
    have := State.state_of_spareChan hsome
    rw [hch, hact] at this
    cases this
  refine ⟨?_, ?_⟩
  · have := s.startMig_chan_src (ch / 34) hne
    rw [hch] at this
    rw [this]
  · rw [State.startMig_mig]
    split_ifs with hrun
    · exact hrun
    · rfl

section
variable (ha : hostAt s c l d 7) (hm : c.mgmt = true) (hmode : s.hostMode 6 = true) (hlen : c.params.length = 8) (hz : hb c.params 1 1 = 0)
include ha hm hmode hlen hz

/-- A column: refused with no repair column left, else spared (R546). -/
theorem exec_spareSet_column (hu : hb c.params 0 1 = 0) (hsub : hb c.params 2 2 < 514) (hid : hb c.params 4 4 < 288)
    (hby : bypassed (s.scsr (hb c.params 4 4) 0x1420) (hb c.params 2 2) = false) :
    (colsLeft (s.scsr (hb c.params 4 4) 0x1420) = 0 → ∃ t, exec .spareSet s = .next t ∧ replied t c d l St.rasNoSpare []) ∧
    (colsLeft (s.scsr (hb c.params 4 4) 0x1420) ≠ 0 → s.tack.todo = [] → ∃ t, exec .spareSet s = .next t ∧ accepted s t c d l none ∧
      t.tack.todo = [{ kind := 0, ps := hb c.params 4 4, sub := hb c.params 2 2, long := some (c.session, c.seq) }]) := by
  refine ⟨fun hleft => ?_, fun hleft htodo => ?_⟩
  · have hrun := State.spareSet_column_none (s := taken s l) hu hby hleft
    exact exec_host_replies_only rfl ha (by simp [HostOp.admits, spareSetOk, hm, hmode, hlen, hz, hu, hsub, hid]) hrun rfl rfl
  · have hrun := (State.spareSet_column (s := taken s l) hu hby hleft).trans (State.spareJob_first (s := taken s l) htodo 0 _ _)
    exact exec_host_starts rfl ha (by simp [HostOp.admits, spareSetOk, hm, hmode, hlen, hz, hu, hsub, hid]) hrun rfl rfl rfl fun _ _ _ => rfl

/-- A stall: refused unless it is active, else spared where a spare stall is left. -/
theorem exec_spareSet_stall (hu : hb c.params 0 1 = 1) (hsub : hb c.params 2 2 = 0) (hid : hb c.params 4 4 < 288) :
    (s.healthOf (hb c.params 4 4) ≠ .active → ∃ t, exec .spareSet s = .next t ∧ replied t c d l St.rasSpareState []) ∧
    (s.healthOf (hb c.params 4 4) = .active → (∃ x, x < 288 ∧ 64 ≤ x % 72 ∧ s.healthOf x = .spare) → s.tack.todo = [] →
      ∃ t, exec .spareSet s = .next t ∧ accepted s t c d l none ∧
      t.tack.todo = [{ kind := 1, ps := hb c.params 4 4, sub := 0, long := some (c.session, c.seq) }]) := by
  refine ⟨fun hact => ?_, fun hact ⟨x, hx, hrow, hspare⟩ htodo => ?_⟩
  · have hrun := State.spareSet_stall_inactive (s := taken s l) hu hact
    exact exec_host_replies_only rfl ha (by simp [HostOp.admits, spareSetOk, hm, hmode, hlen, hz, hu, hsub, hid]) hrun rfl rfl
  · have hrun := (State.spareSet_stall (s := taken s l) hu hact hx hrow hspare).trans (State.spareJob_first (s := taken s l) htodo 1 _ 0)
    exact exec_host_starts rfl ha (by simp [HostOp.admits, spareSetOk, hm, hmode, hlen, hz, hu, hsub, hid]) hrun rfl rfl rfl fun _ _ _ => rfl

/-- An ACTIVE channel: refused with no SPARE channel in its shed, else it migrates. -/
theorem exec_spareSet_channel (hu : hb c.params 0 1 = 2) (hsub : hb c.params 2 2 = 0) (hid : hb c.params 4 4 < 136)
    (hact : (s.chan (hb c.params 4 4)).state = 0) :
    (s.spareChan (hb c.params 4 4 / 34) = none → ∃ t, exec .spareSet s = .next t ∧ replied t c d l St.rasNoSpare []) ∧
    (∀ x, s.spareChan (hb c.params 4 4 / 34) = some x → ∃ t, exec .spareSet s = .next t ∧ accepted s t c d l none ∧
      (t.chan (hb c.params 4 4)).state = 2 ∧ (t.shed (hb c.params 4 4 / 34)).mig.active = true) := by
  refine ⟨fun hnone => ?_, fun x hsome => ?_⟩
  · have hrun := State.spareSet_channel_none (s := taken s l) hu hact hnone
    exact exec_host_replies_only rfl ha (by simp [HostOp.admits, spareSetOk, hm, hmode, hlen, hz, hu, hsub, hid]) hrun rfl rfl
  · have hrun := State.spareSet_channel (s := taken s l) hu hact hsome
    have hleaves := State.startMig_leaves (s := taken s l) hact hsome
    exact exec_host_starts rfl ha (by simp [HostOp.admits, spareSetOk, hm, hmode, hlen, hz, hu, hsub, hid]) hrun (State.startMig_cpq _ _ _ _)
      (State.startMig_outbox _ _ _ _) (State.startMig_longs _ _ _ _) fun _ _ _ => hleaves

end

end Sys2Proof.Machine
end

section
/-! SUPPORT. Host commands of memory, bays, channels and RoCE resources, and the statement on the commands of R493 that act on the device (R29, R294,
R494 to R496, R499). -/

namespace Sys2Proof.Machine

open Sys2Proof.Claims (hostAt taken ends replied accepted plainRange)

variable {s t u : State} {c : CpCmd} {l : List CpCmd} {d : Sess}

/-! ### Memory (R494) -/

section
variable {a n : Nat} (h : plainRange s a n)
include h

theorem State.hostRead_plain (task : Nat) : s.hostRead .tack task a n = some (s, St.ok, s.memRead a n) := by
  simp only [State.hostRead, State.shutTo_plain h, localRegion_plain h, State.unitRead_plain h, Bool.false_eq_true, if_false]

theorem State.hostWrite_plain (task : Nat) {data : List Byte} (hlen : data.length = n) (hwf : Memory.wf s.mem = true) :
    s.hostWrite .tack task a data = some ({ s with mem := writeBytes s.mem a data }, St.ok) := by
  simp only [State.hostWrite, State.shutTo_plain h, localRegion_plain h, State.unitWrite_plain h task 0 hlen hwf, Bool.false_eq_true, if_false]

end

/-- Only MGMT may ask for an untranslated access. -/
theorem untranslated_refused (htask : hb c.params 0 2 = 0xFFFF) (hm : c.mgmt = false) : hb c.params 0 2 = 0xFFFF ∧ (!c.mgmt) = true := by
  simp [htask, hm]

theorem untranslated_allowed (hm : c.mgmt = true) : ¬ (hb c.params 0 2 = 0xFFFF ∧ (!c.mgmt) = true) := by
  simp [hm]

theorem exec_memRead (ha : hostAt s c l d 0x101) (hlen : c.params.length = 12) (hlo : 1 ≤ hb c.params 2 2) (hhi : hb c.params 2 2 ≤ 1024)
    (htask : hb c.params 0 2 = 0xFFFF) :
    (c.mgmt = false → ∃ t, exec .memRead s = .next t ∧ replied t c d l St.privilege []) ∧
    (c.mgmt = true → plainRange s (hb c.params 4 8) (hb c.params 2 2) → ∃ t, exec .memRead s = .next t ∧
      replied t c d l St.ok (s.memRead (hb c.params 4 8) (hb c.params 2 2)) ∧ t.mem = s.mem) := by
  refine ⟨fun hm => ?_, fun hm hplain => ?_⟩
  · exact exec_host_replies_only (u := taken s l) rfl ha (by simp [HostOp.admits, memLenOk, hlen, hlo, hhi])
      (if_pos (untranslated_refused htask hm)) rfl rfl
  · have hread := State.hostRead_plain (s := taken s l) hplain 0xFFFF
    refine exec_host_replies (u := taken s l) rfl ha (by simp [HostOp.admits, memLenOk, hlen, hlo, hhi]) ?_ rfl rfl fun _ _ => rfl
    simp only [htask, hm, isGlobal_plain hplain, memPriv, hread, Bool.not_true, Bool.false_eq_true, and_false, if_false, if_true]
    rfl

theorem exec_memWrite (hs : Memory.wf s.mem = true) (ha : hostAt s c l d 0x102) (hlen : c.params.length = 12 + hb c.params 2 2)
    (hlo : 1 ≤ hb c.params 2 2) (hhi : hb c.params 2 2 ≤ 1024) (htask : hb c.params 0 2 = 0xFFFF) :
    (c.mgmt = false → ∃ t, exec .memWrite s = .next t ∧ replied t c d l St.privilege [] ∧ t.mem = s.mem) ∧
    (c.mgmt = true → plainRange s (hb c.params 4 8) (hb c.params 2 2) → ∃ t, exec .memWrite s = .next t ∧ replied t c d l St.ok [] ∧
      t.mem = writeBytes s.mem (hb c.params 4 8) (c.params.drop 12)) := by
  refine ⟨fun hm => ?_, fun hm hplain => ?_⟩
  · exact exec_host_replies (u := taken s l) rfl ha (by simp [HostOp.admits, memLenOk, hlen, hlo, hhi])
      (if_pos (untranslated_refused htask hm)) rfl rfl fun _ _ => rfl
  · have hdata : (c.params.drop 12).length = hb c.params 2 2 := by rw [List.length_drop, hlen]; omega
    have hwrite := State.hostWrite_plain (s := taken s l) hplain 0xFFFF hdata hs
    refine exec_host_replies rfl ha (by simp [HostOp.admits, memLenOk, hlen, hlo, hhi])
      (u := { taken s l with mem := writeBytes s.mem (hb c.params 4 8) (c.params.drop 12) }) ?_ rfl rfl fun _ _ => rfl
    simp only [htask, hm, isGlobal_plain hplain, memPriv, hwrite, HostRes.ofWrite, Bool.not_true, Bool.false_eq_true, and_false, if_false, if_true]
    rfl

/-! ### Bays and channels (R29, R294) -/

theorem State.bayRelease_spare {bay : Nat} (h : (s.chan bay).state = 1) :
    s.bayRelease bay = .started (s.setChan bay { s.chan bay with state := 3 }) none := by
  simp only [State.bayRelease, h]

theorem State.bayRelease_last {bay : Nat} (h : (s.chan bay).state = 0) (hnone : s.spareChan (bay / 34) = none) :
    s.bayRelease bay = .done s St.bayNoSpare [] := by
  simp only [State.bayRelease, h, hnone]

theorem State.bayRelease_other {bay : Nat} (h : 1 < (s.chan bay).state) : s.bayRelease bay = .done s St.bayNotReleasable [] := by
  unfold State.bayRelease
  split
  next h1 => omega
  next h0 => omega
  next => rfl

theorem exec_bayRelease (ha : hostAt s c l d 0x103) (hlen : c.params.length = 1) (hbay : hb c.params 0 1 < 136) :
    ((s.chan (hb c.params 0 1)).state = 1 → ∃ t, exec .bayRelease s = .next t ∧ accepted s t c d l none ∧ (t.chan (hb c.params 0 1)).state = 3) ∧
    ((s.chan (hb c.params 0 1)).state = 0 → s.spareChan (hb c.params 0 1 / 34) = none →
      ∃ t, exec .bayRelease s = .next t ∧ replied t c d l St.bayNoSpare []) ∧
    (1 < (s.chan (hb c.params 0 1)).state → ∃ t, exec .bayRelease s = .next t ∧ replied t c d l St.bayNotReleasable []) := by
  refine ⟨fun h => ?_, fun h hnone => ?_, fun h => ?_⟩
  · have hset := congrArg Chan.state ((taken s l).chan_setChan (hb c.params 0 1) (c := { s.chan (hb c.params 0 1) with state := 3 })
      (by exact (by decide : 1 < 3)))
    exact exec_host_starts (u := (taken s l).setChan (hb c.params 0 1) { s.chan (hb c.params 0 1) with state := 3 }) rfl ha
      (by simp [HostOp.admits, hlen, hbay]) (State.bayRelease_spare (s := taken s l) h) rfl rfl rfl fun _ _ _ => hset
  · exact exec_host_replies_only rfl ha (by simp [HostOp.admits, hlen, hbay]) (State.bayRelease_last (s := taken s l) h hnone) rfl rfl
  · exact exec_host_replies_only rfl ha (by simp [HostOp.admits, hlen, hbay]) (State.bayRelease_other (s := taken s l) h) rfl rfl

theorem exec_bayState (ha : hostAt s c l d 0x104) (hlen : c.params.length = 1) (hbay : hb c.params 0 1 < 136) :
    ∃ t, exec .bayState s = .next t ∧
      replied t c d l St.ok (leBytes 1 (s.chan (hb c.params 0 1)).state ++ leBytes 1 0 ++ leBytes 2 (s.chan (hb c.params 0 1)).last.toNat) :=
  exec_host_replies_only rfl ha (by simp [HostOp.admits, hlen, hbay]) rfl rfl rfl

section
variable {n lc : Nat}

theorem State.chanReclaim_served (h : s.lcServed n lc = true) : s.chanReclaim n lc = .done s St.badParam [] := if_pos h

theorem State.chanReclaim_none (h : s.lcServed n lc = false) (hnone : s.spareChan n = none) : s.chanReclaim n lc = .done s St.bayNoSpare [] := by
  simp only [State.chanReclaim, h, hnone, Bool.false_eq_true, if_false]

theorem State.chanReclaim_spare {x : Nat} (h : s.lcServed n lc = false) (hsome : s.spareChan n = some x) :
    s.chanReclaim n lc = .started (s.setChan (n * 34 + x) { s.chan (n * 34 + x) with state := 7, lc := lc }) none := by
  simp only [State.chanReclaim, h, hsome, Bool.false_eq_true, if_false]

end

theorem exec_chanReclaim (ha : hostAt s c l d 0x105) (hlen : c.params.length = 2) (hn : hb c.params 0 1 < 4) (hlc : hb c.params 1 1 < 32) :
    (s.lcServed (hb c.params 0 1) (hb c.params 1 1) = true → ∃ t, exec .chanReclaim s = .next t ∧ replied t c d l St.badParam []) ∧
    (s.lcServed (hb c.params 0 1) (hb c.params 1 1) = false → s.spareChan (hb c.params 0 1) = none →
      ∃ t, exec .chanReclaim s = .next t ∧ replied t c d l St.bayNoSpare []) ∧
    (∀ x, s.lcServed (hb c.params 0 1) (hb c.params 1 1) = false → s.spareChan (hb c.params 0 1) = some x →
      ∃ t, exec .chanReclaim s = .next t ∧ accepted s t c d l none ∧
        (t.chan (hb c.params 0 1 * 34 + x)).state = 7 ∧ (t.chan (hb c.params 0 1 * 34 + x)).lc = hb c.params 1 1) := by
  refine ⟨fun h => ?_, fun h hnone => ?_, fun x h hsome => ?_⟩
  · exact exec_host_replies_only rfl ha (by simp [HostOp.admits, hlen, hn, hlc]) (State.chanReclaim_served (s := taken s l) h) rfl rfl
  · exact exec_host_replies_only rfl ha (by simp [HostOp.admits, hlen, hn, hlc]) (State.chanReclaim_none (s := taken s l) h hnone) rfl rfl
  · have hset := (taken s l).chan_setChan (hb c.params 0 1 * 34 + x)
      (c := { s.chan (hb c.params 0 1 * 34 + x) with state := 7, lc := hb c.params 1 1 }) (by exact (by decide : 1 < 7))
    exact exec_host_starts (u := (taken s l).setChan (hb c.params 0 1 * 34 + x)
      { s.chan (hb c.params 0 1 * 34 + x) with state := 7, lc := hb c.params 1 1 }) rfl ha (by simp [HostOp.admits, hlen, hn, hlc])
      (State.chanReclaim_spare (s := taken s l) h hsome) rfl rfl rfl
      fun _ _ _ => ⟨congrArg Chan.state hset, congrArg Chan.lc hset⟩

/-! ### RoCE resources (R495, R496) -/

/-- The first free entry of a table. -/
theorem freeEntry_first {α : Type} {m : Map (Option α)} {i n : Nat} (hi : i < n) (hfree : Map.get noneOf m i = none)
    (hused : ∀ j, j < i → Map.get noneOf m j ≠ none) : freeEntry m 0 n = some i := by
  have hid : (fun i => i + 0) = (id : Nat → Nat) := rfl
  rw [freeEntry, hid, List.map_id, List.find?_range_eq_some]
  refine ⟨by rw [hfree]; rfl, List.mem_range.mpr hi, fun j hj => ?_⟩
  rw [Bool.not_eq_true', Option.isNone_eq_false_iff, Option.isSome_iff_ne_none]
  exact hused j hj

theorem freeEntry_full {α : Type} {m : Map (Option α)} {n : Nat} (hused : ∀ i, i < n → Map.get noneOf m i ≠ none) : freeEntry m 0 n = none := by
  refine List.find?_eq_none.mpr fun i hi hnone => ?_
  obtain ⟨j, hj, rfl⟩ := List.mem_map.mp hi
  exact hused j (List.mem_range.mp hj) (Option.isNone_iff_eq_none.mp hnone)

/-- The memory region that an MR_REG with parameters `p` makes. -/
def newMr (p : List Byte) : Mr := { task := hb p 0 2, tenant := hb p 2 2, rights := hb p 4 1, addr := hb p 8 8, len := hb p 16 8 }

section
variable (ha : hostAt s c l d 0x106) (hlen : c.params.length = 24) (hright : hb c.params 4 1 ≤ 3) (hz : hb c.params 5 3 = 0)
  (hok : mrOk (hb c.params 8 8) (hb c.params 16 8) = true)
include ha hlen hright hz hok

theorem exec_mrReg {i : Nat} (hi : i < 4096) (hfree : Map.get noneOf s.mrs i = none) (hused : ∀ j, j < i → Map.get noneOf s.mrs j ≠ none) :
    ∃ t, exec .mrReg s = .next t ∧ replied t c d l St.ok (leBytes 4 (rkeyOf i)) ∧ Map.get noneOf t.mrs i = some (newMr c.params) := by
  have hentry : freeEntry (taken s l).mrs 0 4096 = some i := freeEntry_first hi hfree hused
  refine exec_host_replies (u := { taken s l with mrs := Map.set noneOf s.mrs i (some (newMr c.params)) }) rfl ha
    (by simp [HostOp.admits, hlen, hright, hz, hok]) ?_ rfl rfl fun _ _ => Map.get_set_of_ne_default noneOf s.mrs i (Option.some_ne_none _)
  simp only [hentry]
  rfl

theorem exec_mrReg_full (hused : ∀ i, i < 4096 → Map.get noneOf s.mrs i ≠ none) :
    ∃ t, exec .mrReg s = .next t ∧ replied t c d l St.haltLimit [] := by
  have hentry : freeEntry (taken s l).mrs 0 4096 = none := freeEntry_full hused
  refine exec_host_replies_only (u := taken s l) rfl ha (by simp [HostOp.admits, hlen, hright, hz, hok]) ?_ rfl rfl
  simp only [hentry]

end

theorem exec_mrDereg (hs : Map.wf noneOf s.mrs = true) (ha : hostAt s c l d 0x107) (hlen : c.params.length = 4) {i : Nat}
    (hkey : hb c.params 0 4 = rkeyOf i) (hi : i < 4096) :
    (Map.get noneOf s.mrs i ≠ none →
      ∃ t, exec .mrDereg s = .next t ∧ accepted s t c d l (some (St.ok, [])) ∧ Map.get noneOf t.mrs i = none) ∧
    (Map.get noneOf s.mrs i = none → ∃ t, exec .mrDereg s = .next t ∧ replied t c d l St.badParam []) := by
  refine ⟨fun h => ?_, fun h => ?_⟩
  · refine exec_host_starts (u := { taken s l with mrs := Map.set noneOf s.mrs i none }) rfl ha (by simp [HostOp.admits, hlen]) ?_ rfl rfl rfl
      fun _ _ _ => Map.get_set_self noneOf i none hs
    have hno : ¬ ((Map.get noneOf (taken s l).mrs i).isNone = true ∨ rkeyOf i ≠ rkeyOf i) := by
      rw [Option.isNone_iff_eq_none]
      exact fun hor => hor.elim h (· rfl)
    simp only [hkey, rkeyOf_mod hi]
    exact if_neg hno
  · refine exec_host_replies_only (u := taken s l) rfl ha (by simp [HostOp.admits, hlen]) ?_ rfl rfl
    simp only [hkey, rkeyOf_mod hi]
    exact if_pos (.inl (Option.isNone_iff_eq_none.mpr h))

/-- The queue pair that a QP_CREATE with parameters `p` makes. -/
def newQp (p : List Byte) : Qp :=
  { port := hb p 0 1, db := hb p 1 1, task := hb p 2 2, tenant := hb p 4 2, pmtu := hb p 6 2, dqpn := hb p 8 4, spsn := hb p 12 4,
    dpsn := hb p 16 4, dgid := hb p 20 16 }

theorem exec_qpCreate (ha : hostAt s c l d 0x108) (hok : qpOk c.params = true) :
    (∀ i, freeEntry s.qps (256 * (hb c.params 0 1 + 1)) 256 = some i → ∃ t, exec .qpCreate s = .next t ∧ replied t c d l St.ok (leBytes 4 i) ∧
      Map.get noneOf t.qps i = some (newQp c.params)) ∧
    (freeEntry s.qps (256 * (hb c.params 0 1 + 1)) 256 = none → ∃ t, exec .qpCreate s = .next t ∧ replied t c d l St.haltLimit []) := by
  refine ⟨fun i h => ?_, fun h => ?_⟩
  · have hentry : freeEntry (taken s l).qps (256 * (hb c.params 0 1 + 1)) 256 = some i := h
    refine exec_host_replies (u := { taken s l with qps := Map.set noneOf s.qps i (some (newQp c.params)) }) rfl ha
      (by simp [HostOp.admits, hok]) ?_ rfl rfl fun _ _ => Map.get_set_of_ne_default noneOf s.qps i (Option.some_ne_none _)
    simp only [hentry]
    rfl
  · have hentry : freeEntry (taken s l).qps (256 * (hb c.params 0 1 + 1)) 256 = none := h
    refine exec_host_replies_only (u := taken s l) rfl ha (by simp [HostOp.admits, hok]) ?_ rfl rfl
    simp only [hentry]

theorem exec_qpDestroy (hs : Map.wf noneOf s.qps = true) (ha : hostAt s c l d 0x109) (hlen : c.params.length = 4) :
    (Map.get noneOf s.qps (hb c.params 0 4) ≠ none → ∃ t, exec .qpDestroy s = .next t ∧ accepted s t c d l (some (St.ok, [])) ∧
      Map.get noneOf t.qps (hb c.params 0 4) = none) ∧
    (Map.get noneOf s.qps (hb c.params 0 4) = none → ∃ t, exec .qpDestroy s = .next t ∧ replied t c d l St.badParam []) := by
  refine ⟨fun h => ?_, fun h => ?_⟩
  · exact exec_host_starts (u := { taken s l with qps := Map.set noneOf s.qps (hb c.params 0 4) none }) rfl ha (by simp [HostOp.admits, hlen])
      (if_neg fun hnone => h (Option.isNone_iff_eq_none.mp hnone)) rfl rfl rfl fun _ _ _ => Map.get_set_self noneOf _ none hs
  · exact exec_host_replies_only (u := taken s l) rfl ha (by simp [HostOp.admits, hlen]) (if_pos (Option.isNone_iff_eq_none.mpr h)) rfl rfl

/-- What an accepted open leaves (R485). -/
theorem State.session_opened (key : List Byte) :
    ((({ taken s l with nextSess := s.nextSess + 1, free := s.free + 1 } : State).setSession s.nextSess (some (s.newSess c key))).out c.src
      (s.newSess c key).firstReply).session s.nextSess = some (s.newSess c key) :=
  Map.get_set_of_ne_default noneOf s.sess s.nextSess (Option.some_ne_none _)

/-- Settles O44: each command by the lemma on its row. -/
theorem hostDeviceCommands : Obligations.HostDeviceCommands := by
  intro s c l d hs _
  refine ⟨fun key hcpq hop htake hkey hr hz hlen hnew hroom hctrl hdef => ?_, exec_sessionClose hs.sess, exec_devInfo,
    fun ha hlen hone _ _ _ hread => exec_csrRead ha hlen hone hread, fun ha hlen _ _ hwrite => exec_csrWrite ha hlen hwrite,
    fun ha hm hlen => ⟨exec_modeSet hs.csr ha hm hlen, exec_modeSet_reserved ha hm hlen⟩,
    fun ha hm hmode hlen hz => ⟨exec_spareSet_column ha hm hmode hlen hz, exec_spareSet_stall ha hm hmode hlen hz,
      exec_spareSet_channel ha hm hmode hlen hz⟩,
    fun ha hlen hlo hhi => ⟨fun htask => (exec_memRead ha hlen hlo hhi htask).1, fun htask => (exec_memRead ha hlen hlo hhi htask).2⟩,
    fun ha hlen hlo hhi => ⟨fun htask => (exec_memWrite hs.mem ha hlen hlo hhi htask).1,
      fun htask => (exec_memWrite hs.mem ha hlen hlo hhi htask).2⟩,
    exec_bayRelease, exec_bayState, exec_chanReclaim,
    fun ha hlen hright hz hok => ⟨fun _ => exec_mrReg ha hlen hright hz hok, exec_mrReg_full ha hlen hright hz hok⟩,
    fun ha hlen _ => exec_mrDereg hs.mrs ha hlen, fun ha hok => ⟨fun i h => ?_, (exec_qpCreate ha hok).2⟩, exec_qpDestroy hs.qps⟩
  · exact ⟨_, s.newSess c key, exec_sessionOpen hcpq hop htake hkey hr hz hlen hnew hroom hctrl hdef, State.session_opened key, rfl, rfl, rfl, rfl,
      rfl, rfl, rfl⟩
  · obtain ⟨t, ht, hrep, hq⟩ := (exec_qpCreate ha hok).1 i h
    exact ⟨t, newQp c.params, ht, hrep, hq, rfl, rfl, rfl, rfl, rfl, rfl⟩

end Sys2Proof.Machine
end

section
/-! SUPPORT. Host commands of grooms, queues, links, gates, commit and checkpoints (R459, R489, R494, R501, R514). -/

namespace Sys2Proof.Machine

open Sys2Proof.Claims (hostAt taken ends replied accepted)

variable {s t u : State} {c : CpCmd} {l : List CpCmd} {d : Sess}

/-! ### Commands that write one register -/

section
variable {h : HostOp} {run : State → CpCmd → HostRes} {i : Instr} (hi : exec i s = .next (s.hostTake h run)) (ha : hostAt s c l d h.op)
  (hadm : h.admits s c = true)
include hi ha hadm

/-- A command that writes a register answers what the write answers, and waits while the register's page sleeps. -/
theorem exec_host_writes {x : Option (State × Status)} (hrun : run (taken s l) c = HostRes.ofWrite x) :
    (∀ u st, x = some (u, st) → exec i s = .next (ends u c d st [])) ∧ (x = none → exec i s = .next s) := by
  refine ⟨fun u st hx => exec_host_ends hi ha hadm (hrun.trans ?_), fun hx => exec_host_waits hi ha hadm (hrun.trans ?_)⟩
  · rw [hx]
    rfl
  · rw [hx]
    rfl

/-- A long command that goes on is accepted. -/
theorem exec_host_goes {res : Option (Status × List Byte)} (hrun : run (taken s l) c = .started u res) :
    exec i s = .next ((({ u with longs := u.longs ++ [{ cmd := c, res := res }] } : State).replyTo c (some d.key) false St.ok []).skipUndefined 320) :=
  hi.trans (congrArg Host.Outcome.next ((State.hostTake_run ha hadm).2.2 u res hrun))

end

/-- STALL_DBELL of a logical stall. -/
theorem exec_doorbell (ha : hostAt s c l d 0x201) (hlen : c.params.length = 12) (hz : hb c.params 1 3 = 0) {x : Option (State × Status)}
    (hx : x = (taken s l).hostCsrWrite c.priv (stallWin (s.psOf (hb c.params 0 1)) + 0x8000000 + 0x240) (BitVec.ofNat 64 (hb c.params 4 8))) :
    (∀ u st, x = some (u, st) → exec .doorbell s = .next (ends u c d st [])) ∧ (x = none → exec .doorbell s = .next s) := by
  have hadr : stallWin (s.psOf (hb c.params 0 1)) + 0x8000000 + 0x240 = stallWin (s.psOf (hb c.params 0 1)) + 0x8000240 := by omega
  have hps : (taken s l).psOf (hb c.params 0 1) = s.psOf (hb c.params 0 1) := rfl
  rw [hadr, ← hps] at hx
  exact exec_host_writes (x := x) rfl ha (by simp [HostOp.admits, hlen, hz]) (by simp only [hx])

/-- GROOM_RUNCTL: a groom runs from a program counter. -/
theorem exec_groomRun (ha : hostAt s c l d 0x202) (hlen : c.params.length = 8) (hg : hb c.params 0 2 < 4096) (hz : hb c.params 2 2 = 0)
    (hpc : hb c.params 4 4 < 2 ^ 22) (hal : hb c.params 4 4 % 4 = 0) {x : Option (State × Status)}
    (hx : x = (taken s l).hostCsrWrite c.priv (s.runctlAddr (hb c.params 0 2)) (BitVec.ofNat 64 (2 ^ 60 + hb c.params 4 4))) :
    (∀ u st, x = some (u, st) → exec .groomRun s = .next (ends u c d st [])) ∧ (x = none → exec .groomRun s = .next s) := by
  subst hx
  refine exec_host_writes rfl ha ?_ rfl
  simp only [HostOp.admits, hlen, hg, hz, hpc, hal, List.any_cons, List.any_nil, ne_eq, not_true_eq_false, decide_false, decide_true, and_self,
    Bool.or_false, Bool.not_false, Bool.true_or, Bool.and_self]

/-- GROOM_RUNCTL: a groom halts or steps, which ends later. -/
theorem exec_groomHalt (ha : hostAt s c l d 0x203) (hlen : c.params.length = 3) (hg : hb c.params 0 2 < 4096) (hk : hb c.params 2 1 ≤ 1)
    {x : Option (State × Status)}
    (hx : x = (taken s l).hostCsrWrite c.priv (s.runctlAddr (hb c.params 0 2)) (BitVec.ofNat 64 (2 ^ (61 + hb c.params 2 1)))) :
    (∀ u st, x = some (u, st) → st ≠ St.ok → exec .groomHalt s = .next (ends u c d st [])) ∧
    (∀ u, x = some (u, St.ok) → exec .groomHalt s = .next
      ((({ u with longs := u.longs ++ [{ cmd := c, res := none }] } : State).replyTo c (some d.key) false St.ok []).skipUndefined 320)) := by
  have hadr : (taken s l).runctlAddr (hb c.params 0 2) = s.runctlAddr (hb c.params 0 2) := rfl
  subst hx
  refine ⟨fun u st hx hst => exec_host_ends rfl ha (by simp [HostOp.admits, hlen, hg, hk]) ?_,
    fun u hx => exec_host_goes rfl ha (by simp [HostOp.admits, hlen, hg, hk]) ?_⟩
  · simp only [hadr, hx]
    exact if_neg hst
  · simp only [hadr, hx, if_true]

/-- The control register of a queue. -/
theorem exec_queueCtl (ha : hostAt s c l d 0x204) (hlen : c.params.length = 3) (hq : hb c.params 1 1 < 5) (hk : hb c.params 2 1 < 4) {st : Status}
    (hx : (taken s l).hostCsrWrite c.priv (stallWin (s.psOf (hb c.params 0 1)) + 0x8000000 + 0x18 + hb c.params 1 1 * 0x40)
      (BitVec.ofNat 64 (2 ^ hb c.params 2 1)) = some (u, st)) :
    exec .queueCtl s = .next (ends u c d st
      (if st = St.ok then leBytes 1 (qstateNum (u.queueState (s.psOf (hb c.params 0 1)) (hb c.params 1 1))) else [])) := by
  rw [Nat.add_assoc (stallWin _)] at hx
  have hps : (taken s l).psOf (hb c.params 0 1) = s.psOf (hb c.params 0 1) := rfl
  refine exec_host_ends rfl ha (by simp [HostOp.admits, hlen, hq, hk]) ?_
  simp only [hps, hx]

/-! ### Tasks, links and gates -/

theorem exec_taskEnd (ha : hostAt s c l d 0x205) (hlen : c.params.length = 2) : exec .taskEnd s =
    .next (ends ((taken s l).taskEnd c.priv (BitVec.ofNat 64 (hb c.params 0 2))).1 c d
      ((taken s l).taskEnd c.priv (BitVec.ofNat 64 (hb c.params 0 2))).2 []) :=
  exec_host_ends rfl ha (by simp [HostOp.admits, hlen]) rfl

theorem exec_neighRead (ha : hostAt s c l d 0x301) (hp : c.params = []) :
    ∃ t, exec .neighRead s = .next t ∧ replied t c d l St.ok s.neighbours :=
  exec_host_replies_only rfl ha (by simp [HostOp.admits, hp]) rfl rfl rfl

/-- Writes of one value to several registers. -/
theorem foldl_setDcsr (f : Nat → Nat) (v : Word) (ns : List Nat) : ∀ s : State, Map.wf devReset s.csr = true →
    ∀ o, o ∈ ns.map f ∨ s.dcsr o = v → (ns.foldl (fun s n => s.setDcsr (f n) v) s).dcsr o = v := by
  induction ns with
  | nil => exact fun s _ o h => h.resolve_left List.not_mem_nil
  | cons n ns ih =>
    intro s hs o h
    refine ih _ (Map.wf_set devReset (f n) v hs) o ?_
    by_cases ho : o = f n
    · exact .inr (by rw [ho]; exact State.dcsr_setDcsr_self hs (f n) v)
    · refine h.imp (fun hm => ?_) fun hv => (State.dcsr_setDcsr_of_ne v ho).trans hv
      exact (List.mem_cons.mp hm).resolve_left ho

theorem foldl_setDcsr_eq (f : Nat → Nat) (v : Word) (ns : List Nat) : ∀ s : State,
    ∃ k, ns.foldl (fun s n => s.setDcsr (f n) v) s = { s with csr := k } := by
  induction ns with
  | nil => exact fun s => ⟨s.csr, rfl⟩
  | cons n ns ih => exact fun s => ih (s.setDcsr (f n) v)

/-- A write to the gates reaches each of them. -/
theorem State.dcsr_setGates (hs : Map.wf devReset s.csr = true) (v : Word) {g : Nat} (hg : g < 4) : (s.setGates 0 v).dcsr (gateBase g) = v :=
  foldl_setDcsr (fun n => gateBase n + 0) v (List.range 4) s hs _ (.inl (List.mem_map.mpr ⟨g, List.mem_range.mpr hg, rfl⟩))

/-- DEVID_SET writes the gates and the store's banks. -/
theorem State.devidSet_eq (s : State) (id : Nat) : ∃ b k, s.devidSet id = { s with csr := k, banks := b } ∧
    k = (s.setGates 0 (place 13 0 id ||| place 15 15 1)).csr := by
  obtain ⟨k, hk⟩ := foldl_setDcsr_eq (fun n => gateBase n + 0) (place 13 0 id ||| place 15 15 1) (List.range 4) s
  have hset : s.setGates 0 (place 13 0 id ||| place 15 15 1) = { s with csr := k } := hk
  unfold State.devidSet
  rw [hset]
  dsimp only
  split
  next => exact ⟨_, _, rfl, rfl⟩
  next => exact ⟨_, _, rfl, rfl⟩

theorem exec_devidSet (hs : Map.wf devReset s.csr = true) (ha : hostAt s c l d 0x302) (hm : c.mgmt = true) (hlen : c.params.length = 2)
    (hid : hb c.params 0 2 < 16384) :
    (s.tack.activating = none → ∃ t, exec .devidSet s = .next t ∧ replied t c d l St.ok [] ∧
      ∀ g, g < 4 → fld (t.dcsr (gateBase g)) 13 0 = hb c.params 0 2 ∧ bit (t.dcsr (gateBase g)) 15 = true) ∧
    (s.tack.activating ≠ none → ∃ t, exec .devidSet s = .next t ∧ replied t c d l St.rasStoreBusy [] ∧ t.csr = s.csr) := by
  refine ⟨fun hidle => ?_, fun hbusy => ?_⟩
  · have hact : (taken s l).tack.activating = none := hidle
    obtain ⟨b, k, heq, hk⟩ := (taken s l).devidSet_eq (hb c.params 0 2)
    have hgate : ∀ g, g < 4 → Map.get devReset k (gateBase g) = place 13 0 (hb c.params 0 2) ||| place 15 15 1 := by
      intro g hg
      rw [hk]
      exact State.dcsr_setGates (s := taken s l) hs _ hg
    refine exec_host_replies (u := { taken s l with csr := k, banks := b }) rfl ha (by simp [HostOp.admits, hlen, hm, hid]) ?_ rfl rfl
      fun _ _ g hg => ?_
    · simp only [hact, Option.isSome_none, Bool.false_eq_true, if_false, heq]
    · show fld (Map.get devReset k (gateBase g)) 13 0 = _ ∧ bit (Map.get devReset k (gateBase g)) 15 = true
      rw [hgate g hg, fld_or, fld_place_self (by decide), fld_place_apart (by decide), bit_or,
        bit_place_one (by decide)]
      exact ⟨(Nat.or_zero _).trans (Nat.mod_eq_of_lt hid), Bool.or_true _⟩
  · exact exec_host_replies (u := taken s l) rfl ha (by simp [HostOp.admits, hlen, hm, hid])
      (if_pos (Option.isSome_iff_ne_none.mpr hbusy)) rfl rfl fun _ _ => rfl

/-- Writes of a run of entries: what they leave is canonical, reads as written in the run, and as before outside it. -/
theorem foldl_set_run {α : Type} [DecidableEq α] (dflt : Nat → α) (f : Nat → α) (lo : Nat) {m : Map α} (hm : Map.wf dflt m = true) (n : Nat) :
    ∃ m', (List.range n).foldl (fun m i => Map.set dflt m (lo + i) (f i)) m = m' ∧ Map.wf dflt m' = true ∧
      (∀ i, i < n → Map.get dflt m' (lo + i) = f i) ∧ ∀ k, k < lo ∨ lo + n ≤ k → Map.get dflt m' k = Map.get dflt m k := by
  induction n with
  | zero => exact ⟨m, rfl, hm, fun i hi => absurd hi (Nat.not_lt_zero i), fun k _ => rfl⟩
  | succ n ih =>
    obtain ⟨m', heq, hwf, hin, hout⟩ := ih
    rw [List.range_succ, List.foldl_append, heq]
    refine ⟨_, rfl, Map.wf_set dflt (lo + n) (f n) hwf, fun i hi => ?_, fun k hk => ?_⟩
    · rcases Nat.lt_succ_iff_lt_or_eq.mp hi with h | rfl
      · exact (Map.get_set_of_ne dflt m' (f n) (by omega)).trans (hin i h)
      · exact Map.get_set_self dflt (lo + i) (f i) hwf
    · exact (Map.get_set_of_ne dflt m' (f n) (by omega)).trans (hout k (by omega))

theorem exec_routeWrite (hs : Map.wf zeroW s.routes = true) (ha : hostAt s c l d 0x303) (hm : c.mgmt = true)
    (hlen : c.params.length = 4 + 4 * hb c.params 2 2) (hlo : 1 ≤ hb c.params 2 2) (hhi : hb c.params 2 2 ≤ 351)
    (hend : hb c.params 0 2 + hb c.params 2 2 ≤ 16384) :
    ∃ t, exec .routeWrite s = .next t ∧ replied t c d l St.ok [] ∧
      (∀ i, i < hb c.params 2 2 → Map.get zeroW t.routes (hb c.params 0 2 + i) = BitVec.ofNat 64 (hb c.params (4 + 4 * i) 4) &&& 0x7F7F7F7F) ∧
      ∀ k, k < hb c.params 0 2 ∨ hb c.params 0 2 + hb c.params 2 2 ≤ k → Map.get zeroW t.routes k = Map.get zeroW s.routes k := by
  obtain ⟨m', heq, -, hin, hout⟩ := foldl_set_run zeroW (fun i => BitVec.ofNat 64 (hb (c.params.drop 4) (4 * i) 4) &&& 0x7F7F7F7F) (hb c.params 0 2) hs
    (hb c.params 2 2)
  have hrun : (taken s l).routesWrite (hb c.params 0 2) (hb c.params 2 2) (c.params.drop 4) = { taken s l with routes := m' } :=
    congrArg (fun m => ({ taken s l with routes := m } : State)) heq
  refine exec_host_replies (u := { taken s l with routes := m' }) rfl ha (by simp [HostOp.admits, hm, hlen.symm, hlo, hhi, hend])
    (by simp only [hrun]) rfl rfl fun _ _ => ⟨fun i hi => (hin i hi).trans ?_, hout⟩
  rw [hb, hb, List.drop_drop]

theorem exec_rwinSet (ha : hostAt s c l d 0x304) (hlen : c.params.length = 28) (hk : hb c.params 0 1 < 64) (hz : hb c.params 1 3 = 0)
    {x : State × Status} (hx : x = (taken s l).rwinSet (hb c.params 0 1) (BitVec.ofNat 64 (hb c.params 4 8)) (BitVec.ofNat 64 (hb c.params 12 8))
      (BitVec.ofNat 64 (hb c.params 20 8))) : exec .rwinSet s = .next (ends x.1 c d x.2 []) := by
  subst hx
  exact exec_host_ends rfl ha (by simp [HostOp.admits, hlen, hk, hz]) rfl

theorem exec_xbarSet (ha : hostAt s c l d 0x305) (hlen : c.params.length = 28) (hk : hb c.params 0 1 < 16) (hz : hb c.params 1 3 = 0)
    {x : State × Status} (hx : x = (taken s l).xbarSet (hb c.params 0 1) (BitVec.ofNat 64 (hb c.params 4 8)) (BitVec.ofNat 64 (hb c.params 12 8))
      (BitVec.ofNat 64 (hb c.params 20 8))) : exec .xbarSet s = .next (ends x.1 c d x.2 []) := by
  subst hx
  exact exec_host_ends rfl ha (by simp [HostOp.admits, hlen, hk, hz]) rfl

theorem exec_portCtl (ha : hostAt s c l d 0x306) (hlen : c.params.length = 3) (hp : hb c.params 0 1 < 32) (hk : hb c.params 1 1 ≤ 3)
    (hl : hb c.params 2 1 < 8) {x : State × Status}
    (hx : x = (taken s l).linkCtl c.priv (hb c.params 0 1) (s.portCtlWord (hb c.params 0 1) (hb c.params 1 1) (hb c.params 2 1))) :
    exec .portCtl s = .next (ends x.1 c d x.2 (if x.2 = St.ok then leBytes 1 (portNum (x.1.port (hb c.params 0 1)).state) else [])) := by
  subst hx
  exact exec_host_ends rfl ha (by simp [HostOp.admits, hlen, hp, hk, hl]) rfl

/-! ### Commit, checkpoint and recovery -/

theorem exec_cmtCmd (ha : hostAt s c l d 0x401) (hlen : c.params.length = 2) (hv : hb c.params 1 1 ≤ 1) {x : State × Status}
    (hx : x = (taken s l).cmtCtl c.priv (hb c.params 0 1) (decide (hb c.params 1 1 = 1))) :
    exec .cmtCmd s = .next (ends x.1 c d x.2
      (if x.2 = St.ok then leBytes 1 (cmtNum x.1.cmt.state) ++ leBytes 1 0 ++ leBytes 2 x.1.cmt.status.toNat else [])) := by
  subst hx
  exact exec_host_ends rfl ha (by simp [HostOp.admits, hlen, hv]) rfl

theorem exec_stepRead (ha : hostAt s c l d 0x402) (hlen : c.params.length = 1) (hk : hb c.params 0 1 < 4) :
    ∃ t, exec .stepRead s = .next t ∧ replied t c d l St.ok
      (leBytes 8 (s.dcsr (combBase 0 + 0x500 + hb c.params 0 1 * 16)).toNat ++
        leBytes 8 (s.dcsr (combBase 0 + 0x500 + hb c.params 0 1 * 16 + 8)).toNat) :=
  exec_host_replies_only rfl ha (by simp [HostOp.admits, hlen, hk]) rfl rfl rfl

/-- A manifest that the loft cannot return stops a restore. -/
theorem State.groupRestore_fault {man : Nat} (h : s.loftFault man ≠ St.ok) : s.groupRestore man = (s, s.loftFault man) := by
  simp only [State.groupRestore, State.loftBytes, ne_eq, h, not_false_eq_true, if_true]

theorem exec_groupRestore_fault (ha : hostAt s c l d 0x403) (hm : c.mgmt = true) (hlen : c.params.length = 8)
    (hf : s.loftFault (hb c.params 0 8) ≠ St.ok) : ∃ t, exec .groupRestore s = .next t ∧
      accepted s t c d l (some (s.loftFault (hb c.params 0 8), [])) ∧ t.routes = s.routes ∧ t.csr = s.csr := by
  have hrun := State.groupRestore_fault (s := taken s l) (man := hb c.params 0 8) hf
  exact exec_host_starts (u := taken s l) rfl ha (by simp [HostOp.admits, hm, hlen]) (by simp only [hrun]; rfl) rfl rfl rfl fun _ _ _ => ⟨rfl, rfl⟩

/-- A word of one field from bit 0. -/
theorem toNat_place_zero {hi : Nat} (h : hi < 64) (v : Nat) : (place hi 0 v).toNat = v % 2 ^ (hi + 1) := by
  have hlt : v % 2 ^ (hi + 1) < 2 ^ 64 := lt_of_lt_of_le (Nat.mod_lt _ (Nat.two_pow_pos _)) (Nat.pow_le_pow_right (by decide) h)
  rw [place, Nat.shiftLeft_zero, BitVec.toNat_ofNat, Nat.sub_zero, Nat.mod_eq_of_lt hlt]

theorem exec_ckptRead (ha : hostAt s c l d 0x404) (hp : c.params = []) : ∃ t, exec .ckptRead s = .next t ∧ replied t c d l St.ok
    (leBytes 8 (s.cmt.ckLast % 2 ^ 48) ++ leBytes 8 (s.cmt.ckLstep % 2 ^ 56) ++ leBytes 8 s.ckStat.toNat) := by
  have hlast : (place 47 0 s.cmt.ckLast).toNat = s.cmt.ckLast % 2 ^ 48 := toNat_place_zero (by decide) _
  have hstep : (place 55 0 s.cmt.ckLstep).toNat = s.cmt.ckLstep % 2 ^ 56 := toNat_place_zero (by decide) _
  rw [← hlast, ← hstep]
  exact exec_host_replies_only rfl ha (by simp [HostOp.admits, hp]) rfl rfl rfl

end Sys2Proof.Machine
end

section
/-! SUPPORT. Host commands of coolant and power, firmware, attestation, telemetry and events, the end of a long command, and the statement on the
commands of the units (R22, R489, R501, R502, R524, R531, R550 to R552, R556). -/

namespace Sys2Proof.Machine

open Sys2Proof.Claims (hostAt taken ends replied accepted served)

variable {s t u : State} {c : CpCmd} {l : List CpCmd} {d : Sess}

/-! ### Coolant and power (R22, R524, R531) -/

theorem State.coolClear_refused (h : coolNormal s.pwr.tsup s.pwr.tret s.pwr.flow s.pwr.wet = false) : s.coolClear = (s, St.coolantLimit) := by
  simp only [State.coolClear, h, Bool.not_false, if_true]

theorem State.coolClear_resets (h : coolNormal s.pwr.tsup s.pwr.tret s.pwr.flow s.pwr.wet = true) (hstop : s.pwr.coolStopped = true) :
    s.coolClear = (s.packageReset 2 true, St.ok) := by
  simp only [State.coolClear, h, hstop, Bool.not_true, Bool.false_eq_true, if_false, if_true]

theorem exec_coolClear (ha : hostAt s c l d 0x501) (hm : c.mgmt = true) (hp : c.params = []) :
    (coolNormal s.pwr.tsup s.pwr.tret s.pwr.flow s.pwr.wet = false →
      ∃ t, exec .coolClear s = .next t ∧ replied t c d l St.coolantLimit [] ∧ t.pwr = s.pwr) ∧
    (coolNormal s.pwr.tsup s.pwr.tret s.pwr.flow s.pwr.wet = true → s.pwr.coolStopped = true →
      exec .coolClear s = .next (ends ((taken s l).packageReset 2 true) c d St.ok [])) := by
  refine ⟨fun h => ?_, fun h hstop => ?_⟩
  · have hrun := State.coolClear_refused (s := taken s l) h
    exact exec_host_replies (u := taken s l) rfl ha (by simp [HostOp.admits, hm, hp]) (by simp only [hrun]) rfl rfl fun _ _ => rfl
  · have hrun := State.coolClear_resets (s := taken s l) h hstop
    exact exec_host_ends rfl ha (by simp [HostOp.admits, hm, hp]) (by simp only [hrun])

/-- A field of a number that fits in it. -/
theorem fld_ofNat_of_lt {n : Nat} (h : n < 2 ^ 16) : fld (BitVec.ofNat 64 n) 15 0 = n := by
  rw [fld, Nat.shiftRight_zero, BitVec.toNat_ofNat, Nat.mod_eq_of_lt (a := n) (b := 2 ^ 64) (by omega)]
  exact Nat.mod_eq_of_lt h

/-- A host cap in range stands. -/
theorem State.capHostWrite_ok {n : Nat} (h : capOk n = true) : ∃ k a p, (s.capHostWrite .tack (BitVec.ofNat 64 n)) =
    ({ s with csr := k, tack := a, pwr := p }, St.ok) ∧ (Map.wf devReset s.csr = true → Map.get devReset k (pwrBase + 0x18) = place 15 0 n) := by
  have hn : n < 2 ^ 16 := by
    simp only [capOk, decide_eq_true_eq] at h
    omega
  obtain ⟨k, a, heq⟩ := (s.setDcsr (pwrBase + 0x18) (place 15 0 n)).capChange_eq
  have hrun : s.capHostWrite .tack (BitVec.ofNat 64 n) = ((s.setDcsr (pwrBase + 0x18) (place 15 0 n)).capChange, St.ok) := by
    simp only [State.capHostWrite, fld_ofNat_of_lt hn, h, ne_eq, not_true_eq_false, Bool.not_true, Bool.false_eq_true, if_false]
  refine ⟨k, a, _, hrun.trans (congrArg (·, St.ok) heq), fun hs => ?_⟩
  have hkept := (s.setDcsr (pwrBase + 0x18) (place 15 0 n)).capChange_dcsr_of_ne (o := pwrBase + 0x18) (by decide)
  rw [heq] at hkept
  exact hkept.trans (State.dcsr_setDcsr_self hs _ _)

theorem exec_powerCap (hs : Map.wf devReset s.csr = true) (ha : hostAt s c l d 0x502) (hm : c.mgmt = true) (hlen : c.params.length = 2)
    (hok : capOk (hb c.params 0 2) = true) :
    ∃ t, exec .powerCap s = .next t ∧ replied t c d l St.ok [] ∧ fld (t.dcsr (pwrBase + 0x18)) 15 0 = hb c.params 0 2 := by
  obtain ⟨k, a, p, hrun, hget⟩ := State.capHostWrite_ok (s := taken s l) hok
  refine exec_host_replies (u := { taken s l with csr := k, tack := a, pwr := p }) rfl ha (by simp [HostOp.admits, hm, hlen, hok])
    (by simp only [hrun]) rfl rfl fun _ _ => ?_
  show fld (Map.get devReset k (pwrBase + 0x18)) 15 0 = _
  rw [hget hs, fld_place_self (by decide)]
  refine Nat.mod_eq_of_lt ?_
  simp only [capOk, decide_eq_true_eq] at hok
  omega

/-- A stall with another ceiling of its power state. -/
def Stall.capped (x : Stall) (st : Nat) : Stall := { x with ceiling := st }

/-- Every stall of a list gets the ceiling, and no other state changes. -/
theorem foldl_modStall_ceiling (st : Nat) (l : List Nat) : ∀ s : State, Map.wf (fun _ => ({} : Stall)) s.stalls = true →
    ∃ m, l.foldl (fun s ps => s.modStall ps (fun x => x.capped st)) s = { s with stalls := m } ∧
      ∀ ps, ps ∈ l ∨ (s.stall ps).ceiling = st → (Map.get (fun _ => ({} : Stall)) m ps).ceiling = st := by
  induction l with
  | nil => exact fun s _ => ⟨s.stalls, rfl, fun ps h => h.resolve_left List.not_mem_nil⟩
  | cons p l ih =>
    intro s hs
    obtain ⟨m, heq, hin⟩ := ih (s.modStall p (fun x => x.capped st)) (Map.wf_set _ p _ hs)
    refine ⟨m, heq, fun ps h => hin ps ?_⟩
    by_cases hp : ps = p
    · subst hp
      exact .inr (congrArg Stall.ceiling (Map.get_set_self (fun _ => ({} : Stall)) ps _ hs))
    · refine h.imp (fun hm => (List.mem_cons.mp hm).resolve_left hp) fun hc => ?_
      exact (congrArg Stall.ceiling (Map.get_set_of_ne (fun _ => ({} : Stall)) s.stalls _ hp)).trans hc

theorem exec_pstateSet (hs : Map.wf (fun _ => ({} : Stall)) s.stalls = true) (ha : hostAt s c l d 0x503) (hmode : s.hostMode 4 = true)
    (hlen : c.params.length = 2) (hst : hb c.params 1 1 ≤ 4) :
    (fld (s.dcsr (pwrBase + 0x20)) 2 0 < hb c.params 1 1 ∨ (hb c.params 1 1 = 4 ∧ hb c.params 0 1 ≠ 0xFF) →
      ∃ t, exec .pstateSet s = .next t ∧ replied t c d l St.pwrState [] ∧ t.stalls = s.stalls) ∧
    (hb c.params 1 1 ≤ fld (s.dcsr (pwrBase + 0x20)) 2 0 → hb c.params 1 1 ≠ 4 → hb c.params 0 1 ≠ 0xFF →
      ∃ t, exec .pstateSet s = .next t ∧ replied t c d l St.ok [] ∧
        t.stall (s.psOf (hb c.params 0 1)) = { s.stall (s.psOf (hb c.params 0 1)) with ceiling := hb c.params 1 1 }) ∧
    (hb c.params 1 1 ≤ fld (s.dcsr (pwrBase + 0x20)) 2 0 → hb c.params 0 1 = 0xFF →
      ∃ t, exec .pstateSet s = .next t ∧ replied t c d l St.ok [] ∧ ∀ ps ∈ s.activePs, (t.stall ps).ceiling = hb c.params 1 1) := by
  have hadm : HostOp.admits { op := 0x0503, ok := fun p => decide (p.length = 2 ∧ hb p 1 1 ≤ 4), mode := some 4 } s c = true := by
    simp [HostOp.admits, hmode, hlen, hst]
  refine ⟨fun h => ?_, fun hmax h4 hls => ?_, fun hmax hls => ?_⟩
  · have hrun : (taken s l).pstateSet (hb c.params 0 1) (hb c.params 1 1) = (taken s l, St.pwrState) := if_pos h
    exact exec_host_replies (u := taken s l) rfl ha hadm (by simp only [hrun]) rfl rfl fun _ _ => rfl
  · have hrun : (taken s l).pstateSet (hb c.params 0 1) (hb c.params 1 1) = ((taken s l).modStall (s.psOf (hb c.params 0 1))
        (fun x => x.capped (hb c.params 1 1)), St.ok) :=
      (if_neg fun h => h.elim (Nat.not_lt.mpr hmax) fun h => h4 h.1).trans (if_neg hls)
    exact exec_host_replies (u := (taken s l).modStall (s.psOf (hb c.params 0 1)) (fun x => x.capped (hb c.params 1 1))) rfl ha hadm
      (by simp only [hrun]) rfl rfl fun _ _ => Map.get_set_self (fun _ => ({} : Stall)) _ _ hs
  · obtain ⟨m, heq, hin⟩ := foldl_modStall_ceiling (hb c.params 1 1) s.activePs (taken s l) hs
    have hrun : (taken s l).pstateSet (hb c.params 0 1) (hb c.params 1 1) = ({ taken s l with stalls := m }, St.ok) :=
      (if_neg fun h => h.elim (Nat.not_lt.mpr hmax) fun h => h.2 hls).trans ((if_pos hls).trans (congrArg (·, St.ok) heq))
    exact exec_host_replies (u := { taken s l with stalls := m }) rfl ha hadm (by simp only [hrun]) rfl rfl fun _ _ ps hps => hin ps (.inl hps)

/-! ### Firmware and attestation (R550 to R552, R556) -/

/-- The staging buffer with `data` written at an offset. -/
def Tack.stage (x : Tack) (off : Nat) (data : List Byte) : Tack :=
  { x with staged := writeBytes x.staged off data, stagedLen := max x.stagedLen (off + data.length) }

theorem State.fwStage_in {off : Nat} {data : List Byte} (h : off + data.length ≤ 0x1FFFFC0) :
    s.fwStage off data = (s.modTack (fun x => x.stage off data), St.ok) := if_neg (Nat.not_lt.mpr h)

theorem State.fwStage_out {off : Nat} {data : List Byte} (h : 0x1FFFFC0 < off + data.length) : s.fwStage off data = (s, St.rasFwStage) :=
  if_pos h

theorem exec_fwStage (ha : hostAt s c l d 0x601) (hm : c.mgmt = true) (hlen : c.params.length = 8 + hb c.params 4 2) (hlo : 1 ≤ hb c.params 4 2)
    (hhi : hb c.params 4 2 ≤ 1400) (hz : hb c.params 6 2 = 0) :
    (hb c.params 0 4 + hb c.params 4 2 ≤ 0x1FFFFC0 → ∃ t, exec .fwStage s = .next t ∧ replied t c d l St.ok [] ∧
      t.tack.staged = writeBytes s.tack.staged (hb c.params 0 4) (c.params.drop 8) ∧
      t.tack.stagedLen = max s.tack.stagedLen (hb c.params 0 4 + hb c.params 4 2)) ∧
    (0x1FFFFC0 < hb c.params 0 4 + hb c.params 4 2 → ∃ t, exec .fwStage s = .next t ∧ replied t c d l St.rasFwStage [] ∧ t.tack = s.tack) := by
  have hdata : (c.params.drop 8).length = hb c.params 4 2 := by
    rw [List.length_drop, hlen]
    omega
  have hadm : HostOp.admits { op := 0x0601, mgmtOnly := true, rsvd := [(6, 2)],
                              ok := fun p => decide (p.length = 8 + hb p 4 2 ∧ 1 ≤ hb p 4 2 ∧ hb p 4 2 ≤ 1400) } s c = true := by
    simp [HostOp.admits, hm, hlen.symm, hlo, hhi, hz]
  refine ⟨fun hin => ?_, fun hout => ?_⟩
  · have hrun := State.fwStage_in (s := taken s l) (off := hb c.params 0 4) (data := c.params.drop 8) (by rw [hdata]; exact hin)
    refine exec_host_replies (u := (taken s l).modTack fun x => x.stage (hb c.params 0 4) (c.params.drop 8)) rfl ha hadm (by simp only [hrun])
      rfl rfl fun _ _ => ⟨rfl, ?_⟩
    rw [← hdata]
    rfl
  · have hrun := State.fwStage_out (s := taken s l) (off := hb c.params 0 4) (data := c.params.drop 8) (by rw [hdata]; exact hout)
    exact exec_host_replies (u := taken s l) rfl ha hadm (by simp only [hrun]) rfl rfl fun _ _ => rfl

theorem exec_fwActivate (ha : hostAt s c l d 0x602) (hm : c.mgmt = true) (hlen : c.params.length = 4) :
    (s.fwCheck (hb c.params 0 4) ≠ St.ok →
      ∃ t, exec .fwActivate s = .next t ∧ replied t c d l (s.fwCheck (hb c.params 0 4)) [] ∧ t.tack = s.tack) ∧
    (s.fwCheck (hb c.params 0 4) = St.ok → ∃ t, exec .fwActivate s = .next t ∧ accepted s t c d l none ∧
      t.tack = { s.tack with activating := some (c.session, c.seq), fwStage := 1, standbyOk := false }) :=
  ⟨fun h => exec_host_replies (u := taken s l) rfl ha (by simp [HostOp.admits, hm, hlen]) (if_pos h) rfl rfl fun _ _ => rfl,
    fun h => exec_host_starts (u := (taken s l).modTack fun k => { k with activating := some (c.session, c.seq), fwStage := 1, standbyOk := false })
      rfl ha (by simp [HostOp.admits, hm, hlen]) (if_neg (not_not_intro h)) rfl rfl rfl fun _ _ _ => rfl⟩

theorem length_leBytes (n v : Nat) : (leBytes n v).length = n := by
  induction n generalizing v with
  | zero => rfl
  | succ n ih => rw [leBytes, List.length_cons, ih]

theorem length_fixLen (n : Nat) (l : List Byte) : (fixLen n l).length = n := by
  rw [fixLen, List.length_append, List.length_take, List.length_replicate]
  omega

/-- A report is 48 bytes, the nonce, and 17,376 bytes more (R556). -/
theorem State.attestReport_eq (s : State) (nonce : List Byte) :
    ∃ front back, s.attestReport nonce = front ++ nonce ++ back ∧ front.length = 48 ∧ back.length = 17376 := by
  refine ⟨_, _, (List.append_assoc _ _ _).trans (List.append_assoc _ _ _), ?_, ?_⟩
  · simp only [List.length_append, length_leBytes]
  · simp [signed, length_fixLen, length_leBytes, List.length_flatMap]

theorem State.attestReport_nonce (s : State) {nonce : List Byte} (h : nonce.length = 32) :
    (s.attestReport nonce).length = 17456 ∧ ((s.attestReport nonce).drop 48).take 32 = nonce := by
  obtain ⟨front, back, heq, hfront, hback⟩ := s.attestReport_eq nonce
  rw [heq]
  refine ⟨by rw [List.length_append, List.length_append, hfront, h, hback], ?_⟩
  rw [List.append_assoc, ← hfront, List.drop_left, ← h, List.take_left]

theorem exec_attest (ha : hostAt s c l d 0x603) (hlen : c.params.length = 32) :
    ∃ t, exec .attest s = .next t ∧ accepted s t c d l (some (St.ok, leBytes 4 17456)) ∧ t.tack.report = s.attestReport c.params ∧
      t.tack.report.length = 17456 ∧ (t.tack.report.drop 48).take 32 = c.params := by
  have hnonce := s.attestReport_nonce hlen
  exact exec_host_starts (u := (taken s l).modTack fun k => { k with report := s.attestReport c.params }) rfl ha
    (by simp [HostOp.admits, hlen]) rfl rfl rfl rfl fun _ _ _ => ⟨rfl, hnonce⟩

theorem exec_attestRead (ha : hostAt s c l d 0x604) (hlen : c.params.length = 4) (hoff : hb c.params 0 4 < 0x100000) :
    ∃ t, exec .attestRead s = .next t ∧ replied t c d l St.ok (leBytes 2 ((s.tack.report.drop (hb c.params 0 4)).take 1404).length ++ leBytes 2 0 ++
      (s.tack.report.drop (hb c.params 0 4)).take 1404) := by
  have hread : (taken s l).tack.attestRead (hb c.params 0 4) = (s.tack.report.drop (hb c.params 0 4)).take 1404 := if_pos hoff
  rw [← hread]
  exact exec_host_replies_only rfl ha (by simp [HostOp.admits, hlen]) rfl rfl rfl

/-! ### Telemetry and events (R501, R502) -/

theorem State.telemetry_isSome (s : State) {k : Nat} (h : k ≤ 3) : ∃ b, s.telemetry k = some b := by
  rcases k with _ | _ | _ | _ | k
  · exact ⟨_, rfl⟩
  · exact ⟨_, rfl⟩
  · exact ⟨_, rfl⟩
  · exact ⟨_, rfl⟩
  · omega

theorem exec_teleRead (ha : hostAt s c l d 0x701) (hlen : c.params.length = 1) (hk : hb c.params 0 1 ≤ 3) :
    ∃ t b, exec .teleRead s = .next t ∧ s.telemetry (hb c.params 0 1) = some b ∧ replied t c d l St.ok b := by
  obtain ⟨b, htele⟩ := s.telemetry_isSome hk
  have htaken : (taken s l).telemetry (hb c.params 0 1) = some b := htele
  obtain ⟨t, ht, hrep⟩ := exec_host_replies_only (i := .teleRead) (u := taken s l) rfl ha (by simp [HostOp.admits, hlen, hk])
    (by simp only [htaken]; rfl) rfl rfl
  exact ⟨t, b, ht, htele, hrep⟩

theorem exec_evtSubscribe (ha : hostAt s c l d 0x702) (hlen : c.params.length = 4) :
    ∃ t e, exec .evtSubscribe s = .next t ∧ replied t c d l St.ok [] ∧ t.session c.session = some e ∧
      e.mask = BitVec.ofNat 32 (hb c.params 0 4) ∧ e.events = d.events := by
  obtain ⟨-, -, -, -, -, hses, -⟩ := id ha
  have hd : (taken s l).session c.session = some d := hses
  obtain ⟨t, b, ht, hrep, ht'⟩ := exec_host_replies_session (i := .evtSubscribe) (st := St.ok) (data := [])
    (u := (taken s l).setSession c.session (some { d with mask := BitVec.ofNat 32 (hb c.params 0 4) })) rfl ha (by simp [HostOp.admits, hlen])
    (by simp only [hd]) rfl rfl
  rw [show ((taken s l).setSession c.session _).session c.session = _ from
    Map.get_set_of_ne_default noneOf s.sess c.session (Option.some_ne_none _)] at ht'
  exact ⟨t, _, ht, hrep, ht', rfl, rfl⟩

/-- An acknowledgement with no lost event drops what it acknowledges. -/
theorem Sess.ack_of_none_lost (h : d.lostCnt = 0) (n : Nat) : d.ack n = { d with events := d.events.filter (fun e => decide (n < e.1)) } :=
  if_neg fun hl => hl.1 h

theorem exec_evtAck (ha : hostAt s c l d 0x703) (hlen : c.params.length = 4) (hlost : d.lostCnt = 0) :
    ∃ t e, exec .evtAck s = .next t ∧ replied t c d l St.ok [] ∧ t.session c.session = some e ∧
      e.events = d.events.filter (fun x => hb c.params 0 4 < x.1) := by
  obtain ⟨-, -, -, -, -, hses, -⟩ := id ha
  have hd : (taken s l).session c.session = some d := hses
  obtain ⟨t, b, ht, hrep, ht'⟩ := exec_host_replies_session (i := .evtAck) (st := St.ok) (data := [])
    (u := (taken s l).setSession c.session (some (d.ack (hb c.params 0 4)))) rfl ha (by simp [HostOp.admits, hlen])
    (by simp only [hd]) rfl rfl
  rw [show ((taken s l).setSession c.session _).session c.session = _ from
    Map.get_set_of_ne_default noneOf s.sess c.session (Option.some_ne_none _), Sess.ack_of_none_lost hlost] at ht'
  exact ⟨t, _, ht, hrep, ht', rfl⟩

/-! ### The end of a long command (R489) -/

theorem exec_longCommandEnd {x : LongCmd} {st : Status} {bs : List Byte} (hserved : served s) (hlongs : s.longs = [x]) (hres : x.res = some (st, bs))
    (hses : s.session x.cmd.session = some d) : ∃ t, exec (.longCommandEnd x.cmd.session x.cmd.seq) s = .next t ∧ t.longs = [] ∧
      t.outbox = [{ dst := x.cmd.src, bytes := hostPacket 3 x.cmd.opcode x.cmd.session x.cmd.seq st bs (some d.key) }] := by
  obtain ⟨htake, hon⟩ := hserved
  have hgo : ¬ (s.tack.takeover = true ∨ (!s.hostServed) = true) := by simp [htake, hon]
  have hkey : s.keyOf x.cmd = some d.key := by rw [State.keyOf, hses]; rfl
  obtain ⟨m, hm⟩ := State.replyTo_eq { s with longs := [], outbox := [] } x.cmd d.key true st bs
  refine ⟨_, congrArg Host.Outcome.next (Eq.trans ?_ hm), rfl, rfl⟩
  simp only [hlongs, List.find?_cons, and_self, decide_true, if_neg hgo, State.longResult, hres, hkey, List.filter_cons, Bool.not_true,
    Bool.false_eq_true, if_false, List.filter_nil]

/-- Settles O45: each command by the lemma on its row. -/
theorem hostUnitCommands : Obligations.HostUnitCommands := by
  intro s c l d hs
  refine ⟨fun w => ⟨fun ha hlen hz hw => exec_doorbell ha hlen hz (by rw [hw]), fun ha hlen hg hz hpc hal hw =>
      exec_groomRun ha hlen hg hz hpc hal (by rw [hw]), fun ha hlen hg hk hw => exec_groomHalt ha hlen hg hk (by rw [hw]),
      fun ha hlen hq hk hw u st hx => exec_queueCtl ha hlen hq hk (by rw [hw] at hx; exact hx)⟩,
    exec_taskEnd, exec_neighRead, exec_devidSet hs.csr, exec_routeWrite hs.routes, fun ha hlen hk hz => exec_rwinSet ha hlen hk hz rfl,
    fun ha hlen hk hz => exec_xbarSet ha hlen hk hz rfl, fun ha hlen hp hk hl => exec_portCtl ha hlen hp hk hl rfl,
    fun ha hlen hv => exec_cmtCmd ha hlen hv rfl, exec_stepRead, exec_groupRestore_fault, exec_ckptRead, exec_coolClear, exec_powerCap hs.csr,
    exec_pstateSet hs.stalls, exec_fwStage, exec_fwActivate, exec_attest, exec_attestRead, exec_teleRead, exec_evtSubscribe, exec_evtAck,
    fun x st bs => exec_longCommandEnd⟩

end Sys2Proof.Machine
end

section
/-! SUPPORT. The parts of the state read after a write of one of them, and what the reports of errors change (R540). -/

namespace Sys2Proof.Map

/-- In a map of canonical form the listed pairs are the keys that read otherwise than unlisted. -/
theorem mem_iff_get {α : Type} [DecidableEq α] {d : Nat → α} {m : Map α} (h : wf d m = true) {k : Nat} {v : α} :
    (k, v) ∈ m ↔ get d m k = v ∧ v ≠ d k := by
  simp only [wf, Bool.and_eq_true, List.all_eq_true, decide_eq_true_eq] at h
  obtain ⟨hr, hd⟩ := h
  revert hr
  generalize 0 = b
  induction m generalizing b with
  | nil =>
    intro _
    simp only [List.not_mem_nil, get, false_iff]
    rintro ⟨rfl, hv⟩
    exact hv rfl
  | cons p m ih =>
    obtain ⟨j, w⟩ := p
    intro hr
    simp only [rising, Bool.and_eq_true, decide_eq_true_eq] at hr
    obtain ⟨-, hr⟩ := hr
    have ih' := ih (fun q hq => hd q (List.mem_cons_of_mem _ hq)) (j + 1) hr
    simp only [List.mem_cons, Prod.mk.injEq, get]
    split_ifs with hjk
    · subst hjk
      have hout : (j, v) ∉ m := fun hm => by
        obtain ⟨hget, hv⟩ := ih'.mp hm
        exact hv (by rw [← hget, get_of_rising d m hr (by omega)])
      have hw : w ≠ d j := hd (j, w) List.mem_cons_self
      constructor
      · rintro (⟨-, rfl⟩ | hm)
        · exact ⟨rfl, hw⟩
        · exact absurd hm hout
      · rintro ⟨rfl, -⟩
        exact .inl ⟨rfl, rfl⟩
    · rw [← ih']
      exact ⟨fun h => h.resolve_left fun he => hjk he.1.symm, .inr⟩

end Sys2Proof.Map

namespace Sys2Proof.Machine

variable {s : State}

/-! ### A part reads as it was written, and the others as before -/

theorem State.stall_setStall_self (h : Map.wf (fun _ => ({} : Stall)) s.stalls = true) (ps : Nat) (x : Stall) : (s.setStall ps x).stall ps = x :=
  Map.get_set_self (fun _ => ({} : Stall)) ps x h

theorem State.node_setNode_self (h : Map.wf (fun _ => ({} : Node)) s.nodes = true) (i : Nat) (n : Node) : (s.setNode i n).node i = n :=
  Map.get_set_self (fun _ => ({} : Node)) i n h

theorem State.node_setNode_of_ne (s : State) {i j : Nat} (n : Node) (h : j ≠ i) : (s.setNode i n).node j = s.node j :=
  Map.get_set_of_ne (fun _ => ({} : Node)) s.nodes n h

theorem State.req_setReq_some (s : State) (id : Nat) (x : Req) : (s.setReq id (some x)).req id = some x :=
  Map.get_set_of_ne_default noneOf s.reqs id (Option.some_ne_none x)

theorem State.req_setReq_of_ne (s : State) {i j : Nat} (x : Option Req) (h : j ≠ i) : (s.setReq i x).req j = s.req j :=
  Map.get_set_of_ne noneOf s.reqs x h

theorem State.wf_setReq (h : Map.wf noneOf s.reqs = true) (i : Nat) (x : Option Req) : Map.wf noneOf (s.setReq i x).reqs = true :=
  Map.wf_set noneOf i x h

/-- The requests that pass a test, in a canonical list of requests. -/
theorem State.mem_reqsWhere (h : Map.wf noneOf s.reqs = true) {p : Req → Bool} {e : Nat × Req} :
    e ∈ s.reqsWhere p ↔ s.req e.1 = some e.2 ∧ p e.2 = true := by
  have hget : (e.1, some e.2) ∈ s.reqs ↔ s.req e.1 = some e.2 := by
    rw [Map.mem_iff_get h]
    exact and_iff_left (Option.some_ne_none e.2)
  rw [State.reqsWhere, List.mem_filterMap, ← hget]
  constructor
  · rintro ⟨⟨k, o⟩, hmem, hsome⟩
    cases o with
    | none => cases hsome
    | some r =>
      dsimp only at hsome
      split_ifs at hsome with hp
      obtain rfl := Option.some.inj hsome
      exact ⟨hmem, hp⟩
  · rintro ⟨hmem, hp⟩
    exact ⟨_, hmem, if_pos hp⟩

/-- Rewriting a list of requests changes the list of requests alone, and it stays canonical. -/
theorem State.foldl_setReq_eq (f : Nat × Req → Option Req) (l : List (Nat × Req)) : ∀ s : State,
    ∃ m, l.foldl (fun s e => s.setReq e.1 (f e)) s = { s with reqs := m } ∧ (Map.wf noneOf s.reqs = true → Map.wf noneOf m = true) := by
  induction l with
  | nil => exact fun s => ⟨s.reqs, rfl, id⟩
  | cons e l ih =>
    intro s
    obtain ⟨m, hm, hwf⟩ := ih (s.setReq e.1 (f e))
    exact ⟨m, hm, fun h => hwf (State.wf_setReq h _ _)⟩

theorem State.req_foldl_setReq_of_notMem (f : Nat × Req → Option Req) {id : Nat} (l : List (Nat × Req)) : ∀ s : State,
    (∀ e ∈ l, id ≠ e.1) → (l.foldl (fun s e => s.setReq e.1 (f e)) s).req id = s.req id := by
  induction l with
  | nil => exact fun _ _ => rfl
  | cons e l ih =>
    intro s h
    obtain ⟨he, hl⟩ := List.forall_mem_cons.mp h
    rw [List.foldl_cons, ih _ hl, State.req_setReq_of_ne s _ he]

/-! ### Other parts under a write of one -/

@[simp] theorem State.stall_setReq (i : Nat) (x : Option Req) (ps : Nat) : (s.setReq i x).stall ps = s.stall ps := rfl

theorem State.detect_eq (s : State) (st : Status) (cls sev unit id sub addr task : Nat) :
    ∃ a, s.detect st cls sev unit id sub addr task = { s with tack := a } := s.report_eq _

end Sys2Proof.Machine
end

section
/-! SUPPORT. Accesses of stall scratch at the bank: the words that an access touches, and the statement on reads, writes and atomics (R43, R75, R536). -/

namespace Sys2Proof.Machine

open Sys2Proof.Claims (backed scrSound)

variable {s : State} {id ps off : Nat} {r : Req}

/-! ### Words and lanes -/

/-- A word is touched when one of its bytes lies in the range. -/
theorem mem_wordsTouched {data : List Byte} {w : Nat} :
    w ∈ wordsTouched off (data.map some) ↔ ∃ i, i < data.length ∧ (off + i) / 8 = w := by
  rw [wordsTouched, List.mem_eraseDups, List.mem_filterMap]
  constructor
  · rintro ⟨⟨o, i⟩, hmem, hw⟩
    obtain ⟨hi, rfl⟩ := List.mk_mem_zipIdx_iff_getElem?.mp hmem |> List.getElem?_eq_some_iff.mp
    rw [List.length_map] at hi
    rw [List.getElem_map] at hw
    exact ⟨i, hi, Option.some.inj hw⟩
  · rintro ⟨i, hi, rfl⟩
    refine ⟨(some data[i], i), ?_, rfl⟩
    rw [List.mk_mem_zipIdx_iff_getElem?, List.getElem?_map, List.getElem?_eq_getElem hi]
    rfl

/-- No word of a sound range is uncorrectable. -/
theorem no_bad_word {data : List Byte} {n : Nat} (hlen : data.length = n) (h : scrSound s ps off n) :
    (wordsTouched off (data.map some)).filter (fun w => (s.stall ps).scratchUe.contains w) = [] := by
  rw [List.filter_eq_nil_iff]
  intro w hw hue
  obtain ⟨i, hi, rfl⟩ := mem_wordsTouched.mp hw
  have := h _ (List.contains_iff_mem.mp hue)
  omega

/-- An uncorrectable word that the range meets is among the words touched. -/
theorem bad_word {data : List Byte} {n w : Nat} (hlen : data.length = n) (hn : 0 < n) (hw : w ∈ (s.stall ps).scratchUe) (hlo : off ≤ w * 8 + 7)
    (hhi : w * 8 < off + n) : (wordsTouched off (data.map some)).filter (fun w => (s.stall ps).scratchUe.contains w) ≠ [] := by
  refine List.ne_nil_of_mem (List.mem_filter.mpr ⟨mem_wordsTouched.mpr ⟨w * 8 - off, by omega, ?_⟩, List.contains_iff_mem.mpr hw⟩)
  omega

theorem writeLanes_some (data : List Byte) : ∀ (m : Map Byte) (a : Nat), writeLanes m a (data.map some) = writeBytes m a data := by
  induction data with
  | nil => exact fun _ _ => rfl
  | cons b data ih => exact fun m a => ih _ _

/-! ### The access at the bank -/

section
variable (hmask : r.mask = none)
include hmask

theorem State.scratchAccess_read_good (hop : r.op = .read) (h : scrSound s ps off r.len) :
    s.scratchAccess id r ps off false = s.answer id r St.ok (s.scrRead ps off r.len) := by
  have hbad := no_bad_word (data := List.replicate r.len 0) List.length_replicate h
  simp only [State.scratchAccess, hmask, hop, lanesOf, if_true, Bool.false_eq_true, if_false, hbad]

theorem State.scratchAccess_read_bad (hop : r.op = .read) (hn : 0 < r.len) {w : Nat} (hw : w ∈ (s.stall ps).scratchUe) (hlo : off ≤ w * 8 + 7)
    (hhi : w * 8 < off + r.len) : s.scratchAccess id r ps off false =
      (s.detect St.rasScratchUe 4 1 1 ps 0 r.addr r.task).answer id r St.rasScratchUe [] := by
  have hbad := bad_word (data := List.replicate r.len 0) List.length_replicate hn hw hlo hhi
  simp only [State.scratchAccess, hmask, hop, lanesOf, if_true, Bool.false_eq_true, if_false, if_neg hbad]

theorem State.scratchAccess_write_good (hop : r.op = .write) (hlen : r.data.length = r.len) (h : scrSound s ps off r.len) :
    s.scratchAccess id r ps off false = (s.setStall ps { s.stall ps with scratch := writeBytes (s.stall ps).scratch off r.data }).answer id r St.ok [] := by
  have hbad := no_bad_word hlen h
  simp only [State.scratchAccess, hmask, hop, lanesOf, List.take_of_length_le (Nat.le_of_eq hlen), reduceCtorEq, Bool.false_eq_true, if_false, hbad,
    List.filter_nil, List.contains_nil, if_true, List.zipIdx_map_fst, writeLanes_some, State.modStall, Bool.false_and, Bool.not_false, List.filter_true]

theorem State.scratchAccess_amo_good {op : AmoOp} (hop : r.op = .amo op) (hlen : r.data.length = 2 * r.len) (h : scrSound s ps off r.len) :
    s.scratchAccess id r ps off false =
      (s.scrWrite ps off (leBytes r.len (op.apply r.len (leNat (s.scrRead ps off r.len)) (leNat (r.data.take r.len)) (leNat (r.data.drop r.len))))).answer
        id r St.ok (s.scrRead ps off r.len) := by
  have hbad := no_bad_word (data := r.data.take r.len) (by rw [List.length_take]; omega) h
  simp only [State.scratchAccess, hmask, hop, lanesOf, reduceCtorEq, Bool.false_eq_true, if_false, hbad, ne_eq, not_true_eq_false]
  rfl

end

/-- A request that waits at scratch of a running stall, with nothing before it, is performed. -/
theorem exec_scratchAccess {ue : Bool} (hreq : s.req id = some r) (hphase : r.phase = .endpoint) (hreg : localRegion r.addr = some (.scratch ps off))
    (hrun : (s.stall ps).pstate = .run) (hfirst : s.behind id r = false) :
    exec (.scratchAccess id ue) s = .next (s.scratchAccess id r ps off ue) := by
  show execScratchAccess id ue s = _
  simp [execScratchAccess, hreq, hphase, hreg, hrun, hfirst]

/-- Settles O24: a sound range is read, written or changed whole, and a read that meets an uncorrectable word reports it and answers its status. -/
theorem scratchAccesses : Obligations.ScratchAccesses := by
  intro s id ps off r hreq hphase hreg hrun hfirst hmask hn hwf
  rw [exec_scratchAccess hreq hphase hreg hrun hfirst]
  refine ⟨fun hsound => ⟨fun hop => ?read, fun hop hlen => ?write, fun op hop hlen => ?amo⟩, fun w hw hlo hhi hop => ?bad⟩
  case read => exact congrArg Host.Outcome.next (State.scratchAccess_read_good hmask hop hsound)
  case write =>
    rw [State.scratchAccess_write_good hmask hop hlen hsound]
    refine ⟨_, rfl, rfl, State.req_setReq_some _ id _, ?_⟩
    rw [State.answer, State.stall_setReq, State.stall_setStall_self hwf]
  case amo =>
    rw [State.scratchAccess_amo_good hmask hop hlen hsound]
    refine ⟨_, rfl, rfl, State.req_setReq_some _ id _, ?_⟩
    rw [State.answer, State.stall_setReq, State.scrWrite, State.modStall, State.stall_setStall_self hwf]
  case bad =>
    rw [State.scratchAccess_read_bad hmask hop hn hw hlo hhi]
    obtain ⟨a, ha⟩ := s.detect_eq St.rasScratchUe 4 1 1 ps 0 r.addr r.task
    rw [ha]
    exact ⟨_, rfl, rfl, rfl, State.req_setReq_some _ id _⟩

end Sys2Proof.Machine
end

section
/-! SUPPORT. What issuing an instruction leaves as it was: every shared operation of a groom keeps the other grooms, the memories, the device registers and
the requests of others, and the statement on the isolation of grooms (R58, R59, R66, R79, R84). -/

namespace Sys2Proof.Machine

open Sys2Proof.Claims (keepsToItself rowsR rowsI rowsV)

variable {s t u : State} {gi : Nat}

/-! ### What groom `gi` may change -/

/-- The stalls and the requests are listed in canonical form. -/
def State.orderly (s : State) : Prop := Map.wf (fun _ => ({} : Stall)) s.stalls = true ∧ Map.wf noneOf s.reqs = true

/-- From an orderly state, `t` differs from `s` in what groom `gi` may change: its own context, its own requests, the counters of stalls and reports. -/
structure KeepsOthers (gi : Nat) (s t : State) : Prop where
  orderly : t.orderly
  keeps : keepsToItself s t gi
  numbered : s.nextReq ≤ t.nextReq

/-- A change of an orderly state that groom `gi` may make. -/
def Own (gi : Nat) (s t : State) : Prop := s.orderly → KeepsOthers gi s t

theorem Own.refl (gi : Nat) (s : State) : Own gi s s := fun hs =>
  ⟨hs, ⟨fun _ _ => rfl, rfl, rfl, rfl, rfl, fun _ => ⟨rfl, rfl, rfl⟩, fun _ _ _ h _ => h⟩, Nat.le_refl _⟩

theorem Own.trans (h : Own gi s t) (h' : Own gi t u) : Own gi s u := by
  intro hs
  obtain ⟨ht, ⟨hg, hm, hl, hc, hn, hst, hr⟩, hle⟩ := h hs
  obtain ⟨hu, ⟨hg', hm', hl', hc', hn', hst', hr'⟩, hle'⟩ := h' ht
  refine ⟨hu, ⟨fun gj hj => (hg' gj hj).trans (hg gj hj), hm'.trans hm, hl'.trans hl, hc'.trans hc, hn'.trans hn, fun ps => ?_, fun id r hid hsome hsrc => ?_⟩,
    Nat.le_trans hle hle'⟩
  · obtain ⟨h1, h2, h3⟩ := hst ps
    obtain ⟨h1', h2', h3'⟩ := hst' ps
    exact ⟨h1'.trans h1, h2'.trans h2, h3'.trans h3⟩
  · exact hr' id r (Nat.lt_of_lt_of_le hid hle) (hr id r hid hsome hsrc) hsrc

theorem Own.foldl {β : Type} {f : State → β → State} (hf : ∀ s b, Own gi s (f s b)) (l : List β) : ∀ s, Own gi s (l.foldl f s) := by
  induction l with
  | nil => exact fun s => .refl gi s
  | cons b l ih => exact fun s => (hf s b).trans (ih (f s b))

theorem Own.ite {p : Prop} [Decidable p] (h : Own gi s t) (h' : Own gi s u) : Own gi s (if p then t else u) := by
  split_ifs
  · exact h
  · exact h'

/-! ### The operations -/

theorem Own.setGroom (s : State) (g : Groom) : Own gi s (s.setGroom gi g) := fun hs =>
  ⟨hs, ⟨fun _ hj => s.groom_setGroom_of_ne g hj, rfl, rfl, rfl, rfl, fun _ => ⟨rfl, rfl, rfl⟩, fun _ _ _ h _ => h⟩, Nat.le_refl _⟩

theorem Own.modGroom (s : State) (f : Groom → Groom) : Own gi s (s.modGroom gi f) := Own.setGroom s _

/-- A report reaches the tack rooms alone. -/
theorem Own.report (s : State) (r : ErrRec) : Own gi s (s.report r) := by
  obtain ⟨a, h⟩ := s.report_eq r
  rw [h]
  exact fun hs => ⟨hs, ⟨fun _ _ => rfl, rfl, rfl, rfl, rfl, fun _ => ⟨rfl, rfl, rfl⟩, fun _ _ _ h _ => h⟩, Nat.le_refl _⟩

/-- A new request takes a number that no request had. -/
theorem Own.newReq (s : State) (r : Req) : Own gi s (s.newReq r) := by
  intro hs
  have hreqs : (s.newReq r).reqs = (s.setReq s.nextReq (some { r with at_ := s.clk })).reqs := rfl
  refine ⟨⟨hs.1, ?_⟩, ⟨fun _ _ => rfl, rfl, rfl, rfl, rfl, fun _ => ⟨rfl, rfl, rfl⟩, fun id x hid hsome _ => ?_⟩, Nat.le_succ _⟩
  · rw [hreqs]
    exact State.wf_setReq hs.2 _ _
  · rw [State.req, hreqs]
    exact (s.req_setReq_of_ne _ (Nat.ne_of_lt hid)).trans hsome

/-- A counter of a stall is neither scratch nor a tile register nor a queue. -/
theorem Own.setScsr (s : State) (ps o : Nat) (v : Word) : Own gi s (s.setScsr ps o v) := by
  intro hs
  refine ⟨⟨Map.wf_set _ _ _ hs.1, hs.2⟩, ⟨fun _ _ => rfl, rfl, rfl, rfl, rfl, fun q => ?_, fun _ _ _ h _ => h⟩, Nat.le_refl _⟩
  by_cases hq : q = ps
  · subst hq
    rw [State.setScsr, State.modStall, State.stall_setStall_self hs.1]
    exact ⟨rfl, rfl, rfl⟩
  · have : (s.setScsr ps o v).stall q = s.stall q := Map.get_set_of_ne _ s.stalls _ hq
    rw [this]
    exact ⟨rfl, rfl, rfl⟩

theorem Own.perfAdd (ps : Nat) : ∀ (fuel : Nat) (s : State) (n k : Nat), Own gi s (s.perfAdd ps fuel n k)
  | 0, s, _, _ => .refl gi s
  | fuel + 1, s, n, k => by
    unfold State.perfAdd
    dsimp only
    split_ifs
    · exact .setScsr s ps _ _
    · exact (Own.setScsr s ps _ _).trans (Own.perfAdd ps fuel _ _ _)
    · exact (Own.setScsr s ps _ _).trans (.setScsr _ ps _ _)

theorem Own.perf (s : State) (ps code : Nat) (pr : Option Priv) (r a : Option Nat) (k : Nat) : Own gi s (s.perf ps code pr r a k) := by
  unfold State.perf
  split_ifs
  · exact .refl gi s
  · refine .foldl (fun s n => ?_) _ s
    split_ifs
    · exact .perfAdd ps 8 s n k
    · exact .refl gi s

theorem Own.perfGroom (s : State) (gj code : Nat) (g : Groom) : Own gi s (s.perfGroom gj code g) := Own.perf s _ _ _ _ _ _

/-- A load of groom `gi`. -/
def Req.isLoadOf (gi : Nat) (r : Req) : Bool :=
  match r.src with
  | .groomLoad i _ => decide (i = gi)
  | _ => false

theorem Req.isLoadOf_iff {r : Req} : r.isLoadOf gi = true ↔ ∃ n, r.src = .groomLoad gi n := by
  unfold Req.isLoadOf
  split
  · next i n h => simp [h]
  · next h => simp only [Bool.false_eq_true, false_iff]; exact fun ⟨n, hn⟩ => h _ n hn

/-- A request as discarding its groom leaves it: its response finds nobody (R84). -/
def abandoned (e : Nat × Req) : Option Req := some { e.2 with src := .gone }

theorem State.discard_eq (s : State) (gi : Nat) : s.discard gi =
    ((s.reqsWhere (Req.isLoadOf gi)).foldl (fun s e => s.setReq e.1 (abandoned e)) s).modGroom gi (fun g => { g with rq := [], wait := .none }) := rfl

/-- Discarding changes the groom's own loads alone. -/
theorem Own.discard (s : State) (gi : Nat) : Own gi s (s.discard gi) := by
  rw [State.discard_eq]
  refine Own.trans (fun hs => ?_) (.modGroom _ _)
  have hothers := fun id => State.req_foldl_setReq_of_notMem abandoned (id := id) (s.reqsWhere (Req.isLoadOf gi)) s
  obtain ⟨m, hm, hwf⟩ := State.foldl_setReq_eq abandoned (s.reqsWhere (Req.isLoadOf gi)) s
  rw [hm] at hothers ⊢
  refine ⟨⟨hs.1, hwf hs.2⟩, ⟨fun _ _ => rfl, rfl, rfl, rfl, rfl, fun _ => ⟨rfl, rfl, rfl⟩, fun id r _ hsome hsrc => ?_⟩, Nat.le_refl _⟩
  refine (hothers id fun e he hid => ?_).trans hsome
  obtain ⟨hreq, hload⟩ := (State.mem_reqsWhere hs.2).mp he
  rw [← hid, hsome] at hreq
  obtain rfl := Option.some.inj hreq
  obtain ⟨n, hn⟩ := Req.isLoadOf_iff.mp hload
  exact hsrc n hn

theorem Own.retireOne (s : State) (e : RetEntry) : Own gi s (s.retireOne gi e) :=
  ((Own.setGroom s _).trans (.perfGroom _ gi _ _)).trans (.foldl (fun s _ => .newReq s _) _ _)

theorem Own.settle : ∀ (n : Nat) (s : State), Own gi s (s.settle gi n)
  | 0, s => .refl gi s
  | n + 1, s => by
    unfold State.settle
    split
    · split_ifs
      · exact ((Own.modGroom s _).trans (.retireOne _ _)).trans (Own.settle n _)
      · exact .refl gi s
    · exact .refl gi s

theorem Own.enter (s : State) (cls : Nat) (st : Status) (eval : Option Word) (epc : Nat) (async : Bool) (pc : Nat) :
    Own gi s (s.enter gi cls st eval epc async pc) :=
  ((Own.discard s gi).trans (.modGroom _ _)).trans (.perfGroom _ gi _ _)

theorem Own.doubleFault (s : State) : Own gi s (s.doubleFault gi) :=
  ((Own.discard s gi).trans (.modGroom _ _)).trans (.report _ _)

theorem Own.takeFault (s : State) (f : GFault) : Own gi s (s.takeFault gi f) := by
  unfold State.takeFault
  dsimp only
  split_ifs
  · exact .doubleFault s
  · exact ((Own.modGroom s _).trans (.perfGroom _ gi _ _)).trans (.enter _ _ _ _ _ _ _)
  · exact .enter s _ _ _ _ _ _

theorem Own.raise (s : State) (cls : Nat) (st : Status) (v : Word) : Own gi s (s.raise gi cls st v) := by
  unfold State.raise
  exact .ite (.takeFault s _) (.setGroom s _)

theorem Own.accept (s : State) (e : Eff) : Own gi s (s.accept gi e) := by
  refine Own.trans ?_ (.foldl (fun s _ => .newReq s _) _ _)
  exact (Own.ite (.perfGroom s gi _ _) (.refl gi s)).trans (.setGroom _ _)

/-- Whatever an instruction asks of its groom, issuing it changes what the groom may change. -/
theorem Own.issue (s : State) (f : Groom → IRes) : Own gi s (s.issue gi f) := by
  unfold State.issue
  dsimp only
  split_ifs
  · cases f (s.groom gi) with
    | wait => exact .refl gi s
    | stall => exact .perfGroom s gi _ _
    | fault cls st v => exact (Own.raise s cls st v).trans (.settle 33 _)
    | ok e =>
      dsimp only
      split_ifs
      · exact (Own.accept s e).trans (.settle 33 _)
      · exact .refl gi s
  · exact (Own.raise s _ _ _).trans (.settle 33 _)
  · exact .refl gi s

/-! ### The instructions -/

/-- Instructions that do no more than issue at their groom. -/
def Issues {F : Type} (i : Nat → F → Instr) : Prop := ∀ (gi : Nat) (f : F) (s : State), ∃ res, exec (i gi f) s = .next (s.issue gi res)

theorem Issues.keepsToItself {F : Type} {i : Nat → F → Instr} (hi : Issues i) (hs : Safety.Canonical s) {f : F} (h : exec (i gi f) s = .next t) :
    keepsToItself s t gi := by
  obtain ⟨res, he⟩ := hi gi f s
  rw [he] at h
  obtain rfl := Host.Outcome.next.inj h
  exact (Own.issue s res ⟨hs.stalls, hs.reqs⟩).keeps

/-- Each row of these lists is its operation's issue. -/
theorem issues_rowsR : ∀ i ∈ rowsR, Issues i := by
  intro i hi
  fin_cases hi <;> exact fun _ _ _ => ⟨_, rfl⟩

theorem issues_rowsI : ∀ i ∈ rowsI, Issues i := by
  intro i hi
  fin_cases hi <;> exact fun _ _ _ => ⟨_, rfl⟩

theorem issues_rowsV : ∀ i ∈ rowsV, Issues i := by
  intro i hi
  fin_cases hi <;> exact fun _ _ _ => ⟨_, rfl⟩

/-- Settles O57: every one of these instructions issues at its groom, and issuing changes what the groom may change. -/
theorem groomInstructionsKeepToTheirGroom : Obligations.GroomInstructionsKeepToTheirGroom := by
  intro s t gi hs
  refine ⟨fun i hi _ => (issues_rowsR i hi).keepsToItself hs, fun i hi _ => (issues_rowsI i hi).keepsToItself hs,
    fun i hi _ => (issues_rowsV i hi).keepsToItself hs, fun i hi _ => Issues.keepsToItself ?stores hs, fun i hi _ => Issues.keepsToItself ?branches hs,
    fun _ => Issues.keepsToItself (fun _ _ _ => ⟨_, rfl⟩) hs, fun i hi _ => Issues.keepsToItself ?vectors hs, fun i hi _ => Issues.keepsToItself ?elements hs⟩
  case stores => fin_cases hi <;> exact fun _ _ _ => ⟨_, rfl⟩
  case branches => fin_cases hi <;> exact fun _ _ _ => ⟨_, rfl⟩
  case vectors => fin_cases hi <;> exact fun _ _ _ => ⟨_, rfl⟩
  case elements => fin_cases hi <;> exact fun _ _ _ => ⟨_, rfl⟩

end Sys2Proof.Machine
end

section
/-! SUPPORT. XY routes: where they go, how long they are, and that each hop is to a neighbour (R42). -/

namespace Sys2Proof.Machine

/-! ### Spans -/

theorem span_up {a b : Nat} (h : a ≤ b) : span a b = (List.range (b - a + 1)).map (· + a) := if_pos h

theorem span_down {a b : Nat} (h : b < a) : span a b = (List.range (a - b + 1)).map (fun i => a - i) := if_neg (Nat.not_le.mpr h)

theorem mem_span {a b x : Nat} : x ∈ span a b ↔ min a b ≤ x ∧ x ≤ max a b := by
  rcases Nat.lt_or_ge b a with h | h
  · rw [span_down h, List.mem_map]
    constructor
    · rintro ⟨i, hi, rfl⟩
      rw [List.mem_range] at hi
      omega
    · exact fun hx => ⟨a - x, List.mem_range.mpr (by omega), by omega⟩
  · rw [span_up h, List.mem_map]
    constructor
    · rintro ⟨i, hi, rfl⟩
      rw [List.mem_range] at hi
      omega
    · exact fun hx => ⟨x - a, List.mem_range.mpr (by omega), by omega⟩

theorem length_span (a b : Nat) : (span a b).length = max a b - min a b + 1 := by
  rcases Nat.lt_or_ge b a with h | h
  · rw [span_down h, List.length_map, List.length_range]
    omega
  · rw [span_up h, List.length_map, List.length_range]
    omega

/-- A span starts at its first number. -/
theorem span_eq_cons (a b : Nat) : span a b = a :: (span a b).tail := by
  have hhead : (span a b).head? = some a := by
    rcases Nat.lt_or_ge b a with h | h
    · rw [span_down h, List.head?_map, List.head?_range]
      rfl
    · rw [span_up h, List.head?_map, List.head?_range]
      simp
  exact (List.cons_head?_tail hhead).symm

/-- A span ends at its last number. -/
theorem getLast?_span (a b : Nat) : (span a b).getLast? = some b := by
  rcases Nat.lt_or_ge b a with h | h
  · rw [span_down h, List.getLast?_map, List.getLast?_range]
    simp only [Nat.add_eq_zero_iff, Nat.one_ne_zero, and_false, if_false, Option.map_some, Option.some.injEq]
    omega
  · rw [span_up h, List.getLast?_map, List.getLast?_range]
    simp only [Nat.add_eq_zero_iff, Nat.one_ne_zero, and_false, if_false, Option.map_some, Option.some.injEq]
    omega

/-- Each number of a span is one off the number before. -/
theorem isChain_span (a b : Nat) : (span a b).IsChain (fun x y => y = x + 1 ∨ x = y + 1) := by
  rcases Nat.lt_or_ge b a with h | h
  · rw [span_down h, List.isChain_map, List.isChain_iff_getElem]
    intro i hi
    rw [List.length_range] at hi
    simp only [List.getElem_range]
    omega
  · rw [span_up h, List.isChain_map, List.isChain_iff_getElem]
    intro i hi
    simp only [List.getElem_range]
    omega

/-! ### Routes -/

section
variable {a b p : Nat}

/-- The nodes along the row of `a`, from its column to that of `b`. -/
def rowLeg (a b : Nat) : List Nat := (span (a % 64) (b % 64)).map (fun c => a / 64 * 64 + c)
/-- The nodes along the column of `b`, from the row of `a` to its own. -/
def colLeg (a b : Nat) : List Nat := (span (a / 64) (b / 64)).map (fun r => r * 64 + b % 64)

theorem xyPath_eq (a b : Nat) : xyPath a b = rowLeg a b ++ (colLeg a b).tail := by
  rw [xyPath, rowLeg, colLeg, List.map_tail]

/-- The corner ends the first leg and starts the second. -/
theorem getLast?_rowLeg (a b : Nat) : (rowLeg a b).getLast? = some (a / 64 * 64 + b % 64) := by
  rw [rowLeg, List.getLast?_map, getLast?_span, Option.map_some]

theorem colLeg_eq_cons (a b : Nat) : colLeg a b = (a / 64 * 64 + b % 64) :: (colLeg a b).tail := by
  rw [colLeg, span_eq_cons, List.map_cons, List.tail_cons]

theorem mem_rowLeg : p ∈ rowLeg a b ↔ p / 64 = a / 64 ∧ min (a % 64) (b % 64) ≤ p % 64 ∧ p % 64 ≤ max (a % 64) (b % 64) := by
  simp only [rowLeg, List.mem_map, mem_span]
  constructor
  · rintro ⟨c, hc, rfl⟩
    omega
  · exact fun h => ⟨p % 64, by omega, by omega⟩

theorem mem_colLeg : p ∈ colLeg a b ↔ p % 64 = b % 64 ∧ min (a / 64) (b / 64) ≤ p / 64 ∧ p / 64 ≤ max (a / 64) (b / 64) := by
  simp only [colLeg, List.mem_map, mem_span]
  constructor
  · rintro ⟨c, hc, rfl⟩
    omega
  · exact fun h => ⟨p / 64, by omega, by omega⟩

/-- A route holds the nodes of its two legs. -/
theorem mem_xyPath : p ∈ xyPath a b ↔
    (p / 64 = a / 64 ∧ min (a % 64) (b % 64) ≤ p % 64 ∧ p % 64 ≤ max (a % 64) (b % 64)) ∨
    (p % 64 = b % 64 ∧ min (a / 64) (b / 64) ≤ p / 64 ∧ p / 64 ≤ max (a / 64) (b / 64)) := by
  rw [← mem_rowLeg, ← mem_colLeg, xyPath_eq, colLeg_eq_cons, List.mem_append, List.mem_cons, List.tail_cons]
  constructor
  · rintro (h | h)
    · exact .inl h
    · exact .inr (.inr h)
  · rintro (h | rfl | h)
    · exact .inl h
    · exact .inl (List.mem_of_getLast? (getLast?_rowLeg a b))
    · exact .inr h

theorem head?_xyPath (a b : Nat) : (xyPath a b).head? = some a := by
  have : rowLeg a b = (a / 64 * 64 + a % 64) :: (rowLeg a b).tail := by
    rw [rowLeg, span_eq_cons, List.map_cons, List.tail_cons]
  rw [xyPath_eq, this, List.cons_append, List.head?_cons]
  congr 1
  omega

theorem getLast?_xyPath (a b : Nat) : (xyPath a b).getLast? = some b := by
  have hlast : (colLeg a b).getLast? = some b := by
    rw [colLeg, List.getLast?_map, getLast?_span, Option.map_some]
    congr 1
    omega
  rw [xyPath_eq, List.getLast?_append, getLast?_rowLeg]
  rw [colLeg_eq_cons, List.getLast?_cons, Option.some.injEq] at hlast
  cases h : (colLeg a b).tail.getLast? with
  | none => rw [h] at hlast; exact congrArg some hlast
  | some x => rw [h] at hlast; exact congrArg some hlast

theorem length_xyPath (a b : Nat) : ((xyPath a b).length : Int) = 1 + |(a % 64 : Int) - b % 64| + |(a / 64 : Int) - b / 64| := by
  rw [xyPath_eq, List.length_append, List.length_tail, rowLeg, colLeg, List.length_map, List.length_map, length_span, length_span]
  rcases abs_cases ((a % 64 : Int) - b % 64) with h | h <;> rcases abs_cases ((a / 64 : Int) - b / 64) with h' | h' <;> omega

/-- Two nodes of the grid of which each is the other's neighbour. -/
def adjacent (u v : Nat) : Prop := ∃ d < 4, neighbour u d = some v

theorem adjacent_in_row {r c c' : Nat} (hc : c < 64) (hc' : c' < 64) (h : c' = c + 1 ∨ c = c' + 1) : adjacent (r * 64 + c) (r * 64 + c') := by
  rcases h with rfl | rfl
  · exact ⟨1, by omega, by simp only [neighbour]; rw [if_pos (by omega)]; rfl⟩
  · exact ⟨3, by omega, by simp only [neighbour]; rw [if_pos (by omega)]; rfl⟩

theorem adjacent_in_column {r r' c : Nat} (hr : r < 72) (hr' : r' < 72) (hc : c < 64) (h : r' = r + 1 ∨ r = r' + 1) :
    adjacent (r * 64 + c) (r' * 64 + c) := by
  rcases h with rfl | rfl
  · exact ⟨0, by omega, by simp only [neighbour]; rw [if_pos (by omega)]; congr 1; omega⟩
  · exact ⟨2, by omega, by simp only [neighbour]; rw [if_pos (by omega)]; congr 1; omega⟩

/-- Members of a chain related one by one. -/
theorem isChain_map_span {R : Nat → Nat → Prop} {f : Nat → Nat} {a b : Nat}
    (h : ∀ x y, x ≤ max a b → y ≤ max a b → (y = x + 1 ∨ x = y + 1) → R (f x) (f y)) : ((span a b).map f).IsChain R := by
  rw [List.isChain_map]
  refine List.IsChain.imp_of_mem_imp (fun x y hx hy hxy => h x y ?_ ?_ hxy) (isChain_span a b)
  · exact (mem_span.mp hx).2
  · exact (mem_span.mp hy).2

theorem isChain_xyPath (ha : a < 4608) (hb : b < 4608) : (xyPath a b).IsChain adjacent := by
  have hrow : (rowLeg a b).IsChain adjacent := isChain_map_span fun x y hx hy h => adjacent_in_row (by omega) (by omega) h
  have hcol : (colLeg a b).IsChain adjacent := isChain_map_span fun x y hx hy h => adjacent_in_column (by omega) (by omega) (by omega) h
  rw [xyPath_eq, List.isChain_append]
  rw [colLeg_eq_cons] at hcol
  refine ⟨hrow, hcol.tail, fun x hx y hy => ?_⟩
  rw [getLast?_rowLeg, Option.mem_def, Option.some.injEq] at hx
  subst hx
  exact (List.isChain_cons.mp hcol).1 y hy

end

/-- The route travels the row first, then the column, and never more hops than there are columns and rows between (R42). -/
theorem xyRoutesAreConnectedAndShortest : Claims.XyRoutesAreConnectedAndShortest := by
  intro a b ha hb
  refine ⟨head?_xyPath a b, getLast?_xyPath a b, length_xyPath a b, fun i u v hu hv => ?_, fun u hu => ?_⟩
  · obtain ⟨hi, rfl⟩ := List.getElem?_eq_some_iff.mp hu
    obtain ⟨hi', rfl⟩ := List.getElem?_eq_some_iff.mp hv
    exact List.isChain_iff_getElem.mp (isChain_xyPath ha hb) i hi'
  · rcases mem_xyPath.mp hu with h | h
    · exact .inl h.1
    · exact .inr h.1

end Sys2Proof.Machine
end

section
/-! SUPPORT. Detours about one dead router: which destinations an entry covers, what its refusals stand for, and the statement on routes (R53 to R55). -/

namespace Sys2Proof.Machine

variable {e x : DetourE} {d dead src : Nat}

/-! ### Entries as rectangles, and as words -/

/-- The destinations of an entry. -/
def DetourE.covers (e : DetourE) (d : Nat) : Bool := decide (e.cLo ≤ d % 64 ∧ d % 64 ≤ e.cHi ∧ e.rLo ≤ d / 64 ∧ d / 64 ≤ e.rHi)

theorem DetourE.covers_iff : e.covers d = true ↔ e.cLo ≤ d % 64 ∧ d % 64 ≤ e.cHi ∧ e.rLo ≤ d / 64 ∧ d / 64 ≤ e.rHi := decide_eq_true_iff

/-- The fields of an entry fit in its word. -/
def DetourE.fits (e : DetourE) : Prop := e.cLo < 64 ∧ e.cHi < 64 ∧ e.rLo < 128 ∧ e.rHi < 128 ∧ e.viaCol < 64 ∧ e.viaRow < 128

theorem DetourE.fits.viaCol_lt (h : e.fits) : e.viaCol < 64 := by
  obtain ⟨-, -, -, -, hcol, -⟩ := h
  exact hcol

/-- The VIA node of an entry. -/
def DetourE.via (e : DetourE) (d : Nat) : Nat := (if e.viaRowDest then d / 64 else e.viaRow) * 64 + e.viaCol

theorem bit_place_apart {hi lo i : Nat} (h : i < lo ∨ hi < i) (v : Nat) : bit (place hi lo v) i = false := by
  rw [bit, getLsbD_place]
  rcases h with h | h
  · simp [show ¬ lo ≤ i by omega]
  · simp [show ¬ i - lo < hi + 1 - lo by omega]

theorem bit_place_b2n {i : Nat} (h : i < 64) (b : Bool) : bit (place i i (b2n b)) i = b := by
  cases b
  · rw [bit, getLsbD_place]
    simp [b2n]
  · exact bit_place_one h

/-- A word covers the destinations of its entry. -/
theorem detourHits_word (h : e.fits) : detourHits e.word d = e.covers d := by
  obtain ⟨h1, h2, h3, h4, -, -⟩ := h
  have hvalid : bit e.word 63 = true := by
    simp (disch := omega) only [DetourE.word, bit_or, bit_place_one, Bool.or_true]
  have hcLo : fld e.word 5 0 = e.cLo := by
    simp (disch := omega) only [DetourE.word, fld_or, fld_place_self, fld_place_apart, Nat.or_zero]
    omega
  have hcHi : fld e.word 13 8 = e.cHi := by
    simp (disch := omega) only [DetourE.word, fld_or, fld_place_self, fld_place_apart, Nat.or_zero, Nat.zero_or]
    omega
  have hrLo : fld e.word 22 16 = e.rLo := by
    simp (disch := omega) only [DetourE.word, fld_or, fld_place_self, fld_place_apart, Nat.or_zero, Nat.zero_or]
    omega
  have hrHi : fld e.word 30 24 = e.rHi := by
    simp (disch := omega) only [DetourE.word, fld_or, fld_place_self, fld_place_apart, Nat.or_zero, Nat.zero_or]
    omega
  rw [detourHits, hvalid, hcLo, hcHi, hrLo, hrHi, Bool.true_and]
  rfl

theorem bit_word_unreach : bit e.word 62 = e.unreach := by
  simp (disch := omega) only [DetourE.word, bit_or, bit_place_b2n, bit_place_apart, Bool.or_false, Bool.false_or]

/-- A word names the VIA node of its entry. -/
theorem detourVia_word (h : e.fits) : detourVia e.word d = e.via d := by
  obtain ⟨-, -, -, -, h5, h6⟩ := h
  have hrow : bit e.word 47 = e.viaRowDest := by
    simp (disch := omega) only [DetourE.word, bit_or, bit_place_b2n, bit_place_apart, Bool.or_false, Bool.false_or]
  have hcol : bit e.word 38 = false := by
    simp (disch := omega) only [DetourE.word, bit_or, bit_place_apart, Bool.or_false]
  have hviaRow : fld e.word 46 40 = e.viaRow := by
    simp (disch := omega) only [DetourE.word, fld_or, fld_place_self, fld_place_apart, Nat.or_zero, Nat.zero_or]
    omega
  have hviaCol : fld e.word 37 32 = e.viaCol := by
    simp (disch := omega) only [DetourE.word, fld_or, fld_place_self, fld_place_apart, Nat.or_zero, Nat.zero_or]
    omega
  rw [detourVia, hrow, hcol, hviaRow, hviaCol]
  rfl

/-! ### Refusals (R55) -/

theorem mem_cut {cLo cHi rLo rHi : Nat} (hx : x ∈ e.cut cLo cHi rLo rHi) :
    x = { cLo := max e.cLo cLo, cHi := min e.cHi cHi, rLo := max e.rLo rLo, rHi := min e.rHi rHi, unreach := true } ∧ x.cLo ≤ x.cHi ∧ x.rLo ≤ x.rHi := by
  unfold DetourE.cut at hx
  dsimp only at hx
  split_ifs at hx with h
  · obtain rfl := List.mem_singleton.mp hx
    exact ⟨rfl, h⟩
  · cases hx

/-- The part of an entry within bounds lies in the entry and in the bounds. -/
theorem covers_of_mem_cut {cLo cHi rLo rHi : Nat} (hx : x ∈ e.cut cLo cHi rLo rHi) (h : x.covers d = true) :
    e.covers d = true ∧ cLo ≤ d % 64 ∧ d % 64 ≤ cHi ∧ rLo ≤ d / 64 ∧ d / 64 ≤ rHi := by
  obtain ⟨rfl, -⟩ := mem_cut hx
  rw [DetourE.covers_iff] at h ⊢
  dsimp only at h
  omega

theorem fits_of_mem_cut {cLo cHi rLo rHi : Nat} (he : e.fits) (hx : x ∈ e.cut cLo cHi rLo rHi) : x.fits := by
  obtain ⟨rfl, hc, hr⟩ := mem_cut hx
  obtain ⟨-, h2, -, h4, -, -⟩ := he
  dsimp only at hc hr
  exact ⟨by dsimp only; omega, by dsimp only; omega, by dsimp only; omega, by dsimp only; omega, by dsimp only; omega, by dsimp only; omega⟩

theorem length_cut (e : DetourE) (cLo cHi rLo rHi : Nat) : (e.cut cLo cHi rLo rHi).length ≤ 1 := by
  unfold DetourE.cut
  dsimp only
  split_ifs
  · exact Nat.le_refl _
  · exact Nat.zero_le _

/-- Destinations within bounds. -/
def inBounds (cLo cHi rLo rHi d : Nat) : Prop := cLo ≤ d % 64 ∧ d % 64 ≤ cHi ∧ rLo ≤ d / 64 ∧ d / 64 ≤ rHi

/-- Some part of an entry, and what holds of the destinations in it. -/
def DetourE.IsPart (e x : DetourE) (P : Nat → Prop) : Prop :=
  ∃ cLo cHi rLo rHi, x ∈ e.cut cLo cHi rLo rHi ∧ ∀ d, inBounds cLo cHi rLo rHi d → P d

/-- What an XY route from a node reaches only through a dead node. -/
theorem isPart_of_mem_blockedFrom {v : Nat} (hx : x ∈ e.blockedFrom v dead) : e.IsPart x (fun d => dead ∈ xyPath v d) := by
  simp only [DetourE.blockedFrom] at hx
  split_ifs at hx with hself hrow hleft hup
  · refine ⟨_, _, _, _, hx, fun d _ => ?_⟩
    rw [hself]
    exact List.mem_of_head? (head?_xyPath v d)
  · refine ⟨_, _, _, _, hx, fun d hd => mem_xyPath.mpr (.inl ?_)⟩
    unfold inBounds at hd
    omega
  · refine ⟨_, _, _, _, hx, fun d hd => mem_xyPath.mpr (.inl ?_)⟩
    unfold inBounds at hd
    omega
  · refine ⟨_, _, _, _, hx, fun d hd => mem_xyPath.mpr (.inr ?_)⟩
    unfold inBounds at hd
    omega
  · refine ⟨_, _, _, _, hx, fun d hd => mem_xyPath.mpr (.inr ?_)⟩
    unfold inBounds at hd
    omega

/-- Both legs of a detour avoid a node. -/
def DetourE.avoids (e : DetourE) (src d dead : Nat) : Prop := dead ∉ xyPath src (e.via d) ∧ dead ∉ xyPath (e.via d) d

/-- A refusal of an entry is a part of it whose destinations the detour would reach through the dead node (R55). -/
theorem isPart_of_mem_refused (hv : e.viaCol < 64) (hx : x ∈ e.refused src dead) : e.IsPart x (fun d => ¬ e.avoids src d dead) := by
  simp only [DetourE.refused] at hx
  split_ifs at hx with hunreach hrowDest hrow hcol hup hvia
  · cases hx
  · obtain ⟨hr, hlo, hhi, -⟩ := of_decide_eq_true hrow
    refine ⟨_, _, _, _, hx, fun d _ ha => ha.1 (mem_xyPath.mpr (.inl ?_))⟩
    rw [DetourE.via, if_pos hrowDest]
    omega
  · refine ⟨_, _, _, _, hx, fun d hd ha => ha.1 (mem_xyPath.mpr (.inr ?_))⟩
    rw [DetourE.via, if_pos hrowDest]
    unfold inBounds at hd
    omega
  · refine ⟨_, _, _, _, hx, fun d hd ha => ha.1 (mem_xyPath.mpr (.inr ?_))⟩
    rw [DetourE.via, if_pos hrowDest]
    unfold inBounds at hd
    omega
  · cases hx
  · refine ⟨_, _, _, _, hx, fun d _ ha => ha.1 ?_⟩
    rw [DetourE.via, if_neg hrowDest, ← hvia]
    exact List.mem_of_getLast? (getLast?_xyPath src dead)
  · obtain ⟨cLo, cHi, rLo, rHi, hcut, hpart⟩ := isPart_of_mem_blockedFrom hx
    refine ⟨cLo, cHi, rLo, rHi, hcut, fun d hd ha => ha.2 ?_⟩
    rw [DetourE.via, if_neg hrowDest]
    exact hpart d hd

/-- What a refusal covers, its entry covers, and would reach through the dead node. -/
theorem refused_covers (hv : e.viaCol < 64) (hx : x ∈ e.refused src dead) (h : x.covers d = true) : e.covers d = true ∧ ¬ e.avoids src d dead := by
  obtain ⟨cLo, cHi, rLo, rHi, hcut, hpart⟩ := isPart_of_mem_refused hv hx
  obtain ⟨he, hd⟩ := covers_of_mem_cut hcut h
  exact ⟨he, hpart d hd⟩

theorem fits_of_mem_refused (he : e.fits) (hx : x ∈ e.refused src dead) : x.fits := by
  obtain ⟨_, _, _, _, hcut, -⟩ := isPart_of_mem_refused he.viaCol_lt hx
  exact fits_of_mem_cut he hcut

/-- One dead node refuses an entry in at most one part. -/
theorem length_refused (e : DetourE) (src dead : Nat) : (e.refused src dead).length ≤ 1 := by
  simp only [DetourE.refused, DetourE.blockedFrom]
  split_ifs <;> simp [length_cut]

/-! ### The entry that applies -/

/-- Dropping entries that earlier ones cover changes no destination's first entry. -/
theorem find?_dropCovered : ∀ (l seen : List DetourE), (∀ x ∈ seen, x.covers d = false) →
    (dropCovered seen l).find? (·.covers d) = l.find? (·.covers d)
  | [], _, _ => rfl
  | e :: l, seen, hseen => by
    unfold dropCovered
    split_ifs with hin
    · obtain ⟨x, hx, hwithin⟩ := List.any_eq_true.mp hin
      have he : e.covers d = false := by
        by_contra h
        rw [Bool.not_eq_false, DetourE.covers_iff] at h
        have hb := of_decide_eq_true hwithin
        have : x.covers d = true := DetourE.covers_iff.mpr (by omega)
        rw [hseen x hx] at this
        cases this
      rw [find?_dropCovered l seen hseen, List.find?_cons, he]
    · rw [List.find?_cons, List.find?_cons]
      cases he : e.covers d with
      | true => rfl
      | false => exact find?_dropCovered l (e :: seen) (List.forall_mem_cons.mpr ⟨he, hseen⟩)

theorem dropCovered_sublist : ∀ (l seen : List DetourE), (dropCovered seen l).Sublist l
  | [], _ => .slnil
  | e :: l, seen => by
    unfold dropCovered
    split_ifs
    · exact (dropCovered_sublist l seen).cons e
    · exact (dropCovered_sublist l (e :: seen)).cons_cons e

/-- An entry that reaches what it covers, if that is `d`, without the dead node. -/
structure DetourE.GoesRound (e : DetourE) (src dead d : Nat) : Prop where
  fits : e.fits
  reaches : e.unreach = false
  avoids : e.covers d = true → e.avoids src d dead

/-- Where every way that covers a destination avoids the dead node, the refusals before the ways cover it not. -/
theorem find?_ways : ∀ l : List DetourE, (∀ e ∈ l, e.GoesRound src dead d) →
    (l.flatMap (fun e => e.refused src dead ++ [e])).find? (·.covers d) = l.find? (·.covers d)
  | [], _ => rfl
  | e :: l, h => by
    obtain ⟨⟨hfits, -, havoids⟩, hl⟩ := List.forall_mem_cons.mp h
    have hrefused : (e.refused src dead).find? (·.covers d) = none := by
      rw [List.find?_eq_none]
      intro x hx hcov
      obtain ⟨he, hnot⟩ := refused_covers hfits.viaCol_lt hx hcov
      exact hnot (havoids he)
    rw [List.flatMap_cons, List.append_assoc, List.find?_append, hrefused, Option.none_or, List.singleton_append, List.find?_cons, List.find?_cons,
      find?_ways l hl]

/-! ### The ways around one dead router (R54) -/

/-- A row entry of R54: the destinations of some rows beyond a dead router of the source's row, by a node of the source's column. -/
def rowWay (src dead rLo rHi viaRow : Nat) : DetourE :=
  { cLo := if src % 64 < dead % 64 then dead % 64 else 0, cHi := if src % 64 < dead % 64 then 63 else dead % 64, rLo := rLo, rHi := rHi,
    viaCol := src % 64, viaRow := viaRow }

/-- The column entry of R54: the destinations of the dead router's column in some rows, by the column next to it. -/
def colWay (dead rLo rHi : Nat) : DetourE :=
  { cLo := dead % 64, cHi := dead % 64, rLo := rLo, rHi := rHi, viaCol := if dead % 64 = 63 then 62 else dead % 64 + 1, viaRowDest := true }

theorem rowEntries_of (h : dead / 64 = src / 64 ∧ dead % 64 ≠ src % 64) : rowEntries src dead =
    rowWay src dead (src / 64) 71 (if src / 64 = 71 then 70 else src / 64 + 1) ::
      (if src / 64 = 0 then [] else [rowWay src dead 0 (src / 64 - 1) (src / 64 - 1)]) := if_pos h

theorem rowEntries_nil (h : ¬ (dead / 64 = src / 64 ∧ dead % 64 ≠ src % 64)) : rowEntries src dead = [] := if_neg h

theorem colEntries_eq (src dead : Nat) : colEntries src dead =
    if src / 64 < dead / 64 ∧ dead / 64 < 71 then [colWay dead (dead / 64 + 1) 71]
    else if dead / 64 < src / 64 ∧ 0 < dead / 64 then [colWay dead 0 (dead / 64 - 1)] else [] := rfl

/-- A row entry by a row next to the source's goes round a dead router of that row. -/
theorem rowWay_goesRound {rLo rHi viaRow : Nat} (hrow : dead / 64 = src / 64) (hcol : dead % 64 ≠ src % 64) (hdst : d ≠ dead) (hvia : viaRow < 72) (hr : rLo < 72)
    (hr' : rHi < 72) (hside : viaRow + 1 = src / 64 ∧ rHi ≤ src / 64 ∨ viaRow = src / 64 + 1 ∧ src / 64 ≤ rLo) :
    (rowWay src dead rLo rHi viaRow).GoesRound src dead d := by
  refine ⟨?_, rfl, fun hcov => ?_⟩
  · simp only [DetourE.fits, rowWay]
    split_ifs <;> omega
  · rw [DetourE.covers_iff] at hcov
    rw [DetourE.avoids, mem_xyPath, mem_xyPath, DetourE.via]
    simp only [rowWay, Bool.false_eq_true, if_false] at hcov ⊢
    omega

/-- A column entry beyond a dead router goes round it. -/
theorem colWay_goesRound {rLo rHi : Nat} (hr : rLo < 72) (hr' : rHi < 72)
    (hside : src / 64 < dead / 64 ∧ dead / 64 < rLo ∨ rHi < dead / 64 ∧ dead / 64 < src / 64) :
    (colWay dead rLo rHi).GoesRound src dead d := by
  have hnext : (if dead % 64 = 63 then 62 else dead % 64 + 1) < 64 ∧ (if dead % 64 = 63 then 62 else dead % 64 + 1) ≠ dead % 64 := by
    split_ifs <;> omega
  refine ⟨?_, rfl, fun hcov => ?_⟩
  · simp only [DetourE.fits, colWay]
    omega
  · rw [DetourE.covers_iff] at hcov
    rw [DetourE.avoids, mem_xyPath, mem_xyPath, DetourE.via]
    simp only [colWay, if_true] at hcov ⊢
    omega

/-- The ways of a source around one dead router. -/
def waysAround (src dead : Nat) : List DetourE := rowEntries src dead ++ colEntries src dead

/-- Every way goes round the dead router. -/
theorem waysAround_goRound (hsrc : src < 4608) (hdst : d ≠ dead) : ∀ e ∈ waysAround src dead, e.GoesRound src dead d := by
  intro e he
  rcases List.mem_append.mp he with he | he
  · by_cases hrow : dead / 64 = src / 64 ∧ dead % 64 ≠ src % 64
    · rw [rowEntries_of hrow, List.mem_cons] at he
      rcases he with rfl | he
      · by_cases htop : src / 64 = 71
        · rw [if_pos htop]
          exact rowWay_goesRound hrow.1 hrow.2 hdst (by omega) (by omega) (by omega) (.inl ⟨by omega, by omega⟩)
        · rw [if_neg htop]
          exact rowWay_goesRound hrow.1 hrow.2 hdst (by omega) (by omega) (by omega) (.inr ⟨rfl, Nat.le_refl _⟩)
      · by_cases hbottom : src / 64 = 0
        · rw [if_pos hbottom] at he
          cases he
        · rw [if_neg hbottom, List.mem_singleton] at he
          subst he
          exact rowWay_goesRound hrow.1 hrow.2 hdst (by omega) (by omega) (by omega) (.inl ⟨by omega, by omega⟩)
    · rw [rowEntries_nil hrow] at he
      cases he
  · rw [colEntries_eq] at he
    split_ifs at he with hup hdown
    · obtain rfl := List.mem_singleton.mp he
      exact colWay_goesRound (by omega) (by omega) (.inl ⟨hup.1, Nat.lt_succ_self _⟩)
    · obtain rfl := List.mem_singleton.mp he
      exact colWay_goesRound (by omega) (by omega) (.inr ⟨by omega, hdown.1⟩)
    · cases he

/-- Some way covers every destination whose XY route meets the dead router. -/
theorem exists_way (hd : d < 4608) (hsrc : src ≠ dead) (hdst : d ≠ dead) (h : dead ∈ xyPath src d) : ∃ e ∈ waysAround src dead, e.covers d = true := by
  simp only [waysAround, List.mem_append]
  rw [mem_xyPath] at h
  by_cases hrow : dead / 64 = src / 64 ∧ dead % 64 ≠ src % 64
  · rw [rowEntries_of hrow]
    by_cases hlow : d / 64 < src / 64
    · rw [if_neg (by omega : ¬ src / 64 = 0)]
      refine ⟨_, .inl (List.mem_cons_of_mem _ (List.mem_singleton_self _)), DetourE.covers_iff.mpr ?_⟩
      simp only [rowWay]
      split_ifs <;> omega
    · refine ⟨_, .inl List.mem_cons_self, DetourE.covers_iff.mpr ?_⟩
      simp only [rowWay]
      split_ifs <;> omega
  · rw [colEntries_eq]
    by_cases hup : src / 64 < dead / 64
    · rw [if_pos ⟨hup, by omega⟩]
      refine ⟨_, .inr (List.mem_singleton_self _), DetourE.covers_iff.mpr ?_⟩
      simp only [colWay]
      omega
    · rw [if_neg (fun hc => hup hc.1), if_pos ⟨by omega, by omega⟩]
      refine ⟨_, .inr (List.mem_singleton_self _), DetourE.covers_iff.mpr ?_⟩
      simp only [colWay]
      omega

/-! ### The entries of a router -/

/-- The entry for the dead router itself (R54). -/
def ownEntry (dead : Nat) : DetourE :=
  { cLo := dead % 64, cHi := dead % 64, rLo := dead / 64, rHi := dead / 64, unreach := true, deadDest := true }

/-- With one dead router: its own entry, then each way after its refusals. -/
def detoursOf (src dead : Nat) : List DetourE := ownEntry dead :: (waysAround src dead).flatMap (fun e => e.refused src dead ++ [e])

theorem length_waysAround (src dead : Nat) : (waysAround src dead).length ≤ 3 := by
  have hrow : (rowEntries src dead).length ≤ 2 := by
    unfold rowEntries
    dsimp only
    split_ifs <;> simp
  have hcol : (colEntries src dead).length ≤ 1 := by
    unfold colEntries
    dsimp only
    split_ifs <;> simp
  rw [waysAround, List.length_append]
  omega

/-- One dead router takes few of a router's 24 entries. -/
theorem length_detoursOf (src dead : Nat) : (detoursOf src dead).length ≤ 24 := by
  have hways : ((waysAround src dead).flatMap (fun e => e.refused src dead ++ [e])).length ≤ (waysAround src dead).length * 2 := by
    rw [List.length_flatMap]
    refine (List.sum_le_card_nsmul _ 2 fun n hn => ?_).trans (by rw [List.length_map, smul_eq_mul])
    obtain ⟨e, -, rfl⟩ := List.mem_map.mp hn
    rw [List.length_append, List.length_singleton]
    exact Nat.succ_le_succ (length_refused e src dead)
  have := length_waysAround src dead
  rw [detoursOf, List.length_cons]
  omega

theorem detourList_one (dead src : Nat) : detourList [dead] src = dropCovered [] (detoursOf src dead) := by
  have h : detourList [dead] src = (dropCovered [] (detoursOf src dead)).take 24 := by
    simp [detourList, detoursOf, waysAround, ownEntry]
  rw [h, List.take_of_length_le ((dropCovered_sublist _ _).length_le.trans (length_detoursOf src dead))]

theorem covers_ownEntry (hdst : d ≠ dead) : (ownEntry dead).covers d = false := by
  by_contra h
  rw [Bool.not_eq_false, DetourE.covers_iff] at h
  simp only [ownEntry] at h
  omega

theorem fits_detoursOf (hdead : dead < 4608) (hways : ∀ e ∈ waysAround src dead, e.fits) : ∀ e ∈ detoursOf src dead, e.fits := by
  refine List.forall_mem_cons.mpr ⟨?_, fun x hx => ?_⟩
  · simp only [DetourE.fits, ownEntry]
    omega
  · obtain ⟨e, he, hx⟩ := List.mem_flatMap.mp hx
    rcases List.mem_append.mp hx with hx | hx
    · exact fits_of_mem_refused (hways e he) hx
    · rw [List.mem_singleton.mp hx]
      exact hways e he

/-- The first entry that covers a destination is the first of the ways that do. -/
theorem find?_detoursOf (hdst : d ≠ dead) (hways : ∀ e ∈ waysAround src dead, e.GoesRound src dead d) :
    (dropCovered [] (detoursOf src dead)).find? (·.covers d) = (waysAround src dead).find? (·.covers d) := by
  rw [find?_dropCovered _ [] (List.forall_mem_nil _), detoursOf, List.find?_cons, covers_ownEntry hdst]
  exact find?_ways _ hways

/-- With one dead router, every destination whose XY route meets it has its first entry among the ways around it (R53 to R55). -/
theorem oneDeadRouterIsAvoided : Claims.OneDeadRouterIsAvoided := by
  intro dead src dst hdead hsrc hdst hsd hdd hmem
  have hways := waysAround_goRound (dead := dead) hsrc hdd
  have hfits : ∀ e ∈ dropCovered [] (detoursOf src dead), e.fits := fun e he =>
    fits_detoursOf hdead (fun e he => (hways e he).fits) e ((dropCovered_sublist _ _).subset he)
  obtain ⟨e, hfind⟩ : ∃ e, (waysAround src dead).find? (·.covers dst) = some e := by
    obtain ⟨e, he, hcov⟩ := exists_way hdst hsd hdd hmem
    exact Option.isSome_iff_exists.mp (List.find?_isSome.mpr ⟨e, he, hcov⟩)
  obtain ⟨hfit, hreaches, havoid⟩ := hways e (List.mem_of_find?_eq_some hfind)
  obtain ⟨hleg, hleg'⟩ := havoid (List.find?_some (p := fun x : DetourE => x.covers dst) hfind)
  refine ⟨e.word, ?_, bit_word_unreach.trans hreaches, ?_, ?_⟩
  · have hfirst : (dropCovered [] (detoursOf src dead)).find? ((fun w => detourHits w dst) ∘ DetourE.word) = some e := by
      rw [← hfind, ← find?_detoursOf hdd hways]
      exact List.find?_congr fun x hx => detourHits_word (hfits x hx)
    rw [detourList_one, List.find?_map, hfirst]
    rfl
  · rwa [detourVia_word hfit]
  · rwa [detourVia_word hfit]

/-- Settles O22: an XY route by its two legs, and a detour by the first of the ways around the dead router. -/
theorem networkRoutes : Obligations.NetworkRoutes :=
  ⟨xyRoutesAreConnectedAndShortest, oneDeadRouterIsAvoided⟩

end Sys2Proof.Machine
end

section
/-! SUPPORT. Requests in the mesh: how one is refused, held or sent, what a hop and a delivery do, and the statement on them (R42 to R45, R50, R51, R53, R58,
R75, R76, R281, R283). -/

namespace Sys2Proof.Machine

open Sys2Proof.Claims (routedTo rearmed)

variable {s : State} {id : Nat} {r : Req}

/-! ### Refusals (R75, R76, R281, R283) -/

/-- A request that ends before it travels. -/
def Req.ended (r : Req) (st : Status) : Req := { r with phase := .arrived, status := st, data := [] }

/-- A request ends at its requester, but for the faults that the pager serves. -/
theorem State.endReq_arrives {st : Status} (hsrc : r.src ≠ .gone) (hst : pagerServes st = false) :
    s.endReq id r st = s.setReq id (some (r.ended st)) := by
  unfold State.endReq
  dsimp only
  rw [if_neg (fun h => by rw [hst] at h; exact absurd h.2.1 Bool.false_ne_true), if_neg hsrc]
  rfl

section
variable (hglobal : isGlobal r.addr = false)
include hglobal

theorem Req.refusal_noRegion (hreg : localRegion r.addr = none) (hp : r.priv ≠ .task) : r.refusal = some St.memRange := by
  simp [Req.refusal, hglobal, hreg, hp]

theorem Req.refusal_dev_task {o : Nat} (hreg : localRegion r.addr = some (.dev o)) (hp : r.priv = .task) : r.refusal = some St.privilege := by
  simp [Req.refusal, hglobal, hreg, hp]

theorem Req.refusal_dev_amo {o : Nat} {op : AmoOp} (hreg : localRegion r.addr = some (.dev o)) (hp : r.priv ≠ .task) (hop : r.op = .amo op) :
    r.refusal = some St.unsupported := by
  simp [Req.refusal, hglobal, hreg, hp, hop]

theorem Req.refusal_loft_write {a : Nat} (hreg : localRegion r.addr = some (.loft a)) (hop : r.op.isWrite = true) :
    r.refusal = some St.unsupported := by
  simp [Req.refusal, hglobal, hreg, hop]

end

/-! ### Injection (R42 to R45, R47, R53) -/

section
variable (hreq : s.req id = some r) (hphase : r.phase = .issued) (hsrc : r.src ≠ .gone)
include hreq hphase hsrc

theorem exec_netInject_refused {st : Status} (href : r.refusal = some st) (hst : pagerServes st = false) :
    exec (.netInject id) s = .next (s.setReq id (some (r.ended st))) := by
  show execNetInject id s = _
  simp only [execNetInject, hreq, hphase, hsrc, href, ne_eq, not_true_eq_false, or_self, if_false, State.endReq_arrives hsrc hst]

/-- A translated request with nothing older before it takes its route. -/
theorem exec_netInject_admitted {pa : Nat} (href : r.refusal = none) (hheld : s.heldBy id r = false)
    (hpa : if isGlobal r.addr = false ∧ r.window = true then s.xlate r.src.ps r.task r.addr r.priv r.op.isWrite = .done pa else pa = r.addr) :
    exec (.netInject id) s = .next (s.inject id r pa) := by
  show execNetInject id s = _
  simp only [execNetInject, hreq, hphase, hsrc, href, hheld, ne_eq, not_true_eq_false, or_self, Bool.false_eq_true, if_false, Bool.and_eq_true,
    Bool.not_eq_true']
  split_ifs at hpa ⊢ with hwindow
  · rw [hpa]
  · rw [hpa]

end

section
variable {pa d : Nat} (hroute : routedTo s r pa d) (hopen : (s.nodeAt r.src.node).fenced = false) (hlive : (s.nodeAt r.src.node).dead = false)
include hroute hopen hlive

/-- At an open port, a request goes by the first detour entry of its node that covers its destination, or straight. -/
theorem State.inject_open : s.inject id r pa = ((s.nodeAt r.src.node).detour d).elim
    (if s.routeHeld r d none then s else s.launch id r pa (xyPath r.src.node d) none)
    (fun w => if bit w 62 then s.endReq id r (if bit w 61 then St.netNodeDead else St.netUnreachable)
      else if s.routeHeld r d (some (detourVia w d)) then s
      else s.launch id r pa (xyPath r.src.node (detourVia w d) ++ (xyPath (detourVia w d) d).tail)
        (some ((xyPath r.src.node (detourVia w d)).length - 1))) := by
  unfold State.inject
  unfold routedTo at hroute
  simp only [hopen, hlive, Bool.false_and, Bool.or_self, Bool.false_eq_true, if_false]
  cases hdest : s.destOf r pa with
  | node gi =>
    rw [hdest] at hroute
    obtain rfl : d = nodePos gi := hroute
    simp only
    cases (s.nodeAt r.src.node).detour (nodePos gi) <;> rfl
  | die n =>
    rw [hdest] at hroute
    have hentry : s.entry n r.src.node = some d := hroute
    simp only [hentry]
    cases (s.nodeAt r.src.node).detour d <;> rfl

theorem State.inject_straight (hd : (s.nodeAt r.src.node).detour d = none) (hheld : s.routeHeld r d none = false) :
    s.inject id r pa = s.launch id r pa (xyPath r.src.node d) none := by
  rw [State.inject_open hroute hopen hlive, hd, Option.elim_none, hheld, if_neg Bool.false_ne_true]

theorem State.inject_via {w : Word} (hd : (s.nodeAt r.src.node).detour d = some w) (hw : bit w 62 = false)
    (hheld : s.routeHeld r d (some (detourVia w d)) = false) : s.inject id r pa =
      s.launch id r pa (xyPath r.src.node (detourVia w d) ++ (xyPath (detourVia w d) d).tail)
        (some ((xyPath r.src.node (detourVia w d)).length - 1)) := by
  rw [State.inject_open hroute hopen hlive, hd, Option.elim_some, hw, hheld, if_neg Bool.false_ne_true, if_neg Bool.false_ne_true]

theorem State.inject_unreachable {w : Word} (hd : (s.nodeAt r.src.node).detour d = some w) (hw : bit w 62 = true) :
    s.inject id r pa = s.endReq id r (if bit w 61 then St.netNodeDead else St.netUnreachable) := by
  rw [State.inject_open hroute hopen hlive, hd, Option.elim_some, if_pos hw]

end

/-- Requests enter the network as R42 to R45, R53, R75, R76, R281 and R283 say. -/
theorem networkInjection : Claims.NetworkInjection := by
  intro s id r hreq hphase hsrc
  refine ⟨fun hlocal => ⟨fun hreg hp => ?_, fun o hreg hp => ?_, fun o hreg hp hop => ?_, fun a hreg hop => ?_⟩, fun pa d href hpa hroute => ?_⟩
  · exact exec_netInject_refused hreq hphase hsrc (Req.refusal_noRegion hlocal hreg hp) (by decide)
  · exact exec_netInject_refused hreq hphase hsrc (Req.refusal_dev_task hlocal hreg hp) (by decide)
  · obtain ⟨op, hop⟩ := hop
    exact exec_netInject_refused hreq hphase hsrc (Req.refusal_dev_amo hlocal hreg hp hop) (by decide)
  · exact exec_netInject_refused hreq hphase hsrc (Req.refusal_loft_write hlocal hreg hop) (by decide)
  · refine ⟨fun hd hmay => ?_, fun w hd hw hmay => ?_, fun w hd hw hopen hlive hheld => ?_⟩
    · obtain ⟨hopen, hlive, hheld, hway⟩ := hmay
      rw [exec_netInject_admitted hreq hphase hsrc href hheld hpa, State.inject_straight hroute hopen hlive hd hway]
      exact ⟨_, rfl⟩
    · obtain ⟨hopen, hlive, hheld, hway⟩ := hmay
      rw [exec_netInject_admitted hreq hphase hsrc href hheld hpa, State.inject_via hroute hopen hlive hd hw hway]
      exact ⟨_, _, rfl⟩
    · rw [exec_netInject_admitted hreq hphase hsrc href hheld hpa, State.inject_unreachable hroute hopen hlive hd hw,
        State.endReq_arrives hsrc (by split_ifs <;> decide)]
      rfl

/-! ### Hops and delivery (R42, R43, R47, R50, R51, R58) -/

section
variable (hreq : s.req id = some r)
include hreq

/-- A request that stands at a node of its path with another ahead is moved by NET_HOP. -/
theorem exec_netHop {b : Nat} (hphase : r.phase = .mesh) (hb : r.path[r.pos + 1]? = some b) (f : Flit) :
    exec (.netHop id f) s = .next (s.hop id r f) := by
  obtain ⟨hlt, -⟩ := List.getElem?_eq_some_iff.mp hb
  show execNetHop id f s = _
  simp only [execNetHop, hreq, hphase, hlt, true_and, true_or, if_true]

/-- A request at the last node of its path is taken there. -/
theorem exec_netDeliver_there (hphase : r.phase = .mesh) (hend : r.pos + 1 = r.path.length) :
    exec (.netDeliver id) s = .next (rearmed (s.deliverReq id r)) := by
  show execNetDeliver id s = _
  simp only [execNetDeliver, hreq, hphase, hend, and_self, if_true]
  rfl

/-- A response at the first node of its path is taken there. -/
theorem exec_netDeliver_home (hphase : r.phase = .back) (hpos : r.pos = 0) : exec (.netDeliver id) s = .next (s.deliverRsp id r) := by
  show execNetDeliver id s = _
  simp [execNetDeliver, hreq, hphase, hpos]

end

section
variable {a b : Nat} (hphase : r.phase = .mesh) (ha : r.path[r.pos]? = some a) (hb : r.path[r.pos + 1]? = some b)
include hphase ha hb

theorem State.hop_on (hon : bit ((s.nodeAt a).reg 8) (4 + dirOf a b) = false) :
    s.hop id r .ok = (s.modNode (giAt b) (fun n => { n with seen := Map.set zeroN n.seen ((dirOf a b + 2) % 4) s.clk })).setReq id
      (some { r with pos := r.pos + 1 }) := by
  simp [State.hop, hphase, ha, hb, hon, Node.flit]

theorem State.hop_off (hoff : bit ((s.nodeAt a).reg 8) (4 + dirOf a b) = true) (f : Flit) :
    s.hop id r f = s.setReq id (some { r with phase := .lost }) := by
  simp [State.hop, hphase, ha, hb, hoff]

end

/-- A port admits a packet when it is not fenced, or for TACK under SVC (R50). -/
theorem Node.shut_eq_false_iff {n : Node} {p : Priv} : n.shut p = false ↔ n.fenced = false ∨ (bit (n.reg 8) 1 = true ∧ p = .tack) := by
  simp [Node.shut, imp_iff_not_or]

section
variable {ps off : Nat} (hfirst : s.olderOnWay r = false) (hlocal : isGlobal r.addr = false) (hreg : localRegion r.addr = some (.scratch ps off))
include hfirst hlocal hreg

/-- What the port of a stall does with a packet for its scratch, by the checks of R58 in order. -/
theorem State.deliverReq_scratch : ∃ k, s.deliverReq id r =
    if (s.nodeAt (r.path.getLastD 0)).shut r.priv then s.answer id { r with status := 0 } St.netDestFenced []
    else if r.status = St.netFlitUe then s.answer id { r with status := 0 } St.netFlitUe []
    else s.setReq id (some { r with phase := .endpoint, inj := k }) := by
  unfold State.deliverReq
  simp only [hfirst, hlocal, hreg, Bool.false_eq_true, if_false]
  exact ⟨_, rfl⟩

end

/-- Packets hop and are delivered as R42, R43, R50, R51 and R58 say. -/
theorem networkTransport : Claims.NetworkTransport := by
  intro s id r hreq
  refine ⟨fun a b hphase ha hb => ⟨fun hon => ?_, fun hoff f => ?_⟩, fun ps off hphase hend hfirst hlocal hreg => ⟨fun hshut => ?_, fun hopen hue => ?_,
    fun hopen hue => ?_⟩, fun hphase hpos hsrc => ⟨fun hopen => ?_, fun hshut => ?_⟩, fun p hphase hpos hp => ?_⟩
  · rw [exec_netHop hreq hphase hb, State.hop_on hphase ha hb hon]
  · rw [exec_netHop hreq hphase hb, State.hop_off hphase ha hb hoff]
  · obtain ⟨k, hthere⟩ := State.deliverReq_scratch (id := id) hfirst hlocal hreg
    rw [← Node.shut_eq_false_iff, Bool.not_eq_false] at hshut
    rw [exec_netDeliver_there hreq hphase hend, hthere, if_pos hshut]
    rfl
  · obtain ⟨k, hthere⟩ := State.deliverReq_scratch (id := id) hfirst hlocal hreg
    rw [← Node.shut_eq_false_iff] at hopen
    rw [exec_netDeliver_there hreq hphase hend, hthere, hopen, if_neg Bool.false_ne_true, if_pos hue]
    rfl
  · obtain ⟨k, hthere⟩ := State.deliverReq_scratch (id := id) hfirst hlocal hreg
    rw [← Node.shut_eq_false_iff] at hopen
    rw [exec_netDeliver_there hreq hphase hend, hthere, hopen, if_neg Bool.false_ne_true, if_neg hue]
    exact ⟨_, rfl⟩
  · rw [exec_netDeliver_home hreq hphase hpos, State.deliverRsp, if_neg hsrc, Node.shut_eq_false_iff.mpr hopen, if_neg Bool.false_ne_true]
  · rw [← Node.shut_eq_false_iff, Bool.not_eq_false] at hshut
    rw [exec_netDeliver_home hreq hphase hpos, State.deliverRsp, if_neg hsrc, if_pos hshut]
  · show execNetBadTail id s = _
    simp [execNetBadTail, hreq, hphase, hpos, hp]

/-- Settles O21: the checks of injection and delivery in their order, with the route of each case. -/
theorem networkRequests : Obligations.NetworkRequests :=
  ⟨networkInjection, networkTransport⟩

end Sys2Proof.Machine
end

section
/-! SUPPORT. Routers: their registers under writes, dead routers, detour tables and sweeps (R49 to R56). -/

namespace Sys2Proof.Machine

open Sys2Proof.Claims (netTidy)

/-! ### Folds that attain something for each element -/

/-- What each step of a fold makes of its own element, and every other step keeps, holds of all elements at the end. -/
theorem foldl_attains {σ α : Type} {f : σ → α → σ} {P : σ → Prop} {Q : α → σ → Prop} {l : List α} {s : σ} (hs : P s)
    (hP : ∀ a ∈ l, ∀ s, P s → P (f s a)) (hmake : ∀ a ∈ l, ∀ s, P s → Q a (f s a))
    (hkeep : ∀ a ∈ l, ∀ b ∈ l, a ≠ b → ∀ s, P s → Q a s → Q a (f s b)) : P (l.foldl f s) ∧ ∀ a ∈ l, Q a (l.foldl f s) := by
  induction l using List.reverseRecOn with
  | nil => exact ⟨hs, fun a ha => absurd ha List.not_mem_nil⟩
  | append_singleton l b ih =>
    simp only [List.forall_mem_append, List.forall_mem_singleton] at hP hmake hkeep
    obtain ⟨hPl, hPb⟩ := hP
    obtain ⟨hmakel, hmakeb⟩ := hmake
    obtain ⟨hkeepl, -⟩ := hkeep
    obtain ⟨hp, hq⟩ := ih hPl hmakel (fun a ha => (hkeepl a ha).1)
    rw [List.foldl_append, List.foldl_cons, List.foldl_nil]
    refine ⟨hPb _ hp, List.forall_mem_append.mpr ⟨fun a ha => ?_, List.forall_mem_singleton.mpr (hmakeb _ hp)⟩⟩
    by_cases hab : a = b
    · exact hab ▸ hmakeb _ hp
    · exact (hkeepl a ha).2 hab _ hp (hq a ha)

/-! ### Registers of a router (R56) -/

variable {s : State}

theorem Node.reg_setReg_self {n : Node} (h : Map.wf (resetOf netRegs) n.csr = true) (o : Nat) (v : Word) : (n.setReg o v).reg o = v :=
  Map.get_set_self (resetOf netRegs) o v h

theorem Node.reg_setReg_of_ne (n : Node) {o k : Nat} (v : Word) (h : k ≠ o) : (n.setReg o v).reg k = n.reg k :=
  Map.get_set_of_ne (resetOf netRegs) n.csr v h

theorem State.node_modNode_self (h : netTidy s) (i : Nat) (f : Node → Node) : (s.modNode i f).node i = f (s.node i) :=
  State.node_setNode_self h.1 i _

theorem State.node_modNode_of_ne (s : State) {i j : Nat} (f : Node → Node) (h : j ≠ i) : (s.modNode i f).node j = s.node j :=
  State.node_setNode_of_ne s _ h

/-- What a change of one router keeps of every router, no router loses. -/
theorem State.node_modNode_keeps {α : Type} (h : netTidy s) (p : Node → α) {f : Node → Node} (hf : ∀ n, p (f n) = p n) (i j : Nat) :
    p ((s.modNode i f).node j) = p (s.node j) := by
  by_cases hij : j = i
  · rw [hij, State.node_modNode_self h, hf]
  · rw [State.node_modNode_of_ne s f hij]

theorem netTidy_modNode (h : netTidy s) (i : Nat) {f : Node → Node}
    (hf : ∀ n, Map.wf (resetOf netRegs) n.csr = true → Map.wf (resetOf netRegs) (f n).csr = true) : netTidy (s.modNode i f) := by
  obtain ⟨hnodes, hcsr⟩ := h
  refine ⟨Map.wf_set _ _ _ hnodes, fun j => ?_⟩
  by_cases hij : j = i
  · rw [hij, State.node_modNode_self ⟨hnodes, hcsr⟩]
    exact hf _ (hcsr i)
  · rw [State.node_modNode_of_ne s f hij]
    exact hcsr j

end Sys2Proof.Machine
end

section
/-! SUPPORT. Dead routers, their detours and their sweep, and the fences and sweeps of a NET page (R49, R51, R52, R54, R56). -/

namespace Sys2Proof.Machine

open Sys2Proof.Claims (netTidy)

variable {s : State}

/-! ### Silent inputs and keepalives (R51) -/

theorem exec_netLinkTimeout {gi dir b : Nat} (hb : neighbour (nodePos gi) dir = some b) (hquiet : Map.get zeroN (s.node gi).seen dir + 4096 ≤ s.clk) :
    exec (.netLinkTimeout gi dir) s = .next ((s.modNode gi (fun n =>
      { n.setReg 0x18 (n.reg 0x18 ||| 8) with linkDown := n.linkDown ||| BitVec.ofNat 4 (2 ^ dir) })).modNode (giAt b) (fun n => { n with reported := true })) := by
  show execNetLinkTimeout gi dir s = _
  unfold execNetLinkTimeout
  rw [if_neg (Nat.not_lt.mpr hquiet)]
  simp only [hb]

theorem exec_netKeepalive {gi dir b : Nat} (hb : neighbour (nodePos gi) dir = some b) (hlive : (s.node gi).dead = false) :
    exec (.netKeepalive gi dir) s = .next (s.modNode (giAt b) (fun n => { n with seen := Map.set zeroN n.seen ((dir + 2) % 4) s.clk })) := by
  show execNetKeepalive gi dir s = _
  simp only [execNetKeepalive, hb, hlive, Bool.false_eq_true, if_false]

/-! ### A router marked dead (R51) -/

/-- The neighbour in a direction sets PORT_OFF toward a router. -/
def State.cutToward (gi : Nat) (s : State) (d : Nat) : State :=
  match neighbour (nodePos gi) d with
  | some b => s.modNode (giAt b) (fun m => m.setReg 8 (m.reg 8 ||| place (4 + (d + 2) % 4) (4 + (d + 2) % 4) 1))
  | none => s

theorem State.markDead_live {gi : Nat} (hlive : (s.node gi).dead = false) (hfew : s.deadNodes.length < 8) : s.markDead gi =
    (List.range 4).foldl (State.cutToward gi) ((s.setNode gi { s.node gi with dead := true }).report
      { status := St.netNodeDead, cls := 6, sev := 2, unit := 8, id := nodePos gi }) := by
  unfold State.markDead
  simp only [hlive, Nat.not_le.mpr hfew, Bool.false_eq_true, if_false]
  rfl

section
variable (h : netTidy s) (gi d : Nat)
include h

theorem netTidy_cutToward : netTidy (s.cutToward gi d) := by
  unfold State.cutToward
  split
  · exact netTidy_modNode h _ (fun n hn => Safety.nodeOk_setReg hn _ _)
  · exact h

theorem State.dead_cutToward (j : Nat) : ((s.cutToward gi d).node j).dead = (s.node j).dead := by
  unfold State.cutToward
  split
  · exact State.node_modNode_keeps h Node.dead (f := fun m => m.setReg _ _) (fun _ => rfl) _ _
  · rfl

/-- PORT_OFF bits are only ever added. -/
theorem State.bit_cutToward (j : Nat) {i : Nat} (hi : bit ((s.node j).reg 8) i = true) : bit (((s.cutToward gi d).node j).reg 8) i = true := by
  unfold State.cutToward
  split
  · next b _ =>
    by_cases hj : j = giAt b
    · subst hj
      rw [State.node_modNode_self h, Node.reg_setReg_self (h.2 _), bit_or, hi, Bool.true_or]
    · rw [State.node_modNode_of_ne s _ hj, hi]
  · exact hi

theorem State.bit_cutToward_self {b : Nat} (hb : neighbour (nodePos gi) d = some b) :
    bit (((s.cutToward gi d).nodeAt b).reg 8) (4 + (d + 2) % 4) = true := by
  simp only [State.cutToward, hb, State.nodeAt]
  rw [State.node_modNode_self h, Node.reg_setReg_self (h.2 _), bit_or, bit_place_one (by omega), Bool.or_true]

end

theorem netTidy_setDead (h : netTidy s) (gi : Nat) : netTidy (s.setNode gi { s.node gi with dead := true }) :=
  netTidy_modNode (f := fun n => { n with dead := true }) h gi (fun _ hn => hn)

/-- A router that is marked is dead, and each neighbour's port toward it is off. -/
theorem State.markDead_spec {gi : Nat} (h : netTidy s) (hlive : (s.node gi).dead = false) (hfew : s.deadNodes.length < 8) :
    ((s.markDead gi).node gi).dead = true ∧
      ∀ d < 4, ∀ b, neighbour (nodePos gi) d = some b → bit (((s.markDead gi).nodeAt b).reg 8) (4 + (d + 2) % 4) = true := by
  rw [State.markDead_live hlive hfew]
  obtain ⟨a, ha⟩ := State.report_eq (s.setNode gi { s.node gi with dead := true }) { status := St.netNodeDead, cls := 6, sev := 2, unit := 8, id := nodePos gi }
  have hset := netTidy_setDead h gi
  have hdead : ((s.setNode gi { s.node gi with dead := true }).node gi).dead = true := by rw [State.node_setNode_self h.1]
  obtain ⟨⟨-, hdead⟩, hoff⟩ := foldl_attains (f := State.cutToward gi) (l := List.range 4)
    (P := fun t => netTidy t ∧ (t.node gi).dead = true)
    (Q := fun d t => ∀ b, neighbour (nodePos gi) d = some b → bit ((t.nodeAt b).reg 8) (4 + (d + 2) % 4) = true)
    (s := { s.setNode gi { s.node gi with dead := true } with tack := a }) ⟨hset, hdead⟩
    (fun d _ t ⟨ht, hdead⟩ => ⟨netTidy_cutToward ht gi d, (State.dead_cutToward ht gi d gi).trans hdead⟩)
    (fun d _ t ⟨ht, _⟩ b hb => State.bit_cutToward_self ht gi d hb)
    (fun d _ e _ _ t ⟨ht, _⟩ hq b hb => State.bit_cutToward ht gi e _ (hq b hb))
  rw [ha]
  exact ⟨hdead, fun d hd => hoff d (List.mem_range.mpr hd)⟩

/-! ### Detour tables (R54) -/

/-- A router takes a list of entries. -/
def State.loadTable (gi : Nat) (es : List Word) (s : State) : State :=
  (List.range 24).foldl (fun s k => s.modNode gi (fun n => n.setReg (0x100 + 8 * k) (es.getD k 0))) s

/-- What a router's table holds after a list of entries is loaded. -/
def Node.holds (n : Node) (es : List Word) : Prop := ∀ k < 24, n.reg (0x100 + 8 * k) = es.getD k 0

theorem State.loadTable_spec (h : netTidy s) (gi : Nat) (es : List Word) : netTidy (s.loadTable gi es) ∧ ((s.loadTable gi es).node gi).holds es := by
  obtain ⟨ht, hq⟩ := foldl_attains (f := fun s k => s.modNode gi (fun n => n.setReg (0x100 + 8 * k) (es.getD k 0))) (l := List.range 24) (P := netTidy)
    (Q := fun k t => (t.node gi).reg (0x100 + 8 * k) = es.getD k 0) h
    (fun k _ t ht => netTidy_modNode ht gi (fun n hn => Safety.nodeOk_setReg hn _ _))
    (fun k _ t ht => by rw [State.node_modNode_self ht, Node.reg_setReg_self (ht.2 _)])
    (fun _ _ j _ hkj t ht hq => by rw [State.node_modNode_self ht, Node.reg_setReg_of_ne _ _ (by omega), hq])
  exact ⟨ht, fun k hk => hq k (List.mem_range.mpr hk)⟩

theorem State.loadTable_node_of_ne {gi j : Nat} (hj : j ≠ gi) (es : List Word) : (s.loadTable gi es).node j = s.node j :=
  List.foldlRecOn (motive := fun t : State => t.node j = s.node j) _ _ rfl (fun t ht _ _ => (State.node_modNode_of_ne t _ hj).trans ht)

theorem State.loadTable_eq (gi : Nat) (es : List Word) : ∃ m, s.loadTable gi es = { s with nodes := m } :=
  List.foldlRecOn (motive := fun t : State => ∃ m, t = { s with nodes := m }) _ _ ⟨_, rfl⟩ (by rintro t ⟨m, rfl⟩ k -; exact ⟨_, rfl⟩)

/-- The entries that DETOUR_INSTALL writes into a router. -/
def detourWords (deads : List Nat) (gi : Nat) : List Word := (detourList deads (nodePos gi)).map DetourE.word

theorem State.installDetours_eq_foldl :
    s.installDetours = (List.range 4608).foldl (fun t gi => t.loadTable gi (detourWords s.deadNodes gi)) s := rfl

theorem State.installDetours_holds (h : netTidy s) : ∀ gi < 4608, (s.installDetours.node gi).holds (detourWords s.deadNodes gi) := by
  rw [State.installDetours_eq_foldl]
  obtain ⟨-, hq⟩ := foldl_attains (f := fun t gi => t.loadTable gi (detourWords s.deadNodes gi)) (l := List.range 4608) (P := netTidy)
    (Q := fun gi t => (t.node gi).holds (detourWords s.deadNodes gi)) h
    (fun gi _ t ht => (State.loadTable_spec ht _ _).1)
    (fun gi _ t ht => (State.loadTable_spec ht _ _).2)
    (fun gi _ j _ hne t _ hq => by rw [State.loadTable_node_of_ne hne]; exact hq)
  exact fun gi hgi => hq gi (List.mem_range.mpr hgi)

theorem State.installDetours_eq : ∃ m, s.installDetours = { s with nodes := m } := by
  rw [State.installDetours_eq_foldl]
  refine List.foldlRecOn (motive := fun t : State => ∃ m, t = { s with nodes := m }) _ _ ⟨_, rfl⟩ ?_
  rintro t ⟨m, rfl⟩ gi -
  obtain ⟨m', hm'⟩ := State.loadTable_eq (s := { s with nodes := m }) gi (detourWords s.deadNodes gi)
  exact ⟨m', hm'⟩

end Sys2Proof.Machine
end

section
/-! SUPPORT. Sweeps of requests whose way holds a dead router, and the statement on dead routers, fences and sweeps (R49, R51, R52, R54, R56). -/

namespace Sys2Proof.Machine

open Sys2Proof.Claims (netTidy onWay answered)

variable {s : State}

/-! ### Sweeps (R52) -/

/-- A request that a sweep has completed. -/
def Req.swept (r : Req) : Req := { r with phase := .arrived, status := St.netNodeDead, data := [], path := [] }

/-- A sweep completes one request. -/
def State.sweepOne (s : State) (e : Nat × Req) : State :=
  match e.2.src with
  | .groomLoad gi _ => (s.endReq e.1 { e.2 with path := [] } St.netNodeDead).modGroom gi (fun g => { g with gen := (g.gen + 1) % 4 })
  | .groomStore gi => (s.endReq e.1 { e.2 with path := [] } St.netNodeDead).modGroom gi (fun g => { g with gen := (g.gen + 1) % 4 })
  | .slot ps _ => (s.endReq e.1 { e.2 with path := [] } St.netNodeDead).modStall ps (fun t => { t with slotGen := t.slotGen + 1 })
  | .gone => s.endReq e.1 { e.2 with path := [] } St.netNodeDead

/-- The requests that a sweep completes. -/
def Req.sweptFor (dead : Nat) (mine : Src → Bool) (r : Req) : Bool :=
  mine r.src && r.path.contains dead && decide (r.phase = .mesh ∨ r.phase = .endpoint ∨ r.phase = .global ∨ r.phase = .back ∨ r.phase = .lost)

theorem Req.sweptFor_eq_true {dead : Nat} {mine : Src → Bool} {r : Req} : r.sweptFor dead mine = true ↔ mine r.src = true ∧ dead ∈ r.path ∧ onWay r := by
  simp [Req.sweptFor, onWay, and_assoc]

theorem State.sweep_eq_foldl (dead : Nat) (mine : Src → Bool) : s.sweep dead mine = (s.reqsWhere (Req.sweptFor dead mine)).foldl State.sweepOne s := rfl

/-- Sweeping a request changes requests, and the slot generation of its groom or stall. -/
theorem State.sweepOne_eq (s : State) (e : Nat × Req) :
    ∃ x g t, s.sweepOne e = { s.setReq e.1 x with grooms := g, stalls := t } ∧ (e.2.src ≠ .gone → x = some e.2.swept) := by
  have hend : e.2.src ≠ .gone → s.endReq e.1 { e.2 with path := [] } St.netNodeDead = s.setReq e.1 (some e.2.swept) :=
    fun h => State.endReq_arrives h (by decide)
  have hgone : e.2.src = .gone → s.endReq e.1 { e.2 with path := [] } St.netNodeDead = s.setReq e.1 none := by
    intro h
    simp [State.endReq, h]
  unfold State.sweepOne
  cases hsrc : e.2.src with
  | groomLoad gi k => exact ⟨some e.2.swept, _, _, by rw [hend (by simp [hsrc])]; rfl, fun _ => rfl⟩
  | groomStore gi => exact ⟨some e.2.swept, _, _, by rw [hend (by simp [hsrc])]; rfl, fun _ => rfl⟩
  | slot ps n => exact ⟨some e.2.swept, _, _, by rw [hend (by simp [hsrc])]; rfl, fun _ => rfl⟩
  | gone => exact ⟨none, _, _, hgone hsrc, fun h => absurd rfl h⟩

theorem State.req_sweepOne_self {e : Nat × Req} (hsrc : e.2.src ≠ .gone) : (s.sweepOne e).req e.1 = some e.2.swept := by
  obtain ⟨x, g, t, he, hx⟩ := s.sweepOne_eq e
  rw [he, hx hsrc]
  exact State.req_setReq_some s _ _

theorem State.req_sweepOne_of_ne {e : Nat × Req} {id : Nat} (hid : id ≠ e.1) : (s.sweepOne e).req id = s.req id := by
  obtain ⟨x, g, t, he, -⟩ := s.sweepOne_eq e
  rw [he]
  exact State.req_setReq_of_ne s _ hid

/-- A sweep leaves routers and memory, and keeps the list of requests canonical. -/
theorem State.sweep_keeps (dead : Nat) (mine : Src → Bool) : (s.sweep dead mine).nodes = s.nodes ∧ (s.sweep dead mine).mem = s.mem ∧
    (Map.wf noneOf s.reqs = true → Map.wf noneOf (s.sweep dead mine).reqs = true) := by
  rw [State.sweep_eq_foldl]
  refine List.foldlRecOn (motive := fun t : State => t.nodes = s.nodes ∧ t.mem = s.mem ∧ (Map.wf noneOf s.reqs = true → Map.wf noneOf t.reqs = true)) _ _
    ⟨rfl, rfl, id⟩ fun t ⟨hnodes, hmem, hwf⟩ e _ => ?_
  obtain ⟨x, g, u, he, -⟩ := t.sweepOne_eq e
  rw [he]
  exact ⟨hnodes, hmem, fun h => State.wf_setReq (hwf h) _ _⟩

section
variable {dead : Nat} {mine : Src → Bool} {id : Nat} {r : Req} (hwf : Map.wf noneOf s.reqs = true) (hreq : s.req id = some r)
include hwf hreq

/-- A request that is the sweep's is completed. -/
theorem State.req_sweep (hsrc : r.src ≠ .gone) (hmine : r.sweptFor dead mine = true) : (s.sweep dead mine).req id = some r.swept := by
  rw [State.sweep_eq_foldl]
  obtain ⟨-, hall⟩ := foldl_attains (f := State.sweepOne) (l := s.reqsWhere (Req.sweptFor dead mine)) (P := fun _ => True)
    (Q := fun e t => e.2.src ≠ .gone → t.req e.1 = some e.2.swept) (s := s) trivial (fun _ _ _ _ => trivial)
    (fun e _ t _ he => State.req_sweepOne_self he)
    (fun e he j hj hne t _ hq hsrc => by
      obtain ⟨heReq, -⟩ := (State.mem_reqsWhere hwf).mp he
      obtain ⟨hjReq, -⟩ := (State.mem_reqsWhere hwf).mp hj
      have hids : e.1 ≠ j.1 := fun h => hne (Prod.ext h (Option.some.inj (by rw [← heReq, ← hjReq, h])))
      rw [State.req_sweepOne_of_ne hids, hq hsrc])
  exact hall (id, r) ((State.mem_reqsWhere hwf).mpr ⟨hreq, hmine⟩) hsrc

/-- A request that is not the sweep's is as before. -/
theorem State.req_sweep_of_not (hmine : r.sweptFor dead mine = false) : (s.sweep dead mine).req id = some r := by
  rw [State.sweep_eq_foldl]
  refine List.foldlRecOn (motive := fun t : State => t.req id = some r) _ _ hreq fun t ht e he => ?_
  obtain ⟨heReq, hsel⟩ := (State.mem_reqsWhere hwf).mp he
  have hid : id ≠ e.1 := by
    rintro rfl
    rw [hreq] at heReq
    rw [← Option.some.inj heReq, hmine] at hsel
    exact Bool.false_ne_true hsel
  rw [State.req_sweepOne_of_ne hid, ht]

end

/-- A completed request has left the mesh, so no later sweep finds it. -/
theorem Req.sweptFor_swept (r : Req) (dead : Nat) (mine : Src → Bool) : r.swept.sweptFor dead mine = false := by
  simp [Req.sweptFor, Req.swept]

/-- The sweep of each dead router in turn. -/
def State.sweepAll (s : State) (deads : List Nat) : State := deads.foldl (fun s d => s.sweep d (fun x => decide (x ≠ .gone))) s

theorem State.sweepAll_keeps (deads : List Nat) : (s.sweepAll deads).nodes = s.nodes ∧ (s.sweepAll deads).mem = s.mem :=
  List.foldlRecOn (motive := fun t : State => t.nodes = s.nodes ∧ t.mem = s.mem) _ _ ⟨rfl, rfl⟩ fun t ⟨hnodes, hmem⟩ d _ => by
    obtain ⟨hn, hm, -⟩ := State.sweep_keeps (s := t) d (fun x => decide (x ≠ .gone))
    exact ⟨hn.trans hnodes, hm.trans hmem⟩

/-- A request on its way over a dead router is completed, by the first sweep that meets it. -/
theorem State.req_sweepAll {deads : List Nat} {id : Nat} {r : Req} (hwf : Map.wf noneOf s.reqs = true) (hreq : s.req id = some r) (hsrc : r.src ≠ .gone)
    (hway : onWay r) (hdead : ∃ d ∈ deads, d ∈ r.path) : (s.sweepAll deads).req id = some r.swept := by
  have hstep (t : State) (d : Nat) (ht : Map.wf noneOf t.reqs = true) (hr : t.req id = some r) :
      (t.sweep d (fun x => decide (x ≠ .gone))).req id = some (if d ∈ r.path then r.swept else r) := by
    by_cases hd : d ∈ r.path
    · rw [if_pos hd]
      exact State.req_sweep ht hr hsrc (Req.sweptFor_eq_true.mpr ⟨decide_eq_true hsrc, hd, hway⟩)
    · rw [if_neg hd]
      exact State.req_sweep_of_not ht hr (Bool.eq_false_iff.mpr fun h => hd (Req.sweptFor_eq_true.mp h).2.1)
  have hstay (t : State) (d : Nat) (ht : Map.wf noneOf t.reqs = true) (hr : t.req id = some r.swept) :
      (t.sweep d (fun x => decide (x ≠ .gone))).req id = some r.swept := State.req_sweep_of_not ht hr (Req.sweptFor_swept _ _ _)
  obtain ⟨d, hd, hon⟩ := hdead
  obtain ⟨-, hall⟩ := foldl_attains (f := fun s d => s.sweep d (fun x => decide (x ≠ .gone))) (l := deads)
    (P := fun t => Map.wf noneOf t.reqs = true ∧ (t.req id = some r ∨ t.req id = some r.swept))
    (Q := fun d t => d ∈ r.path → t.req id = some r.swept) (s := s) ⟨hwf, .inl hreq⟩
    (fun d _ t ⟨ht, hr⟩ => ⟨(State.sweep_keeps _ _).2.2 ht, hr.elim
      (fun hr => by rw [hstep t d ht hr]; split_ifs; exacts [.inr rfl, .inl rfl]) (fun hr => .inr (hstay t d ht hr))⟩)
    (fun d _ t ⟨ht, hr⟩ hd => hr.elim (fun hr => by rw [hstep t d ht hr, if_pos hd]) (hstay t d ht))
    (fun d _ e _ _ t ⟨ht, _⟩ hq hd => hstay t e ht (hq hd))
  exact hall d hd hon

theorem exec_detourInstall : exec .detourInstall s = .next (s.installDetours.sweepAll s.deadNodes) := rfl

/-- Dead routers are reported, marked, routed around and swept as R51, R52, R54 and R56 say. -/
theorem deadRoutersAreCutOff : Claims.DeadRoutersAreCutOff := by
  intro s htidy
  refine ⟨fun gi dir b _ _ hb hquiet => ?_, fun gi dir b hb hlive => exec_netKeepalive hb hlive, fun gi _ hrep hlive hfew => ?_, ?_⟩
  · have hfirst := netTidy_modNode (f := fun n => { n.setReg 0x18 (n.reg 0x18 ||| 8) with linkDown := n.linkDown ||| BitVec.ofNat 4 (2 ^ dir) }) htidy gi
      (fun n hn => Safety.nodeOk_setReg hn _ _)
    refine ⟨_, exec_netLinkTimeout hb hquiet, ?_, ?_, ?_, rfl⟩
    · rw [State.node_modNode_keeps hfirst (fun n => n.reg 0x18) (f := fun n => { n with reported := true }) (fun _ => rfl), State.node_modNode_self htidy]
      exact Node.reg_setReg_self (htidy.2 gi) _ _
    · rw [State.node_modNode_keeps hfirst Node.linkDown (f := fun n => { n with reported := true }) (fun _ => rfl), State.node_modNode_self htidy]
    · rw [State.nodeAt, State.node_modNode_self hfirst]
  · exact ⟨_, congrArg Host.Outcome.next (if_pos hrep), State.markDead_spec htidy hlive hfew⟩
  · obtain ⟨m, hm⟩ := State.installDetours_eq (s := s)
    obtain ⟨hnodes, hmem⟩ := State.sweepAll_keeps (s := s.installDetours) s.deadNodes
    refine ⟨_, exec_detourInstall, by rw [hmem, hm], fun gi hgi k hk => ?_, fun hwf id r hreq hsrc hway hdead => ?_⟩
    · rw [State.node, hnodes]
      exact State.installDetours_holds htidy gi hgi k hk
    · exact State.req_sweepAll (by rw [hm]; exact hwf) (by rw [hm]; exact hreq) hsrc hway hdead

/-! ### Fences and sweeps through a NET page (R49, R52, R56) -/

/-- What NET_NODE_CTL holds after a write: its stored fields from the value, and no SWEEP. -/
def netCtl (old v : Word) : Word := (v &&& 0x7F3F00F3) ||| (old &&& ~~~0x7F3F00F3)

/-- NET_NODE_CTL is written: the stored fields, and a clear FENCE opens the port at once. -/
def State.writeNetCtl (s : State) (gi : Nat) (v : Word) : State :=
  let t := s.modNode gi (fun n => n.setReg 8 (netCtl ((s.node gi).reg 8) v))
  if bit v 0 then t else t.modNode gi (fun n => { n with fenced := false })

theorem State.writeNetCtl_eq (gi : Nat) (v : Word) : ∃ m, s.writeNetCtl gi v = { s with nodes := m } := by
  unfold State.writeNetCtl
  dsimp only
  split_ifs
  · exact ⟨_, rfl⟩
  · exact ⟨_, rfl⟩

theorem State.netPageWrite_ctl (gi : Nat) (v : Word) : s.netPageWrite .tack gi 8 v =
    (if bit v 8 then (s.writeNetCtl gi v).sweep (fld v 30 24 * 64 + fld v 21 16) (sweptBy gi) else s.writeNetCtl gi v, St.ok) := by
  have hrow : findReg netRegs 8 = some ⟨0x8, 0x8, 1, 0x1, 0x0, 0x7F3F00F3, 0x0, 0x0, 0x0, 0x100⟩ := by decide
  have hafter (old : Word) : RegKind.afterWrite ⟨0x8, 0x8, 1, 0x1, 0x0, 0x7F3F00F3, 0x0, 0x0, 0x0, 0x100⟩ old v = netCtl old v := by
    simp only [RegKind.afterWrite, netCtl, BitVec.ofNat_eq_ofNat, BitVec.and_zero, BitVec.zero_or, BitVec.not_zero, BitVec.and_allOnes, BitVec.or_comm]
  simp only [State.netPageWrite, hrow, hafter, ne_eq, not_true_eq_false, if_false]
  rfl

theorem sweptBy_gone (gi : Nat) : sweptBy gi .gone = false := rfl

/-- Fences and sweeps of a NET page are as R49, R52 and R56 say. -/
theorem fencesAndSweeps : Claims.FencesAndSweeps := by
  intro s gi v _ _
  refine ⟨fun hv => ?_, fun hfence => congrArg Host.Outcome.next (if_pos hfence), ?_, fun p hp => ⟨?_, ?_⟩⟩
  · show execNetFence .tack gi v s = _
    rw [execNetFence, State.netPageWrite_ctl, if_neg (by simp [hv])]
    rfl
  · have hsweep : bit (v ||| place 8 8 1) 8 = true := by rw [bit_or, bit_place_one (by decide), Bool.or_true]
    have hrow : fld (v ||| place 8 8 1) 30 24 = fld v 30 24 := by rw [fld_or, fld_place_apart (by decide), Nat.or_zero]
    have hcol : fld (v ||| place 8 8 1) 21 16 = fld v 21 16 := by rw [fld_or, fld_place_apart (by decide), Nat.or_zero]
    obtain ⟨m, hm⟩ := State.writeNetCtl_eq (s := s) gi (v ||| place 8 8 1)
    obtain ⟨-, hmem, -⟩ := State.sweep_keeps (s := s.writeNetCtl gi (v ||| place 8 8 1)) (fld v 30 24 * 64 + fld v 21 16) (sweptBy gi)
    refine ⟨answered ((s.writeNetCtl gi (v ||| place 8 8 1)).sweep (fld v 30 24 * 64 + fld v 21 16) (sweptBy gi)) St.ok 0 [], ?_, rfl, ?_,
      fun hwf id r hreq hmine hway hon => ?_⟩
    · show execNetSweep .tack gi v s = _
      rw [execNetSweep, State.netPageWrite_ctl, if_pos hsweep, hrow, hcol]
      rfl
    · exact hmem.trans (by rw [hm])
    · exact State.req_sweep (s := s.writeNetCtl gi (v ||| place 8 8 1)) (by rw [hm]; exact hwf) (by rw [hm]; exact hreq)
        (fun h => by rw [h, sweptBy_gone] at hmine; exact Bool.false_ne_true hmine) (Req.sweptFor_eq_true.mpr ⟨hmine, hon, hway⟩)
  · show execNetFence p gi v s = _
    rw [execNetFence, State.netPageWrite, if_pos hp]
    rfl
  · show execNetSweep p gi v s = _
    rw [execNetSweep, State.netPageWrite, if_pos hp]
    rfl

/-- Settles O23: routers through their registers, requests through the sweeps. -/
theorem networkFaultsAndFences : Obligations.NetworkFaultsAndFences :=
  ⟨deadRoutersAreCutOff, fencesAndSweeps⟩

end Sys2Proof.Machine
end

section
/-! SUPPORT. Package reset, inlet power, and how a step of bring-up ends (R507 to R509, R521 to R523). -/

namespace Sys2Proof.Machine

variable {s : State} {info : BootInfo}

/-! ### Resets (R521 to R523) -/

theorem exec_packageReset {c : Nat} (kept : Bool) (hstop : s.pwr.stopping = some c) (hcool : s.pwr.coolStopped = false) :
    exec (.packageReset kept) s = .next (s.packageReset c kept) := by
  show execPackageReset kept s = _
  simp only [execPackageReset, hstop, hcool, Bool.false_eq_true, if_false]

theorem exec_packageReset_running (kept : Bool) (hstop : s.pwr.stopping = none) : exec (.packageReset kept) s = .next s := by
  show execPackageReset kept s = _
  simp only [execPackageReset, hstop]

/-! ### How a step of bring-up ends (R508, R509) -/

/-- The package is powered, in no stop, and has neither failed nor finished its bring-up. -/
def State.bringsUp (s : State) : Prop :=
  s.pwr.inlet = true ∧ s.pwr.coolStopped = false ∧ s.pwr.stopping = none ∧ s.pwr.failStep = 0 ∧ s.pwr.phase < 7

theorem exec_bringupStepEnd (h : s.bringsUp) : exec (.bringupStepEnd info) s = .next (s.bootStep info) := by
  obtain ⟨hinlet, hcool, hstop, hfail, hphase⟩ := h
  show execBringupStepEnd info s = _
  simp [execBringupStepEnd, hinlet, hcool, hstop, hfail, Nat.not_le.mpr hphase]

theorem exec_bringupStepEnd_idle (h : ¬ s.bringsUp) : exec (.bringupStepEnd info) s = .next s := by
  refine congrArg Host.Outcome.next (if_pos ?_)
  by_contra hnot
  simp only [Bool.or_eq_true, Bool.not_eq_true', decide_eq_true_eq, not_or, Bool.not_eq_false, Bool.not_eq_true, Option.isSome_eq_false_iff,
    Option.isNone_iff_eq_none, not_not, Nat.not_le, ne_eq] at hnot
  obtain ⟨⟨⟨⟨hinlet, hcool⟩, hstop⟩, hfail⟩, hphase⟩ := hnot
  exact h ⟨hinlet, hcool, hstop, hfail, hphase⟩

/-- The time of a step is counted. -/
def State.timed (s : State) (ms : Nat) : State := { s with pwr := { s.pwr with tms := s.pwr.tms + ms } }

/-- A step ends: the device stays in one that fails, and PHASE advances after another. -/
def State.bootEnd (t : State) (k : Nat) : State := if t.pwr.failStep ≠ 0 then t else { t with pwr := { t.pwr with phase := k } }

/-- Step 6: the ports listen as they train. -/
def State.bootPorts (s : State) : State :=
  (List.range 32).foldl (fun s p => s.modPort p (fun x => { x with listening := decide (x.state = .training) })) s

section
variable (info)

theorem State.bootStep_rails (h : s.pwr.phase = 0) (hfail : s.pwr.failStep = 0) :
    (s.bootStep info).pwr.phase = (if info.railsOk = true then 1 else 0) ∧ (s.bootStep info).pwr.failStep = 0 := by
  cases hrails : info.railsOk <;> simp [State.bootStep, h, hfail, hrails, State.bootRails]

theorem State.bootStep_image (h : s.pwr.phase = 1) : s.bootStep info = ((s.timed info.ms).bootImage info).bootEnd 2 := by
  simp [State.bootStep, h, State.bootEnd, State.timed]

theorem State.bootStep_dies (h : s.pwr.phase = 2) :
    s.bootStep info = (if info.diesOk then s.timed info.ms else (s.timed info.ms).bootFail 3 St.stupDieMissing).bootEnd 3 := by
  simp [State.bootStep, h, State.bootEnd, State.timed]

theorem State.bootStep_stalls (h : s.pwr.phase = 3) :
    s.bootStep info = (((s.timed info.ms).bootRepairs info).bootStalls (failedStalls info)).bootEnd 4 := by
  simp [State.bootStep, h, State.bootEnd, State.timed]

theorem State.bootStep_memory (h : s.pwr.phase = 4) : s.bootStep info = ((s.timed info.ms).bootMemory info.badBays).bootEnd 5 := by
  simp [State.bootStep, h, State.bootEnd, State.timed]

theorem State.bootStep_ports (h : s.pwr.phase = 5) : s.bootStep info = ((s.timed info.ms).bootPorts).bootEnd 6 := by
  simp [State.bootStep, h, State.bootEnd, State.timed, State.bootPorts]

theorem State.bootStep_id (h : s.pwr.phase = 6) : s.bootStep info = ((s.timed info.ms).bootId).bootEnd 7 := by
  simp [State.bootStep, h, State.bootEnd, State.timed]

end

theorem State.bootEnd_phase {t : State} (h : t.pwr.failStep = 0) (k : Nat) : (t.bootEnd k).pwr.phase = k := by
  rw [State.bootEnd, if_neg (not_not.mpr h)]

/-- The end of a step changes the power manager alone. -/
theorem State.bootEnd_keeps {α : Type} (p : State → α) (hp : ∀ (t : State) x, p { t with pwr := x } = p t) (t : State) (k : Nat) : p (t.bootEnd k) = p t := by
  unfold State.bootEnd
  split_ifs
  · rfl
  · exact hp t _

@[simp] theorem State.bootEnd_mem (t : State) (k : Nat) : (t.bootEnd k).mem = t.mem := State.bootEnd_keeps State.mem (fun _ _ => rfl) t k
@[simp] theorem State.bootEnd_tack (t : State) (k : Nat) : (t.bootEnd k).tack = t.tack := State.bootEnd_keeps State.tack (fun _ _ => rfl) t k
@[simp] theorem State.bootEnd_healthOf (t : State) (k ps : Nat) : (t.bootEnd k).healthOf ps = t.healthOf ps :=
  State.bootEnd_keeps (State.healthOf · ps) (fun _ _ => rfl) t k
@[simp] theorem State.bootEnd_node (t : State) (k i : Nat) : (t.bootEnd k).node i = t.node i := State.bootEnd_keeps (State.node · i) (fun _ _ => rfl) t k
@[simp] theorem State.bootEnd_chan (t : State) (k ch : Nat) : (t.bootEnd k).chan ch = t.chan ch := State.bootEnd_keeps (State.chan · ch) (fun _ _ => rfl) t k
@[simp] theorem State.bootEnd_port (t : State) (k p : Nat) : (t.bootEnd k).port p = t.port p := State.bootEnd_keeps (State.port · p) (fun _ _ => rfl) t k
@[simp] theorem State.bootEnd_dcsr (t : State) (k o : Nat) : (t.bootEnd k).dcsr o = t.dcsr o := State.bootEnd_keeps (State.dcsr · o) (fun _ _ => rfl) t k

theorem State.bootEnd_bootFail (t : State) {step : Nat} (hstep : step ≠ 0) (st : Status) (k : Nat) :
    (t.bootFail step st).bootEnd k = t.bootFail step st := if_pos hstep

/-! ### Step 2: the image (R508, R518, R555) -/

theorem State.bootImage_bad (h : s.winner = none ∨ info.pufOk = false) : s.bootImage info = s.bootFail 2 St.stupNoImage := by
  unfold State.bootImage
  cases hw : s.winner with
  | none => rfl
  | some w =>
    have hpuf : info.pufOk = false := h.resolve_left (by simp [hw])
    simp [hpuf]

theorem State.extendM_eq (s : State) (n : Nat) (v : List Byte) : ∃ m, s.extendM n v = { s with tack := { s.tack with meas := m } } := ⟨_, rfl⟩

/-- The versions that step 2 takes, and a power manager as it was. -/
def State.imaged (t s : State) (info : BootInfo) (w : Nat) : Prop :=
  t.pwr = s.pwr ∧ t.tack.standbyOk = info.standbyOk ∧ t.tack.fwver0 = (s.bank w).fwver ∧ t.tack.svn = (s.bank w).svn

theorem State.imaged_extendM {t : State} {w : Nat} (h : t.imaged s info w) (n : Nat) (v : List Byte) : (t.extendM n v).imaged s info w := by
  obtain ⟨m, hm⟩ := t.extendM_eq n v
  rw [hm]
  exact h

/-- With a winning bank and a seed, step 2 takes the bank's versions and fails in nothing. -/
theorem State.bootImage_good {w : Nat} (hw : s.winner = some w) (hpuf : info.pufOk = true) : (s.bootImage info).imaged s info w := by
  unfold State.bootImage
  simp only [hw, hpuf, Bool.not_true, Bool.false_eq_true, if_false]
  refine List.foldlRecOn (motive := fun t : State => t.imaged s info w) _ _ ?_ (fun t ht r _ => State.imaged_extendM ht _ _)
  refine State.imaged_extendM (State.imaged_extendM (State.imaged_extendM ?_ _ _) _ _) _ _
  split
  · exact ⟨rfl, rfl, rfl, rfl⟩
  · exact ⟨rfl, rfl, rfl, rfl⟩

end Sys2Proof.Machine
end

section
/-! SUPPORT. Step 4 of bring-up: repairs, sparing, health and fences (R37, R48, R51, R508). -/

namespace Sys2Proof.Machine

open Sys2Proof.Claims (netTidy)

variable {s : State} {info : BootInfo}

/-! ### Repairs (R51, R163, R173) -/

/-- The bypasses of the self-test. -/
def State.bootMaps (s : State) (l : List (Nat × Word)) : State :=
  l.foldl (fun s e => if 288 ≤ e.1 ∨ arrMapBad e.2 then s else s.setScsr e.1 0x1420 (arrMapBits e.2)) s

/-- The repair banks of the self-test. -/
def State.bootBanks (s : State) (l : List (Nat × Nat)) : State :=
  l.foldl (fun s e => if 288 ≤ e.1 ∨ 64 ≤ e.2 then s else s.modStall e.1 (fun t => { t with bank := some e.2 })) s

theorem State.bootRepairs_eq_bootBanks : s.bootRepairs info =
    (if (info.deadNodes.filter (· < 4608)).isEmpty then (s.bootMaps info.arrMaps).bootBanks info.tileBanks
     else ((info.deadNodes.filter (· < 4608)).foldl State.markDead ((s.bootMaps info.arrMaps).bootBanks info.tileBanks)).installDetours) := rfl

theorem State.bootMaps_eq (l : List (Nat × Word)) : ∃ m, s.bootMaps l = { s with stalls := m } := by
  refine List.foldlRecOn (motive := fun t : State => ∃ m, t = { s with stalls := m }) _ _ ⟨_, rfl⟩ ?_
  rintro t ⟨m, rfl⟩ e -
  split_ifs
  · exact ⟨_, rfl⟩
  · exact ⟨_, rfl⟩

theorem State.bootBanks_eq (l : List (Nat × Nat)) : ∃ m, s.bootBanks l = { s with stalls := m } := by
  refine List.foldlRecOn (motive := fun t : State => ∃ m, t = { s with stalls := m }) _ _ ⟨_, rfl⟩ ?_
  rintro t ⟨m, rfl⟩ e -
  split_ifs
  · exact ⟨_, rfl⟩
  · exact ⟨_, rfl⟩

theorem State.cutToward_eq (gi d : Nat) : ∃ n, s.cutToward gi d = { s with nodes := n } := by
  unfold State.cutToward
  split
  · exact ⟨_, rfl⟩
  · exact ⟨_, rfl⟩

/-- Marking a router changes routers and what the tack rooms note. -/
theorem State.markDead_eq (gi : Nat) : ∃ n a, s.markDead gi = { s with nodes := n, tack := a } := by
  by_cases hdead : (s.node gi).dead = true
  · exact ⟨s.nodes, s.tack, by simp [State.markDead, hdead]⟩
  · by_cases hfew : s.deadNodes.length < 8
    · rw [State.markDead_live (by simpa using hdead) hfew]
      refine List.foldlRecOn (motive := fun t : State => ∃ n a, t = { s with nodes := n, tack := a }) _ _ ?_ ?_
      · obtain ⟨a, ha⟩ := State.report_eq (s.setNode gi { s.node gi with dead := true }) { status := St.netNodeDead, cls := 6, sev := 2, unit := 8, id := nodePos gi }
        exact ⟨_, a, ha⟩
      · rintro t ⟨n, a, rfl⟩ d -
        obtain ⟨n', hn'⟩ := State.cutToward_eq (s := { s with nodes := n, tack := a }) gi d
        exact ⟨n', a, hn'⟩
    · obtain ⟨a, ha⟩ := s.report_eq { status := St.netDeadLimit, cls := 10, sev := 2, unit := 8, id := nodePos gi, action := 6 }
      refine ⟨s.nodes, { a with outOfService := true }, ?_⟩
      unfold State.markDead
      simp only [hdead, Nat.not_lt.mp hfew, Bool.false_eq_true, if_false, if_true, ha]

theorem State.bootRepairs_pwr : (s.bootRepairs info).pwr = s.pwr := by
  obtain ⟨m, hm⟩ := State.bootMaps_eq (s := s) info.arrMaps
  obtain ⟨m', hm'⟩ := State.bootBanks_eq (s := s.bootMaps info.arrMaps) info.tileBanks
  rw [State.bootRepairs_eq_bootBanks, hm', hm]
  split_ifs
  · rfl
  · obtain ⟨n, hn⟩ := State.installDetours_eq (s := (info.deadNodes.filter (· < 4608)).foldl State.markDead { s with stalls := m' })
    rw [hn]
    refine List.foldlRecOn (motive := fun t : State => t.pwr = s.pwr) _ _ rfl fun t ht gi _ => ?_
    obtain ⟨n', a, ht'⟩ := State.markDead_eq (s := t) gi
    rw [ht', ← ht]

/-- With no router dead, repairs change stalls alone. -/
theorem State.bootRepairs_eq (h : info.deadNodes = []) : ∃ m, s.bootRepairs info = { s with stalls := m } := by
  obtain ⟨m, hm⟩ := State.bootMaps_eq (s := s) info.arrMaps
  obtain ⟨m', hm'⟩ := State.bootBanks_eq (s := s.bootMaps info.arrMaps) info.tileBanks
  exact ⟨m', by rw [State.bootRepairs_eq_bootBanks, if_pos (by simp [h]), hm', hm]⟩

/-! ### Sparing (R37) -/

theorem activeStalls_nil : activeStalls [] = (List.range 288).filter (fun ps => decide (ps % 72 < 64)) := by decide +kernel

/-- More than 32 failed stalls leave fewer than 256. -/
theorem length_activeStalls_lt {bad : List Nat} (h : 33 ≤ (List.range 288).countP (fun ps => bad.contains ps)) : (activeStalls bad).length < 256 := by
  have hgood : (activeStalls bad).length ≤ (List.range 288).countP (fun ps => !bad.contains ps) := by
    rw [activeStalls, ← List.countP_eq_length_filter]
    exact List.countP_mono_left fun ps _ hps => (Bool.and_eq_true _ _ ▸ hps).1
  have hall := List.length_eq_countP_add_countP (fun ps => bad.contains ps) (l := List.range 288)
  rw [List.length_range] at hall
  simp only [Bool.not_eq_true, Bool.decide_eq_false] at hall
  omega

theorem failedStalls_nil (hbad : info.badStalls = []) (hdead : info.deadNodes = []) : failedStalls info = [] := by
  simp [failedStalls, hbad, hdead]

theorem countP_failedStalls (h : 33 ≤ ((List.range 288).filter (fun ps => info.badStalls.contains ps)).length) :
    33 ≤ (List.range 288).countP (fun ps => (failedStalls info).contains ps) := by
  rw [← List.countP_eq_length_filter] at h
  refine h.trans (List.countP_mono_left fun ps hps hbad => ?_)
  simp only [List.contains_eq_mem, decide_eq_true_eq] at hbad ⊢
  exact List.mem_filter.mpr ⟨List.mem_append_left _ hbad, decide_eq_true (List.mem_range.mp hps)⟩

/-! ### Health and fences (R37, R38, R48) -/

theorem State.healthOf_setHealth_self (h : Map.wf healthDflt s.health = true) (ps : Nat) (v : Health) : (s.setHealth ps v).healthOf ps = v :=
  Map.get_set_self healthDflt ps v h

theorem State.healthOf_setHealth_of_ne {i j : Nat} (v : Health) (h : j ≠ i) : (s.setHealth i v).healthOf j = s.healthOf j :=
  Map.get_set_of_ne healthDflt s.health v h

/-- The health of every stall is set. -/
def State.setHealths (s : State) (f : Nat → Health) : State := (List.range 288).foldl (fun s ps => s.setHealth ps (f ps)) s

theorem State.setHealths_eq (f : Nat → Health) : ∃ m, s.setHealths f = { s with health := m } := by
  refine List.foldlRecOn (motive := fun t : State => ∃ m, t = { s with health := m }) _ _ ⟨_, rfl⟩ ?_
  rintro t ⟨m, rfl⟩ ps -
  exact ⟨_, rfl⟩

theorem State.healthOf_setHealths (h : Map.wf healthDflt s.health = true) (f : Nat → Health) : ∀ ps < 288, (s.setHealths f).healthOf ps = f ps := by
  obtain ⟨-, hall⟩ := foldl_attains (f := fun (s : State) ps => s.setHealth ps (f ps)) (l := List.range 288)
    (P := fun t => Map.wf healthDflt t.health = true) (Q := fun ps t => t.healthOf ps = f ps) h
    (fun ps _ t ht => Map.wf_set healthDflt ps _ ht)
    (fun ps _ t ht => State.healthOf_setHealth_self ht ps _)
    (fun ps _ j _ hne t _ hq => (State.healthOf_setHealth_of_ne _ hne).trans hq)
  exact fun ps hps => hall ps (List.mem_range.mpr hps)

/-- The active stalls take LS numbers in their order. -/
def State.setLss (s : State) (act : List Nat) : State := act.zipIdx.foldl (fun s e => s.setLs e.2 e.1) s

theorem State.setLss_eq (act : List Nat) : ∃ m, s.setLss act = { s with lsMap := m } := by
  refine List.foldlRecOn (motive := fun t : State => ∃ m, t = { s with lsMap := m }) _ _ ⟨_, rfl⟩ ?_
  rintro t ⟨m, rfl⟩ e -
  exact ⟨_, rfl⟩

/-- A router opens. -/
def Node.unfenced (n : Node) : Node := { n.setReg 8 (setFld (n.reg 8) 1 0 0) with fenced := false }

theorem State.unfence_eq_foldl (ps : Nat) : s.unfence ps = (List.range 16).foldl (fun s g => s.modNode (ps * 16 + g) Node.unfenced) s := rfl

theorem netTidy_unfenced (h : netTidy s) (i : Nat) : netTidy (s.modNode i Node.unfenced) :=
  netTidy_modNode h i (fun _ hn => Safety.nodeOk_setReg hn _ _)

/-- Opening a router fences none. -/
theorem State.fenced_modNode_unfenced (h : netTidy s) (i : Nat) {j : Nat} (hj : (s.node j).fenced = false) : ((s.modNode i Node.unfenced).node j).fenced = false := by
  by_cases hij : j = i
  · rw [hij, State.node_modNode_self h]
    rfl
  · rw [State.node_modNode_of_ne s _ hij, hj]

theorem State.unfence_spec (h : netTidy s) (ps : Nat) : netTidy (s.unfence ps) ∧ ∀ g < 16, ((s.unfence ps).node (ps * 16 + g)).fenced = false := by
  rw [State.unfence_eq_foldl]
  obtain ⟨ht, hall⟩ := foldl_attains (f := fun (s : State) g => s.modNode (ps * 16 + g) Node.unfenced) (l := List.range 16) (P := netTidy)
    (Q := fun g t => (t.node (ps * 16 + g)).fenced = false) h
    (fun g _ t ht => netTidy_unfenced ht _)
    (fun g _ t ht => by rw [State.node_modNode_self ht]; rfl)
    (fun g _ j _ _ t ht hq => State.fenced_modNode_unfenced ht _ hq)
  exact ⟨ht, fun g hg => hall g (List.mem_range.mpr hg)⟩

theorem State.fenced_unfence (h : netTidy s) (ps : Nat) {j : Nat} (hj : (s.node j).fenced = false) : ((s.unfence ps).node j).fenced = false := by
  rw [State.unfence_eq_foldl]
  obtain ⟨-, hkept⟩ := List.foldlRecOn (motive := fun t : State => netTidy t ∧ (t.node j).fenced = false) (List.range 16)
    (fun (s : State) g => s.modNode (ps * 16 + g) Node.unfenced) ⟨h, hj⟩
    (fun t ⟨ht, hj⟩ g _ => ⟨netTidy_unfenced ht _, State.fenced_modNode_unfenced ht _ hj⟩)
  exact hkept

theorem State.unfence_eq (ps : Nat) : ∃ n, s.unfence ps = { s with nodes := n } := by
  refine List.foldlRecOn (motive := fun t : State => ∃ n, t = { s with nodes := n }) _ _ ⟨_, rfl⟩ ?_
  rintro t ⟨m, rfl⟩ e -
  exact ⟨_, rfl⟩

/-- The nodes of every active stall open. -/
theorem State.foldl_unfence_spec (h : netTidy s) (act : List Nat) :
    (∃ n, act.foldl State.unfence s = { s with nodes := n }) ∧ ∀ ps ∈ act, ∀ g < 16, ((act.foldl State.unfence s).node (ps * 16 + g)).fenced = false := by
  obtain ⟨⟨-, heq⟩, hall⟩ := foldl_attains (f := State.unfence) (l := act) (P := fun t => netTidy t ∧ ∃ n, t = { s with nodes := n })
    (Q := fun ps t => ∀ g < 16, (t.node (ps * 16 + g)).fenced = false) ⟨h, s.nodes, rfl⟩
    (fun ps _ t ⟨ht, n, hn⟩ => by
      obtain ⟨n', hn'⟩ := State.unfence_eq (s := t) ps
      exact ⟨(State.unfence_spec ht ps).1, n', hn'.trans (by rw [hn])⟩)
    (fun ps _ t ⟨ht, _⟩ => (State.unfence_spec ht ps).2)
    (fun ps _ j _ _ t ⟨ht, _⟩ hq g hg => State.fenced_unfence ht j (hq g hg))
  exact ⟨heq, hall⟩

/-- The health that step 4 gives a stall. -/
def bootHealth (bad : List Nat) (ps : Nat) : Health :=
  if bad.contains ps then .failed else if (activeStalls bad).contains ps then .active else .spare

theorem State.bootStalls_eq_if (bad : List Nat) : s.bootStalls bad =
    if (activeStalls bad).length < 256 then s.bootFail 4 St.stupStalls
    else (activeStalls bad).foldl State.unfence ((s.setHealths (bootHealth bad)).setLss (activeStalls bad)) := rfl

/-- With no stall bad, step 4 makes the first 64 of each yard active with their nodes open, and the others spares. -/
theorem State.bootStalls_nil (htidy : netTidy s) (hhealth : Map.wf healthDflt s.health = true) : (s.bootStalls []).pwr = s.pwr ∧
    ∀ ps < 288, (s.bootStalls []).healthOf ps = (if ps % 72 < 64 then .active else .spare) ∧
      (ps % 72 < 64 → ∀ g < 16, ((s.bootStalls []).node (ps * 16 + g)).fenced = false) := by
  have hmany : ¬ (activeStalls []).length < 256 := by rw [activeStalls_nil]; decide +kernel
  have hact {ps : Nat} (hps : ps < 288) : ps ∈ activeStalls [] ↔ ps % 72 < 64 := by
    rw [activeStalls_nil, List.mem_filter, List.mem_range, decide_eq_true_eq]
    exact and_iff_right hps
  obtain ⟨m, hm⟩ := State.setHealths_eq (s := s) (bootHealth [])
  obtain ⟨l, hl⟩ := State.setLss_eq (s := s.setHealths (bootHealth [])) (activeStalls [])
  have htidy' : netTidy ((s.setHealths (bootHealth [])).setLss (activeStalls [])) := by
    rw [hl, hm]
    exact htidy
  obtain ⟨⟨n, hn⟩, hopen⟩ := State.foldl_unfence_spec htidy' (activeStalls [])
  rw [State.bootStalls_eq_if, if_neg hmany]
  have hkept : (List.foldl State.unfence ((s.setHealths (bootHealth [])).setLss (activeStalls [])) (activeStalls [])).health =
      (s.setHealths (bootHealth [])).health := by rw [hn, hl]
  refine ⟨by rw [hn, hl, hm], fun ps hps => ⟨?_, fun hcore => hopen ps ((hact hps).mpr hcore)⟩⟩
  calc (List.foldl State.unfence ((s.setHealths (bootHealth [])).setLss (activeStalls [])) (activeStalls [])).healthOf ps
      = (s.setHealths (bootHealth [])).healthOf ps := congrArg (fun m => Map.get healthDflt m ps) hkept
    _ = bootHealth [] ps := State.healthOf_setHealths hhealth _ ps hps
    _ = _ := by simp [bootHealth, List.contains_eq_mem, hact hps]

end Sys2Proof.Machine
end

section
/-! SUPPORT. Steps 5 to 7 of bring-up, and the statement on resets and bring-up (R26, R37, R507 to R513, R518, R521 to R523, R555). -/

namespace Sys2Proof.Machine

variable {s : State} {info : BootInfo}

/-! ### Step 5: main memory (R26, R508) -/

/-- A bay that step 5 can use. -/
def State.goodBay (s : State) (n : Nat) (bad : List Nat) (i : Nat) : Bool :=
  !bad.contains (n * 34 + i) && (match (s.chan (n * 34 + i)).dimm with | some d => d.supported | none => false)

/-- One channel takes the place that it is assigned. -/
def State.placeChan (n : Nat) (good : Nat → Bool) (asg : List (Nat × Nat)) (s : State) (i : Nat) : State :=
  match asg.find? (fun e => e.1 = i) with
  | some e => s.setChan (n * 34 + i) { s.chan (n * 34 + i) with state := 0, lc := e.2 }
  | none => s.setChan (n * 34 + i) { s.chan (n * 34 + i) with state := if (s.chan (n * 34 + i)).dimm.isNone then 4 else if good i then 1 else 6, lc := 0 }

theorem State.bootShed_eq_if (n : Nat) (bad : List Nat) : s.bootShed n bad =
    if (assignChans (s.goodBay n bad) (List.range 32) ([32, 33].filter (s.goodBay n bad))).length < 32 then s.bootFail 5 St.stupChannels
    else (List.range 34).foldl
      (State.placeChan n (s.goodBay n bad) (assignChans (s.goodBay n bad) (List.range 32) ([32, 33].filter (s.goodBay n bad)))) s := rfl

/-- Good channels are assigned to themselves. -/
theorem assignChans_of_good {good : Nat → Bool} {l : List Nat} (h : ∀ i ∈ l, good i = true) (spares : List Nat) :
    assignChans good l spares = l.map (fun i => (i, i)) := by
  induction l with
  | nil => rfl
  | cons i l ih =>
    obtain ⟨hi, hl⟩ := List.forall_mem_cons.mp h
    simp [assignChans, hi, ih hl]

/-- Every bay holds a supported module. -/
def State.bays (s : State) : Prop := ∀ ch < 136, ∃ d, (s.chan ch).dimm = some d ∧ d.supported = true

theorem State.goodBay_of_bays (h : s.bays) {n i : Nat} (hn : n < 4) (hi : i < 34) : s.goodBay n [] i = true := by
  obtain ⟨d, hd, hsup⟩ := h (n * 34 + i) (by omega)
  simp [State.goodBay, hd, hsup]

/-- A channel whose module serves: one of the 32 is in service as itself, a spare waits. -/
def Chan.inPlace (c : Chan) (i : Nat) : Chan := { c with state := if i < 32 then 0 else 1, lc := if i < 32 then i else 0 }

theorem State.placeChan_good (h : s.bays) {n i : Nat} (hn : n < 4) (hi : i < 34) {good : Nat → Bool} (hgood : ∀ j < 34, good j = true) :
    State.placeChan n good ((List.range 32).map (fun j => (j, j))) s i = s.setChan (n * 34 + i) ((s.chan (n * 34 + i)).inPlace i) := by
  obtain ⟨d, hd, -⟩ := h (n * 34 + i) (by omega)
  have hfind : ∀ j < 34, ((List.range 32).map (fun j => (j, j))).find? (fun e => e.1 = j) = if j < 32 then some (j, j) else none := by decide
  unfold State.placeChan
  rw [hfind i hi]
  by_cases hcore : i < 32
  · simp only [if_pos hcore, Chan.inPlace]
  · simp [hcore, Chan.inPlace, hd, hgood i hi]

/-- What the sheds' channels keep while step 5 places them. -/
structure State.placing (s t : State) : Prop where
  wf : Map.wf chanDflt t.chans = true
  bays : t.bays
  pwr : t.pwr = s.pwr
  mem : t.mem = s.mem

theorem State.chan_setInPlace {t : State} (h : s.placing t) (ch i : Nat) : (t.setChan ch ((t.chan ch).inPlace i)).chan ch = (t.chan ch).inPlace i :=
  State.chan_setChan_self h.wf ch _

theorem State.placing_setInPlace {t : State} (h : s.placing t) (ch i : Nat) : s.placing (t.setChan ch ((t.chan ch).inPlace i)) := by
  obtain ⟨hwf, hbays, hpwr, hmem⟩ := h
  refine ⟨Map.wf_set chanDflt _ _ hwf, fun k hk => ?_, hpwr, hmem⟩
  by_cases hkc : k = ch
  · subst hkc
    rw [State.chan_setChan_self hwf]
    exact hbays k hk
  · rw [State.chan_setChan_of_ne t _ hkc]
    exact hbays k hk

/-- A channel of a shed stands as step 5 leaves it. -/
def State.placed (s : State) (n i : Nat) : Prop :=
  (s.chan (n * 34 + i)).state = (if i < 32 then 0 else 1) ∧ (i < 32 → (s.chan (n * 34 + i)).lc = i)

theorem Chan.placed_inPlace (c : Chan) (i : Nat) : (c.inPlace i).state = (if i < 32 then 0 else 1) ∧ (i < 32 → (c.inPlace i).lc = i) :=
  ⟨rfl, fun h => if_pos h⟩

/-- Step 5 in one shed with all modules good: its channels are placed, and those of the other sheds are as they were. -/
theorem State.bootShed_good {t : State} (h : s.placing t) {n : Nat} (hn : n < 4) : s.placing (t.bootShed n []) ∧ (∀ i < 34, (t.bootShed n []).placed n i) ∧
    ∀ ch, ch / 34 ≠ n → (t.bootShed n []).chan ch = t.chan ch := by
  have hgood : ∀ j < 34, t.goodBay n [] j = true := fun j hj => State.goodBay_of_bays h.bays hn hj
  have hasg := assignChans_of_good (l := List.range 32) (fun j hj => hgood j (by have := List.mem_range.mp hj; omega)) ([32, 33].filter (t.goodBay n []))
  have hall : ¬ ((List.range 32).map (fun j => (j, j))).length < 32 := by simp
  rw [State.bootShed_eq_if, hasg, if_neg hall]
  generalize t.goodBay n [] = good at hgood
  obtain ⟨⟨hplacing, hothers⟩, hplaced⟩ := foldl_attains (f := State.placeChan n good ((List.range 32).map (fun j => (j, j)))) (l := List.range 34)
    (P := fun u => s.placing u ∧ ∀ ch, ch / 34 ≠ n → u.chan ch = t.chan ch) (Q := fun i u => u.placed n i) (s := t) ⟨h, fun _ _ => rfl⟩
    (fun i hi u ⟨hu, hothers⟩ => by
      rw [State.placeChan_good hu.bays hn (List.mem_range.mp hi) hgood]
      refine ⟨State.placing_setInPlace hu _ _, fun ch hch => ?_⟩
      have := List.mem_range.mp hi
      rw [State.chan_setChan_of_ne u _ (by omega), hothers ch hch])
    (fun i hi u ⟨hu, _⟩ => by
      rw [State.placeChan_good hu.bays hn (List.mem_range.mp hi) hgood, State.placed, State.chan_setInPlace hu]
      exact Chan.placed_inPlace _ i)
    (fun i _ j hj hne u ⟨hu, _⟩ hq => by
      rw [State.placeChan_good hu.bays hn (List.mem_range.mp hj) hgood, State.placed, State.chan_setChan_of_ne u _ (by omega)]
      exact hq)
  exact ⟨hplacing, fun i hi => hplaced i (List.mem_range.mpr hi), hothers⟩

/-- Speed, capacity and the content of main memory are settled before its channels. -/
def State.bootContent (s : State) : State :=
  { s with
    slowMem := ((List.range 136).filterMap (fun ch => (s.chan ch).dimm)).any (fun d => d.slow)
    capLog2 := match (List.range 136).filterMap (fun ch => (s.chan ch).dimm) with | d :: l => l.foldl (fun n d => min n d.capLog2) d.capLog2 | [] => s.capLog2
    mem := if s.pwr.memKept then s.mem else [], memUe := if s.pwr.memKept then s.memUe else [] }

theorem State.bootMemory_eq_foldl (bad : List Nat) : s.bootMemory bad = (List.range 4).foldl (fun t n => t.bootShed n bad) s.bootContent := rfl

/-- With supported modules in every bay, step 5 places every channel. -/
theorem State.bootMemory_good (hwf : Map.wf chanDflt s.chans = true) (hbays : s.bays) : (s.bootMemory []).pwr = s.pwr ∧
    (s.bootMemory []).mem = (if s.pwr.memKept = true then s.mem else []) ∧ ∀ n < 4, ∀ i < 34, (s.bootMemory []).placed n i := by
  rw [State.bootMemory_eq_foldl]
  obtain ⟨hplacing, hplaced⟩ := foldl_attains (f := fun (t : State) n => t.bootShed n []) (l := List.range 4) (P := s.bootContent.placing)
    (Q := fun n t => ∀ i < 34, t.placed n i) (s := s.bootContent) ⟨hwf, hbays, rfl, rfl⟩
    (fun n hn t ht => (State.bootShed_good ht (List.mem_range.mp hn)).1)
    (fun n hn t ht => (State.bootShed_good ht (List.mem_range.mp hn)).2.1)
    (fun n _ m hm hne t ht hq i hi => by
      obtain ⟨-, -, hothers⟩ := State.bootShed_good ht (List.mem_range.mp hm)
      rw [State.placed, hothers _ (by omega)]
      exact hq i hi)
  exact ⟨hplacing.pwr, hplacing.mem, fun n hn => hplaced n (List.mem_range.mpr hn)⟩

/-! ### Step 6: the ports (R508) -/

theorem State.port_setPort_self (h : Map.wf (fun _ => ({} : Port)) s.ports = true) (p : Nat) (x : Port) : (s.setPort p x).port p = x :=
  Map.get_set_self (fun _ => ({} : Port)) p x h

theorem State.port_setPort_of_ne {p q : Nat} (x : Port) (h : q ≠ p) : (s.setPort p x).port q = s.port q :=
  Map.get_set_of_ne (fun _ => ({} : Port)) s.ports x h

/-- A port listens as it trains. -/
def Port.listens (x : Port) : Port := { x with listening := decide (x.state = .training) }

theorem State.bootPorts_spec (h : Map.wf (fun _ => ({} : Port)) s.ports = true) : s.bootPorts.pwr = s.pwr ∧
    ∀ p < 32, (s.bootPorts.port p).listening = decide ((s.port p).state = .training) := by
  obtain ⟨⟨-, hpwr, -⟩, hall⟩ := foldl_attains (f := fun (s : State) p => s.modPort p Port.listens) (l := List.range 32)
    (P := fun t => Map.wf (fun _ => ({} : Port)) t.ports = true ∧ t.pwr = s.pwr ∧ ∀ p, (t.port p).state = (s.port p).state)
    (Q := fun p t => (t.port p).listening = decide ((s.port p).state = .training)) ⟨h, rfl, fun _ => rfl⟩
    (fun p _ t ⟨hwf, hpwr, hstate⟩ => by
      refine ⟨Map.wf_set _ _ _ hwf, hpwr, fun q => ?_⟩
      by_cases hq : q = p
      · rw [hq, State.modPort, State.port_setPort_self hwf]
        exact hstate p
      · rw [State.modPort, State.port_setPort_of_ne _ hq, hstate q])
    (fun p _ t ⟨hwf, _, hstate⟩ => by
      rw [State.modPort, State.port_setPort_self hwf, ← hstate p]
      rfl)
    (fun p _ q _ hne t _ hq => by rw [State.modPort, State.port_setPort_of_ne _ hne, hq])
  exact ⟨hpwr, fun p hp => hall p (List.mem_range.mpr hp)⟩

/-! ### Step 7: the device ID and the store (R513, R518, R555) -/

theorem gateBase_ne_pwrEvt {n : Nat} (h : n < 4) : gateBase n ≠ pwrBase + 8 := by
  unfold gateBase pwrBase
  omega

/-- What a repair of the store keeps: the power manager, memory and every register but PWR_EVT. -/
def State.storeKept (s t : State) : Prop := t.pwr = s.pwr ∧ t.mem = s.mem ∧ ∀ o, o ≠ pwrBase + 8 → t.dcsr o = s.dcsr o

theorem State.storeRepair_keeps : s.storeKept s.storeRepair := by
  unfold State.storeRepair
  split
  · exact ⟨rfl, rfl, fun _ _ => rfl⟩
  · refine List.foldlRecOn (motive := fun t : State => s.storeKept t) _ _ ⟨rfl, rfl, fun _ _ => rfl⟩ fun t ⟨hpwr, hmem, hreg⟩ d _ => ?_
    split_ifs
    · exact ⟨hpwr, hmem, hreg⟩
    · exact ⟨(State.pwrEvt_pwr _ _).trans hpwr, (State.pwrEvt_mem _ _).trans hmem, fun o ho => (State.pwrEvt_dcsr_of_ne _ ho).trans (hreg o ho)⟩

/-- The device ID of the store's record, in the gates. -/
def State.bootDevid (s : State) : State :=
  match s.records 1 with
  | r :: _ => s.setGates 0 (place 13 0 (leNat (r.bytes.take 2)) ||| place 15 15 1)
  | [] => s

theorem State.bootId_eq : s.bootId = (s.bootDevid.extendM 3 (leBytes 2 (s.bootDevid.dcsr hostifBase).toNat)).storeRepair := rfl

theorem State.setGates_eq (o : Nat) (v : Word) : ∃ k, s.setGates o v = { s with csr := k } := by
  refine List.foldlRecOn (motive := fun t : State => ∃ k, t = { s with csr := k }) _ _ ⟨_, rfl⟩ ?_
  rintro t ⟨m, rfl⟩ e -
  exact ⟨_, rfl⟩

theorem State.bootDevid_eq : ∃ k, s.bootDevid = { s with csr := k } := by
  unfold State.bootDevid
  split
  · exact State.setGates_eq _ _
  · exact ⟨s.csr, rfl⟩

theorem State.bootId_spec (h : Map.wf devReset s.csr = true) : s.bootId.pwr = s.pwr ∧ s.bootId.mem = s.mem ∧
    ∀ r l, s.records 1 = r :: l → ∀ n < 4, s.bootId.dcsr (gateBase n) = place 13 0 (leNat (r.bytes.take 2)) ||| place 15 15 1 := by
  obtain ⟨hpwr, hmem, hreg⟩ := State.storeRepair_keeps (s := s.bootDevid.extendM 3 (leBytes 2 (s.bootDevid.dcsr hostifBase).toNat))
  obtain ⟨m, hm⟩ := s.bootDevid.extendM_eq 3 (leBytes 2 (s.bootDevid.dcsr hostifBase).toNat)
  obtain ⟨k, hk⟩ := State.bootDevid_eq (s := s)
  rw [← State.bootId_eq, hm] at hpwr hmem hreg
  refine ⟨hpwr.trans (by rw [hk]), hmem.trans (by rw [hk]), fun r l hrec n hn => ?_⟩
  have hdevid : s.bootDevid = s.setGates 0 (place 13 0 (leNat (r.bytes.take 2)) ||| place 15 15 1) := by simp only [State.bootDevid, hrec]
  have hgate : s.bootDevid.dcsr (gateBase n) = place 13 0 (leNat (r.bytes.take 2)) ||| place 15 15 1 := by rw [hdevid, State.dcsr_setGates h _ hn]
  exact (hreg _ (gateBase_ne_pwrEvt hn)).trans hgate

/-! ### Each step, and the statement -/

/-- The device is left in a step that failed, with its status (R509). -/
def State.leftIn (s t : State) (k : Nat) (st : Status) : Prop := t.pwr.phase = s.pwr.phase ∧ t.pwr.failStep = k ∧ t.pwr.bootStatus = st

theorem State.leftIn_bootFail {t : State} (h : t.pwr.phase = s.pwr.phase) {k : Nat} (hk : k ≠ 0) (st : Status) (n : Nat) :
    s.leftIn ((t.bootFail k st).bootEnd n) k st := by
  rw [State.bootEnd_bootFail t hk]
  exact ⟨h, rfl, rfl⟩

section
variable (info)

theorem State.bootStep_image_bad (hphase : s.pwr.phase = 1) (h : s.winner = none ∨ info.pufOk = false) : s.leftIn (s.bootStep info) 2 St.stupNoImage := by
  rw [State.bootStep_image info hphase, State.bootImage_bad (s := s.timed info.ms) h]
  exact State.leftIn_bootFail (t := s.timed info.ms) rfl (by decide) _ _

theorem State.bootStep_image_good {w : Nat} (hphase : s.pwr.phase = 1) (hfail : s.pwr.failStep = 0) (hw : s.winner = some w) (hpuf : info.pufOk = true) :
    (s.bootStep info).pwr.phase = 2 ∧ (s.bootStep info).tack.standbyOk = info.standbyOk ∧ (s.bootStep info).tack.fwver0 = (s.bank w).fwver ∧
      (s.bootStep info).tack.svn = (s.bank w).svn := by
  obtain ⟨hpwr, himage⟩ := State.bootImage_good (s := s.timed info.ms) hw hpuf
  rw [State.bootStep_image info hphase, State.bootEnd_tack]
  exact ⟨State.bootEnd_phase ((congrArg Pwr.failStep hpwr).trans hfail) 2, himage⟩

theorem State.bootStep_dies_missing (hphase : s.pwr.phase = 2) (h : info.diesOk = false) : s.leftIn (s.bootStep info) 3 St.stupDieMissing := by
  rw [State.bootStep_dies info hphase, h, if_neg Bool.false_ne_true]
  exact State.leftIn_bootFail (t := s.timed info.ms) rfl (by decide) _ _

theorem State.bootStep_dies_present (hphase : s.pwr.phase = 2) (hfail : s.pwr.failStep = 0) (h : info.diesOk = true) : (s.bootStep info).pwr.phase = 3 := by
  rw [State.bootStep_dies info hphase, if_pos h]
  exact State.bootEnd_phase (t := s.timed info.ms) hfail 3

theorem State.bootStep_stalls_good (hcanon : Safety.Canonical s) (hphase : s.pwr.phase = 3) (hfail : s.pwr.failStep = 0) (hbad : info.badStalls = [])
    (hdead : info.deadNodes = []) : (s.bootStep info).pwr.phase = 4 ∧
      ∀ ps < 288, (s.bootStep info).healthOf ps = (if ps % 72 < 64 then .active else .spare) ∧
        (ps % 72 < 64 → ∀ g < 16, ((s.bootStep info).node (ps * 16 + g)).fenced = false) := by
  obtain ⟨m, hm⟩ := State.bootRepairs_eq (s := s.timed info.ms) hdead
  obtain ⟨hpwr, hall⟩ := State.bootStalls_nil (s := (s.timed info.ms).bootRepairs info) (by rw [hm]; exact ⟨hcanon.nodes, hcanon.inNodes⟩)
    (by rw [hm]; exact hcanon.health)
  rw [State.bootRepairs_pwr] at hpwr
  rw [State.bootStep_stalls info hphase, failedStalls_nil hbad hdead]
  simp only [State.bootEnd_healthOf, State.bootEnd_node]
  exact ⟨State.bootEnd_phase ((congrArg Pwr.failStep hpwr).trans hfail) 4, hall⟩

theorem State.bootStep_stalls_bad (hphase : s.pwr.phase = 3) (h : 33 ≤ ((List.range 288).filter (fun ps => info.badStalls.contains ps)).length) :
    s.leftIn (s.bootStep info) 4 St.stupStalls := by
  rw [State.bootStep_stalls info hphase, State.bootStalls_eq_if, if_pos (length_activeStalls_lt (countP_failedStalls h))]
  exact State.leftIn_bootFail (congrArg Pwr.phase (State.bootRepairs_pwr (s := s.timed info.ms))) (by decide) _ _

theorem State.bootStep_memory_good (hcanon : Safety.Canonical s) (hphase : s.pwr.phase = 4) (hfail : s.pwr.failStep = 0) (hbad : info.badBays = [])
    (hbays : s.bays) : (s.bootStep info).pwr.phase = 5 ∧ (s.bootStep info).mem = (if s.pwr.memKept = true then s.mem else []) ∧
      ∀ n i, n < 4 → i < 34 → (s.bootStep info).placed n i := by
  obtain ⟨hpwr, hmem, hplaced⟩ := State.bootMemory_good (s := s.timed info.ms) hcanon.chans hbays
  rw [State.bootStep_memory info hphase, hbad]
  simp only [State.placed, State.bootEnd_mem, State.bootEnd_chan]
  exact ⟨State.bootEnd_phase ((congrArg Pwr.failStep hpwr).trans hfail) 5, hmem, fun n i hn hi => hplaced n hn i hi⟩

theorem State.bootStep_ports_listen (hcanon : Safety.Canonical s) (hphase : s.pwr.phase = 5) (hfail : s.pwr.failStep = 0) :
    (s.bootStep info).pwr.phase = 6 ∧ ∀ p < 32, ((s.bootStep info).port p).listening = decide ((s.port p).state = .training) := by
  obtain ⟨hpwr, hall⟩ := State.bootPorts_spec (s := s.timed info.ms) hcanon.ports
  rw [State.bootStep_ports info hphase]
  simp only [State.bootEnd_port]
  exact ⟨State.bootEnd_phase ((congrArg Pwr.failStep hpwr).trans hfail) 6, hall⟩

theorem State.bootStep_id_set (hcanon : Safety.Canonical s) (hphase : s.pwr.phase = 6) (hfail : s.pwr.failStep = 0) :
    (s.bootStep info).pwr.phase = 7 ∧ (s.bootStep info).mem = s.mem ∧ ∀ r l, s.records 1 = r :: l → ∀ n < 4,
      fld ((s.bootStep info).dcsr (gateBase n)) 13 0 = leNat (r.bytes.take 2) % 16384 ∧ bit ((s.bootStep info).dcsr (gateBase n)) 15 = true := by
  obtain ⟨hpwr, hmem, hgates⟩ := State.bootId_spec (s := s.timed info.ms) hcanon.csr
  rw [State.bootStep_id info hphase]
  simp only [State.bootEnd_mem, State.bootEnd_dcsr]
  refine ⟨State.bootEnd_phase ((congrArg Pwr.failStep hpwr).trans hfail) 7, hmem, fun r l hrec n hn => ?_⟩
  rw [hgates r l hrec n hn, fld_or, fld_place_self (by decide), fld_place_apart (by decide), Nat.or_zero, bit_or, bit_place_one (by decide), Bool.or_true]
  exact ⟨rfl, rfl⟩

end

/-- Settles O49: resets by what they clear, and bring-up step by step. -/
theorem resetAndBringUp : Obligations.ResetAndBringUp := by
  intro s info hcanon
  refine ⟨fun kept c hstop hcool => ⟨_, exec_packageReset kept hstop hcool, rfl, rfl, rfl, rfl, rfl, rfl, rfl, rfl, rfl, rfl, rfl, rfl, rfl⟩,
    fun kept => exec_packageReset_running kept, fun hin => congrArg Host.Outcome.next (if_pos hin),
    fun hin => ⟨_, congrArg Host.Outcome.next (if_neg (by simp [hin])), rfl, rfl, rfl, rfl, rfl, rfl⟩, exec_bringupStepEnd_idle, ?_⟩
  have hstep {p : State → Prop} (up : s.bringsUp) (hp : s.pwr.failStep = 0 → p (s.bootStep info)) : ∃ t, exec (.bringupStepEnd info) s = .next t ∧ p t := by
    have hrun := exec_bringupStepEnd (info := info) up
    obtain ⟨-, -, -, hfail, -⟩ := up
    exact ⟨_, hrun, hp hfail⟩
  exact ⟨fun up hphase => hstep up (State.bootStep_rails info hphase),
    fun up hphase hbad => hstep up fun _ => State.bootStep_image_bad info hphase hbad,
    fun w up hphase hw hpuf => hstep up fun hfail => State.bootStep_image_good info hphase hfail hw hpuf,
    fun up hphase hdies => hstep up fun _ => State.bootStep_dies_missing info hphase hdies,
    fun up hphase hdies => hstep up fun hfail => State.bootStep_dies_present info hphase hfail hdies,
    fun up hphase hbad hdead => hstep up fun hfail => State.bootStep_stalls_good info hcanon hphase hfail hbad hdead,
    fun up hphase hmany => hstep up fun _ => State.bootStep_stalls_bad info hphase hmany,
    fun up hphase hbad hbays => hstep up fun hfail => State.bootStep_memory_good info hcanon hphase hfail hbad hbays,
    fun up hphase => hstep up fun hfail => State.bootStep_ports_listen info hcanon hphase hfail,
    fun up hphase => hstep up fun hfail => State.bootStep_id_set info hcanon hphase hfail⟩

end Sys2Proof.Machine
end
section
/-! SUPPORT. What a groom with nothing unretired reads, and what its next instruction leaves when it retires at once or goes on to wait (R59, R60, R62,
R66, R97). -/

namespace Sys2Proof.Machine

open Sys2Proof.Claims (ready xr vr pr setX setV setP addFlags moved retired waited withReq withReqs groomReq loading)

variable {s : State} {gi : Nat}

/-! ### A groom that is ready -/

theorem ready_running (h : ready s gi) : (s.groom gi).halted = false := h.1
theorem ready_empty (h : ready s gi) : (s.groom gi).rq = [] := h.2.2.1

theorem ready_free (h : ready s gi) : (s.groom gi).free := by
  obtain ⟨hrun, hwait, hrq, hfetch⟩ := h
  refine ⟨by simp [Groom.canIssue, hrun, hwait, hrq], ?_, hrq⟩
  by_cases hp : (s.groom gi).priv = .task
  · simp [Groom.fetchOk, hfetch hp]
  · simp [Groom.fetchOk, hp]

/-- Its sources are its registers (R66). -/
theorem Groom.rx_of_ready (h : ready s gi) (n : Nat) : (s.groom gi).rx n = some (xr s gi n) := by
  simp only [Groom.rx, xr, ready_empty h, pendX, Option.getD_none]
  split_ifs <;> rfl

theorem Groom.rv_of_ready (h : ready s gi) (n : Nat) : (s.groom gi).rv n = some (vr s gi n) := by
  simp only [Groom.rv, vr, ready_empty h, pendV, Option.getD_none]

theorem Groom.rp_of_ready (h : ready s gi) (n : Nat) : (s.groom gi).rp n = pr s gi n := by
  simp only [Groom.rp, pr, ready_empty h, pendP, Option.getD_none]

@[simp] theorem need_some {α : Type} (a : α) (f : α → IRes) : need (some a) f = f a := rfl

/-! ### Instructions that retire at once -/

/-- One that writes registers and float flags. -/
theorem State.issue_retired (h : ready s gi) {f : Groom → IRes} (ws : List RegW) (fl : Nat)
    (hf : f (s.groom gi) = .ok { writes := ws, flags := fl }) :
    s.issue gi f = retired s gi (fun g => addFlags fl (ws.foldl Groom.put g)) :=
  s.issue_writes gi f ws fl [] (ready_free h) (.inl rfl) hf

theorem State.issue_nothing (h : ready s gi) {f : Groom → IRes} (hf : f (s.groom gi) = .ok {}) : s.issue gi f = retired s gi id :=
  State.issue_retired h [] 0 hf

theorem State.issue_x (h : ready s gi) {f : Groom → IRes} {n : Nat} {v : Word} (hf : f (s.groom gi) = .x n v) :
    s.issue gi f = retired s gi (setX n v) :=
  State.issue_retired h [.x n v] 0 hf

theorem State.issue_v (h : ready s gi) {f : Groom → IRes} {n : Nat} {v : BitVec 512} {fl : Nat}
    (hf : f (s.groom gi) = .ok { writes := [.v n v], flags := fl }) : s.issue gi f = retired s gi (fun g => addFlags fl (setV n v g)) :=
  State.issue_retired h [.v n v] fl hf

theorem State.issue_p (h : ready s gi) {f : Groom → IRes} {n : Nat} {v : Word} (hf : f (s.groom gi) = .ok { writes := [.p n v] }) :
    s.issue gi f = retired s gi (setP n v) :=
  State.issue_retired h [.p n v] 0 hf

/-! ### Instructions that send requests -/

/-- Requests sent one by one are numbered from the next free number on. -/
theorem State.foldl_newReq {β : Type} (q : β → Req) {clk : Nat} (l : List β) : ∀ s : State, s.clk = clk →
    l.foldl (fun s b => s.newReq (q b)) s = withReqs s (l.map fun b => { q b with at_ := clk }) := by
  induction l with
  | nil => exact fun _ _ => rfl
  | cons b l ih => rintro s rfl; exact ih (s.newReq (q b)) rfl

/-- A store retires at once and sends its requests. -/
theorem State.issue_stores (h : ready s gi) {f : Groom → IRes} (st : List StoreOp) (hroom : s.storesOut gi < 16)
    (hf : f (s.groom gi) = .ok { stores := st }) :
    s.issue gi f = withReqs (retired s gi id) (st.map fun x =>
      { groomReq s gi (.groomStore gi) .write x.addr x.data.length x.data x.mask with part := x.lane }) := by
  rw [s.issue_writes gi f [] 0 st (ready_free h) (.inr (by simpa [Groom.storeSlots, ready_empty h] using hroom)) hf]
  exact State.foldl_newReq _ st _ (State.perf_clk _ _ _ _ _ _ _)

/-- A load or atomic sends its requests and waits for them in the retire queue. -/
theorem State.issue_waits (h : ready s gi) {f : Groom → IRes} (d : LoadDst) (ls : List LoadOp) (got : Map Byte) (hcsr : s.csrLoadOut gi = false)
    (hf : f (s.groom gi) = .ok { dst := some d, loads := ls, got := got }) :
    s.issue gi f = withReqs (s.setGroom gi (loading (s.groom gi) { seq := 0, pc := 0, dst := some d, left := ls.length, got := got }))
      (ls.map fun l => { groomReq s gi (.groomLoad gi (s.groom gi).nextSeq) l.op l.addr l.len l.data l.mask with part := l.lane }) := by
  rw [s.issue_loads gi f d ls got (ready_free h) hcsr hf]
  exact State.foldl_newReq _ ls _ rfl

/-! ### Retirement of one entry -/

/-- A complete entry alone in the retire queue of a running groom retires. -/
theorem State.settle_one {e : RetEntry} (hrun : (s.groom gi).halted = false) (hrq : (s.groom gi).rq = [e]) (hleft : e.left = 0) (hdst : e.dst = none)
    (hfault : e.fault = none) (hstores : e.stores = []) (n : Nat) :
    s.settle gi (n + 1) = (let h := ({ s.groom gi with rq := [] } : Groom).retire e.writes e.flags; (s.setGroom gi h).perfGroom gi 0x60 h) := by
  have hne : ({ s.groom gi with rq := [] } : Groom) ≠ {} := Groom.ne_of_running (by exact hrun)
  have hne' : ({ s.groom gi with rq := [] } : Groom).retire e.writes e.flags ≠ {} :=
    Groom.ne_of_running ((Groom.retire_halted _ _ _).trans hrun)
  rw [State.settle, hrq]
  simp only [hleft, hdst, hfault, and_self, if_true, State.modGroom]
  rw [State.retireOne_eq, hstores, State.groom_setGroom _ _ _ hne]
  simp only [List.foldl_nil, State.setGroom_setGroom s gi hne hne']
  refine State.settle_nil _ gi n ?_
  rw [State.perfGroom_groom, State.groom_setGroom _ _ _ hne', Groom.retire_rq]

end Sys2Proof.Machine
end

section
/-! SUPPORT. The scalar instructions of a groom: arithmetic, immediate forms, loads, atomics and stores (R66, R69, R73, R75, R77, R79). -/

namespace Sys2Proof.Machine

open Sys2Proof.Claims (ready xr simm setX retired aluOps aluImmOps loadOps storeOps amoOps)

variable {s : State} {gi : Nat}

/-! ### What an operation computes -/

theorem leadZeros_eq (n : Nat) : ∀ w : Word, w.toNat < 2 ^ n → leadZeros n w = if w = 0 then n else n - 1 - Nat.log2 w.toNat := by
  induction n with
  | zero =>
    intro w h
    have h0 : w = 0 := BitVec.eq_of_toNat_eq (by simpa using h)
    rw [if_pos h0, leadZeros]
  | succ n ih =>
    intro w h
    have hpos : w ≠ 0 → w.toNat ≠ 0 := fun h0 hz => h0 (BitVec.eq_of_toNat_eq hz)
    rw [leadZeros, BitVec.getLsbD]
    rcases Nat.lt_or_ge w.toNat (2 ^ n) with hb | hge
    · rw [Nat.testBit_lt_two_pow hb, if_neg Bool.false_ne_true, ih w hb]
      by_cases h0 : w = 0
      · rw [if_pos h0, if_pos h0, Nat.add_comm]
      · have := (Nat.log2_lt (hpos h0)).mpr hb
        rw [if_neg h0, if_neg h0]
        omega
    · have h0 : w ≠ 0 := by
        rintro rfl
        exact absurd (Nat.two_pow_pos n) (Nat.not_lt.mpr hge)
      rw [Nat.testBit_of_two_pow_le_and_two_pow_add_one_gt hge h, if_pos rfl, if_neg h0, (Nat.log2_eq_iff (hpos h0)).mpr ⟨hge, h⟩]
      omega

theorem countOnes_eq (n : Nat) (w : Word) : countOnes n w = ((List.range n).filter (fun i => w.getLsbD i)).length := by
  induction n with
  | zero => rfl
  | succ n ih =>
    rw [countOnes, ih, List.range_succ, List.filter_append, List.length_append, Nat.add_comm]
    cases h : w.getLsbD n <;> simp [h, b2n]

theorem ofInt_tdiv (a b : Word) : BitVec.ofInt 64 (a.toInt.tdiv b.toInt) = a.sdiv b :=
  BitVec.eq_of_toInt_eq (by rw [BitVec.toInt_sdiv, BitVec.toInt_ofInt])

theorem ofInt_tmod (a b : Word) : BitVec.ofInt 64 (a.toInt.tmod b.toInt) = a.srem b :=
  BitVec.eq_of_toInt_eq (by rw [← BitVec.toInt_srem, BitVec.ofInt_toInt])

/-! ### Arithmetic -/

/-- An instruction of format R that computes `op` of its two sources. -/
def Computes (i : Nat → FmtR → Instr) (op : Word → Word → Word) : Prop := ∀ gi f s, exec (i gi f) s = .next (s.aluR gi f op)

theorem Computes.congr {i : Nat → FmtR → Instr} {op op' : Word → Word → Word} (h : Computes i op) (he : ∀ a b, op a b = op' a b) : Computes i op' :=
  (funext₂ he : op = op') ▸ h

theorem State.aluR_eq (h : ready s gi) (f : FmtR) (op : Word → Word → Word) :
    s.aluR gi f op = retired s gi (setX f.rd.toNat (op (xr s gi f.ra.toNat) (xr s gi f.rb.toNat))) :=
  State.issue_x h (by rw [Groom.rx_of_ready h, Groom.rx_of_ready h]; rfl)

theorem State.aluI_eq (h : ready s gi) (f : FmtI) (op : Word → Word → Word) :
    s.aluI gi f op = retired s gi (setX f.rd.toNat (op (xr s gi f.ra.toNat) (simm f.imm))) :=
  State.issue_x h (by rw [Groom.rx_of_ready h]; rfl)

theorem aluOps_compute : ∀ e ∈ aluOps, Computes e.1 e.2 := by
  have same {i : Nat → FmtR → Instr} {op : Word → Word → Word} (h : ∀ gi f s, exec (i gi f) s = .next (s.aluR gi f op)) : Computes i op := h
  have slt (a b : Word) {c d : Word} : (if a.slt b then c else d) = if a.toInt < b.toInt then c else d := by simp only [BitVec.slt, decide_eq_true_eq]
  have ult (a b : Word) {c d : Word} : (if a.ult b then c else d) = if a.toNat < b.toNat then c else d := by simp only [BitVec.ult, decide_eq_true_eq]
  simp only [aluOps, List.forall_mem_cons, List.not_mem_nil, false_imp_iff, implies_true, and_true]
  refine ⟨fun _ _ _ => rfl, fun _ _ _ => rfl, fun _ _ _ => rfl, fun _ _ _ => rfl, fun _ _ _ => rfl, fun _ _ _ => rfl, fun _ _ _ => rfl,
    fun _ _ _ => rfl, ?slt, ?sltu, ?min, ?max, ?minu, ?maxu, fun _ _ _ => rfl, fun _ _ _ => rfl, fun _ _ _ => rfl, ?div, ?divu, ?rem, ?remu⟩
  case slt => exact (same fun _ _ _ => rfl).congr fun a b => slt a b
  case sltu => exact (same fun _ _ _ => rfl).congr fun a b => ult a b
  case min => exact (same fun _ _ _ => rfl).congr fun a b => slt a b
  case max => exact (same fun _ _ _ => rfl).congr fun a b => slt a b
  case minu => exact (same fun _ _ _ => rfl).congr fun a b => ult a b
  case maxu => exact (same fun _ _ _ => rfl).congr fun a b => ult a b
  case div => exact (same fun _ _ _ => rfl).congr fun a b => by rw [divS, ofInt_tdiv]
  case divu => exact (same fun _ _ _ => rfl).congr fun a b => by rw [divU, ← BitVec.toNat_udiv, BitVec.ofNat_toNat, BitVec.setWidth_eq]
  case rem => exact (same fun _ _ _ => rfl).congr fun a b => by rw [remS, ofInt_tmod]
  case remu => exact (same fun _ _ _ => rfl).congr fun a b => by rw [remU, ← BitVec.toNat_umod, BitVec.ofNat_toNat, BitVec.setWidth_eq]

theorem scalarArithmetic : Claims.ScalarArithmeticWritesOnlyRd := by
  intro e he s gi f h
  rw [aluOps_compute e he, State.aluR_eq h]

theorem countLeadingZerosAndOnes : Claims.CountLeadingZerosAndOnes := by
  intro s gi f h
  refine ⟨congrArg Host.Outcome.next ?clz, congrArg Host.Outcome.next ?popc⟩
  case clz => rw [State.aluR_eq h, leadZeros_eq 64 _ (BitVec.isLt _)]
  case popc => rw [State.aluR_eq h, countOnes_eq]

/-! ### Immediate forms -/

theorem aluImmOps_compute : ∀ e ∈ aluImmOps, ∀ gi f s, exec (e.1 gi f) s = .next (s.aluI gi f e.2) := by
  simp only [aluImmOps, List.forall_mem_cons, List.not_mem_nil, false_imp_iff, implies_true, and_true]
  exact ⟨fun _ _ _ => rfl, fun _ _ _ => rfl, fun _ _ _ => rfl, fun _ _ _ => rfl⟩

/-- The shifts of SHIFTI by kind: left, logical right, arithmetic right (R79). -/
def shiftBy (k : Nat) (a : Word) (n : Nat) : Word :=
  match k with
  | 0 => a <<< n
  | 1 => a >>> n
  | _ => a.sshiftRight n

/-- SHIFTI in a defined form: the kind is IMM16 / 64, the distance IMM16 mod 64. -/
theorem exec_shifti (h : ready s gi) (f : FmtI) (hdef : f.imm.toNat / 64 < 3) :
    exec (.shifti gi f) s = .next (retired s gi (setX f.rd.toNat (shiftBy (f.imm.toNat / 64) (xr s gi f.ra.toNat) (f.imm.toNat % 64)))) := by
  refine congrArg Host.Outcome.next (State.issue_x h ?_)
  rw [if_neg (by omega), Groom.rx_of_ready h]
  rfl

theorem immediateArithmetic : Claims.ImmediateArithmetic := by
  intro s gi f h
  refine ⟨fun e he => ?_, fun hi => ?left, fun hlo hi => ?right, fun hlo hi => ?arith, fun hra => ?lui, fun hra => ?shori⟩
  · rw [aluImmOps_compute e he, State.aluI_eq h]
  case left => rw [exec_shifti h f (by omega), show f.imm.toNat / 64 = 0 by omega, Nat.mod_eq_of_lt hi, shiftBy]
  case right => rw [exec_shifti h f (by omega), show f.imm.toNat / 64 = 1 by omega, show f.imm.toNat % 64 = f.imm.toNat - 64 by omega, shiftBy]
  case arith =>
    rw [exec_shifti h f (by omega), show f.imm.toNat / 64 = 2 by omega, show f.imm.toNat % 64 = f.imm.toNat - 128 by omega]
    rfl
  case lui => exact congrArg Host.Outcome.next (State.issue_x h (if_neg (by simpa using hra)))
  case shori =>
    refine congrArg Host.Outcome.next (State.issue_x h ?_)
    rw [if_neg (by simpa using hra), Groom.rx_of_ready h, need_some]

/-- Settles O2: arithmetic by what each operation computes, the immediate forms by their kinds. -/
theorem scalarComputation : Obligations.ScalarComputation :=
  ⟨scalarArithmetic, countLeadingZerosAndOnes, immediateArithmetic⟩

/-! ### Loads, atomics and stores -/

theorem State.loadI_eq (h : ready s gi) (hcsr : s.csrLoadOut gi = false) (f : FmtI) (n : Nat) (sg : Bool)
    (hal : (xr s gi f.ra.toNat + simm f.imm).toNat % n = 0) :
    s.loadI gi f n sg = Claims.withReq
      (s.setGroom gi (Claims.loading (s.groom gi) { seq := 0, pc := 0, dst := some (.x f.rd.toNat n sg), left := 1 }))
      (Claims.groomReq s gi (.groomLoad gi (s.groom gi).nextSeq) .read (xr s gi f.ra.toNat + simm f.imm).toNat n [] none) := by
  refine State.issue_waits h (.x f.rd.toNat n sg) [{ addr := (xr s gi f.ra.toNat + simm f.imm).toNat, len := n }] [] hcsr ?_
  rw [Groom.rx_of_ready h, need_some, imm16]
  exact if_neg (not_not_intro hal)

theorem State.amoR_eq (h : ready s gi) (hcsr : s.csrLoadOut gi = false) (f : FmtR) (op : AmoOp) (n : Nat)
    (hal : (xr s gi f.ra.toNat).toNat % n = 0) :
    s.amoR gi f op n = Claims.withReq
      (s.setGroom gi (Claims.loading (s.groom gi) { seq := 0, pc := 0, dst := some (.x f.rd.toNat n true), left := 1 }))
      (Claims.groomReq s gi (.groomLoad gi (s.groom gi).nextSeq) (.amo op) (xr s gi f.ra.toNat).toNat n
        (leBytes n (xr s gi f.rb.toNat).toNat ++ leBytes n (xr s gi f.rc.toNat).toNat) none) := by
  refine State.issue_waits h (.x f.rd.toNat n true) [{ op := .amo op, addr := (xr s gi f.ra.toNat).toNat, len := n, data := _ }] [] hcsr ?_
  rw [Groom.rx_of_ready h, Groom.rx_of_ready h, Groom.rx_of_ready h]
  exact if_neg (not_not_intro hal)

theorem State.storeS_eq (h : ready s gi) (hroom : s.storesOut gi < 16) (f : FmtS) (n : Nat)
    (hal : (xr s gi f.ra.toNat + simm f.imm).toNat % n = 0) :
    s.storeS gi f n = Claims.withReq (retired s gi id)
      (Claims.groomReq s gi (.groomStore gi) .write (xr s gi f.ra.toNat + simm f.imm).toNat n (leBytes n (xr s gi f.rs.toNat).toNat) none) := by
  have hst := State.issue_stores h [{ addr := (xr s gi f.ra.toNat + simm f.imm).toNat, data := leBytes n (xr s gi f.rs.toNat).toNat }] hroom
    (f := fun g => need (g.rx f.ra.toNat) fun a => need (g.rx f.rs.toNat) fun v =>
      let ad := (a + imm16 f.imm).toNat
      if ad % n ≠ 0 then .misaligned else .ok { stores := [{ addr := ad, data := leBytes n v.toNat }] }) (by
    rw [Groom.rx_of_ready h, Groom.rx_of_ready h]
    exact if_neg (not_not_intro hal))
  rw [State.storeS, hst, List.map_singleton, length_leBytes]
  rfl

theorem loadOps_run : ∀ e ∈ loadOps, ∀ gi f s, exec (e.1 gi f) s = .next (s.loadI gi f e.2.1 e.2.2) := by
  simp only [loadOps, List.forall_mem_cons, List.not_mem_nil, false_imp_iff, implies_true, and_true]
  exact ⟨fun _ _ _ => rfl, fun _ _ _ => rfl, fun _ _ _ => rfl, fun _ _ _ => rfl, fun _ _ _ => rfl, fun _ _ _ => rfl, fun _ _ _ => rfl⟩

/-- Only a compare-and-swap reads X[RC]; the other atomics name X0 in its place. -/
theorem amoOps_run : ∀ e ∈ amoOps, ∀ gi f s, exec (e.1 gi f) s = .next (s.amoR gi (if e.2.2.2 then f else { f with rc := 0 }) e.2.1 e.2.2.1) := by
  simp only [amoOps, List.forall_mem_cons, List.not_mem_nil, false_imp_iff, implies_true, and_true]
  exact ⟨fun _ _ _ => rfl, fun _ _ _ => rfl, fun _ _ _ => rfl, fun _ _ _ => rfl, fun _ _ _ => rfl, fun _ _ _ => rfl⟩

theorem storeOps_run : ∀ e ∈ storeOps, ∀ gi f s, exec (e.1 gi f) s = .next (s.storeS gi f e.2) := by
  simp only [storeOps, List.forall_mem_cons, List.not_mem_nil, false_imp_iff, implies_true, and_true]
  exact ⟨fun _ _ _ => rfl, fun _ _ _ => rfl, fun _ _ _ => rfl, fun _ _ _ => rfl⟩

/-- Settles O3: each row by its operation, at an aligned address. -/
theorem scalarMemory : Obligations.ScalarMemory := by
  refine ⟨fun s gi h hcsr => ⟨fun e he f hal => ?load, fun e he f hal => ?amo⟩, fun e he s gi f h hroom hal => ?store⟩
  case load => rw [loadOps_run e he, State.loadI_eq h hcsr f _ _ hal]
  case amo =>
    rw [amoOps_run e he]
    cases e.2.2.2 with
    | true => exact congrArg Host.Outcome.next (State.amoR_eq h hcsr f _ _ hal)
    | false => exact congrArg Host.Outcome.next (State.amoR_eq h hcsr { f with rc := 0 } _ _ hal)
  case store => rw [storeOps_run e he, State.storeS_eq h hroom f _ hal]

end Sys2Proof.Machine
end

section
/-! SUPPORT. Branches and jumps: the next pc, and what a branch leaves as it was (R62, R65, R79). -/

namespace Sys2Proof.Machine

open Sys2Proof.Claims (ready xr simm setX sameBut branchOps)

variable {s : State} {gi : Nat}

/-- The predictor learns, and nothing else of the groom changes (R65). -/
theorem Groom.predict_eq (g : Groom) (e : Eff) : ∃ c b r, (g.predict e).1 = { g with ctr := c, btb := b, ras := r } := by
  simp only [Groom.predict]
  cases e.br <;> split_ifs <;> exact ⟨_, _, _, rfl⟩

/-- The groom past an instruction that has left the retire queue again. -/
def Groom.pastEff (g : Groom) (e : Eff) : Groom :=
  { (g.predict e).1 with rq := [], nextSeq := g.nextSeq + 1, pc := (e.npc.getD (g.pc + 4)) % 0x400000 / 4 * 4 }

/-- The state with a wrong prediction counted. -/
def State.predicted (s : State) (gi : Nat) (e : Eff) : State :=
  if ((s.groom gi).predict e).2 then s.perfGroom gi 0x61 (s.groom gi) else s

theorem State.predicted_eq (s : State) (gi : Nat) (e : Eff) : ∃ m, s.predicted gi e = { s with stalls := m } := by
  unfold State.predicted
  split_ifs
  · exact State.perf_eq _ _ _ _ _ _ _
  · exact ⟨_, rfl⟩

/-- An instruction without memory accesses, issued by a ready groom, retires at once. -/
theorem State.issue_retires (h : ready s gi) {f : Groom → IRes} {e : Eff} (hf : f (s.groom gi) = .ok e) (hloads : e.loads = [])
    (hstores : e.stores = []) (hdst : e.dst = none) :
    s.issue gi f = (let g := ((s.groom gi).pastEff e).retire e.writes e.flags; ((s.predicted gi e).setGroom gi g).perfGroom gi 0x60 g) := by
  obtain ⟨hcan, hfetch, hrq⟩ := ready_free h
  have hrun : ((s.groom gi).pastEff e).halted = false := by
    obtain ⟨c, b, r, hp⟩ := (s.groom gi).predict_eq e
    rw [Groom.pastEff, hp]
    exact ready_running h
  have hmem : s.memReady gi e = true := by simp [State.memReady, hloads, hstores]
  let ent : RetEntry := { seq := (s.groom gi).nextSeq, pc := (s.groom gi).pc, writes := e.writes, flags := e.flags, dst := e.dst, left := 0,
                          got := e.got, stores := e.stores }
  let g' : Groom := { (s.groom gi).pastEff e with rq := (s.groom gi).rq ++ [ent] }
  have hissue : s.issue gi f = ((s.predicted gi e).setGroom gi g').settle gi 33 := by
    simp only [State.issue, hcan, hfetch, hf, hmem, if_true, State.accept, hloads, List.foldl_nil]
    rfl
  have hg' : ((s.predicted gi e).setGroom gi g').groom gi = g' := State.groom_setGroom _ _ _ (Groom.ne_of_running hrun)
  rw [hissue, State.settle_one (e := ent) (by rw [hg']; exact hrun) (by rw [hg']; exact congrArg (· ++ [ent]) hrq) rfl hdst rfl hstores, hg']
  exact congrArg (fun t => State.perfGroom t gi 0x60 _) (State.setGroom_setGroom _ gi (Groom.ne_of_running hrun)
    (Groom.ne_of_running ((Groom.retire_halted _ _ _).trans hrun)))

/-- An instruction that writes X[n] and may jump, issued by a ready groom: what it changes. -/
theorem State.issue_jumps (h : ready s gi) {f : Groom → IRes} {e : Eff} {n : Nat} {v : Word} (hf : f (s.groom gi) = .ok e) (hloads : e.loads = [])
    (hstores : e.stores = []) (hdst : e.dst = none) (hflags : e.flags = 0) (hw : ∀ g : Groom, e.writes.foldl Groom.put g = setX n v g) :
    sameBut s (s.issue gi f) gi ∧ ((s.issue gi f).groom gi).x = (setX n v (s.groom gi)).x ∧
      ((s.issue gi f).groom gi).pc = (e.npc.getD ((s.groom gi).pc + 4)) % 0x400000 / 4 * 4 := by
  obtain ⟨c, b, r, hp⟩ := (s.groom gi).predict_eq e
  obtain ⟨m, hm⟩ := s.predicted_eq gi e
  have hret : ((s.groom gi).pastEff e).retire e.writes e.flags = { setX n v ((s.groom gi).pastEff e) with instret := (s.groom gi).instret + 1 } := by
    simp only [Groom.retire, hw, hflags, if_true, Groom.pastEff, hp, setX]
    split_ifs <;> rfl
  have hne : ((s.groom gi).pastEff e).retire e.writes e.flags ≠ {} := by
    refine Groom.ne_of_running ((Groom.retire_halted _ _ _).trans ?_)
    rw [Groom.pastEff, hp]
    exact ready_running h
  rw [State.issue_retires h hf hloads hstores hdst, hm]
  simp only [sameBut, State.perfGroom_groom, State.groom_setGroom _ _ _ hne]
  rw [hret, Groom.pastEff, hp]
  refine ⟨⟨?_, ?_, ?_, ?_, ?_, ?_, ?_, rfl, fun gj hj => State.groom_setGroom_of_ne _ _ hj, State.perf_mem _ _ _ _ _ _ _, State.perf_reqs _ _ _ _ _ _ _, State.perf_csr _ _ _ _ _ _ _⟩, ?_, ?_⟩
  all_goals
    simp only [setX]
    split_ifs <;> rfl

/-! ### Where they go -/

/-- A word-aligned target within scratch stays as it is. -/
theorem branch_target {pc : Nat} (hpc : pc % 4 = 0) (off : Int) :
    ((((pc : Int) + off * 4) % 0x400000).toNat % 0x400000 / 4 * 4 : Nat) = ((pc : Int) + off * 4) % 0x400000 := by
  omega

theorem next_pc {pc : Nat} (hpc : pc % 4 = 0) : (pc + 4) % 0x400000 / 4 * 4 = (pc + 4) % 0x400000 := by
  omega

theorem fld_target (w : Word) : fld w 21 2 * 4 % 0x400000 / 4 * 4 = w.toNat % 0x400000 / 4 * 4 := by
  simp only [fld, Nat.shiftRight_eq_div_pow]
  omega

/-- What a conditional branch, JAL and JALR ask of their groom. -/
def branchEff (f : FmtB) (c : Word → Word → Bool) (g : Groom) : IRes :=
  need (g.rx f.ra.toNat) fun a => need (g.rx f.rb.toNat) fun b =>
    .ok { br := some (c a b), npc := if c a b then some (((g.pc : Int) + f.off.toInt * 4) % 0x400000).toNat else none }
def jalEff (f : FmtJ) (g : Groom) : IRes :=
  .ok { writes := [.x f.rd.toNat (BitVec.ofNat 64 ((g.pc + 4) % 0x400000))], npc := some (((g.pc : Int) + f.off.toInt * 4) % 0x400000).toNat,
        push := decide (f.rd = 1) }
def jalrEff (f : FmtI) (g : Groom) : IRes :=
  need (g.rx f.ra.toNat) fun a =>
    .ok { writes := [.x f.rd.toNat (BitVec.ofNat 64 ((g.pc + 4) % 0x400000))], npc := some (fld (a + simm f.imm) 21 2 * 4), ind := true,
          push := decide (f.rd = 1), pop := decide (f.ra = 1 ∧ f.rd = 0) }

/-- A branch on the condition `c`. -/
theorem State.branch_eq (h : ready s gi) (hpc : (s.groom gi).pc % 4 = 0) (f : FmtB) (c : Word → Word → Bool) :
    let t := s.branch gi f c
    sameBut s t gi ∧ (t.groom gi).x = (s.groom gi).x ∧
      ((t.groom gi).pc : Int) = if c (xr s gi f.ra.toNat) (xr s gi f.rb.toNat) then ((s.groom gi).pc + f.off.toInt * 4) % 0x400000
        else ((s.groom gi).pc + 4) % 0x400000 := by
  obtain ⟨hsame, hx, hgo⟩ := State.issue_jumps (n := 0) (v := 0) h (f := branchEff f c)
    (by rw [branchEff, Groom.rx_of_ready h, Groom.rx_of_ready h]; rfl) rfl rfl rfl rfl fun _ => rfl
  refine ⟨hsame, hx, (congrArg Nat.cast hgo).trans ?_⟩
  split_ifs
  · exact branch_target hpc _
  · rw [Option.getD_none, next_pc hpc]
    norm_cast

/-- Each conditional branch and its condition. -/
theorem branchOps_run : ∀ e ∈ branchOps, ∃ c : Word → Word → Bool, (∀ a b, c a b = true ↔ e.2 a b) ∧ ∀ gi f s, exec (e.1 gi f) s = .next (s.branch gi f c) := by
  simp only [branchOps, List.forall_mem_cons, List.not_mem_nil, false_imp_iff, implies_true, and_true]
  refine ⟨⟨_, ?beq, fun _ _ _ => rfl⟩, ⟨_, ?bne, fun _ _ _ => rfl⟩, ⟨_, ?blt, fun _ _ _ => rfl⟩, ⟨_, ?bge, fun _ _ _ => rfl⟩, ⟨_, ?bltu, fun _ _ _ => rfl⟩,
    ⟨_, ?bgeu, fun _ _ _ => rfl⟩⟩
  case beq => exact fun a b => decide_eq_true_iff
  case bne => exact fun a b => decide_eq_true_iff
  case blt => exact fun a b => decide_eq_true_iff
  case bge => simp [BitVec.slt]
  case bltu => exact fun a b => decide_eq_true_iff
  case bgeu => simp [BitVec.ult]

/-- Settles O1: each instruction by the pc it goes to. -/
theorem branchesAndJumps : Obligations.BranchesAndJumps := by
  intro s gi h hlt hpc
  refine ⟨fun e he f => ?branch, fun f => ?jal, fun f => ?jalr⟩
  case branch =>
    obtain ⟨c, hc, hrun⟩ := branchOps_run e he
    obtain ⟨hsame, hx, hgo⟩ := State.branch_eq h hpc f c
    refine ⟨_, hrun gi f s, hsame, hx, fun htaken => ?_, fun hnot => ?_⟩
    · rw [hgo, if_pos ((hc _ _).mpr htaken)]
    · rw [if_neg (fun ht => hnot ((hc _ _).mp ht))] at hgo
      exact_mod_cast hgo
  case jal =>
    refine ⟨_, rfl, ?_⟩
    obtain ⟨hsame, hx, hgo⟩ := State.issue_jumps h (f := jalEff f) rfl rfl rfl rfl rfl fun _ => rfl
    exact ⟨hsame, hx, (congrArg Nat.cast hgo).trans (branch_target hpc _)⟩
  case jalr =>
    refine ⟨_, rfl, ?_⟩
    obtain ⟨hsame, hx, hgo⟩ := State.issue_jumps h (f := jalrEff f) (by rw [jalrEff, Groom.rx_of_ready h, need_some]) rfl rfl rfl rfl fun _ => rfl
    exact ⟨hsame, hx, hgo.trans (fld_target _)⟩

end Sys2Proof.Machine
end

section
/-! SUPPORT. Lanes of a vector register: what is read of a register built from lanes, and what a lane-by-lane instruction leaves (R66, R67). -/

namespace Sys2Proof.Machine

open Sys2Proof.Claims (ready xr vr pr setX setV addFlags retired on vecResult vecIntOps orAll)

variable {s : State} {gi : Nat}

/-! ### Registers built from lanes -/

theorem laneAt_lt (v : BitVec 512) (w i : Nat) : laneAt v w i < 2 ^ w := Nat.mod_lt _ (Nat.two_pow_pos w)

theorem laneSum_lt (w : Nat) : ∀ l : List Nat, laneSum w l < 2 ^ (l.length * w)
  | [] => by simp [laneSum]
  | a :: l => by
    have ha : a % 2 ^ w < 2 ^ w := Nat.mod_lt _ (Nat.two_pow_pos w)
    have hl : (laneSum w l + 1) * 2 ^ w ≤ 2 ^ (l.length * w) * 2 ^ w := Nat.mul_le_mul_right _ (laneSum_lt w l)
    rw [laneSum, List.length_cons, Nat.add_mul, Nat.one_mul, Nat.pow_add]
    rw [Nat.add_mul, Nat.one_mul] at hl
    omega

/-- Lane i of a sum of lanes is the i-th number, cut to the lane. -/
theorem laneSum_lane (w : Nat) : ∀ (l : List Nat) (i : Nat) (hi : i < l.length), (laneSum w l >>> (i * w)) % 2 ^ w = l[i] % 2 ^ w
  | a :: l, 0, _ => by simp [laneSum, Nat.add_mul_mod_self_right]
  | a :: l, i + 1, hi => by
    have hdiv : laneSum w (a :: l) >>> w = laneSum w l := by
      rw [laneSum, Nat.shiftRight_eq_div_pow, Nat.add_mul_div_right _ _ (Nat.two_pow_pos w), Nat.div_eq_of_lt (Nat.mod_lt _ (Nat.two_pow_pos w)), Nat.zero_add]
    rw [Nat.add_mul, Nat.one_mul, Nat.add_comm, Nat.shiftRight_add, hdiv, laneSum_lane w l i (Nat.lt_of_succ_lt_succ hi), List.getElem_cons_succ]

theorem laneAt_ofLanes {w : Nat} {l : List Nat} (hfit : l.length * w ≤ 512) {i : Nat} (hi : i < l.length) : laneAt (ofLanes w l) w i = l[i] % 2 ^ w := by
  have hlt := Nat.lt_of_lt_of_le (laneSum_lt w l) (Nat.pow_le_pow_right Nat.two_pos hfit)
  rw [laneAt, ofLanes, BitVec.toNat_ofNat, Nat.mod_eq_of_lt hlt, laneSum_lane w l i hi]

/-- A register whose lanes are given by a function. -/
theorem laneAt_ofLanes_map {w : Nat} (f : Nat → Nat) {i : Nat} (hi : i < 512 / w) :
    laneAt (ofLanes w ((List.range (512 / w)).map f)) w i = f i % 2 ^ w := by
  rw [laneAt_ofLanes (by rw [List.length_map, List.length_range]; exact Nat.div_mul_le_self 512 w) (by rwa [List.length_map, List.length_range]),
    List.getElem_map, List.getElem_range]

/-! ### Results by lane -/

/-- The flags of a list of results together. -/
theorem foldl_flags {α : Type} (f : α → Nat × Nat) (l : List α) :
    (l.map f).foldl (fun a r => a ||| r.2) 0 = orAll (l.map fun i => (f i).2) := by
  rw [orAll, List.foldl_map, List.foldl_map]

theorem orAll_zeros {α : Type} (l : List α) : orAll (l.map fun _ => 0) = 0 := by
  induction l with
  | nil => rfl
  | cons _ l ih => rwa [orAll, List.map_cons, List.foldl_cons, Nat.or_zero]

/-- An instruction that writes V[VD]. -/
theorem vecResult_of_write (h : ready s gi) {c : Instr} {R : Groom → IRes} (hc : exec c s = .next (s.issue gi R)) {vd : BitVec 5} {w fl : Nat}
    {r : BitVec 512} {H : Nat → Nat} (hR : R (s.groom gi) = .ok { writes := [.v vd.toNat r], flags := fl })
    (hr : ∀ i, i < 512 / w → laneAt r w i = H i % 2 ^ w) : vecResult s gi c vd w fl H :=
  ⟨r, hr, hc.trans (congrArg Host.Outcome.next (State.issue_v h hR))⟩

/-- Lane i of a result with its flags, over an old register: `f` where the lane is active. -/
def laneResult (s : State) (gi : Nat) (pg : BitVec 3) (w : Nat) (f : Nat → Nat → Nat × Nat) (old : BitVec 512) (i : Nat) : Nat × Nat :=
  if on s gi pg w i then f i (laneAt old w i) else (laneAt old w i, 0)

theorem laneResult_eq (s : State) (gi : Nat) (pg : BitVec 3) (w : Nat) (f : Nat → Nat → Nat × Nat) (old : BitVec 512) (i : Nat) :
    laneResult s gi pg w f old i = (if on s gi pg w i then (f i (laneAt old w i)).1 else laneAt old w i,
      if on s gi pg w i then (f i (laneAt old w i)).2 else 0) := by
  unfold laneResult
  split_ifs <;> rfl

/-- The effect that writes lanes with their flags. -/
def lanesEff (vd w : Nat) (rs : List (Nat × Nat)) : IRes :=
  .ok { writes := [.v vd (ofLanes w (rs.map (·.1)))], flags := rs.foldl (fun a r => a ||| r.2) 0 }

/-- The old register is read where an inactive lane keeps its value or `f` asks for it; else any register gives the same lanes. -/
theorem Groom.vlanes_of_ready (h : ready s gi) (vd : Nat) (pg : BitVec 3) (w : Nat) {rd : Bool} {f : Nat → Nat → Nat × Nat}
    (hrd : rd = true ∨ ∀ i d d', f i d = f i d') :
    (s.groom gi).vlanes vd pg w rd f = lanesEff vd w ((List.range (512 / w)).map (laneResult s gi pg w f (vr s gi vd))) := by
  have hval : (s.groom gi).vlanes vd pg w rd f = if rd || (List.range (512 / w)).any (fun i => !on s gi pg w i)
      then lanesEff vd w ((List.range (512 / w)).map (laneResult s gi pg w f (vr s gi vd)))
      else lanesEff vd w ((List.range (512 / w)).map (laneResult s gi pg w f 0)) := by
    unfold Groom.vlanes
    rw [Groom.rp_of_ready h, Groom.rv_of_ready h]
    rfl
  rw [hval]
  split_ifs with hany
  · rfl
  · obtain ⟨rfl, hall⟩ := Bool.or_eq_false_iff.mp (Bool.eq_false_of_not_eq_true hany)
    refine congrArg (lanesEff vd w) (List.map_congr_left fun i hi => ?_)
    have hon : on s gi pg w i = true := by simpa using List.any_eq_false.mp hall i hi
    rw [laneResult, laneResult, if_pos hon, if_pos hon]
    exact hrd.resolve_left Bool.false_ne_true i _ _

/-- An instruction whose active lanes of VD take what `f` gives of the lane's number and old value (R67). -/
theorem vecResult_of_vlanes (h : ready s gi) {c : Instr} {R : Groom → IRes} (hc : exec c s = .next (s.issue gi R)) {vd : BitVec 5} {pg : BitVec 3}
    {w : Nat} {rd : Bool} {f : Nat → Nat → Nat × Nat} (hR : R (s.groom gi) = (s.groom gi).vlanes vd.toNat pg w rd f)
    (hrd : rd = true ∨ ∀ i d d', f i d = f i d') :
    vecResult s gi c vd w
      (orAll ((List.range (512 / w)).map fun i => if on s gi pg w i then (f i (laneAt (vr s gi vd.toNat) w i)).2 else 0))
      (fun i => if on s gi pg w i then (f i (laneAt (vr s gi vd.toNat) w i)).1 else laneAt (vr s gi vd.toNat) w i) := by
  rw [Groom.vlanes_of_ready h _ _ _ hrd, lanesEff, List.map_map, foldl_flags] at hR
  simp only [laneResult_eq] at hR
  refine vecResult_of_write h hc hR fun i hi => ?_
  rw [laneAt_ofLanes_map _ hi, Function.comp_apply, laneResult_eq]

/-- Results that agree in their lanes. -/
theorem vecResult_congr {c : Instr} {vd : BitVec 5} {w fl fl' : Nat} {H H' : Nat → Nat} (h : vecResult s gi c vd w fl H) (hfl : fl = fl')
    (hH : ∀ i, H i % 2 ^ w = H' i % 2 ^ w) : vecResult s gi c vd w fl' H' := by
  obtain ⟨r, hr, he⟩ := h
  exact ⟨r, fun i hi => (hr i hi).trans (hH i), hfl ▸ he⟩

/-- Integer lanes: no flags. -/
theorem vecResult_of_ints (h : ready s gi) {c : Instr} {R : Groom → IRes} (hc : exec c s = .next (s.issue gi R)) {vd : BitVec 5} {pg : BitVec 3}
    {w : Nat} {rd : Bool} {f : Nat → Nat → Nat} (hR : R (s.groom gi) = (s.groom gi).vlanes vd.toNat pg w rd (fun i d => (f i d, 0)))
    (hrd : rd = true ∨ ∀ i d d', f i d = f i d') :
    vecResult s gi c vd w 0 (fun i => if on s gi pg w i then f i (laneAt (vr s gi vd.toNat) w i) else laneAt (vr s gi vd.toNat) w i) := by
  refine vecResult_congr (vecResult_of_vlanes h hc hR (hrd.imp_right fun he i d d' => congrArg (·, 0) (he i d d'))) ?_ fun _ => rfl
  simp only [ite_self]
  exact orAll_zeros _

/-! ### Integer arithmetic -/

/-- An instruction whose active lanes take `op` of the width and the lanes of VA and VB. -/
def VecComputes (i : Nat → FmtV → Instr) (op : Nat → Nat → Nat → Nat) : Prop := ∀ gi f s, exec (i gi f) s = .next (s.vecAB gi f op)

/-- Operations that agree on lanes of the width, cut to it. -/
def LanesAgree (op op' : Nat → Nat → Nat → Nat) : Prop := ∀ w a b, a < 2 ^ w → b < 2 ^ w → op w a b % 2 ^ w = op' w a b % 2 ^ w

theorem lanesAgree_sub : LanesAgree (fun w a b => a + (2 ^ w - b)) (fun w a b => a + 2 ^ w - b) := fun w a b _ hb => by
  beta_reduce
  rw [Nat.add_sub_assoc (Nat.le_of_lt hb)]

theorem lanesAgree_min : LanesAgree (fun _ a b => min a b) (fun _ a b => if a < b then a else b) := fun w a b _ _ => by
  refine congrArg (· % 2 ^ w) ?_
  beta_reduce
  split_ifs <;> omega

theorem lanesAgree_max : LanesAgree (fun _ a b => max a b) (fun _ a b => if a < b then b else a) := fun w a b _ _ => by
  refine congrArg (· % 2 ^ w) ?_
  beta_reduce
  split_ifs <;> omega

theorem lanesAgree_satU : LanesAgree (fun w a b => satU w (a + b)) (fun w a b => if a + b < 2 ^ w then a + b else 2 ^ w - 1) := fun w a b _ _ => by
  refine congrArg (· % 2 ^ w) ?_
  simp only [satU]
  split_ifs <;> omega

theorem vecIntOps_compute : ∀ e ∈ vecIntOps, ∃ op, VecComputes e.1 op ∧ LanesAgree op e.2 := by
  have same {i : Nat → FmtV → Instr} {op : Nat → Nat → Nat → Nat} (h : VecComputes i op) : ∃ op', VecComputes i op' ∧ LanesAgree op' op :=
    ⟨op, h, fun _ _ _ _ _ => rfl⟩
  simp only [vecIntOps, List.forall_mem_cons, List.not_mem_nil, false_imp_iff, implies_true, and_true]
  exact ⟨same fun _ _ _ => rfl, ⟨_, fun _ _ _ => rfl, lanesAgree_sub⟩, same fun _ _ _ => rfl, same fun _ _ _ => rfl, same fun _ _ _ => rfl,
    same fun _ _ _ => rfl, same fun _ _ _ => rfl, ⟨_, fun _ _ _ => rfl, lanesAgree_min⟩, ⟨_, fun _ _ _ => rfl, lanesAgree_max⟩,
    same fun _ _ _ => rfl, same fun _ _ _ => rfl, same fun _ _ _ => rfl, same fun _ _ _ => rfl, same fun _ _ _ => rfl, same fun _ _ _ => rfl,
    same fun _ _ _ => rfl, ⟨_, fun _ _ _ => rfl, lanesAgree_satU⟩⟩

theorem vectorIntegerLanes : Claims.VectorIntegerLanes := by
  intro e he s gi f h
  obtain ⟨op, hop, hagree⟩ := vecIntOps_compute e he
  refine vecResult_congr (vecResult_of_ints h (hop gi f s) (pg := f.pg) (rd := false)
    (f := fun i _ => op (ewBits f.ew) (laneAt (vr s gi f.va.toNat) (ewBits f.ew) i) (laneAt (vr s gi f.vb.toNat) (ewBits f.ew) i)) (by rw [Groom.rv_of_ready h, Groom.rv_of_ready h]; rfl)
    (.inr fun _ _ _ => rfl)) rfl fun i => ?_
  split_ifs
  · exact hagree _ _ _ (laneAt_lt _ _ _) (laneAt_lt _ _ _)
  · rfl

/-! ### Moves -/

theorem vectorMoves : Claims.VectorMoves := by
  intro s gi f h w a b d k keep
  have hrv := Groom.rv_of_ready h
  have hrx := Groom.rx_of_ready h
  refine ⟨?vsel, ?vmac, ?vbcast, ?vperm, ?vins, ?vslideup, ?vslidedn, ?vext⟩
  case vsel => exact vecResult_of_write h rfl (by rw [hrv, hrv, Groom.rp_of_ready h]; rfl) fun i hi => laneAt_ofLanes_map _ hi
  case vmac => exact vecResult_of_ints h rfl (f := fun i d => d + laneAt a w i * laneAt b w i) (by rw [hrv, hrv]; rfl) (.inl rfl)
  case vbcast => exact vecResult_of_ints h rfl (f := fun _ _ => (xr s gi f.va.toNat).toNat) (by rw [hrx]; rfl) (.inr fun _ _ _ => rfl)
  case vperm => exact vecResult_of_ints h rfl (f := fun i _ => laneAt a w (laneAt b w i % (512 / w))) (by rw [hrv, hrv]; rfl) (.inr fun _ _ _ => rfl)
  case vins => exact vecResult_of_ints h rfl (f := fun i d => if i = k then (xr s gi f.va.toNat).toNat else d) (by rw [hrx, hrx]; rfl) (.inl rfl)
  case vslideup => exact vecResult_of_ints h rfl (f := fun i d => if k ≤ i then laneAt a w (i - k) else d) (by rw [hrv, hrx]; rfl) (.inl rfl)
  case vslidedn => exact vecResult_of_ints h rfl (f := fun i d => if i + k < 512 / w then laneAt a w (i + k) else d) (by rw [hrv, hrx]; rfl) (.inl rfl)
  case vext => exact congrArg Host.Outcome.next (State.issue_x h (by rw [hrv, hrx]; rfl))

/-- Settles O5: integer lanes by what each operation computes, the moves one by one. -/
theorem vectorIntegersAndMoves : Obligations.VectorIntegersAndMoves := ⟨vectorIntegerLanes, vectorMoves⟩

end Sys2Proof.Machine
end

section
/-! SUPPORT. Predicate registers: the elements of a predicate built from a function, comparisons, predicate logic and moves (R66, R67, R79). -/

namespace Sys2Proof.Machine

open Sys2Proof.Claims (ready xr vr pr setX setP retired on predResult vcmpOps predOps)

variable {s : State} {gi : Nat}

/-! ### Predicates built bit by bit -/

/-- A number below `2 ^ n` takes the bit `n` from a power of two. -/
theorem testBit_add_two_pow {x n : Nat} (hx : x < 2 ^ n) (b : Bool) (i : Nat) :
    (x + if b then 2 ^ n else 0).testBit i = if i = n then b else x.testBit i := by
  have h := Nat.testBit_two_pow_mul_add b.toNat hx i
  have hx' : x + (if b then 2 ^ n else 0) = 2 ^ n * b.toNat + x := by cases b <;> simp [Nat.add_comm]
  rw [hx', h]
  rcases Nat.lt_trichotomy i n with hi | rfl | hi
  · rw [if_pos hi, if_neg (Nat.ne_of_lt hi)]
  · rw [if_neg (Nat.lt_irrefl _), if_pos rfl, Nat.sub_self]
    cases b <;> rfl
  · rw [if_neg (Nat.not_lt.mpr (Nat.le_of_lt hi)), if_neg (Nat.ne_of_gt hi),
      Nat.testBit_lt_two_pow (Nat.lt_of_lt_of_le hx (Nat.pow_le_pow_right Nat.two_pos (Nat.le_of_lt hi)))]
    exact Nat.testBit_lt_two_pow (Nat.lt_of_lt_of_le b.toNat_lt (Nat.pow_le_pow_right Nat.two_pos (by omega : 1 ≤ i - n)))

theorem sumBits_spec (p : Nat → Bool) (n : Nat) :
    let x := ((List.range n).map (fun b => if p b then 2 ^ b else 0)).foldl (· + ·) 0
    x < 2 ^ n ∧ ∀ i, x.testBit i = (decide (i < n) && p i) := by
  induction n with
  | zero => simp
  | succ n ih =>
    obtain ⟨hlt, hbit⟩ := ih
    simp only [List.range_succ, List.map_append, List.foldl_append, List.map_cons, List.map_nil, List.foldl_cons, List.foldl_nil]
    refine ⟨?_, fun i => ?_⟩
    · rw [Nat.pow_succ]
      split_ifs <;> omega
    · rw [testBit_add_two_pow hlt, hbit]
      split_ifs with hi
      · subst hi; simp
      · have : i < n + 1 ↔ i < n := by omega
        simp [this]

/-- Bit b of a predicate is its element's (R66). -/
theorem getLsbD_predOf (w : Nat) (f : Nat → Bool) {b : Nat} (hb : b < 64) : (predOf w f).getLsbD b = f (b / (w / 8)) := by
  obtain ⟨-, hbit⟩ := sumBits_spec (fun b => f (b / (w / 8))) 64
  rw [predOf, BitVec.getLsbD_ofNat, hbit, decide_eq_true hb, Bool.true_and, Bool.true_and]

/-! ### Results -/

/-- An instruction that writes P[VD]. -/
theorem predResult_of_write (h : ready s gi) {c : Instr} {R : Groom → IRes} (hc : exec c s = .next (s.issue gi R)) {vd : BitVec 5} {w : Nat} {r : Word}
    {H : Nat → Bool} (hR : R (s.groom gi) = .ok { writes := [.p vd.toNat r] }) (hr : ∀ i, i < 64 → r.getLsbD i = H (i / (w / 8))) :
    predResult s gi c vd w H :=
  ⟨r, hr, hc.trans (congrArg Host.Outcome.next (State.issue_p h hR))⟩

/-- Active elements take `f`, inactive ones 0 (R67). -/
theorem predResult_of_predRes (h : ready s gi) {c : Instr} {R : Groom → IRes} (hc : exec c s = .next (s.issue gi R)) {f : FmtV} {w word : Nat}
    {r : Nat → Bool} (hvd : f.vd.toNat < 8) (hR : R (s.groom gi) = (s.groom gi).predRes f w word r) :
    predResult s gi c f.vd w (fun i => Claims.on s gi f.pg w i && r i) := by
  refine predResult_of_write h hc (r := predOf w fun i => Claims.on s gi f.pg w i && r i) (hR.trans ((if_neg (Nat.not_le.mpr hvd)).trans ?_))
    fun i hi => getLsbD_predOf w _ hi
  rw [Groom.rp_of_ready h]
  rfl

/-! ### Comparisons and logic -/

theorem vcmpOps_run : ∀ e ∈ vcmpOps, ∃ fn, ∀ gi f s, exec (e.1 gi f) s = .next (s.vcmp gi f fn e.2) := by
  simp only [vcmpOps, List.forall_mem_cons, List.not_mem_nil, false_imp_iff, implies_true, and_true]
  exact ⟨⟨0x00, fun _ _ _ => rfl⟩, ⟨0x01, fun _ _ _ => rfl⟩, ⟨0x02, fun _ _ _ => rfl⟩, ⟨0x03, fun _ _ _ => rfl⟩⟩

/-- Each logic instruction combines whole predicates, and does so bit by bit. -/
theorem predOps_run : ∀ e ∈ predOps, ∃ fn op, (∀ gi f s, exec (e.1 gi f) s = .next (s.predLogic gi f fn op)) ∧
    ∀ (a b : Word) (i : Nat), i < 64 → (op a b).getLsbD i = e.2 (a.getLsbD i) (b.getLsbD i) := by
  simp only [predOps, List.forall_mem_cons, List.not_mem_nil, false_imp_iff, implies_true, and_true]
  exact ⟨⟨0x08, _, fun _ _ _ => rfl, fun _ _ _ _ => BitVec.getLsbD_and⟩, ⟨0x09, _, fun _ _ _ => rfl, fun _ _ _ _ => BitVec.getLsbD_or⟩,
    ⟨0x0A, _, fun _ _ _ => rfl, fun _ _ _ _ => BitVec.getLsbD_xor⟩,
    ⟨0x0B, _, fun _ _ _ => rfl, fun a b i hi => by rw [BitVec.getLsbD_and, BitVec.getLsbD_not, decide_eq_true hi, Bool.true_and]⟩⟩

/-- Settles O4: comparisons and PSETN by their elements, logic and PFROMX bit by bit. -/
theorem predicateResults : Obligations.PredicateResults := by
  intro s gi f h
  have hrv := Groom.rv_of_ready h
  have hrx := Groom.rx_of_ready h
  have hrp := Groom.rp_of_ready h
  refine ⟨fun e he hvd => ?vcmp, fun e he hvd hva hvb => ?logic, fun hvd => ?pfromx, fun hvd => ?psetn, fun hva => ?ptox, fun hva => ?pcnt⟩
  case vcmp =>
    obtain ⟨fn, hrun⟩ := vcmpOps_run e he
    exact predResult_of_predRes h (hrun gi f s) (word := wordV f 0x28 fn) hvd (by rw [if_neg (Nat.not_le.mpr hvd), hrv, hrv]; rfl)
  case logic =>
    obtain ⟨fn, op, hrun, hbit⟩ := predOps_run e he
    refine predResult_of_write h (hrun gi f s) (by rw [if_neg (by omega), hrp, hrp]) fun i hi => ?_
    rw [Nat.div_one]
    exact hbit _ _ i hi
  case pfromx =>
    refine predResult_of_write h rfl (by rw [if_neg (Nat.not_le.mpr hvd), hrx, hrp]; rfl) fun i hi => ?_
    rw [BitVec.getLsbD_and, getLsbD_predOf _ _ hi, Nat.div_one]
    rfl
  case psetn => exact predResult_of_predRes h rfl (word := wordV f 0x28 0x13) hvd (by rw [if_neg (Nat.not_le.mpr hvd), hrx]; rfl)
  case ptox => exact congrArg Host.Outcome.next (State.issue_x h (by rw [if_neg (Nat.not_le.mpr hva), hrp]))
  case pcnt => exact congrArg Host.Outcome.next (State.issue_x h (by rw [if_neg (Nat.not_le.mpr hva), hrp]; rfl))

end Sys2Proof.Machine
end

section
/-! SUPPORT. Reductions: lane 0 of the result, the integer folds, and the fixed binary tree of the float reductions (R79, R81, R82). -/

namespace Sys2Proof.Machine

open Sys2Proof.Claims (ready xr vr pr on vecResult redResult activeLanes fltFmt pairTree)

variable {s : State} {gi : Nat}

/-! ### Lane 0 -/

/-- Replacing the low `w` bits of an `n`-bit number leaves an `n`-bit number. -/
theorem toNat_replace_low {w n : Nat} (hw : w ≤ n) (d : BitVec n) (v : Nat) :
    (BitVec.ofNat n (d.toNat / 2 ^ w * 2 ^ w + v % 2 ^ w)).toNat = d.toNat / 2 ^ w * 2 ^ w + v % 2 ^ w := by
  rw [BitVec.toNat_ofNat]
  refine Nat.mod_eq_of_lt ?_
  have hd : d.toNat / 2 ^ w < 2 ^ (n - w) := by
    rw [Nat.div_lt_iff_lt_mul (Nat.two_pow_pos w), ← Nat.pow_add, Nat.sub_add_cancel hw]
    exact d.isLt
  calc d.toNat / 2 ^ w * 2 ^ w + v % 2 ^ w
      < d.toNat / 2 ^ w * 2 ^ w + 2 ^ w := Nat.add_lt_add_left (Nat.mod_lt _ (Nat.two_pow_pos w)) _
    _ = (d.toNat / 2 ^ w + 1) * 2 ^ w := by rw [Nat.add_mul, Nat.one_mul]
    _ ≤ 2 ^ (n - w) * 2 ^ w := Nat.mul_le_mul_right _ hd
    _ = 2 ^ n := by rw [← Nat.pow_add, Nat.sub_add_cancel hw]

/-- Of a number whose low `n` lanes are replaced, the low lanes are the new ones and the others the old. -/
theorem lane_replace_low (n w d x i : Nat) : ((d / 2 ^ (n * w) * 2 ^ (n * w) + x % 2 ^ (n * w)) >>> (i * w)) % 2 ^ w =
    (if i < n then x >>> (i * w) else d >>> (i * w)) % 2 ^ w := by
  refine Nat.eq_of_testBit_eq fun j => ?_
  rw [Nat.mul_comm (d / _), Nat.testBit_mod_two_pow, Nat.testBit_mod_two_pow]
  rcases Nat.lt_or_ge j w with hj | hj
  · rw [Nat.testBit_shiftRight, Nat.testBit_two_pow_mul_add _ (Nat.mod_lt _ (Nat.two_pow_pos _))]
    rcases Nat.lt_or_ge i n with hi | hi
    · have hlt : i * w + j < n * w := by
        calc i * w + j < i * w + w := Nat.add_lt_add_left hj _
          _ = (i + 1) * w := by rw [Nat.add_mul, Nat.one_mul]
          _ ≤ n * w := Nat.mul_le_mul_right _ hi
      rw [if_pos hlt, if_pos hi, Nat.testBit_mod_two_pow, Nat.testBit_shiftRight, decide_eq_true hlt, Bool.true_and]
    · have hge : n * w ≤ i * w + j := Nat.le_trans (Nat.mul_le_mul_right _ hi) (Nat.le_add_right _ _)
      rw [if_neg (Nat.not_lt.mpr hge), if_neg (Nat.not_lt.mpr hi), Nat.testBit_div_two_pow, Nat.testBit_shiftRight, Nat.sub_add_cancel hge]
  · rw [decide_eq_false (Nat.not_lt.mpr hj), Bool.false_and, Bool.false_and]

/-- Lane 0 takes the value and the other lanes stay. -/
theorem laneAt_setLane0 (d : BitVec 512) (w v i : Nat) (hi : i < 512 / w) : laneAt (setLane0 d w v) w i = (if i = 0 then v else laneAt d w i) % 2 ^ w := by
  have hw : w ≤ 512 := by
    by_contra hlt
    rw [Nat.div_eq_of_lt (Nat.lt_of_not_le hlt)] at hi
    exact Nat.not_lt_zero i hi
  have hlane := lane_replace_low 1 w d.toNat v i
  rw [Nat.one_mul] at hlane
  rw [laneAt, setLane0, toNat_replace_low hw, hlane]
  cases i with
  | zero => rw [if_pos Nat.one_pos, if_pos rfl, Nat.zero_mul, Nat.shiftRight_zero]
  | succ j => rw [if_neg (by omega), if_neg (Nat.succ_ne_zero j), laneAt, Nat.mod_mod]

/-- An instruction that writes `v` into lane 0 of V[VD]. -/
theorem redResult_of_write (h : ready s gi) {c : Instr} {R : Groom → IRes} (hc : exec c s = .next (s.issue gi R)) {f : FmtV} {w fl v : Nat}
    (hR : R (s.groom gi) = .ok { writes := [.v f.vd.toNat (setLane0 (vr s gi f.vd.toNat) w v)], flags := fl }) : redResult s gi c f w fl v :=
  vecResult_of_write h hc hR fun i hi => laneAt_setLane0 _ w v i hi

/-! ### Integer reductions -/

/-- The fold of the active lanes; `empty` when there is none. -/
def foldLanes (op : Nat → Nat → Nat) (empty : Nat) : List Nat → Nat
  | [] => empty
  | x :: xs => xs.foldl op x

theorem redResult_of_intRed (h : ready s gi) {c : Instr} {f : FmtV} {op : Nat → Nat → Nat → Nat} {empty : Nat}
    (hc : exec c s = .next (s.intRed gi f op empty)) :
    redResult s gi c f (ewBits f.ew) 0 (foldLanes (op (ewBits f.ew)) empty (activeLanes s gi f (ewBits f.ew))) := by
  refine redResult_of_write h hc ?_
  rw [Groom.rv_of_ready h, Groom.rv_of_ready h, Groom.rp_of_ready h]
  rfl

theorem foldLanes_add (l : List Nat) : foldLanes (· + ·) 0 l = l.sum := by
  cases l with
  | nil => rfl
  | cons x xs => rw [foldLanes, List.sum_eq_foldl, List.foldl_cons, Nat.zero_add]

/-- An operation that answers the operand of larger key. -/
structure Selects (k : Nat → Int) (op : Nat → Nat → Nat) : Prop where
  one : ∀ a b, op a b = a ∨ op a b = b
  left : ∀ a b, k a ≤ k (op a b)
  right : ∀ a b, k b ≤ k (op a b)

theorem Selects.foldl {k : Nat → Int} {op : Nat → Nat → Nat} (h : Selects k op) (xs : List Nat) :
    ∀ x, xs.foldl op x ∈ x :: xs ∧ ∀ a ∈ x :: xs, k a ≤ k (xs.foldl op x) := by
  induction xs with
  | nil => exact fun x => ⟨List.mem_cons_self, fun a ha => by rw [List.mem_singleton.mp ha]; exact Int.le_refl _⟩
  | cons y xs ih =>
    intro x
    obtain ⟨hmem, hle⟩ := ih (op x y)
    rw [List.foldl_cons]
    have hop := hle _ List.mem_cons_self
    refine ⟨?_, fun a ha => ?_⟩
    · rcases List.mem_cons.mp hmem with he | hxs
      · rw [he]
        rcases h.one x y with hx | hy
        · rw [hx]; exact List.mem_cons_self
        · rw [hy]; exact List.mem_cons_of_mem _ List.mem_cons_self
      · exact List.mem_cons_of_mem _ (List.mem_cons_of_mem _ hxs)
    · rcases List.mem_cons.mp ha with rfl | ha
      · exact Int.le_trans (h.left _ _) hop
      · rcases List.mem_cons.mp ha with rfl | ha
        · exact Int.le_trans (h.right _ _) hop
        · exact hle a (List.mem_cons_of_mem _ ha)

theorem Selects.foldLanes {k : Nat → Int} {op : Nat → Nat → Nat} (h : Selects k op) (empty : Nat) {l : List Nat} (hl : l ≠ []) :
    Machine.foldLanes op empty l ∈ l ∧ ∀ a ∈ l, k a ≤ k (Machine.foldLanes op empty l) := by
  cases l with
  | nil => exact absurd rfl hl
  | cons x xs => exact h.foldl xs x

theorem selects_max (w : Nat) : Selects (toSigned w) (fun a b => if toSigned w a < toSigned w b then b else a) where
  one a b := by split_ifs <;> simp
  left a b := by split_ifs <;> omega
  right a b := by split_ifs <;> omega

theorem selects_min (w : Nat) : Selects (fun a => -toSigned w a) (fun a b => if toSigned w a < toSigned w b then a else b) where
  one a b := by split_ifs <;> simp
  left a b := by split_ifs <;> omega
  right a b := by split_ifs <;> omega

theorem integerReductions : Claims.IntegerReductions := by
  intro s gi f h
  refine ⟨?add, fun hl => ?max, fun hl => ?min⟩
  case add =>
    have hred := redResult_of_intRed h (c := .vredadd gi f) rfl
    rwa [foldLanes_add] at hred
  case max =>
    obtain ⟨hmem, hle⟩ := (selects_max (ewBits f.ew)).foldLanes (Config.emptyRed 0 f.ew.toNat) hl
    have hred := redResult_of_intRed h (c := .vredmax gi f) rfl
    exact ⟨_, hmem, hle, hred⟩
  case min =>
    obtain ⟨hmem, hle⟩ := (selects_min (ewBits f.ew)).foldLanes (Config.emptyRed 1 f.ew.toNat) hl
    have hred := redResult_of_intRed h (c := .vredmin gi f) rfl
    exact ⟨_, hmem, fun a ha => Int.neg_le_neg_iff.mp (hle a ha), hred⟩

/-! ### The tree of the float reductions -/

/-- A tree over the results of the first level is a tree with one level more. -/
theorem pairTree_level (op : Nat → Nat → Nat) (l : Nat → Nat) (n : Nat) :
    ∀ i, pairTree op n (fun j => op (l (2 * j)) (l (2 * j + 1))) i = pairTree op (n + 1) l i := by
  induction n with
  | zero => exact fun _ => rfl
  | succ n ih => exact fun _ => congrArg₂ op (ih _) (ih _)

theorem treeLevel_map (op : Nat → Nat → Nat × Nat) (m : Nat) : ∀ l : Nat → Nat,
    treeLevel op ((List.range (2 * m)).map l) = (List.range m).map (fun i => op (l (2 * i)) (l (2 * i + 1))) := by
  induction m with
  | zero => exact fun _ => rfl
  | succ m ih =>
    intro l
    rw [show 2 * (m + 1) = 2 * m + 1 + 1 by omega, List.range_succ_eq_map, List.range_succ_eq_map, List.range_succ_eq_map]
    simp only [List.map_cons, List.map_map, treeLevel]
    exact congrArg (_ :: ·) (ih fun i => l (i + 2))

/-- The levels of R81 over 2 ^ n lanes give the tree of height n. -/
theorem treeFold_fst (op : Nat → Nat → Nat × Nat) (n : Nat) : ∀ (fuel : Nat) (l : Nat → Nat) (fl : Nat), n ≤ fuel →
    (treeFold op fuel ((List.range (2 ^ n)).map l) fl).1 = pairTree (fun a b => (op a b).1) n l 0 := by
  induction n with
  | zero =>
    intro fuel l fl _
    cases fuel <;> rfl
  | succ n ih =>
    intro fuel l fl hle
    obtain ⟨fuel, rfl⟩ : ∃ k, fuel = k + 1 := ⟨fuel - 1, by omega⟩
    have hlen : ¬ ((List.range (2 ^ (n + 1))).map l).length ≤ 1 := by
      rw [List.length_map, List.length_range]
      have := Nat.two_pow_pos n
      omega
    rw [treeFold, if_neg hlen, Nat.pow_succ, Nat.mul_comm, treeLevel_map, ← pairTree_level]
    dsimp only
    rw [List.map_map]
    exact ih fuel _ _ (Nat.le_of_succ_le_succ hle)

/-- An operation without flags leaves none. -/
theorem treeLevel_flags {op : Nat → Nat → Nat × Nat} (hop : ∀ a b, (op a b).2 = 0) : ∀ (l : List Nat) (fl : Nat),
    (treeLevel op l).foldl (fun x p => x ||| p.2) fl = fl
  | [], _ => rfl
  | [_], fl => Nat.or_zero fl
  | a :: b :: l, fl => by rw [treeLevel, List.foldl_cons, hop, Nat.or_zero, treeLevel_flags hop l fl]

theorem treeFold_snd {op : Nat → Nat → Nat × Nat} (hop : ∀ a b, (op a b).2 = 0) (fuel : Nat) : ∀ (l : List Nat) (fl : Nat), (treeFold op fuel l fl).2 = fl := by
  induction fuel with
  | zero => exact fun _ _ => rfl
  | succ fuel ih =>
    intro l fl
    rw [treeFold]
    split_ifs
    · rfl
    · rw [ih, treeLevel_flags hop]

/-- The lanes of each float format are a power of two in number, at most 64. -/
theorem fltFmt_lanes (ew : BitVec 2) : 512 / (fltFmt ew).width = 2 ^ Nat.log2 (512 / (fltFmt ew).width) ∧ Nat.log2 (512 / (fltFmt ew).width) ≤ 6 := by
  revert ew
  decide

/-- Lane i of VA as a float reduction takes it, with `unit` for an inactive lane. -/
def fltLane (s : State) (gi : Nat) (f : FmtV) (unit : FFmt → Nat) (i : Nat) : Nat :=
  if on s gi f.pg (fltFmt f.ew).width i then laneAt (vr s gi f.va.toNat) (fltFmt f.ew).width i else unit (fltFmt f.ew)

/-- The operation of a float reduction under the groom's rounding mode and FTZ. -/
def fltOp (s : State) (gi : Nat) (f : FmtV) (op : FFmt → Nat → Bool → Nat → Nat → Nat × Nat) : Nat → Nat → Nat × Nat :=
  op (fltFmt f.ew) (s.groom gi).rm (s.groom gi).ftz

/-- The flags of a float reduction. -/
def fltRedFlags (s : State) (gi : Nat) (f : FmtV) (op : FFmt → Nat → Bool → Nat → Nat → Nat × Nat) (unit : FFmt → Nat) : Nat :=
  (treeFold (fltOp s gi f op) 6 ((List.range (512 / (fltFmt f.ew).width)).map (fltLane s gi f unit)) 0).2

theorem redResult_of_fltRed (h : ready s gi) {c : Instr} {f : FmtV} {op : FFmt → Nat → Bool → Nat → Nat → Nat × Nat} {unit : FFmt → Nat}
    (hc : exec c s = .next (s.fltRed gi f op unit)) :
    redResult s gi c f (fltFmt f.ew).width (fltRedFlags s gi f op unit)
      (pairTree (fun a b => (fltOp s gi f op a b).1) (Nat.log2 (512 / (fltFmt f.ew).width)) (fltLane s gi f unit) 0) := by
  obtain ⟨hpow, hle⟩ := fltFmt_lanes f.ew
  have hfst := treeFold_fst (fltOp s gi f op) (Nat.log2 (512 / (fltFmt f.ew).width)) 6 (fltLane s gi f unit) 0 hle
  rw [← hpow] at hfst
  rw [← hfst]
  refine redResult_of_write h hc ?_
  rw [Groom.rv_of_ready h, Groom.rv_of_ready h, Groom.rp_of_ready h]
  rfl

theorem fltRedFlags_eq_zero {f : FmtV} {op : FFmt → Nat → Bool → Nat → Nat → Nat × Nat} {unit : FFmt → Nat}
    (hop : ∀ m rm z a b, (op m rm z a b).2 = 0) : fltRedFlags s gi f op unit = 0 := treeFold_snd (hop _ _ _) _ _ _

theorem floatReductions : Claims.FloatReductionsUseFixedTree := by
  intro s gi f h
  refine ⟨⟨_, redResult_of_fltRed h (op := faddC) (unit := fun m => m.sign true) rfl⟩, ?max, ?min⟩
  case max =>
    have hred := redResult_of_fltRed h (c := .vfredmax gi f) rfl
    rw [fltRedFlags_eq_zero fun _ _ _ _ _ => rfl] at hred
    exact hred
  case min =>
    have hred := redResult_of_fltRed h (c := .vfredmin gi f) rfl
    rw [fltRedFlags_eq_zero fun _ _ _ _ _ => rfl] at hred
    exact hred

/-- Settles O6: integer reductions as folds of the active lanes, float reductions as the tree over all lanes. -/
theorem vectorReductions : Obligations.VectorReductions := ⟨integerReductions, floatReductions⟩

end Sys2Proof.Machine
end

section
/-! SUPPORT. Float instructions: lanes, fused multiply-add, comparisons and conversions (R67, R79, R80, R82). -/

namespace Sys2Proof.Machine

open Sys2Proof.Claims (ready xr vr pr on vecResult fltFmt orAll vecFltOps fusedLanes fusedC fcmpOps codeBits)

variable {s : State} {gi : Nat}

/-! ### Lane-by-lane operations -/

/-- An instruction whose active lanes take `op` of format, rounding mode, FTZ and the lanes of VA and VB. -/
def FltComputes (i : Nat → FmtV → Instr) (op : FFmt → Nat → Bool → Nat → Nat → Nat × Nat) : Prop :=
  ∀ (s : State) (gi : Nat) (f : FmtV), ready s gi → ∃ R, exec (i gi f) s = .next (s.issue gi R) ∧
    R (s.groom gi) = (s.groom gi).vlanes f.vd.toNat f.pg (fltFmt f.ew).width false (fun i _ =>
      op (fltFmt f.ew) (s.groom gi).rm (s.groom gi).ftz (laneAt (vr s gi f.va.toNat) (fltFmt f.ew).width i)
        (laneAt (vr s gi f.vb.toNat) (fltFmt f.ew).width i))

theorem fltComputes_of_AB {i : Nat → FmtV → Instr} {op op' : FFmt → Nat → Bool → Nat → Nat → Nat × Nat}
    (hc : ∀ gi f s, exec (i gi f) s = .next (s.fltAB gi f op)) (he : op = op') : FltComputes i op' := by
  subst he
  exact fun s gi f h => ⟨_, hc gi f s, by rw [Groom.rv_of_ready h, Groom.rv_of_ready h]; rfl⟩

/-- An operation on VA alone, which may look at the code of the format. -/
theorem fltComputes_of_A {i : Nat → FmtV → Instr} {op : FmtV → FFmt → Nat → Bool → Nat → Nat × Nat} {op' : FFmt → Nat → Bool → Nat → Nat → Nat × Nat}
    (hc : ∀ gi f s, exec (i gi f) s = .next (s.fltA gi f (op f))) (he : ∀ (f : FmtV) rm z a b, op f (fltFmt f.ew) rm z a = op' (fltFmt f.ew) rm z a b) :
    FltComputes i op' := by
  intro s gi f h
  have hop : (fun i (_ : Nat) => op f (fltFmt f.ew) (s.groom gi).rm (s.groom gi).ftz (laneAt (vr s gi f.va.toNat) (fltFmt f.ew).width i)) =
      fun i _ => op' (fltFmt f.ew) (s.groom gi).rm (s.groom gi).ftz (laneAt (vr s gi f.va.toNat) (fltFmt f.ew).width i)
        (laneAt (vr s gi f.vb.toNat) (fltFmt f.ew).width i) := funext₂ fun _ _ => he f _ _ _ _
  refine ⟨_, hc gi f s, ?_⟩
  rw [Groom.rv_of_ready h, ← hop]
  rfl

/-- The code of a format is the EW field it came from. -/
theorem fltFmt_code (ew : BitVec 2) :
    (if fltFmt ew = bf16 then 0 else if fltFmt ew = fp16 then 1 else if fltFmt ew = fp32 then 2 else 3) = ew.toNat := by
  revert ew
  decide

theorem vecFltOps_compute : ∀ e ∈ vecFltOps, FltComputes e.1 e.2 := by
  have est {i : Nat → FmtV → Instr} (k : Nat) (hc : ∀ gi f s, exec (i gi f) s = .next (s.fltA gi f fun m _ z a => estimate k m f.ew.toNat z a)) :
      FltComputes i (fun m _ z a _ => estimate k m (if m = bf16 then 0 else if m = fp16 then 1 else if m = fp32 then 2 else 3) z a) :=
    fltComputes_of_A hc fun f _ _ _ _ => by rw [fltFmt_code]
  simp only [vecFltOps, List.forall_mem_cons, List.not_mem_nil, false_imp_iff, implies_true, and_true]
  exact ⟨fltComputes_of_AB (fun _ _ _ => rfl) rfl, fltComputes_of_AB (fun _ _ _ => rfl) rfl, fltComputes_of_AB (fun _ _ _ => rfl) rfl,
    fltComputes_of_AB (fun _ _ _ => rfl) rfl, fltComputes_of_A (fun _ _ _ => rfl) (fun _ _ _ _ _ => rfl), fltComputes_of_AB (fun _ _ _ => rfl) rfl,
    fltComputes_of_AB (fun _ _ _ => rfl) rfl, fltComputes_of_A (fun _ _ _ => rfl) (fun _ _ _ _ _ => rfl),
    fltComputes_of_A (fun _ _ _ => rfl) (fun _ _ _ _ _ => rfl),
    est 0 fun _ _ _ => rfl, est 1 fun _ _ _ => rfl, est 2 fun _ _ _ => rfl, est 3 fun _ _ _ => rfl⟩

theorem vectorFloatLanes : Claims.VectorFloatLanes := by
  intro e he s gi f h
  obtain ⟨R, hc, hR⟩ := vecFltOps_compute e he s gi f h
  exact vecResult_of_vlanes h hc hR (.inr fun _ _ _ => rfl)

/-! ### Fused multiply-add -/

theorem fusedMultiplyAdd : Claims.FusedMultiplyAddRoundsOnce := by
  intro s gi f h m rm z a b d
  have hrv := Groom.rv_of_ready h
  refine ⟨?vfma, ?vfnma, fun hew => ⟨?low, ?high⟩⟩
  case vfma =>
    exact vecResult_of_vlanes h rfl (f := fun i x => fusedC m rm z (m.read z x) (a m.width i) (b m.width i)) (by rw [hrv, hrv]; rfl) (.inl rfl)
  case vfnma =>
    exact vecResult_of_vlanes h rfl (f := fun i x => fusedC m rm z (m.read z x) (a m.width i).neg (b m.width i)) (by rw [hrv, hrv]; rfl) (.inl rfl)
  case low =>
    exact vecResult_of_vlanes h rfl (f := fun i x => fusedC fp32 rm z (fp32.read z x) (a 16 i) (b 16 i))
      (by rw [if_neg (Nat.not_le.mpr hew), hrv, hrv]; rfl) (.inl rfl)
  case high =>
    exact vecResult_of_vlanes h rfl (f := fun i x => fusedC fp32 rm z (fp32.read z x) (a 16 (i + 16)) (b 16 (i + 16)))
      (by rw [if_neg (Nat.not_le.mpr hew), hrv, hrv]; rfl) (.inl rfl)

/-! ### Comparisons -/

theorem fcmpOps_run : ∀ e ∈ fcmpOps, ∃ fn, ∀ gi f s, exec (e.1 gi f) s = .next (s.fcmp gi f fn e.2) := by
  simp only [fcmpOps, List.forall_mem_cons, List.not_mem_nil, false_imp_iff, implies_true, and_true]
  exact ⟨⟨0x20, fun _ _ _ => rfl⟩, ⟨0x21, fun _ _ _ => rfl⟩, ⟨0x22, fun _ _ _ => rfl⟩, ⟨0x23, fun _ _ _ => rfl⟩⟩

/-! ### Conversions -/

theorem cvtBits_eq : ∀ c ≤ 10, cvtBits c = codeBits c := by decide

theorem codeBits_pos : ∀ c ≤ 10, 0 < codeBits c := by decide

/-- The register that a conversion writes: its low `n` elements are converted, the others stay. -/
theorem laneAt_cvtVec {src dst n : Nat} (hn : n * cvtBits dst ≤ 512) (rm : Nat) (z : Bool) (a d : BitVec 512) (off i : Nat) :
    laneAt (cvtVec src dst rm z a d off n).1 (cvtBits dst) i =
      (if i < n then (convert src dst rm z (laneAt a (cvtBits src) (i + off))).1 else laneAt d (cvtBits dst) i) % 2 ^ cvtBits dst := by
  let cs := ((List.range n).map fun i => convert src dst rm z (laneAt a (cvtBits src) (i + off))).map (·.1)
  have hlen : cs.length = n := by rw [List.length_map, List.length_map, List.length_range]
  have hsum : laneSum (cvtBits dst) cs = laneSum (cvtBits dst) cs % 2 ^ (n * cvtBits dst) :=
    (Nat.mod_eq_of_lt (hlen ▸ laneSum_lt (cvtBits dst) cs)).symm
  show laneAt (BitVec.ofNat 512 (d.toNat / 2 ^ (n * cvtBits dst) * 2 ^ (n * cvtBits dst) + laneSum (cvtBits dst) cs)) (cvtBits dst) i = _
  rw [hsum, laneAt, toNat_replace_low hn, lane_replace_low]
  split_ifs with hi
  · rw [laneSum_lane _ _ _ (hlen.symm ▸ hi)]
    simp only [cs, List.getElem_map, List.getElem_range]
  · rw [laneAt, Nat.mod_mod]

/-- A conversion of `n` elements of VA from element `off`. -/
theorem vecResult_of_cvt (h : ready s gi) {c : Instr} {f : FmtV} {fn : Nat} {high : Bool} (hc : exec c s = .next (s.cvt gi f fn high)) {src dst off n k half : Nat}
    (hsrc : f.vb.toNat = src) (hdst : f.ew.toNat * 8 + f.pg.toNat = dst) (hsrc10 : src ≤ 10) (hdst10 : dst ≤ 10)
    (hk : 512 / max (codeBits src) (codeBits dst) = k) (hhalf : 512 / codeBits src / 2 = half)
    (hoff : (if high then half else 0) = off) (hn : (if high then min k half else k) = n) :
    vecResult s gi c f.vd (codeBits dst)
      (orAll ((List.range n).map fun i => (convert src dst (s.groom gi).rm (s.groom gi).ftz (laneAt (vr s gi f.va.toNat) (codeBits src) (i + off))).2))
      (fun i => if i < n then (convert src dst (s.groom gi).rm (s.groom gi).ftz (laneAt (vr s gi f.va.toNat) (codeBits src) (i + off))).1
        else laneAt (vr s gi f.vd.toNat) (codeBits dst) i) := by
  rw [← cvtBits_eq _ hsrc10] at hk hhalf ⊢
  rw [← cvtBits_eq _ hdst10] at hk ⊢
  have hnk : n ≤ k := by
    rw [← hn]
    split_ifs
    · exact Nat.min_le_left _ _
    · exact Nat.le_refl _
  have hfit : n * cvtBits dst ≤ 512 :=
    calc n * cvtBits dst ≤ k * max (cvtBits src) (cvtBits dst) := Nat.mul_le_mul hnk (Nat.le_max_right _ _)
      _ ≤ 512 := hk ▸ Nat.div_mul_le_self _ _
  refine vecResult_of_write h hc (r := (cvtVec src dst (s.groom gi).rm (s.groom gi).ftz (vr s gi f.va.toNat) (vr s gi f.vd.toNat) off n).1) ?_
    fun i _ => laneAt_cvtVec hfit _ _ _ _ _ _
  subst hsrc hdst hk hhalf hoff hn
  rw [if_neg (by omega), Groom.rv_of_ready h, Groom.rv_of_ready h, ← foldl_flags]
  rfl

theorem floatComparesAndConversions : Claims.FloatComparesAndConversions := by
  intro s gi f h
  refine ⟨fun e he hvd => ?compare, fun hsrc hdst => ⟨?low, ?high⟩⟩
  case compare =>
    obtain ⟨fn, hrun⟩ := fcmpOps_run e he
    exact predResult_of_predRes h (hrun gi f s) (word := wordV f 0x21 fn) hvd
      (by rw [if_neg (Nat.not_le.mpr hvd), Groom.rv_of_ready h, Groom.rv_of_ready h]; rfl)
  case low => exact vecResult_of_cvt h rfl rfl rfl hsrc hdst rfl rfl rfl rfl
  case high => exact vecResult_of_cvt h rfl rfl rfl hsrc hdst rfl rfl rfl rfl

/-- Settles O7: lanes and fused operations by what each lane computes, conversions by the elements they write. -/
theorem vectorFloats : Obligations.VectorFloats := ⟨vectorFloatLanes, fusedMultiplyAdd, floatComparesAndConversions⟩

end Sys2Proof.Machine
end

section
/-! SUPPORT. Vector loads and stores of a groom: contiguous, strided and indexed (R69, R70, R73, R77, R79). -/

namespace Sys2Proof.Machine

open Sys2Proof.Claims (ready xr vr pr retired withReqs groomReq loading vecLoadIssues eachOn eachAligned eachLoads eachStores stridedAt indexedAt blockReqs)

variable {s : State} {gi : Nat}

/-- Bytes of an element. -/
theorem ewBits_div (ew : BitVec 2) : ewBits ew / 8 = 2 ^ ew.toNat := Nat.mul_div_cancel_left _ (by decide)

theorem Groom.rp_active (h : ready s gi) (pg : BitVec 3) : active ((s.groom gi).rp pg.toNat) = Claims.on s gi pg := by
  rw [Groom.rp_of_ready h]
  rfl

/-- A vector load sends one request for each of its parts; without a part it retires at once (R70). -/
theorem vecLoadIssues_of_vload (h : ready s gi) (hcsr : s.csrLoadOut gi = false) {c : Instr} {R : Groom → IRes} (hc : exec c s = .next (s.issue gi R))
    {vd : BitVec 5} {m : Word} {each : Bool} {parts : List (Nat × Nat × Nat × Option Nat)}
    (hR : R (s.groom gi) = (s.groom gi).vload vd.toNat m each
      (parts.map fun p => { addr := p.2.1, len := p.2.2.1, mask := p.2.2.2, lane := p.1 })) :
    vecLoadIssues s gi c vd m each parts := by
  rw [vecLoadIssues, hc]
  congr 1
  simp only [Groom.vload, List.map_eq_nil_iff] at hR
  by_cases hnil : parts = []
  · rw [if_pos hnil] at hR ⊢
    exact State.issue_nothing h hR
  · have hgot : R (s.groom gi) = .ok {
        dst := some (.v vd.toNat m each),
        loads := parts.map (fun p => { addr := p.2.1, len := p.2.2.1, mask := p.2.2.2, lane := p.1 }),
        got := if m = BitVec.allOnes 64 then [] else keepBytes (vr s gi vd.toNat) m } := by
      rw [hR, if_neg hnil, Groom.rv_of_ready h]
      split_ifs <;> rfl
    rw [if_neg hnil, State.issue_waits h _ _ _ hcsr hgot, List.length_map, List.map_map]
    rfl

/-! ### Contiguous accesses -/

theorem contiguousVectorMemory : Claims.ContiguousVectorMemory := by
  intro s gi f h hcsr hroom base hal
  have hparts : ∀ a, blockParts a (fun b => active ((s.groom gi).rp f.pg.toNat) (ewBits f.ew) (b / (ewBits f.ew / 8))) = blockReqs s gi f a := fun a => by
    rw [Groom.rp_active h, ewBits_div]
    rfl
  have haligned : ¬ (blockReqs s gi f (xr s gi f.xa.toNat + imm11 f.imm).toNat ≠ [] ∧
      (xr s gi f.xa.toNat + imm11 f.imm).toNat % (ewBits f.ew / 8) ≠ 0) := fun hmis => hmis.2 ((ewBits_div f.ew).symm ▸ hal)
  refine ⟨⟨predOf 8 fun b => Claims.on s gi f.pg (8 * 2 ^ f.ew.toNat) (b / 2 ^ f.ew.toNat), fun b hb => ?mask, ?load⟩, ?store⟩
  case mask => rw [getLsbD_predOf _ _ hb, Nat.div_self (by decide), Nat.div_one]
  case load =>
    refine vecLoadIssues_of_vload h hcsr (by exact rfl) ?_
    rw [Groom.rx_of_ready h, need_some]
    dsimp only
    rw [hparts, if_neg haligned, Groom.rp_active h, ewBits_div, List.map_map]
    rfl
  case store =>
    refine congrArg Host.Outcome.next ((State.issue_stores h _ hroom (by
      rw [Groom.rx_of_ready h, Groom.rv_of_ready h, need_some, need_some]
      dsimp only
      rw [hparts, if_neg haligned])).trans ?_)
    simp only [List.map_map, Function.comp_def, vBytes, List.length_take, List.length_drop, length_leBytes]
    rfl

/-! ### Accesses of one address for each element -/

/-- The elements whose accesses the instruction makes. -/
theorem elems_eq (h : ready s gi) (f : FmtVMX) (n : Nat) :
    elems ((s.groom gi).rp f.pg.toNat) (ewBits f.ew) (min n (512 / ewBits f.ew)) = eachOn s gi f n := by
  rw [elems, Groom.rp_active h]
  rfl

theorem eachAligned_any {f : FmtVMX} {n : Nat} {ad : Nat → Nat} (hal : eachAligned s gi f n ad) :
    ¬ ((eachOn s gi f n).any fun i => decide (ad i % (ewBits f.ew / 8) ≠ 0)) = true := by
  simp only [ewBits_div, List.any_eq_true, decide_eq_true_eq, not_exists, not_and, not_not]
  exact hal

theorem eachLoads_of_vloadEach (h : ready s gi) (hcsr : s.csrLoadOut gi = false) {c : Instr} {f : FmtVMX} {opc n : Nat}
    {addr : Groom → Option (Nat → Nat)} (hc : exec c s = .next (s.vloadEach gi f opc addr n)) (htop : f.top = 0) {ad : Nat → Nat}
    (hal : eachAligned s gi f n ad) (had : addr (s.groom gi) = some ad) : eachLoads s gi c f n ad := by
  refine ⟨predOf (ewBits f.ew) fun i => (eachOn s gi f n).contains i, fun b hb => ?mask, vecLoadIssues_of_vload h hcsr hc ?load⟩
  case mask => rw [getLsbD_predOf _ _ hb, ewBits_div, List.contains_iff_mem]
  case load =>
    rw [if_neg (not_not_intro htop), had, need_some]
    dsimp only
    rw [elems_eq h, if_neg (eachAligned_any hal), ewBits_div, List.map_map]
    rfl

theorem eachStores_of_vstoreEach (h : ready s gi) (hroom : s.storesOut gi < 16) {c : Instr} {f : FmtVMX} {opc n : Nat}
    {addr : Groom → Option (Nat → Nat)} (hc : exec c s = .next (s.vstoreEach gi f opc addr n)) (htop : f.top = 0) {ad : Nat → Nat}
    (hal : eachAligned s gi f n ad) (had : addr (s.groom gi) = some ad) : eachStores s gi c f n ad := by
  rw [eachStores, hc, State.vstoreEach, State.issue_stores h _ hroom (by
    rw [if_neg (not_not_intro htop), had, Groom.rv_of_ready h, need_some, need_some]
    dsimp only
    rw [elems_eq h, if_neg (eachAligned_any hal)])]
  simp only [List.map_map, Function.comp_def, length_leBytes, ewBits_div]
  rfl

theorem strided_eq (h : ready s gi) (f : FmtVMX) : strided f (s.groom gi) = some (stridedAt s gi f) := by
  simp only [strided, Groom.rx_of_ready h]
  rfl

theorem indexed_eq (h : ready s gi) (f : FmtVMX) : indexed f (s.groom gi) = some (indexedAt s gi f) := by
  simp only [indexed, Groom.rx_of_ready h, Groom.rv_of_ready h]
  rfl

theorem stridedAndIndexedVectorMemory : Claims.StridedAndIndexedVectorMemory := by
  intro s gi f h hcsr hroom htop
  refine ⟨fun hal => ⟨?vlds, ?vsts⟩, fun hal => ⟨?vgth, ?vsct⟩⟩
  case vlds => exact eachLoads_of_vloadEach h hcsr rfl htop hal (strided_eq h f)
  case vsts => exact eachStores_of_vstoreEach h hroom rfl htop hal (strided_eq h f)
  case vgth => exact eachLoads_of_vloadEach h hcsr rfl htop hal (indexed_eq h f)
  case vsct => exact eachStores_of_vstoreEach h hroom rfl htop hal (indexed_eq h f)

/-- Settles O9: the parts of each access are its requests. -/
theorem vectorMemory : Obligations.VectorMemory := ⟨contiguousVectorMemory, stridedAndIndexedVectorMemory⟩

end Sys2Proof.Machine
end

section
/-! SUPPORT. The state after reset: register values and soundness (R37, R95, R511, R571). -/

namespace Sys2Proof.Machine

/-- Every entry of a register table is found under its own offset, so the table's reset value is the entry's. -/
theorem resetOf_stallRegs : ∀ k ∈ stallRegs, resetOf stallRegs k.off = BitVec.ofNat 64 k.reset := by decide
theorem resetOf_groomRegs : ∀ k ∈ groomRegs, resetOf groomRegs k.off = BitVec.ofNat 64 k.reset := by decide
theorem resetOf_netRegs : ∀ k ∈ netRegs, resetOf netRegs k.off = BitVec.ofNat 64 k.reset := by decide
theorem devReset_arbRegs : ∀ k ∈ arbRegs, devReset (arbBase + k.off) = BitVec.ofNat 64 k.reset := by decide
theorem devReset_pwrRegs : ∀ k ∈ pwrRegs, devReset (pwrBase + k.off) = BitVec.ofNat 64 k.reset := by decide
theorem devReset_gateRegs : ∀ n, n < 4 → ∀ k ∈ gateRegs, devReset (gateBase n + k.off) = BitVec.ofNat 64 k.reset := by decide

theorem resetValues : Claims.ResetValues :=
  ⟨rfl, rfl, rfl, rfl, rfl, fun _ => ⟨rfl, rfl, rfl⟩, fun _ _ => ⟨rfl, rfl⟩, fun _ => rfl, fun k hk _ => resetOf_stallRegs k hk,
    fun k hk _ => resetOf_groomRegs k hk, fun k hk _ => resetOf_netRegs k hk, devReset_arbRegs, devReset_pwrRegs, devReset_gateRegs⟩

/-- No map lists anything after reset, so each has its canonical form. -/
theorem resetIsSound : Claims.ResetIsSound := ⟨Laws.canonical_of rfl, rfl⟩

/-- Settles O60: registers read as their tables' reset values, and the empty maps are canonical. -/
theorem resetState : Obligations.ResetState := ⟨resetValues, resetIsSound⟩

end Sys2Proof.Machine
end

section
/-! SUPPORT. Exception entries, line fills and the responses to a groom's requests (R63, R72, R73, R84). -/

namespace Sys2Proof.Machine

open Sys2Proof.Claims (setX enteredGroom entryPc enters)

variable {s t u : State} {gi : Nat}

/-! ### What an entry leaves as it was -/

/-- From `s` to `t`, other grooms, memory, the device's registers and the tack rooms stay. -/
structure KeepsRest (gi : Nat) (s t : State) : Prop where
  groom : ∀ gj, gj ≠ gi → t.groom gj = s.groom gj
  mem : t.mem = s.mem
  csr : t.csr = s.csr
  tack : t.tack = s.tack

theorem KeepsRest.trans (h : KeepsRest gi s t) (h' : KeepsRest gi t u) : KeepsRest gi s u :=
  ⟨fun gj hj => (h'.groom gj hj).trans (h.groom gj hj), h'.mem.trans h.mem, h'.csr.trans h.csr, h'.tack.trans h.tack⟩

theorem KeepsRest.setGroom (s : State) (g : Groom) : KeepsRest gi s (s.setGroom gi g) :=
  ⟨fun _ hj => s.groom_setGroom_of_ne g hj, rfl, rfl, rfl⟩

theorem KeepsRest.perfGroom (s : State) (c : Nat) (g : Groom) : KeepsRest gi s (s.perfGroom gi c g) := by
  obtain ⟨m, hm⟩ := s.perf_eq (gi / 16) c (some g.priv) (some (gi % 16)) none 1
  rw [State.perfGroom, hm]
  exact ⟨fun _ _ => rfl, rfl, rfl, rfl⟩

/-- Discarding empties the groom's retire queue and ends its wait. -/
theorem State.discard_groom (hrun : (s.groom gi).halted = false) : (s.discard gi).groom gi = { s.groom gi with rq := [], wait := .none } := by
  obtain ⟨m, hm, -⟩ := State.foldl_setReq_eq abandoned (s.reqsWhere (Req.isLoadOf gi)) s
  rw [State.discard_eq, hm]
  exact State.groom_setGroom _ _ _ (Groom.ne_of_running (by exact hrun))

theorem KeepsRest.discard (s : State) (gi : Nat) : KeepsRest gi s (s.discard gi) := by
  obtain ⟨m, hm, -⟩ := State.foldl_setReq_eq abandoned (s.reqsWhere (Req.isLoadOf gi)) s
  rw [State.discard_eq, hm, State.modGroom]
  exact KeepsRest.trans (t := { s with reqs := m }) ⟨fun _ _ => rfl, rfl, rfl, rfl⟩ (.setGroom _ _)

/-- Registers do not depend on the retire queue and the wait that discarding clears. -/
theorem State.enter_groom (hrun : (s.groom gi).halted = false) (cls : Nat) (st : Status) (ev : Option Word) (epc : Nat) (async : Bool) (pc : Nat) :
    (s.enter gi cls st ev epc async pc).groom gi = enteredGroom (s.groom gi) cls st ev epc async (pc % 0x400000 / 4 * 4) := by
  have hd := State.discard_groom hrun
  rw [State.enter, State.perfGroom_groom, State.modGroom, State.groom_setGroom, hd]
  case h => exact Groom.ne_of_running (by rw [hd]; cases ev <;> simpa only [Groom.setReg] using hrun)
  cases ev <;> rfl

theorem KeepsRest.enter (s : State) (gi cls : Nat) (st : Status) (ev : Option Word) (epc : Nat) (async : Bool) (pc : Nat) :
    KeepsRest gi s (s.enter gi cls st ev epc async pc) :=
  ((KeepsRest.discard s gi).trans (.setGroom _ _)).trans (.perfGroom _ _ _)

/-- An instruction whose effect is an entry, after a change of the groom alone, enters. -/
theorem enters_of_enter {c : Instr} {cls : Nat} {st : Status} {ev : Option Word} {epc : Nat} {async : Bool} {pc : Nat}
    (hc : exec c s = .next (u.enter gi cls st ev epc async pc)) (hu : KeepsRest gi s u) (hrun : (u.groom gi).halted = false) :
    enters s gi c (enteredGroom (u.groom gi) cls st ev epc async (pc % 0x400000 / 4 * 4)) := by
  obtain ⟨hgroom, hmem, hcsr, htack⟩ := hu.trans (.enter u gi cls st ev epc async pc)
  exact ⟨_, hc, State.enter_groom hrun cls st ev epc async pc, hgroom, hmem, hcsr, htack⟩

theorem State.takeFault_eq (hexl : (s.groom gi).exl = false) (f : GFault) (hcls : f.cls ≠ 3) :
    s.takeFault gi f = s.enter gi f.cls f.status (some f.eval) f.epc false (fld ((s.groom gi).reg 0x28) 21 9 * 512 + f.cls * 64) := by
  simp only [State.takeFault, hexl, hcls, if_false, Bool.false_eq_true]
  rfl

theorem State.takeAsync_eq (hexl : (s.groom gi).exl = false) (hrq : (s.groom gi).rq = []) {st : Status} {a : Nat} {l : List (Status × Nat)}
    (herr : (s.groom gi).asyncErr = (st, a) :: l) :
    s.takeAsync gi = (s.setGroom gi { s.groom gi with asyncErr := l }).enter gi 2 st (some (BitVec.ofNat 64 a)) (s.groom gi).pc true
      (fld ((s.groom gi).reg 0x28) 21 9 * 512 + 2 * 64) := by
  have hpc : (s.groom gi).oldestPc = (s.groom gi).pc := by rw [Groom.oldestPc, hrq]
  simp only [State.takeAsync, herr]
  rw [if_neg (by simp [hexl]), hpc]
  rfl

theorem Groom.inCall_of_wait {g : Groom} (h : ∀ a b, g.wait ≠ .tcall a b) : g.inCall = false := by
  unfold Groom.inCall
  split
  · next a b hw => exact absurd hw (h _ _)
  · rfl

/-! ### Responses to loads -/

/-- The load's entry takes the response. -/
theorem State.loadResponse_groom {e : RetEntry} {r : Req} {id : Nat} (hrun : (s.groom gi).halted = false) (hrq : (s.groom gi).rq = [e]) :
    ((s.setReq id none).modGroom gi fun g => { g with rq := g.rq.map fun x => if x.seq = e.seq then x.answer r else x }).groom gi =
      { s.groom gi with rq := [e.answer r] } := by
  have hstay : (s.setReq id none).groom gi = s.groom gi := rfl
  rw [State.modGroom, State.groom_setGroom _ _ _ (Groom.ne_of_running (by exact hrun)), hstay, hrq, List.map_singleton, if_pos rfl]

/-- The answered entry of a scalar load. -/
theorem RetEntry.answer_ok {e : RetEntry} {r : Req} {n k : Nat} {sg : Bool} (hdst : e.dst = some (.x n k sg)) (hleft : e.left = 1)
    (hfault : e.fault = none) (hok : r.status = St.ok) :
    e.answer r = { e with left := 0, writes := loadWrites (.x n k sg) r.data e.got, dst := none } := by
  simp [RetEntry.answer, hdst, hleft, hfault, hok]

theorem RetEntry.answer_failed {e : RetEntry} {r : Req} {n k : Nat} {sg : Bool} (hdst : e.dst = some (.x n k sg)) (hleft : e.left = 1)
    (hfault : e.fault = none) (hbad : r.status ≠ St.ok) :
    e.answer r = { e with left := 0, fault := some { cls := 1, status := r.status, eval := BitVec.ofNat 64 r.addr, epc := e.pc, lane := r.part } } := by
  simp [RetEntry.answer, hdst, hleft, hfault, hbad]

theorem exec_groomLoadResponse {req : Nat} {r : Req} {n : Nat} (hreq : s.req req = some r) (hsrc : r.src = .groomLoad gi n) (hphase : r.phase = .arrived) :
    exec (.groomLoadResponse gi req) s = .next (((s.setReq req none).modGroom gi fun g =>
      { g with rq := g.rq.map fun x => if x.seq = n then x.answer r else x }).settle gi 33) := by
  show execGroomLoadResponse gi req s = _
  simp only [execGroomLoadResponse, hreq, hsrc, hphase, if_true]

theorem loadResponse_ok {req : Nat} {r : Req} {e : RetEntry} {n k : Nat} {sg : Bool} (hreq : s.req req = some r) (hsrc : r.src = .groomLoad gi e.seq)
    (hphase : r.phase = .arrived) (hrun : (s.groom gi).halted = false) (hrq : (s.groom gi).rq = [e]) (hdst : e.dst = some (.x n k sg)) (hleft : e.left = 1)
    (hfault : e.fault = none) (hflags : e.flags = 0) (hstores : e.stores = []) (hok : r.status = St.ok) :
    ∃ t, exec (.groomLoadResponse gi req) s = .next t ∧ t.groom gi =
      { setX n (if sg then BitVec.ofInt 64 (toSigned (8 * k) (leNat (r.data.take k))) else BitVec.ofNat 64 (leNat (r.data.take k))) (s.groom gi) with
        rq := [], instret := (s.groom gi).instret + 1 } ∧ t.mem = s.mem ∧ t.reqs = Map.set noneOf s.reqs req none := by
  refine ⟨_, exec_groomLoadResponse hreq hsrc hphase, ?_⟩
  have hg := State.loadResponse_groom (r := r) (id := req) hrun hrq
  rw [RetEntry.answer_ok hdst hleft hfault hok] at hg
  rw [State.settle_one (e := { e with left := 0, writes := loadWrites (.x n k sg) r.data e.got, dst := none }) (by rw [hg]; exact hrun) (by rw [hg]) rfl rfl hfault hstores, hg]
  dsimp only
  rw [State.perfGroom_groom, hflags]
  have hrun' : ∀ ws, (({ s.groom gi with rq := [] } : Groom).retire ws 0).halted = false := fun ws => (Groom.retire_halted _ ws 0).trans hrun
  refine ⟨?_, ?_, ?_⟩
  · rw [State.groom_setGroom _ _ _ (Groom.ne_of_running (hrun' _))]
    simp only [Groom.retire, loadWrites, List.foldl_cons, List.foldl_nil, Groom.put, setX, if_true]
    split_ifs <;> rfl
  · simp [State.perfGroom, State.modGroom]
  · simp [State.perfGroom, State.modGroom]
    rfl

theorem loadResponse_failed {req : Nat} {r : Req} {e : RetEntry} {n k : Nat} {sg : Bool} (hreq : s.req req = some r) (hsrc : r.src = .groomLoad gi e.seq)
    (hphase : r.phase = .arrived) (hrun : (s.groom gi).halted = false) (hrq : (s.groom gi).rq = [e]) (hdst : e.dst = some (.x n k sg)) (hleft : e.left = 1)
    (hfault : e.fault = none) (hbad : r.status ≠ St.ok) :
    ∃ t, exec (.groomLoadResponse gi req) s = .next t ∧ (t.groom gi).x = (s.groom gi).x ∧
      (t.groom gi).rq = [{ e with left := 0, fault := some { cls := 1, status := r.status, eval := BitVec.ofNat 64 r.addr, epc := e.pc, lane := r.part } }] := by
  refine ⟨_, exec_groomLoadResponse hreq hsrc hphase, ?_⟩
  have hg := State.loadResponse_groom (r := r) (id := req) hrun hrq
  rw [RetEntry.answer_failed hdst hleft hfault hbad] at hg
  rw [State.settle_wait _ gi 33 (congrArg Groom.rq hg) (by simp [hdst]), hg]
  exact ⟨rfl, rfl⟩

/-- Settles O10: a response by the entry it answers, an entry by what it changes of its groom. -/
theorem fillsResponsesAndAsyncErrors : Obligations.FillsResponsesAndAsyncErrors := by
  refine fun s gi => ⟨fun line hrun => ?fill, fun req r e n k sg hreq hsrc hphase hrun hrq hdst hleft hfault hflags hstores => ⟨?ok, ?failed⟩,
    fun e es ft hrun hcall hexl hrq hfault hleft hcls => ?precise, fun req r hreq hsrc hphase => ?store, fun st a l hrun hcall hexl hrq herr => ?async⟩
  case fill => exact congrArg Host.Outcome.next (if_neg (by simp [hrun]))
  case ok => exact loadResponse_ok hreq hsrc hphase hrun hrq hdst hleft hfault hflags hstores
  case failed => exact loadResponse_failed hreq hsrc hphase hrun hrq hdst hleft hfault
  case precise =>
    refine enters_of_enter (u := s) ?_ ⟨fun _ _ => rfl, rfl, rfl, rfl⟩ hrun
    rw [← State.takeFault_eq hexl ft hcls]
    show execExceptionEntry gi none s = _
    simp [execExceptionEntry, hrun, Groom.inCall_of_wait hcall, hrq, hfault, hleft]
  case store =>
    show execGroomStoreComplete gi req s = _
    simp only [execGroomStoreComplete, hreq, hsrc, hphase, and_self, if_true]
    rfl
  case async =>
    have hg : (s.setGroom gi { s.groom gi with asyncErr := l }).groom gi = { s.groom gi with asyncErr := l } :=
      State.groom_setGroom _ _ _ (Groom.ne_of_running (by exact hrun))
    have h := enters_of_enter (c := .exceptionEntry gi none) (u := s.setGroom gi { s.groom gi with asyncErr := l }) (s := s) (by
      rw [← State.takeAsync_eq hexl hrq herr]
      show execExceptionEntry gi none s = _
      simp [execExceptionEntry, hrun, Groom.inCall_of_wait hcall, hrq, herr]) (.setGroom _ _) (by rw [hg]; exact hrun)
    rw [hg] at h
    exact h

end Sys2Proof.Machine
end

section
/-! SUPPORT. What a groom leaves at the end of a wait, and the command-list instructions (R93, R94, R105, R136). -/

namespace Sys2Proof.Machine

open Sys2Proof.Claims (ready xr setX retired waited enqueued)

variable {s : State} {gi : Nat}

/-! ### Waits -/

theorem Groom.mayWait_of_ready (h : ready s gi) {kernel : Bool} (hpriv : kernel = true → (s.groom gi).priv ≠ .task) :
    (s.groom gi).mayWait kernel = true := by
  obtain ⟨hissue, hfetch, hrq⟩ := ready_free h
  cases kernel with
  | false => simp [Groom.mayWait, hissue, hfetch, hrq]
  | true => simp [Groom.mayWait, hissue, hfetch, hrq, hpriv rfl]

/-- With nothing unretired, an instruction that waits for every earlier one issues. -/
theorem State.issueSerial_eq (h : ready s gi) (f : Groom → IRes) : s.issueSerial gi f = s.issue gi fun _ => f (s.groom gi) := by
  obtain ⟨hissue, hfetch, hrq⟩ := ready_free h
  simp only [State.issueSerial, State.issue, hissue, hfetch, hrq, if_true]

theorem State.issueSerial_x (h : ready s gi) (n : Nat) (v : Word) : s.issueSerial gi (fun _ => .x n v) = retired s gi (setX n v) := by
  rw [State.issueSerial_eq h, State.issue_x h rfl]

theorem State.issueSerial_nothing (h : ready s gi) : s.issueSerial gi (fun _ => .ok {}) = retired s gi id := by
  rw [State.issueSerial_eq h, State.issue_nothing h rfl]

theorem State.issueSerial_wait (h : ready s gi) : s.issueSerial gi (fun _ => .wait) = s := by
  obtain ⟨hissue, hfetch, -⟩ := ready_free h
  simp only [State.issueSerial_eq h, State.issue, hissue, hfetch, if_true]

theorem Groom.foldl_put_instret (ws : List RegW) : ∀ g : Groom, (ws.foldl Groom.put g).instret = g.instret := by
  induction ws with
  | nil => exact fun _ => rfl
  | cons w ws ih =>
    refine fun g => (ih (g.put w)).trans ?_
    cases w <;> simp only [Groom.put] <;> split_ifs <;> rfl

/-- The end of a wait moves the groom past its instruction, which retires with its result. -/
theorem State.finishWait_eq (hrun : (s.groom gi).halted = false) (ws : List RegW) :
    s.finishWait gi ws = waited s gi fun g => ws.foldl Groom.put g := by
  have hne : ({ s.groom gi with wait := .none, pc := ((s.groom gi).pc + 4) % 0x400000 } : Groom) ≠ {} := Groom.ne_of_running (by exact hrun)
  have hne' : ({ s.groom gi with wait := .none, pc := ((s.groom gi).pc + 4) % 0x400000 } : Groom).retire ws 0 ≠ {} :=
    Groom.ne_of_running ((Groom.retire_halted _ ws 0).trans hrun)
  rw [State.finishWait, State.retireOne_eq, State.modGroom, State.groom_setGroom _ _ _ hne]
  simp only [List.foldl_nil, State.setGroom_setGroom s gi hne hne']
  simp only [Groom.retire, Groom.foldl_put_instret, waited, if_true]

theorem State.finishWait_x (hrun : (s.groom gi).halted = false) (n : Nat) (v : Word) : s.finishWait gi [.x n v] = waited s gi (setX n v) :=
  State.finishWait_eq hrun [.x n v]

/-! ### Command lists -/

theorem Queue.not_full {x : Queue} (h : x.lists.length < 8) : ¬ x.full = true := by
  rw [Queue.full, decide_eq_true_eq]
  omega

theorem groomEnqueuesLists : Claims.GroomEnqueuesLists := by
  intro s gi f
  refine ⟨⟨fun h hst hq hroom => congrArg Host.Outcome.next ?enqueues, fun h hst hq hfull => congrArg Host.Outcome.next ?waits,
    fun h hq => congrArg Host.Outcome.next ?polls⟩, fun rd q off hrun hwait hroom => ?later⟩
  case enqueues =>
    have h' : ready (enqueued s gi f.rc.toNat (xr s gi f.ra.toNat).toNat) gi := h
    dsimp only
    rw [if_pos ⟨Groom.mayWait_of_ready h (by simp), hq⟩, if_neg (not_not_intro hst), Groom.rx_of_ready h]
    dsimp only
    rw [if_neg (Queue.not_full hroom)]
    exact State.issueSerial_x h' _ _
  case waits =>
    dsimp only
    rw [if_pos ⟨Groom.mayWait_of_ready h (by simp), hq⟩, if_neg (not_not_intro hst), Groom.rx_of_ready h]
    exact if_pos (decide_eq_true hfull)
  case polls =>
    refine Eq.trans ?_ (State.issueSerial_x h _ _)
    rw [if_neg (Nat.not_le.mpr hq)]
  case later =>
    have hrun' : ((enqueued s gi q off).groom gi).halted = false := hrun
    show execCmdqEnqueueAfterWait gi s = _
    simp only [execCmdqEnqueueAfterWait, hwait]
    rw [if_neg (Queue.not_full hroom)]
    exact congrArg Host.Outcome.next (State.finishWait_x hrun' _ _)

theorem Queue.statusOf_eq (x : Queue) (n : Nat) : x.statusOf n = ((x.hist.find? fun h => h.1 = n).map (·.2)).getD St.engStatusGone := by
  rw [Queue.statusOf]
  cases x.hist.find? fun h => h.1 = n <;> rfl

/-- CWAIT of a groom that is ready, by what its queue has issued and completed. -/
theorem exec_cwait (h : ready s gi) (f : FmtR) (hq : f.rc.toNat < 5) :
    exec (.cwait gi f) s = .next (
      if (s.queue (gi / 16) f.rc.toNat).issued < (xr s gi f.ra.toNat).toNat then retired s gi (setX f.rd.toNat (St.groomSeqStale.setWidth 64))
      else if (xr s gi f.ra.toNat).toNat ≤ (s.queue (gi / 16) f.rc.toNat).done then
        retired s gi (setX f.rd.toNat (((s.queue (gi / 16) f.rc.toNat).statusOf (xr s gi f.ra.toNat).toNat).setWidth 64))
      else s.startWait gi (.cwait f.rd.toNat f.rc.toNat (xr s gi f.ra.toNat) (xr s gi f.rb.toNat).toNat s.clk)) := by
  show execCwait gi f s = _
  simp only [execCwait, Groom.mayWait_of_ready h (kernel := false) (by simp), hq, and_self, if_true, Groom.rx_of_ready h, State.issueSerial_x h]

theorem groomWaitsForLists : Claims.GroomWaitsForLists := by
  intro s gi f
  refine ⟨fun h hq => ⟨fun hstale => ?stale, fun hissued hdone => ?done, fun hissued hpending => ?waits⟩,
    fun rd q w tmo t0 hrun hwait => ⟨fun hdone => ?complete, fun htmo hpassed => ?timeout⟩⟩
  case stale => rw [exec_cwait h f hq, if_pos hstale]
  case done => rw [exec_cwait h f hq, if_neg (Nat.not_lt.mpr hissued), if_pos hdone, Queue.statusOf_eq]
  case waits =>
    rw [exec_cwait h f hq, if_neg (Nat.not_lt.mpr hissued), if_neg (Nat.not_le.mpr hpending)]
    rfl
  case complete =>
    show execCwaitComplete gi s = _
    simp only [execCwaitComplete, hwait]
    rw [if_pos hdone, State.finishWait_x hrun, Queue.statusOf_eq]
  case timeout =>
    show execCwaitTimeout gi s = _
    simp only [execCwaitTimeout, hwait]
    rw [if_pos ⟨htmo, hpassed⟩, State.finishWait_x hrun]

/-- Settles O13: a ready groom issues or waits by its queue, and each wait ends with its result. -/
theorem groomListCommands : Obligations.GroomListCommands := ⟨groomEnqueuesLists, groomWaitsForLists⟩

end Sys2Proof.Machine
end

section
/-! SUPPORT. Fences and WFI, return from an exception, and tack calls (R64, R71, R85, R86, R92, R520, R555). -/

namespace Sys2Proof.Machine

open Sys2Proof.Claims (ready xr setX retired waited)

variable {s : State} {gi : Nat}

/-! ### Fences and WFI -/

/-- A change of a running groom, and then the retirement of an instruction that writes nothing. -/
theorem State.retired_setGroom (f : Groom → Groom) (hrun : (f (s.groom gi)).halted = false) :
    retired (s.setGroom gi (f (s.groom gi))) gi id = retired s gi f := by
  have hne := Groom.ne_of_running hrun
  simp only [retired, State.groom_setGroom s gi _ hne, id]
  rw [State.setGroom_setGroom s gi hne (Groom.ne_of_running (by exact hrun))]

theorem fencesAndWaitForInterrupt : Claims.FencesAndWaitForInterrupt := by
  refine fun s gi f => ⟨fun h hst => ⟨?fence, ?ifence⟩, fun h hst => ⟨?fenceWaits, ?ifenceWaits⟩,
    fun h hpriv => ⟨fun hirq => ?wfi, fun hirq => ?wfiWaits⟩, fun hrun hwait hirq => ?wake⟩
  case fence =>
    refine congrArg Host.Outcome.next (Eq.trans ?_ (State.issueSerial_nothing h))
    rw [if_pos hst]
  case ifence =>
    obtain ⟨hissue, hfetch, hrq⟩ := ready_free h
    have hrun := ready_running h
    have hg : (s.setGroom gi { s.groom gi with window := [] }).groom gi = { s.groom gi with window := [] } :=
      State.groom_setGroom _ _ _ (Groom.ne_of_running (by exact hrun))
    have h' : ready (s.setGroom gi { s.groom gi with window := [] }) gi := by
      unfold ready
      rw [hg]
      exact h
    refine congrArg Host.Outcome.next ((if_pos ⟨hst, hrq, hissue, hfetch⟩).trans ((State.issueSerial_nothing h').trans ?_))
    exact State.retired_setGroom (fun g => { g with window := [] }) hrun
  case fenceWaits =>
    refine congrArg Host.Outcome.next (Eq.trans ?_ (State.issueSerial_wait h))
    rw [if_neg hst]
  case ifenceWaits =>
    refine congrArg Host.Outcome.next ((if_neg (fun hc => hst hc.1)).trans (Eq.trans ?_ (State.issueSerial_wait h)))
    rw [if_neg hst]
  case wfi =>
    refine congrArg Host.Outcome.next ((if_neg (by simp [hirq])).trans ?_)
    rw [State.issueSerial_eq h, State.issue_nothing h (if_neg hpriv)]
  case wfiWaits => exact congrArg Host.Outcome.next (if_pos ⟨Groom.mayWait_of_ready h fun _ => hpriv, by simp [hirq]⟩)
  case wake => exact congrArg Host.Outcome.next ((if_pos ⟨hwait, hirq⟩).trans (State.finishWait_eq hrun []))

/-! ### Return and tack calls -/

theorem returnAndTackCalls : Claims.ReturnAndTackCalls := by
  refine fun s gi f => ⟨fun h hpriv => ⟨?eret, ?ecall⟩, fun t0 st v hrun hwait => ?result, fun t0 st hrun hwait => ?status,
    fun t0 hrun hwait hcode => ?unknown, fun t0 a hrun hwait hpassed => ?timeout⟩
  case eret =>
    have hrun := ready_running h
    refine congrArg Host.Outcome.next ((if_pos (Groom.mayWait_of_ready h fun _ => hpriv)).trans ?_)
    dsimp only
    rw [State.retireOne_eq, State.modGroom, State.groom_setGroom _ _ _ (Groom.ne_of_running (by exact hrun))]
    dsimp only
    rw [State.setGroom_setGroom _ _ (Groom.ne_of_running (by exact hrun)) (Groom.ne_of_running (by exact hrun))]
    rfl
  case ecall => exact congrArg Host.Outcome.next ((if_neg hpriv).trans (if_pos (Groom.mayWait_of_ready h fun _ => hpriv)))
  case result =>
    show execTackCallAnswer gi s = _
    simp only [execTackCallAnswer, hwait, State.finishWait_eq hrun]
    rfl
  case status =>
    show execTackCallAnswer gi s = _
    simp only [execTackCallAnswer, hwait, State.finishWait_eq hrun]
    rfl
  case unknown =>
    have hunknown : ¬ callKnown (Map.get zeroW (s.groom gi).x 1) = true := by simpa [callKnown] using hcode
    show execTackCallAnswer gi s = _
    simp only [execTackCallAnswer, hwait]
    rw [if_neg hunknown, State.finishWait_x hrun]
  case timeout =>
    show execTackCallTimeout gi s = _
    simp only [execTackCallTimeout, hwait]
    rw [if_pos hpassed, State.finishWait_x hrun]

/-! ### The tack room's side -/

/-- Serving a call that waits leaves its answer with the groom. -/
theorem State.serveCall_eq {t0 code : Nat} (hwait : (s.groom gi).wait = .tcall t0 none) (hcode : Map.get zeroW (s.groom gi).x 1 = BitVec.ofNat 64 code)
    {f : Groom → State × Status × Option Word} {t : State} {st : Status} {v : Option Word} (hf : f (s.groom gi) = (t, st, v))
    (ht : t.groom gi = s.groom gi) : s.serveCall gi code f = t.setGroom gi { s.groom gi with wait := .tcall t0 (some (st, v)) } := by
  simp only [State.serveCall, hwait, hcode, if_true, hf, State.modGroom, ht]

theorem State.extendM_groom (s : State) (n : Nat) (v : List Byte) (gi : Nat) : (s.extendM n v).groom gi = s.groom gi := by
  obtain ⟨m, hm⟩ := s.extendM_eq n v
  rw [hm]
  rfl

theorem tackRoomServesCalls : Claims.TackRoomServesCalls := by
  refine fun s gi t0 hwait => ⟨fun hcode => ?power, fun hcode b r hwin hrec hfit => ?config, fun hcode hlo hhi hfit => ?measure⟩
  case power => exact congrArg Host.Outcome.next (State.serveCall_eq hwait hcode rfl rfl)
  case config =>
    refine congrArg Host.Outcome.next (State.serveCall_eq hwait hcode (t := s.scrWrite (gi / 16) ((s.groom gi).xn 4) (r.bytes.take ((s.groom gi).xn 5))) ?_ rfl)
    have hrec' : ((s.bank b).recs.filter fun r => r.sigOk && decide (r.typ = (s.groom gi).xn 2))[(s.groom gi).xn 3]? = some r := hrec
    simp only [hwin, hrec']
    exact if_neg (Nat.not_lt.mpr hfit)
  case measure =>
    have hserved : ¬ ((s.groom gi).xn 2 < 4 ∨ 7 < (s.groom gi).xn 2 ∨ 0x400000 < (s.groom gi).xn 3 + 32) := by
      rintro (hlow | hhigh | hbig)
      · exact absurd hlow (Nat.not_lt.mpr hlo)
      · exact absurd hhigh (Nat.not_lt.mpr hhi)
      · exact absurd hbig (Nat.not_lt.mpr hfit)
    show execMeasExtend gi s = _
    rw [execMeasExtend, State.serveCall_eq hwait hcode (t := s.extendM ((s.groom gi).xn 2) (s.scrRead (gi / 16) ((s.groom gi).xn 3) 32))
      (st := St.ok) (v := none) (by rw [if_neg hserved]) (State.extendM_groom s _ _ gi)]
    simp only [State.extendM, Groom.xn]

/-- Settles O11: fences and waits by the groom they meet, the calls by the answer each leaves. -/
theorem fencesWaitsAndTackCalls : Obligations.FencesWaitsAndTackCalls := ⟨fencesAndWaitForInterrupt, returnAndTackCalls, tackRoomServesCalls⟩

end Sys2Proof.Machine
end

section
/-! SUPPORT. The register instructions of a groom, and run control through its page (R83, R87, R89, R95 to R97). -/

namespace Sys2Proof.Machine

open Sys2Proof.Claims (ready xr setX retired waited enteredGroom entryPc enters mayAccess answered)

variable {s : State} {gi : Nat}

/-! ### Faults at issue -/

/-- A ready groom enters the exception that its instruction raises. -/
theorem State.issue_faults (h : ready s gi) (hexl : (s.groom gi).exl = false) {f : Groom → IRes} {cls : Nat} (hcls : cls ≠ 3) {st : Status} {v : Word}
    (hf : f (s.groom gi) = .fault cls st v) :
    s.issue gi f = s.enter gi cls st (some v) (s.groom gi).pc false (fld ((s.groom gi).reg 0x28) 21 9 * 512 + cls * 64) := by
  obtain ⟨hissue, hfetch, hrq⟩ := ready_free h
  simp only [State.issue, hissue, hfetch, hf, if_true, State.raise, hrq, if_neg hcls]
  rw [State.takeFault_eq hexl _ hcls]
  refine State.settle_nil _ gi 33 ?_
  rw [State.enter_groom (ready_running h)]
  rfl

theorem enters_of_fault (h : ready s gi) (hexl : (s.groom gi).exl = false) {c : Instr} {f : Groom → IRes} (hc : exec c s = .next (s.issue gi f))
    {cls : Nat} (hcls : cls ≠ 3) {st : Status} {v : Word} (hf : f (s.groom gi) = .fault cls st v) :
    enters s gi c (enteredGroom (s.groom gi) cls st (some v) (s.groom gi).pc false (entryPc (s.groom gi) cls)) :=
  enters_of_enter (u := s) (hc.trans (congrArg Host.Outcome.next (State.issue_faults h hexl hcls hf))) ⟨fun _ _ => rfl, rfl, rfl, rfl⟩ (ready_running h)

/-! ### Register instructions -/

theorem csrTaskOk_of_mayAccess {o : Nat} {write : Bool} (h : mayAccess s gi o write) : ¬ ((s.groom gi).priv = .task ∧ (!csrTaskOk o write) = true) := by
  rintro ⟨htask, hno⟩
  rcases h with hpriv | hlisted
  · exact hpriv htask
  · cases write with
    | true => simp_all [csrTaskOk]
    | false =>
      simp only [Bool.false_eq_true, if_false, List.mem_cons, List.not_mem_nil, or_false] at hlisted
      rcases hlisted with rfl | rfl | rfl | rfl | rfl <;> exact absurd hno (by decide)

theorem csrTaskOk_of_not_mayAccess {o : Nat} (h : ¬ mayAccess s gi o true) : (s.groom gi).priv = .task ∧ (!csrTaskOk o true) = true := by
  simp only [mayAccess, if_true, not_or, not_not] at h
  exact ⟨h.1, by simp [csrTaskOk, h.2]⟩

/-- A register instruction that passes its checks. -/
theorem State.csrOp_eq (h : ready s gi) {f : FmtI} {new : Option (Word → Word → Word)} (hlisted : groomListed (f.imm.toNat % 4096 * 8) = true)
    (hpriv : mayAccess s gi (f.imm.toNat % 4096 * 8) new.isSome) :
    s.csrOp gi f new = s.csrDo gi (f.imm.toNat % 4096 * 8) f.rd.toNat (new.map fun k => k (xr s gi f.ra.toNat)) := by
  simp only [State.csrOp, Groom.mayWait_of_ready h (kernel := false) (by simp), hlisted, if_neg (csrTaskOk_of_mayAccess hpriv), Groom.rx_of_ready h,
    Bool.not_true, Bool.false_eq_true, if_false]

theorem State.csrDo_read (h : ready s gi) {o : Nat} (ho : o ≠ 0xA8) (rd : Nat) :
    s.csrDo gi o rd none = retired s gi (setX rd (s.groomRead gi o)) := by
  simp only [State.csrDo, if_neg ho, State.issueSerial_x h]

theorem State.csrDo_write (h : ready s gi) {o : Nat} (ho : o ≠ 0xA8) (htaskid : o = 0x40 → s.storesOut gi = 0) (rd : Nat) (k : Word → Word) :
    s.csrDo gi o rd (some k) = (retired s gi (setX rd (s.groomRead gi o))).groomWrite gi o (k (s.groomRead gi o)) := by
  simp only [State.csrDo, if_neg ho, State.issueSerial_x h]
  exact if_neg fun hc => hc.2 (htaskid hc.1)

theorem csrInstructions : Claims.CsrInstructions := by
  refine fun s gi f h => ⟨fun hlisted ho hpriv => ?read, fun hlisted ho hpriv htaskid => ⟨?write, ?set, ?clear⟩, fun hunlisted hexl => ?illegal,
    fun hlisted hpriv hexl => ?denied⟩
  case read => exact congrArg Host.Outcome.next ((State.csrOp_eq h hlisted (by exact hpriv)).trans (State.csrDo_read h ho _))
  case write => exact congrArg Host.Outcome.next ((State.csrOp_eq h hlisted (by exact hpriv)).trans (State.csrDo_write h ho htaskid _ _))
  case set => exact congrArg Host.Outcome.next ((State.csrOp_eq h hlisted (by exact hpriv)).trans (State.csrDo_write h ho htaskid _ _))
  case clear => exact congrArg Host.Outcome.next ((State.csrOp_eq h hlisted (by exact hpriv)).trans (State.csrDo_write h ho htaskid _ _))
  case illegal =>
    refine enters_of_fault h hexl (f := fun _ => .illegal (wordI f 0x31)) ?_ (by decide) rfl
    show Host.Outcome.next (s.csrOp gi f none) = _
    simp only [State.csrOp, Groom.mayWait_of_ready h (kernel := false) (by simp), hunlisted, Bool.not_true, Bool.not_false, Bool.false_eq_true, if_false, if_true,
      State.issueSerial_eq h]
  case denied =>
    refine enters_of_fault h hexl (f := fun _ => .fault 0 St.groomPrivInstr 0) ?_ (by decide) rfl
    show Host.Outcome.next (s.csrOp gi f (some fun a _ => a)) = _
    simp only [State.csrOp, Groom.mayWait_of_ready h (kernel := false) (by simp), hlisted, Option.isSome_some, if_pos (csrTaskOk_of_not_mayAccess hpriv), Bool.not_true,
      Bool.false_eq_true, if_false, State.issueSerial_eq h]

/-! ### Run control -/

/-- Two writes of one groom, in a canonical list of grooms. -/
theorem State.setGroom_setGroom_of_wf (hwf : Map.wf (fun _ => ({} : Groom)) s.grooms = true) (a b : Groom) :
    (s.setGroom gi a).setGroom gi b = s.setGroom gi b := by
  refine congrArg (fun m => { s with grooms := m }) (Map.eq_of_get (fun _ => ({} : Groom)) (Map.wf_set _ _ _ (Map.wf_set _ _ _ hwf))
    (Map.wf_set _ _ _ hwf) fun k => ?_)
  by_cases hk : k = gi
  · subst hk
    rw [Map.get_set_self _ _ _ (Map.wf_set _ _ _ hwf), Map.get_set_self _ _ _ hwf]
  · rw [Map.get_set_of_ne _ _ _ hk, Map.get_set_of_ne _ _ _ hk, Map.get_set_of_ne _ _ _ hk]

theorem State.groom_setGroom_self (hwf : Map.wf (fun _ => ({} : Groom)) s.grooms = true) (gi : Nat) (g : Groom) : (s.setGroom gi g).groom gi = g :=
  Map.get_set_self (fun _ => ({} : Groom)) gi g hwf

/-- The page refuses TASK, and writes of most registers while the groom runs (R96). -/
theorem State.pageWrite_task (s : State) (gi o : Nat) (v : Word) : s.pageWrite .task gi o v = answered s St.privilege 0 [] := rfl

theorem State.pageWrite_running {p : Priv} (hp : p ≠ .task) {o : Nat} (hlisted : groomListed o = true) (hhalt : needsHalt o = true)
    (hrun : (s.groom gi).halted = false) (v : Word) : s.pageWrite p gi o v = answered s St.groomNotHalted 0 [] := by
  simp only [State.pageWrite, State.groomPageWrite, if_neg hp, hlisted, hhalt, hrun, Bool.not_true, Bool.not_false, Bool.false_eq_true, if_false, and_self, if_true]
  rfl

theorem State.pageWrite_halted {p : Priv} (hp : p ≠ .task) {o : Nat} (hlisted : groomListed o = true) (ho : o ≠ 0x98)
    (hhalt : (s.groom gi).halted = true) (v : Word) : s.pageWrite p gi o v = answered (s.groomWrite gi o v) St.ok 0 [] := by
  simp only [State.pageWrite, State.groomPageWrite, if_neg hp, hlisted, ho, hhalt, Bool.not_true, Bool.false_eq_true, if_false, and_false, false_and]
  rfl

/-- A write of GROOM_RUNCTL that RUN does not refuse. -/
theorem State.pageWrite_runctl {p : Priv} (hp : p ≠ .task) {v : Word} (hok : (s.groom gi).runRefused v = false) :
    s.pageWrite p gi 0x98 v = answered (s.runctl gi v) St.ok 0 [] := by
  have hhalt : needsHalt 0x98 = false := by decide
  have hlisted : groomListed 0x98 = true := by decide
  simp only [State.pageWrite, State.groomPageWrite, if_neg hp, hlisted, hhalt, hok, Bool.not_true, Bool.false_eq_true, if_false, and_false, false_and]
  rfl

/-- The groom with the start address of a write held in GROOM_RUNCTL. -/
def Groom.withStartPc (g : Groom) (v : Word) : Groom := g.setReg 0x98 (place 21 2 (fld v 21 2))

/-- What a write of GROOM_RUNCTL does, by its highest command. -/
theorem State.runctl_reset (hwf : Map.wf (fun _ => ({} : Groom)) s.grooms = true) {v : Word} (hreset : bit v 62 = true) (hhalt : (s.groom gi).halted = true) :
    s.runctl gi v = s.setGroom gi { gen := (s.groom gi).gen } := by
  have hg : (s.modGroom gi fun g => g.withStartPc v).groom gi = (s.groom gi).withStartPc v := State.groom_setGroom_self hwf gi _
  refine (if_pos hreset).trans ((if_pos ((congrArg Groom.halted hg).trans hhalt)).trans ?_)
  rw [State.groomReset]
  rw [show (State.modGroom s gi fun g => g.setReg 0x98 (place 21 2 (fld v 21 2))).groom gi = (s.groom gi).withStartPc v from hg]
  exact State.setGroom_setGroom_of_wf hwf _ _

theorem State.runctl_halt (hwf : Map.wf (fun _ => ({} : Groom)) s.grooms = true) {v : Word} (hreset : bit v 62 = false) (hstop : bit v 61 = true)
    (hrun : (s.groom gi).halted = false) : s.runctl gi v = s.setGroom gi { (s.groom gi).withStartPc v with haltReq := true } := by
  have hg : (s.modGroom gi fun g => g.withStartPc v).groom gi = (s.groom gi).withStartPc v := State.groom_setGroom_self hwf gi _
  refine (if_neg (by simp [hreset])).trans ((if_pos hstop).trans ((if_neg fun hc => ?_).trans ?_))
  · exact absurd ((congrArg Groom.halted hg).symm.trans hc) (by simp [Groom.withStartPc, Groom.setReg, hrun])
  · exact (State.setGroom_setGroom_of_wf hwf _ _).trans (congrArg (fun h : Groom => s.setGroom gi { h with haltReq := true }) hg)

theorem State.runctl_run (hwf : Map.wf (fun _ => ({} : Groom)) s.grooms = true) {v : Word} (hreset : bit v 62 = false) (hstop : bit v 61 = false)
    (hgo : bit v 60 = true) (hhalt : (s.groom gi).halted = true) :
    s.runctl gi v = s.setGroom gi { (s.groom gi).withStartPc v with
      halted := false, haltReq := false, wait := .none, priv := .kernel, ie := false, exl := false, pc := fld v 21 2 * 4 } := by
  have hg : (s.modGroom gi fun g => g.withStartPc v).groom gi = (s.groom gi).withStartPc v := State.groom_setGroom_self hwf gi _
  refine (if_neg (by simp [hreset])).trans ((if_neg (by simp [hstop])).trans ((if_pos ⟨hgo, (congrArg Groom.halted hg).trans hhalt⟩).trans ?_))
  exact (State.setGroom_setGroom_of_wf hwf _ _).trans (congrArg (fun h : Groom => s.setGroom gi { h with
    halted := false, haltReq := false, wait := .none, priv := .kernel, ie := false, exl := false, pc := fld v 21 2 * 4 }) hg)

/-- A command bit set beside START_PC. -/
theorem fld_or_command {v : Word} {k : Nat} (hk : 21 < k) : fld (v ||| place k k 1) 21 2 = fld v 21 2 := by
  rw [fld_or, fld_place_apart (.inr hk), Nat.or_zero]

theorem bit_or_other {v : Word} {i k : Nat} (hk : i ≠ k) : bit (v ||| place k k 1) i = bit v i := by
  rw [bit_or, bit_place_apart (by omega), Bool.or_false]

theorem bit_or_self {v : Word} {k : Nat} (hk : k < 64) : bit (v ||| place k k 1) k = true := by
  rw [bit_or, bit_place_one hk, Bool.or_true]

theorem Groom.withStartPc_or {g : Groom} {v : Word} {k : Nat} (hk : 21 < k) : g.withStartPc (v ||| place k k 1) = g.withStartPc v := by
  rw [Groom.withStartPc, fld_or_command hk, Groom.withStartPc]

theorem Groom.runRefused_of_halted {g : Groom} (h : g.halted = true) (v : Word) : g.runRefused v = false := by simp [Groom.runRefused, h]

/-- The halt takes effect at a groom with nothing unretired and nothing outstanding. -/
theorem State.haltTakesEffect (hwf : Map.wf (fun _ => ({} : Groom)) s.grooms = true) (hreq : (s.groom gi).haltReq = true) (hrun : (s.groom gi).halted = false)
    (hwait : (s.groom gi).wait = .none) (hrq : (s.groom gi).rq = []) (herr : (s.groom gi).asyncErr = []) (hcsr : s.csrLoadOut gi = false)
    (hst : s.storesOut gi = 0) (hreset : (s.groom gi).resetReq = false) :
    ∃ t, exec (.groomHaltTakesEffect gi) s = .next t ∧ t.groom gi = { s.groom gi with halted := true, haltReq := false } ∧ t.mem = s.mem := by
  have hgo : ¬ (!(s.groom gi).haltReq || (s.groom gi).halted || (s.groom gi).faultWaits || (s.groom gi).inCall || s.csrLoadOut gi || decide (s.storesOut gi ≠ 0)) = true := by
    simp [hreq, hrun, Groom.faultWaits, hrq, herr, Groom.inCall, hwait, hcsr, hst]
  refine ⟨_, congrArg Host.Outcome.next ((if_neg hgo).trans (if_neg (by simp [hreset]))), ?_, (KeepsRest.discard s gi).mem⟩
  have hwf' : Map.wf (fun _ => ({} : Groom)) (s.discard gi).grooms = true := by
    obtain ⟨m, hm, -⟩ := State.foldl_setReq_eq abandoned (s.reqsWhere (Req.isLoadOf gi)) s
    rw [State.discard_eq, hm]
    exact Map.wf_set _ _ _ hwf
  rw [State.modGroom, State.groom_setGroom_self hwf', State.discard_groom hrun, Groom.oldestPc, hrq]
  simp only [← hwait, ← hrq, ← hreset]

theorem groomRunControl : Claims.GroomRunControl := by
  refine fun s gi v hwf => ⟨fun p hp hhalt hstop hreset => congrArg Host.Outcome.next ?run, fun p hp hrun hreset => congrArg Host.Outcome.next ?halt,
    fun p hp hhalt => congrArg Host.Outcome.next ?reset, fun hreq hrun hwait hrq herr hcsr hst hreset => ?effect,
    fun p hp hhalt => ⟨congrArg Host.Outcome.next ?dbg, congrArg Host.Outcome.next ?flush, fun hwait => congrArg Host.Outcome.next ?taskid⟩,
    fun p hp hrun => ⟨congrArg Host.Outcome.next ?dbgRunning, congrArg Host.Outcome.next ?flushRunning⟩, rfl,
    fun rd w hrun hwait hst herr => congrArg Host.Outcome.next ?taskidWaited⟩
  case run =>
    rw [State.pageWrite_runctl hp (Groom.runRefused_of_halted hhalt _), State.runctl_run hwf ((bit_or_other (by decide)).trans hreset)
      ((bit_or_other (by decide)).trans hstop) (bit_or_self (by decide)) hhalt, Groom.withStartPc_or (by decide), fld_or_command (by decide)]
    rfl
  case halt =>
    have hstop : bit (v ||| place 61 61 1) 61 = true := bit_or_self (by decide)
    rw [State.pageWrite_runctl hp (by simp [Groom.runRefused, hstop]), State.runctl_halt hwf ((bit_or_other (by decide)).trans hreset) hstop hrun,
      Groom.withStartPc_or (by decide)]
    rfl
  case reset =>
    rw [State.pageWrite_runctl hp (Groom.runRefused_of_halted hhalt _), State.runctl_reset hwf (bit_or_self (by decide)) hhalt]
  case effect => exact State.haltTakesEffect hwf hreq hrun hwait hrq herr hcsr hst hreset
  case dbg =>
    have hlisted : groomListed 0xA8 = true := by decide
    simp only [State.groomPageRead, if_neg hp, hlisted, hhalt, Bool.not_true, Bool.false_eq_true, if_false, and_false]
    rfl
  case flush =>
    have hkeep : fld ((s.groom gi).reg 0x70 ||| 2) 0 0 = fld ((s.groom gi).reg 0x70) 0 0 := by
      rw [show (2 : Word) = place 1 1 1 from rfl, fld_or, fld_place_apart (.inr (by decide)), Nat.or_zero]
    have hflush : bit ((s.groom gi).reg 0x70 ||| 2) 1 = true := bit_or_self (k := 1) (by decide)
    rw [State.pageWrite_halted hp (by decide) (by decide) hhalt]
    show answered (s.modGroom gi fun g => if bit ((s.groom gi).reg 0x70 ||| 2) 1 then _ else _) St.ok 0 [] = _
    rw [hflush, hkeep]
    rfl
  case taskid =>
    refine Eq.trans ?_ ((State.pageWrite_halted (o := 0x40) hp (by decide) (by decide) hhalt v).trans rfl)
    split
    · next rd w hw => exact absurd hw (hwait rd w)
    · rfl
  case dbgRunning =>
    have hlisted : groomListed 0xA8 = true := by decide
    simp only [State.groomPageRead, if_neg hp, hlisted, hrun, Bool.not_true, Bool.not_false, Bool.false_eq_true, if_false, and_self, if_true]
    rfl
  case flushRunning => exact State.pageWrite_running hp (by decide) (by decide) hrun _
  case taskidWaited =>
    rw [hwait]
    dsimp only
    rw [if_pos ⟨hst, herr⟩, State.finishWait_x hrun]
    rfl

/-- Settles O12: register instructions by their checks, page writes by what GROOM_RUNCTL and the halted groom take. -/
theorem groomRegistersAndRunControl : Obligations.GroomRegistersAndRunControl := ⟨csrInstructions, groomRunControl⟩

end Sys2Proof.Machine
end

section
/-! SUPPORT. The sheds' accesses to main memory, refresh and patrol scrub (R75, R288, R290 to R293). -/

namespace Sys2Proof.Machine

open Sys2Proof.Claims (backed)

variable {s : State}

/-! ### Lanes written block by block -/

theorem writeLanes_append (l l' : List (Option Byte)) : ∀ (m : Map Byte) (a : Nat), writeLanes m a (l ++ l') = writeLanes (writeLanes m a l) (a + l.length) l' := by
  induction l with
  | nil => exact fun _ _ => rfl
  | cons o l ih =>
    intro m a
    rw [List.length_cons, ← Nat.add_assoc, Nat.add_right_comm]
    cases o with
    | none => exact ih m (a + 1)
    | some b => exact ih _ (a + 1)

/-- The lane of a write at `pa` that falls on byte `x`. -/
def byteLane (pa : Nat) (lanes : List (Option Byte)) (x : Nat) : Option Byte := if x < pa then none else lanes.getD (x - pa) none

/-- Consecutive blocks take consecutive lanes. -/
theorem blocksWritten_range (pa : Nat) (lanes : List (Option Byte)) (b0 : Nat) (m : Map Byte) : ∀ k : Nat,
    blocksWritten pa lanes ((List.range k).map (· + b0)) m = writeLanes m (b0 * 64) ((List.range (64 * k)).map fun i => byteLane pa lanes (b0 * 64 + i))
  | 0 => rfl
  | k + 1 => by
    have hblock : blockLanes pa (k + b0) lanes = ((List.range 64).map (64 * k + ·)).map fun i => byteLane pa lanes (b0 * 64 + i) := by
      rw [List.map_map]
      refine List.map_congr_left fun i _ => ?_
      show byteLane pa lanes ((k + b0) * 64 + i) = byteLane pa lanes (b0 * 64 + (64 * k + i))
      congr 1
      omega
    have hat : b0 * 64 + (List.map (fun i => byteLane pa lanes (b0 * 64 + i)) (List.range (64 * k))).length = (k + b0) * 64 := by
      rw [List.length_map, List.length_range]
      omega
    have ih := blocksWritten_range pa lanes b0 m k
    rw [blocksWritten] at ih ⊢
    rw [List.range_succ, List.map_append, List.foldl_append, ih, show 64 * (k + 1) = 64 * k + 64 from rfl, List.range_add, List.map_append, writeLanes_append, ← hblock, hat]
    rfl

/-- Lanes of whole blocks around a write: none before it, its own, and none after it. -/
theorem byteLane_range {pa a : Nat} (lanes : List (Option Byte)) {n : Nat} (ha : a ≤ pa) (hn : pa + lanes.length ≤ a + n) :
    ((List.range n).map fun i => byteLane pa lanes (a + i)) =
      List.replicate (pa - a) none ++ (lanes ++ List.replicate (a + n - (pa + lanes.length)) none) := by
  refine List.ext_getElem ?_ fun i hi hi' => ?_
  · simp only [List.length_map, List.length_range, List.length_append, List.length_replicate]
    omega
  · rw [List.getElem_map, List.getElem_range, byteLane]
    by_cases hlo : a + i < pa
    · rw [if_pos hlo, List.getElem_append_left (by simpa using (by omega : i < pa - a)), List.getElem_replicate]
    · rw [if_neg hlo, List.getElem_append_right (by simpa using (by omega : pa - a ≤ i))]
      have hidx : i - (List.replicate (pa - a) (none : Option Byte)).length = a + i - pa := by rw [List.length_replicate]; omega
      by_cases hin : a + i - pa < lanes.length
      · rw [List.getElem_append_left (by rw [hidx]; exact hin), List.getD_eq_getElem _ _ hin]
        simp only [hidx]
      · rw [List.getElem_append_right (by rw [hidx]; omega), List.getElem_replicate, List.getD_eq_default _ _ (by omega)]

/-- A write of lanes over all the blocks of its range writes the lanes. -/
theorem blocksWritten_blocksOf (m : Map Byte) (pa : Nat) {lanes : List (Option Byte)} (hpos : 0 < lanes.length) :
    blocksWritten pa lanes (blocksOf pa lanes.length) m = writeLanes m pa lanes := by
  have hfrom : pa / 64 * 64 ≤ pa := Nat.div_mul_le_self pa 64
  rw [blocksOf, if_neg (Nat.ne_of_gt hpos), blocksWritten_range, byteLane_range lanes hfrom (by omega), writeLanes_append,
    writeLanes_of_none _ m _ (by simp), List.length_replicate, Nat.add_sub_cancel' hfrom, writeLanes_append, writeLanes_of_none _ _ _ (by simp)]

/-- A write of a good range writes its bytes, in whatever form the memory is listed. -/
theorem State.memStore_range {pa : Nat} {data : List Byte} (hpos : 0 < data.length) (h : s.memGood pa data.length = true) :
    s.memStore pa (data.map some) = ({ s with mem := writeBytes s.mem pa data }, St.ok) := by
  unfold State.memStore
  rw [State.memStore_blocks _ _ s (State.memGood_iff.mp (by rw [List.length_map]; exact h)),
    blocksWritten_blocksOf s.mem pa (by rw [List.length_map]; exact hpos), writeLanes_some]

/-! ### Errors found -/

/-- With no fresh error, a request finds nothing. -/
theorem State.findErrors_none (s : State) (pa n : Nat) : s.findErrors pa n [] [] = s := by
  have hue : ({ s with memUe := s.memUe ++ [] } : State) = s := by rw [List.append_nil]
  show (match ({ s with memUe := s.memUe ++ [] } : State).chanOf (spreadLc pa) with
    | some ch => ({ s with memUe := s.memUe ++ [] } : State).correctable ch 0
    | none => ({ s with memUe := s.memUe ++ [] } : State)) = s
  rw [hue]
  cases s.chanOf (spreadLc pa) <;> rfl

theorem State.bumpDev_eq (s : State) (o n : Nat) : ∃ c, s.bumpDev o n = { s with csr := c } := by
  unfold State.bumpDev
  split_ifs
  · exact ⟨s.csr, rfl⟩
  · exact ⟨_, rfl⟩

/-- An uncorrectable block is logged, counted and reported; a fresh one is marked. -/
theorem State.uncorrectable_eq (s : State) (st : Status) (blk : Nat) (fresh scrub : Bool) : ∃ sh c a, s.uncorrectable st blk fresh scrub =
    { s with memUe := if fresh ∧ !s.memUe.contains blk then s.memUe ++ [blk] else s.memUe, sheds := sh, csr := c, tack := a } := by
  have hmark : (if fresh ∧ !s.memUe.contains blk then { s with memUe := s.memUe ++ [blk] } else s : State) =
      { s with memUe := if fresh ∧ !s.memUe.contains blk then s.memUe ++ [blk] else s.memUe } := by
    split_ifs <;> rfl
  unfold State.uncorrectable
  rw [hmark]
  generalize (if fresh ∧ !s.memUe.contains blk then s.memUe ++ [blk] else s.memUe) = ue
  dsimp only
  cases State.chanOf { s with memUe := ue } (spreadLc (blk * 64)) with
  | none => exact ⟨s.sheds, s.csr, s.tack, rfl⟩
  | some ch =>
    obtain ⟨c, hc⟩ := (State.elog { s with memUe := ue } (ch / 34)
      { status := st, chan := ch % 34, loft := false, scrub := scrub, addr := blk * 64 }).bumpDev_eq (shedBase (ch / 34) + 0x110 + ch % 34 * 0x18) 1
    obtain ⟨a, ha⟩ := State.detect_eq { State.elog { s with memUe := ue } (ch / 34)
      { status := st, chan := ch % 34, loft := false, scrub := scrub, addr := blk * 64 } with csr := c } St.memUe 7 1 2 ch 0 (blk * 64) 0
    dsimp only
    rw [hc, ha]
    exact ⟨_, _, _, rfl⟩

/-- Uncorrectable blocks that a read meets stay as they are. -/
theorem State.foldl_uncorrectable (st : Status) (bs : List Nat) : ∀ s : State,
    (bs.foldl (fun s b => s.uncorrectable st b false false) s).mem = s.mem ∧ (bs.foldl (fun s b => s.uncorrectable st b false false) s).memUe = s.memUe := by
  induction bs with
  | nil => exact fun _ => ⟨rfl, rfl⟩
  | cons b bs ih =>
    intro s
    obtain ⟨sh, c, a, he⟩ := s.uncorrectable_eq st b false false
    rw [List.foldl_cons, he]
    exact ih _

/-! ### Accesses -/

theorem Req.atShed_main {r : Req} {a : Nat} (hphase : r.phase = .endpoint) (hloc : isGlobal r.addr = false) (hreg : localRegion r.addr = some (.main a)) :
    r.atShed = true := by
  simp [Req.atShed, hphase, hloc, hreg]

section
variable {id a : Nat} {r : Req} (hreq : s.req id = some r) (hshed : r.atShed = true) (hbehind : s.behind id r = false)
include hreq hshed hbehind

/-- A shed's read without fresh errors. -/
theorem exec_shedRead (hop : r.op = .read) : exec (.shedRead id [] []) s =
    .next ((s.shedLoad r.pa r.len).1.answer id r (s.shedLoad r.pa r.len).2
      (if (s.shedLoad r.pa r.len).2 = St.ok then (s.shedLoad r.pa r.len).1.memRead r.pa r.len else [])) := by
  show execShedRead id [] [] s = _
  simp only [execShedRead, hreq, hshed, hop, hbehind, State.findErrors_none, Bool.not_true, ne_eq, not_true_eq_false, decide_false, Bool.or_self,
    Bool.false_eq_true, if_false]

theorem exec_shedWrite (hop : r.op = .write) : exec (.shedWrite id [] [] false) s =
    .next (((s.memStore r.pa (lanesOf r.mask (r.data.take r.len))).1.answer id r (s.memStore r.pa (lanesOf r.mask (r.data.take r.len))).2 []).rearm) := by
  show execShedWrite id [] [] false s = _
  simp only [execShedWrite, hreq, hshed, hop, hbehind, State.findErrors_none, Bool.not_true, ne_eq, not_true_eq_false, decide_false, Bool.or_self,
    Bool.false_eq_true, if_false]

theorem exec_shedAmo {op : AmoOp} (hop : r.op = .amo op) (hload : s.shedLoad r.pa r.len = (s, St.ok)) : exec (.shedAmo id [] []) s =
    .next (((s.memWrite r.pa (amoOn s.mem r.pa op r.len r.data).2).answer id r St.ok (amoOn s.mem r.pa op r.len r.data).1).rearm) := by
  show execShedAmo id [] [] s = _
  simp only [execShedAmo, hreq, hop, hshed, hbehind, State.findErrors_none, hload, Bool.not_true, Bool.or_self, Bool.false_eq_true, if_false, ne_eq,
    not_true_eq_false]

end

theorem mainMemoryAccesses : Claims.MainMemoryAccesses := by
  intro s id a r hreq hphase hloc hreg hbehind hmask hlen
  have hshed := Req.atShed_main hphase hloc hreg
  refine ⟨fun hgood => ⟨fun hop => ?read, fun hop hdata => ?write, fun op hop hdata => ?amo⟩, fun b hb hue hchan hop => ?bad⟩
  case read =>
    rw [exec_shedRead hreq hshed hbehind hop, State.shedLoad_good hlen hgood]
    rfl
  case write =>
    have hall : lanesOf r.mask (r.data.take r.len) = r.data.map some := by rw [hmask, lanesOf, List.take_of_length_le (Nat.le_of_eq hdata)]
    refine ⟨_, exec_shedWrite hreq hshed hbehind hop, ?_⟩
    rw [hall, State.memStore_range (by rw [hdata]; exact hlen) (by rw [hdata]; exact hgood)]
    exact ⟨rfl, State.req_setReq_some _ _ _, fun _ => rfl, fun _ => rfl⟩
  case amo => exact ⟨_, exec_shedAmo hreq hshed hbehind hop (State.shedLoad_good hlen hgood), rfl, State.req_setReq_some _ _ _⟩
  case bad =>
    have hload : s.shedLoad r.pa r.len =
        (((blocksOf r.pa r.len).filter s.memUe.contains).foldl (fun s b => s.uncorrectable St.memUe b false false) s, St.memUe) := by
      have hbad : (blocksOf r.pa r.len).filter s.memUe.contains ≠ [] :=
        List.ne_nil_of_mem (List.mem_filter.mpr ⟨hb, List.contains_iff_mem.mpr hue⟩)
      simp only [State.shedLoad, hchan, Bool.not_true, Bool.false_eq_true, if_false, if_neg hbad]
    obtain ⟨hmem, hmemUe⟩ := State.foldl_uncorrectable St.memUe ((blocksOf r.pa r.len).filter s.memUe.contains) s
    refine ⟨_, exec_shedRead hreq hshed hbehind hop, ?_⟩
    rw [hload]
    exact ⟨hmem, hmemUe, State.req_setReq_some _ _ _⟩

/-! ### Patrol scrub -/

/-- A count that has been raised is not zero. -/
theorem bump32_ne_zero (w : Word) : bump32 1 w ≠ 0 := by
  intro h
  have hf : fld (bump32 1 w) 31 0 = 0 := by rw [h]; rfl
  have hv : satAdd 0xFFFFFFFF (fld w 31 0) 1 % 2 ^ 32 = satAdd 0xFFFFFFFF (fld w 31 0) 1 := Nat.mod_eq_of_lt (by unfold satAdd; omega)
  rw [bump32, setFld, fld_or, fld_place_self (by decide), hv, Nat.or_eq_zero_iff] at hf
  unfold satAdd at hf
  omega

/-- The counts of corrected errors of the channels are zero after reset. -/
theorem devReset_corrected : ∀ ch < 136, devReset (shedBase (ch / 34) + 0x108 + ch % 34 * 0x18) = 0 := by decide

/-- A corrected error raises its channel's count. -/
theorem State.correctable_dcsr {ch : Nat} (hch : ch < 136) :
    (s.correctable ch 1).mem = s.mem ∧ (s.correctable ch 1).memUe = s.memUe ∧ (s.correctable ch 1).dcsr (shedBase (ch / 34) + 0x108 + ch % 34 * 0x18) =
      bump32 1 (s.dcsr (shedBase (ch / 34) + 0x108 + ch % 34 * 0x18)) := by
  rw [State.correctable, if_neg (by decide), State.bumpDev, if_neg (by decide)]
  obtain ⟨a, ha⟩ := (s.modDcsr (shedBase (ch / 34) + 0x108 + ch % 34 * 0x18) (bump32 1)).detect_eq St.memUe 7 0 2 ch 0 0 0
  rw [ha]
  refine ⟨rfl, rfl, Map.get_set_of_ne_default devReset s.csr _ ?_⟩
  rw [devReset_corrected ch hch]
  exact bump32_ne_zero _

/-- A scrub read of an ACTIVE channel. -/
theorem exec_scrubRead {ch co : Nat} (hco : co < 2 ^ s.capLog2) (hstate : (s.chan ch).state = 0) (ecc : Ecc) :
    exec (.scrubRead ch co ecc) s = .next (
      if ecc = .uncorrectable ∨ s.memUe.contains (unspread (ch / 34 * 32 + (s.chan ch).lc) co / 64) then
        s.uncorrectable St.memUe (unspread (ch / 34 * 32 + (s.chan ch).lc) co / 64) true true
      else if ecc = .corrected then s.correctable ch 1 else s) := by
  show execScrubRead ch co ecc s = _
  simp only [execScrubRead, if_neg (Nat.not_le.mpr hco), hstate, if_true]

theorem refreshAndScrub : Claims.RefreshAndScrub := by
  refine fun s ch sub bank co => ⟨rfl, fun hch hco hstate => ⟨fun hgood => ⟨?clean, ?corrected⟩, ?uncorrectable⟩⟩
  case clean => rw [exec_scrubRead hco hstate, if_neg (by simp [hgood]), if_neg (by decide)]
  case corrected =>
    exact ⟨_, (exec_scrubRead hco hstate .corrected).trans (congrArg Host.Outcome.next ((if_neg (by simp [hgood])).trans (if_pos rfl))), State.correctable_dcsr hch⟩
  case uncorrectable =>
    obtain ⟨sh, c, a, he⟩ := s.uncorrectable_eq St.memUe (unspread (ch / 34 * 32 + (s.chan ch).lc) co / 64) true true
    refine ⟨_, (exec_scrubRead hco hstate .uncorrectable).trans (congrArg Host.Outcome.next ((if_pos (.inl rfl)).trans he)), rfl, ?_⟩
    dsimp only
    split_ifs with hfresh
    · exact List.mem_append_right _ (List.mem_singleton_self _)
    · simpa using hfresh

/-- Settles O27: accesses of good blocks by the bytes they write, reads and scrubs of bad ones by what logging leaves. -/
theorem mainMemory : Obligations.MainMemory := ⟨mainMemoryAccesses, refreshAndScrub⟩

end Sys2Proof.Machine
end

section
/-! SUPPORT. The choice of sources and grooms, the delivery of interrupts, and the interrupt controller's registers (R86, R471 to R474, R477). -/

namespace Sys2Proof.Machine

open Sys2Proof.Claims (ready enteredGroom answered turn waiting)

variable {s : State}

/-! ### The first of the least -/

theorem leastBy_mem {k : Nat → Nat} : ∀ {l : List Nat} {b : Nat}, leastBy k l = some b → b ∈ l
  | [], _, h => by cases h
  | a :: l, b, h => by
    rw [leastBy] at h
    split at h
    · next c hc =>
      split_ifs at h
      · obtain rfl := Option.some.inj h
        exact List.mem_cons_of_mem _ (leastBy_mem hc)
      · obtain rfl := Option.some.inj h
        exact List.mem_cons_self
    · obtain rfl := Option.some.inj h
      exact List.mem_cons_self

/-- The choice falls on an entry below every earlier one and not above any later one. -/
theorem leastBy_append {k : Nat → Nat} {b : Nat} {after : List Nat} (hafter : ∀ x ∈ after, k b ≤ k x) : ∀ before : List Nat, (∀ x ∈ before, k b < k x) →
    leastBy k (before ++ b :: after) = some b
  | [], _ => by
    rw [List.nil_append, leastBy]
    split
    · next c hc => exact if_neg (Nat.not_lt.mpr (hafter c (leastBy_mem hc)))
    · rfl
  | a :: before, hbefore => by
    rw [List.cons_append, leastBy, leastBy_append hafter before fun x hx => hbefore x (List.mem_cons_of_mem _ hx)]
    exact if_pos (hbefore a List.mem_cons_self)

/-- An entry below every other is chosen. -/
theorem leastBy_of_lt {k : Nat → Nat} {l : List Nat} {b : Nat} (hb : b ∈ l) (hmin : ∀ x ∈ l, x ≠ b → k b < k x) : leastBy k l = some b := by
  obtain ⟨before, after, rfl, hfirst⟩ := List.eq_append_cons_of_mem hb
  refine leastBy_append (fun x hx => ?_) before fun x hx => hmin x (by simp [hx]) (ne_of_mem_of_not_mem hx hfirst)
  by_cases hxb : x = b
  · rw [hxb]
  · exact Nat.le_of_lt (hmin x (by simp [hx]) hxb)

/-- In an ascending list, so is one that only later entries equal. -/
theorem leastBy_of_sorted {k : Nat → Nat} {l : List Nat} {b : Nat} (hl : l.Pairwise (· ≤ ·)) (hb : b ∈ l)
    (hmin : ∀ x ∈ l, x ≠ b → k b < k x ∨ (k b = k x ∧ b < x)) : leastBy k l = some b := by
  obtain ⟨before, after, rfl, hfirst⟩ := List.eq_append_cons_of_mem hb
  refine leastBy_append (fun x hx => ?_) before fun x hx => ?_
  · by_cases hxb : x = b
    · rw [hxb]
    · rcases hmin x (by simp [hx]) hxb with h | h
      · exact Nat.le_of_lt h
      · exact Nat.le_of_eq h.1
  · have hle : x ≤ b := (List.pairwise_append.mp hl).2.2 x hx b List.mem_cons_self
    rcases hmin x (by simp [hx]) (ne_of_mem_of_not_mem hx hfirst) with h | h
    · exact h
    · omega

/-! ### The start of a delivery -/

theorem rising_bounds {α : Type} : ∀ {m : Map α} {b : Nat}, Map.rising b m = true → (∀ p ∈ m, b ≤ p.1) ∧ m.Pairwise fun p q => p.1 < q.1
  | [], _, _ => ⟨by simp, List.Pairwise.nil⟩
  | (i, v) :: m, b, h => by
    simp only [Map.rising, Bool.and_eq_true, decide_eq_true_eq] at h
    obtain ⟨hle, hrest⟩ := h
    obtain ⟨hkeys, hpair⟩ := rising_bounds hrest
    refine ⟨fun p hp => ?_, List.pairwise_cons.mpr ⟨fun p hp => hkeys p hp, hpair⟩⟩
    rcases List.mem_cons.mp hp with rfl | hp
    · exact hle
    · have := hkeys p hp
      omega

/-- The sources of a canonical state are listed in ascending order. -/
theorem State.written_sorted (hwf : Map.wf devReset s.csr = true) : s.written.Pairwise (· ≤ ·) := by
  simp only [Map.wf, Bool.and_eq_true] at hwf
  refine (rising_bounds hwf.1).2.filterMap _ fun p q hpq m hm n hn => ?_
  split_ifs at hm hn
  obtain rfl := Option.some.inj hm
  obtain rfl := Option.some.inj hn
  exact Nat.div_le_div_right (by omega)

theorem mem_waiting {n : Nat} : n ∈ s.pendingSrcs.filter (fun n => !s.started.any fun d => d.src = n) ↔ waiting s n := by
  simp [waiting]

theorem State.srcPrio_lt (s : State) (n : Nat) : s.srcPrio n < 16 := Nat.mod_lt _ (by decide)

/-- The controller takes the waiting source of highest priority, then lowest number. -/
theorem State.chooseSource_eq (hwf : Map.wf devReset s.csr = true) {n : Nat} (hn : waiting s n)
    (hfirst : ∀ m, waiting s m → m ≠ n → s.srcPrio m < s.srcPrio n ∨ (s.srcPrio m = s.srcPrio n ∧ n < m)) : s.chooseSource = some n := by
  refine leastBy_of_sorted (((State.written_sorted hwf).filter _).filter _) (mem_waiting.mpr hn) fun m hm hne => ?_
  have hm16 := s.srcPrio_lt m
  have hn16 := s.srcPrio_lt n
  rcases hfirst m (mem_waiting.mp hm) hne with h | ⟨h, hlt⟩
  · exact .inl (by omega)
  · exact .inr ⟨by rw [h], hlt⟩

theorem State.chooseSource_none (h : ∀ n, ¬ waiting s n) : s.chooseSource = none := by
  have hnil : s.pendingSrcs.filter (fun n => !s.started.any fun d => d.src = n) = [] :=
    List.eq_nil_iff_forall_not_mem.mpr fun n hn => h n (mem_waiting.mp hn)
  rw [State.chooseSource, hnil, leastBy]

theorem State.chooseGroom_eq {n g : Nat} (hg : g ∈ s.candidates n) (hfirst : ∀ h ∈ s.candidates n, h ≠ g → turn s n g < turn s n h) :
    s.chooseGroom n = some g := leastBy_of_lt hg hfirst

/-! ### Arrival -/

theorem State.perfGroom_modGroom_eq (s : State) (gi code : Nat) (f : Groom → Groom) (h : Groom) :
    ∃ c g, (s.modGroom gi f).perfGroom gi code h = { s with stalls := c, grooms := g } := by
  obtain ⟨c, hc⟩ := (s.modGroom gi f).perf_eq (gi / 16) code (some h.priv) (some (gi % 16)) none 1
  exact ⟨c, _, hc⟩

/-- An entry changes its groom, the groom's loads and the stall's counters. -/
theorem State.enter_eq (s : State) (gi cls : Nat) (st : Status) (ev : Option Word) (epc : Nat) (async : Bool) (pc : Nat) :
    ∃ q c g, s.enter gi cls st ev epc async pc = { s with reqs := q, stalls := c, grooms := g } := by
  obtain ⟨q, hq, -⟩ := State.foldl_setReq_eq abandoned (s.reqsWhere (Req.isLoadOf gi)) s
  have hdiscard : ∃ g, s.discard gi = { s with reqs := q, grooms := g } := by
    rw [State.discard_eq, hq]
    exact ⟨_, rfl⟩
  obtain ⟨g, hg⟩ := hdiscard
  rw [State.enter, hg]
  exact ⟨q, State.perfGroom_modGroom_eq { s with reqs := q, grooms := g } gi 0x65 _ _⟩

/-- The delivery is no longer under way, and its source's DELIV is set. -/
def State.takeDelivery (s : State) (d : Deliv) : State :=
  { s with started := s.started.filter (fun x => x.src ≠ d.src), deliv := s.deliv ++ [d.src] }

section
variable {d : Deliv} (hready : ready s (s.gctx d.g)) (herr : (s.groom (s.gctx d.g)).asyncErr = []) (hcsr : s.csrLoadOut (s.gctx d.g) = false)
include hready herr hcsr

/-- At a groom with nothing unretired, a delivery enters or is refused. -/
theorem State.deliver_eq : s.deliver d =
    if (s.asserted d.src && (s.groom (s.gctx d.g)).eligible) = true then
      (s.takeDelivery d).enter (s.gctx d.g) 7 St.ok none
        (s.groom (s.gctx d.g)).pc false (fld (s.srcReg d.src) 21 6 * 64)
    else { s with started := s.started.filter (fun x => x.src ≠ d.src) } := by
  obtain ⟨hrun, hwait, hrq, -⟩ := hready
  have hmeets : ¬ (s.csrLoadOut (s.gctx d.g) || (s.groom (s.gctx d.g)).faultWaits || (s.groom (s.gctx d.g)).inCall) = true := by
    simp [hcsr, Groom.faultWaits, hrq, herr, Groom.inCall, hwait]
  have hpc : (s.groom (s.gctx d.g)).oldestPc = (s.groom (s.gctx d.g)).pc := by rw [Groom.oldestPc, hrq]
  rw [← hpc]
  exact if_neg hmeets

/-- An eligible groom enters at the source's vector, and DELIV is set (R474). -/
theorem State.deliver_enters (hasserted : s.asserted d.src = true) (hie : (s.groom (s.gctx d.g)).ie = true) (hexl : (s.groom (s.gctx d.g)).exl = false) :
    (s.deliver d).groom (s.gctx d.g) =
      enteredGroom (s.groom (s.gctx d.g)) 7 St.ok none (s.groom (s.gctx d.g)).pc false (fld (s.srcReg d.src) 21 6 * 64) ∧
    (∀ gj, gj ≠ s.gctx d.g → (s.deliver d).groom gj = s.groom gj) ∧ (s.deliver d).deliv = s.deliv ++ [d.src] ∧
    (s.deliver d).started = s.started.filter (fun x => x.src ≠ d.src) ∧ (s.deliver d).mem = s.mem ∧ (s.deliver d).csr = s.csr := by
  have hrun := ready_running hready
  have hvec : fld (s.srcReg d.src) 21 6 * 64 % 0x400000 / 4 * 4 = fld (s.srcReg d.src) 21 6 * 64 := by
    have : fld (s.srcReg d.src) 21 6 < 2 ^ 16 := Nat.mod_lt _ (by decide)
    omega
  rw [State.deliver_eq hready herr hcsr, if_pos (by simp [hasserted, Groom.eligible, hie, hexl, hrun])]
  have hgroom := State.enter_groom (s := s.takeDelivery d) (gi := s.gctx d.g) hrun 7 St.ok none (s.groom (s.gctx d.g)).pc false (fld (s.srcReg d.src) 21 6 * 64)
  have hrest := KeepsRest.enter (s.takeDelivery d) (s.gctx d.g) 7 St.ok none (s.groom (s.gctx d.g)).pc false (fld (s.srcReg d.src) 21 6 * 64)
  obtain ⟨q, c, g, he⟩ := (s.takeDelivery d).enter_eq (s.gctx d.g) 7 St.ok none (s.groom (s.gctx d.g)).pc false (fld (s.srcReg d.src) 21 6 * 64)
  rw [hvec] at hgroom
  refine ⟨hgroom, hrest.groom, ?_⟩
  rw [he]
  exact ⟨rfl, rfl, rfl, rfl⟩

theorem State.deliver_refused (h : s.asserted d.src = false ∨ (s.groom (s.gctx d.g)).ie = false ∨ (s.groom (s.gctx d.g)).exl = true) :
    s.deliver d = { s with started := s.started.filter (fun x => x.src ≠ d.src) } := by
  rw [State.deliver_eq hready herr hcsr, if_neg]
  rcases h with h | h | h <;> simp [h, Groom.eligible]

end

theorem exec_intcDeliveryArrive {d : Deliv} (hfind : s.started.find? (fun x => x.src = d.src) = some d) :
    exec (.intcDeliveryArrive d.src) s = .next (s.deliver d) := by
  show execIntcDeliveryArrive d.src s = _
  rw [execIntcDeliveryArrive, hfind]

/-! ### The controller's registers -/

/-- Software sources are asserted by their bits (R477). -/
theorem State.asserted_software (s : State) {n : Nat} (hn : n < 64) : s.asserted (1088 + n) = bit s.swi n := by
  simp only [State.asserted, if_neg (show ¬ 1088 + n < 1024 by omega), if_neg (show ¬ 1088 + n = 1024 by omega), if_neg (show ¬ 1088 + n = 1025 by omega),
    if_neg (show ¬ 1088 + n = 1026 by omega), if_neg (show ¬ (1028 ≤ 1088 + n ∧ 1088 + n < 1032) by omega),
    if_pos (show 1088 ≤ 1088 + n ∧ 1088 + n < 1152 by omega), Nat.add_sub_cancel_left]

theorem exec_intcEoiWrite {p : Priv} (hp : p ≠ .task) (v : Word) : exec (.intcEoiWrite p v) s = .next (
    if 1151 < fld v 10 0 then answered s St.badParam 0 [] else answered { s with deliv := s.deliv.filter fun n => n ≠ fld v 10 0 } St.ok 0 []) := by
  show execIntcEoiWrite p v s = _
  rw [execIntcEoiWrite, State.intcEoi, if_neg hp]
  split_ifs <;> rfl

/-- A write of the software sources by a privileged sender. -/
theorem State.swiWrite_eq {p : Priv} (hp : p ≠ .task) (set : Bool) (v : Word) :
    s.swiWrite p set v = (({ s with swi := if set then s.swi ||| v else s.swi &&& ~~~v } : State).rearm, St.ok) := if_neg hp

/-- DELIV keeps what is still asserted (R474). -/
theorem State.mem_rearm_deliv {n : Nat} : n ∈ s.rearm.deliv ↔ n ∈ s.deliv ∧ s.rearm.asserted n = true := List.mem_filter

theorem exec_swiSet {p : Priv} (hp : p ≠ .task) (v : Word) :
    exec (.swiSet p v) s = .next (answered ({ s with swi := s.swi ||| v } : State).rearm St.ok 0 []) := by
  show execSwiSet p v s = _
  rw [execSwiSet, State.swiWrite_eq hp]
  rfl

theorem exec_swiClr {p : Priv} (hp : p ≠ .task) (v : Word) :
    exec (.swiClr p v) s = .next (answered ({ s with swi := s.swi &&& ~~~v } : State).rearm St.ok 0 []) := by
  show execSwiClr p v s = _
  rw [execSwiClr, State.swiWrite_eq hp]
  rfl

/-- Settles O42: a delivery starts by the least of two orders, arrives by an entry, and is re-armed through DELIV. -/
theorem interruptDelivery : Obligations.InterruptDelivery := by
  refine fun s v hs => ⟨fun n g hn hsource hg hturn => ?start, fun hnone => ?idle, fun d hfind hready herr hcsr => ⟨fun hasserted hie hexl => ?enters, fun h => ?refused⟩,
    fun p hp => ⟨fun hbig => ?eoiBad, fun hfit => ?eoi, ?set, ?clear⟩, fun i hi => ?task⟩
  case start =>
    show execIntcDeliveryStart s = _
    simp only [execIntcDeliveryStart, State.chooseSource_eq hs.csr hn hsource, State.chooseGroom_eq hg hturn]
  case idle =>
    show execIntcDeliveryStart s = _
    simp only [execIntcDeliveryStart, State.chooseSource_none hnone]
  case enters => exact ⟨_, exec_intcDeliveryArrive hfind, State.deliver_enters hready herr hcsr hasserted hie hexl⟩
  case refused => rw [exec_intcDeliveryArrive hfind, State.deliver_refused hready herr hcsr h]
  case eoiBad => rw [exec_intcEoiWrite hp, if_pos hbig]
  case eoi => rw [exec_intcEoiWrite hp, if_neg (Nat.not_lt.mpr hfit)]
  case set =>
    refine ⟨_, exec_swiSet hp v, rfl, rfl, fun n hn => ?_, fun n => State.mem_rearm_deliv⟩
    exact (State.asserted_software _ hn).trans (bit_or s.swi v n)
  case clear =>
    refine ⟨_, exec_swiClr hp v, rfl, rfl, fun n hn => ?_, fun n => State.mem_rearm_deliv⟩
    refine (State.asserted_software _ hn).trans ?_
    show (s.swi &&& ~~~v).getLsbD n = (s.swi.getLsbD n && !v.getLsbD n)
    rw [BitVec.getLsbD_and, BitVec.getLsbD_not, decide_eq_true hn, Bool.true_and]
  case task =>
    simp only [List.mem_cons, List.not_mem_nil, or_false] at hi
    rcases hi with rfl | rfl | rfl <;> rfl

end Sys2Proof.Machine
end

section
/-! SUPPORT. Engine queues: a stall that holds a list reads as it was written, and what counting, a completed command and a completed list leave of it. -/

namespace Sys2Proof.Machine

variable {s : State} {ps q : Nat}

/-! ### A stall with a queue in use reads as it was written -/

theorem Stall.queues_ne_nil {t : Stall} (h : (t.queue q).state ≠ .idle) : t.queues ≠ [] := by
  intro hnil
  exact h (by rw [Stall.queue, hnil]; rfl)

theorem State.queues_ne_nil (h : (s.queue ps q).state = .running) : (s.stall ps).queues ≠ [] :=
  Stall.queues_ne_nil (q := q) fun hidle => by rw [State.queue, hidle] at h; cases h

theorem State.stall_setStall_of_queues {t : Stall} (h : t.queues ≠ []) : (s.setStall ps t).stall ps = t :=
  Map.get_set_of_ne_default _ _ _ fun he => h (congrArg Stall.queues he)

theorem State.stall_modStall {f : Stall → Stall} (h : (f (s.stall ps)).queues ≠ []) : (s.modStall ps f).stall ps = f (s.stall ps) :=
  State.stall_setStall_of_queues h

theorem Stall.queue_setQueue_self (t : Stall) {x : Queue} (h : x.state ≠ .idle) : (t.setQueue q x).queue q = x :=
  Map.get_set_of_ne_default _ _ _ fun he => h (congrArg Queue.state he)

theorem Stall.queues_setQueue_ne_nil (t : Stall) {x : Queue} (h : x.state ≠ .idle) : (t.setQueue q x).queues ≠ [] :=
  Stall.queues_ne_nil (q := q) (by rwa [Stall.queue_setQueue_self _ h])

theorem State.stall_setQueue {x : Queue} (h : x.state ≠ .idle) : (s.setQueue ps q x).stall ps = (s.stall ps).setQueue q x :=
  State.stall_modStall (Stall.queues_setQueue_ne_nil _ h)

/-- The queues of a stall in which queue `q` was written. -/
theorem State.queue_of_setQueue {t : Stall} {x : Queue} (h : s.stall ps = t.setQueue q x) (hx : x.state ≠ .idle) :
    s.queue ps q = x ∧ ∀ k ≠ q, s.queue ps k = t.queue k := by
  rw [State.queue, h]
  refine ⟨Stall.queue_setQueue_self _ hx, fun k hk => ?_⟩
  rw [State.queue, h]
  exact Map.get_set_of_ne _ _ _ hk

/-! ### Counting changes registers from 0x1C00 on -/

/-- At stall `ps`, `t` is `s` but for registers from STALL_PERF_CTL on. -/
def State.countedAt (s : State) (ps : Nat) (t : State) : Prop :=
  ∃ m, t.stall ps = { s.stall ps with csr := m } ∧ ∀ o < 0x1C00, Map.get (resetOf stallRegs) m o = s.scsr ps o

theorem State.countedAt_refl (s : State) (ps : Nat) : s.countedAt ps s := ⟨_, rfl, fun _ _ => rfl⟩

theorem State.countedAt_trans {t u : State} (h : s.countedAt ps t) (h' : t.countedAt ps u) : s.countedAt ps u := by
  obtain ⟨m, hm, hlow⟩ := h
  obtain ⟨m', hm', hlow'⟩ := h'
  refine ⟨m', by rw [hm', hm], fun o ho => ?_⟩
  rw [hlow' o ho, State.scsr, hm, hlow o ho]

theorem State.queues_of_countedAt {t : State} (h : s.countedAt ps t) : (t.stall ps).queues = (s.stall ps).queues := by
  obtain ⟨m, hm, -⟩ := h
  rw [hm]

theorem State.stall_setScsr (h : (s.stall ps).queues ≠ []) (o : Nat) (v : Word) :
    (s.setScsr ps o v).stall ps = { s.stall ps with csr := Map.set (resetOf stallRegs) (s.stall ps).csr o v } := State.stall_modStall h

theorem State.countedAt_setScsr (h : (s.stall ps).queues ≠ []) {o : Nat} (ho : 0x1C00 ≤ o) (v : Word) : s.countedAt ps (s.setScsr ps o v) :=
  ⟨_, State.stall_setScsr h o v, fun _ hlt => Map.get_set_of_ne _ _ _ (Nat.ne_of_lt (Nat.lt_of_lt_of_le hlt ho))⟩

theorem State.countedAt_perfAdd : ∀ (fuel : Nat) (s : State) (n k : Nat), (s.stall ps).queues ≠ [] → s.countedAt ps (s.perfAdd ps fuel n k)
  | 0, s, _, _, _ => s.countedAt_refl ps
  | fuel + 1, s, n, k, h => by
    have hset := State.countedAt_setScsr h (o := 0x1C48 + n * 0x10) (by omega) (place 47 0 (fld (s.scsr ps (0x1C48 + n * 0x10)) 47 0 + k))
    have hq := State.queues_of_countedAt hset ▸ h
    unfold State.perfAdd
    dsimp only
    split_ifs
    · exact hset
    · exact State.countedAt_trans hset (State.countedAt_perfAdd fuel _ _ _ hq)
    · exact State.countedAt_trans hset (State.countedAt_setScsr hq (by decide) _)

theorem State.countedAt_foldl {β : Type} {f : State → β → State} (hf : ∀ (s : State) b, (s.stall ps).queues ≠ [] → s.countedAt ps (f s b)) :
    ∀ (l : List β) (s : State), (s.stall ps).queues ≠ [] → s.countedAt ps (l.foldl f s)
  | [], s, _ => s.countedAt_refl ps
  | b :: l, s, h => by
    have hb := hf s b h
    exact State.countedAt_trans hb (State.countedAt_foldl hf l _ (State.queues_of_countedAt hb ▸ h))

theorem State.countedAt_perf (h : (s.stall ps).queues ≠ []) (code : Nat) (pr : Option Priv) (r a : Option Nat) (k : Nat) :
    s.countedAt ps (s.perf ps code pr r a k) := by
  unfold State.perf
  split_ifs
  · exact s.countedAt_refl ps
  · refine State.countedAt_foldl (fun s n hs => ?_) _ _ h
    split_ifs
    · exact State.countedAt_perfAdd 8 s n k hs
    · exact s.countedAt_refl ps

/-! ### Commands and lists that complete (R108, R129, R135, R136) -/

/-- An event counter after a post (R108). -/
def posted (w : Word) : Word := setFld w 15 0 (fld w 15 0 + 1)

/-- The stall after a command that completes and is not the last of its list: queue `q` stands at the next one. -/
def Stall.passed (t : Stall) (q : Nat) : Stall :=
  { t.setQueue q { t.queue q with cmdIdx := (t.queue q).cmdIdx + 1, prog := 0 } with moved := true }

theorem Stall.queue_passed_self {t : Stall} (h : (t.queue q).state = .running) :
    (t.passed q).queue q = { t.queue q with cmdIdx := (t.queue q).cmdIdx + 1, prog := 0 } :=
  t.queue_setQueue_self (by rw [h]; nofun)

theorem Stall.queue_passed_of_ne (t : Stall) {k : Nat} (hk : k ≠ q) : (t.passed q).queue k = t.queue k := Map.get_set_of_ne _ _ _ hk

/-- A queue that changes with a command or list of it that completes. -/
theorem State.stall_moved {f : Queue → Queue} (h : (f (s.queue ps q)).state ≠ .idle) :
    ((s.modQueue ps q f).modStall ps (fun t => { t with moved := true })).stall ps = { (s.stall ps).setQueue q (f (s.queue ps q)) with moved := true } := by
  have hset : (s.modQueue ps q f).stall ps = (s.stall ps).setQueue q (f (s.queue ps q)) := State.stall_setQueue h
  rw [State.stall_modStall (by rw [hset]; exact Stall.queues_setQueue_ne_nil _ h), hset]

theorem State.stall_pass (h : (s.queue ps q).state = .running) :
    ((s.modQueue ps q (fun x => { x with cmdIdx := x.cmdIdx + 1, prog := 0 })).modStall ps (fun t => { t with moved := true })).stall ps =
      (s.stall ps).passed q :=
  State.stall_moved (by rw [h]; nofun)

/-- A command that completes and is not the last of its list: its queue passes it, its event is posted, and counting changes registers alone. -/
theorem State.cmdOk_passes {l : QList} {n : Nat} (hrun : (s.queue ps q).state = .running) (hlist : (s.queue ps q).lists.head? = some l)
    (hcount : (s.queue ps q).count = some n) (hmore : (s.queue ps q).cmdIdx + 1 < n) (post : Bool) {e : Nat} (he : e < 32) :
    (s.cmdOk ps q post e).mem = s.mem ∧ ∃ m, (s.cmdOk ps q post e).stall ps = Stall.passed { s.stall ps with csr := m } q ∧
      (Map.wf (resetOf stallRegs) (s.stall ps).csr = true → post = true → Map.get (resetOf stallRegs) m (0x300 + e * 8) =
        posted (s.scsr ps (0x300 + e * 8))) := by
  obtain ⟨rest, hlists⟩ := List.head?_eq_some_iff.mp hlist
  have hq := State.queues_ne_nil hrun
  have hidx : ¬ ((s.queue ps q).cmdIdx + 1 = (s.queue ps q).count.getD 0 ∧ !(s.queue ps q).aborting) := by
    rw [hcount, Option.getD_some]
    omega
  obtain ⟨s₁, hs₁⟩ : ∃ t, t = if post then s.postEv ps e 1 else s := ⟨_, rfl⟩
  obtain ⟨s₂, hs₂⟩ : ∃ t, t = s₁.perf ps 0x20 (some l.priv) (some q) none 1 := ⟨_, rfl⟩
  have hok : s.cmdOk ps q post e =
      (s₂.modQueue ps q (fun x => { x with cmdIdx := x.cmdIdx + 1, prog := 0 })).modStall ps (fun t => { t with moved := true }) := by
    simp only [State.cmdOk, hlists, if_neg hidx, hs₂, hs₁]
  obtain ⟨m₁, hm₁, hpost⟩ : ∃ m, s₁.stall ps = { s.stall ps with csr := m } ∧ (Map.wf (resetOf stallRegs) (s.stall ps).csr = true → post = true →
      Map.get (resetOf stallRegs) m (0x300 + e * 8) = posted (s.scsr ps (0x300 + e * 8))) := by
    subst hs₁
    cases post
    · exact ⟨_, rfl, fun _ h => by cases h⟩
    · exact ⟨_, State.stall_setScsr hq _ _, fun hwf _ => Map.get_set_self _ _ _ hwf⟩
  obtain ⟨m₂, hm₂, hlow⟩ := State.countedAt_perf (s := s₁) (ps := ps) (by rwa [hm₁]) 0x20 (some l.priv) (some q) none 1
  have hstall : s₂.stall ps = { s.stall ps with csr := m₂ } := by rw [hs₂, hm₂, hm₁]
  refine ⟨?_, m₂, ?_, fun hwf hp => ?_⟩
  · rw [hok]
    show s₂.mem = s.mem
    rw [hs₂, State.perf_mem, hs₁]
    cases post <;> rfl
  · rw [hok, State.stall_pass, hstall]
    rw [State.queue, hstall]
    exact hrun
  · rw [hlow _ (by omega), State.scsr, hm₁, hpost hwf hp]

theorem State.stepEvent_stalls (s : State) (step : Nat) (attempt : Option Nat) (flags : Nat) (dev : Option Nat) :
    (s.stepEvent step attempt flags dev).stalls = s.stalls := by
  unfold State.stepEvent State.bumpDev State.orDev
  dsimp only
  split_ifs <;> rfl

theorem State.listEvent_stalls (s : State) (ps : Nat) (l : QList) (st : Status) : (s.listEvent ps l st).stalls = s.stalls := by
  unfold State.listEvent
  split
  · exact State.stepEvent_stalls ..
  · rfl

theorem State.stall_congr {t : State} (h : t.stalls = s.stalls) (ps : Nat) : t.stall ps = s.stall ps := congrArg (fun m => Map.get _ m ps) h

theorem State.queue_congr {t : State} (h : t.stalls = s.stalls) (ps q : Nat) : t.queue ps q = s.queue ps q :=
  congrArg (·.queue q) (State.stall_congr h ps)

/-- Writes of scratch keep the queues. -/
theorem State.queue_scrWrite (h : (s.stall ps).queues ≠ []) (a : Nat) (b : List Byte) (k : Nat) : (s.scrWrite ps a b).queue ps k = s.queue ps k := by
  rw [State.queue, State.scrWrite, State.stall_modStall (by exact h)]
  rfl

theorem State.queue_of_countedAt {t : State} (h : s.countedAt ps t) (k : Nat) : t.queue ps k = s.queue ps k := by
  rw [State.queue, Stall.queue, State.queues_of_countedAt h]
  rfl

/-- The queue whose head list `l` has ended with a status, with `rest` behind it. -/
def Queue.listEnded (l : QList) (rest : List QList) (st : Status) (next : QState) (x : Queue) : Queue :=
  { x with
    lists := rest, done := l.seq, hist := ((l.seq, st) :: x.hist).take 16, cmdIdx := 0, prog := 0, count := none,
    pausing := x.pausing && decide (next = .running), aborting := false, hwFault := false,
    state := if next = .running ∧ rest = [] ∧ !x.pausing then .idle else next }

theorem Queue.state_listEnded {next : QState} (h : next ≠ .running) (l : QList) (rest : List QList) (st : Status) (x : Queue) :
    (x.listEnded l rest st next).state = next := if_neg fun hrun => h hrun.1

/-- A list that ends otherwise than by success. -/
theorem State.listDone_ends {l : QList} {rest : List QList} {next : QState} (hrun : (s.queue ps q).state = .running)
    (hlists : (s.queue ps q).lists = l :: rest) (hidle : next ≠ .idle) (hgo : next ≠ .running) (st : Status) (idx : Nat) :
    (s.listDone ps q st idx next).queue ps q = (s.queue ps q).listEnded l rest st next := by
  obtain ⟨s₁, hs₁⟩ : ∃ t, t = s.listEvent ps l st := ⟨_, rfl⟩
  obtain ⟨s₂, hs₂⟩ : ∃ t, t = if headerOk l.off then s₁.scrWrite ps (l.off + 0x10) (leBytes 2 st.toNat ++ leBytes 2 idx) else s₁ := ⟨_, rfl⟩
  obtain ⟨s₃, hs₃⟩ : ∃ t, t = (s₂.modQueue ps q (·.listEnded l rest st next)).modStall ps (fun t => { t with moved := true }) := ⟨_, rfl⟩
  have hq₁ : s₁.queue ps q = s.queue ps q := by rw [hs₁, State.queue_congr (State.listEvent_stalls ..)]
  have hq₂ : s₂.queue ps q = s.queue ps q := by
    rw [hs₂, ← hq₁]
    split_ifs
    · exact State.queue_scrWrite (State.queues_ne_nil (hq₁ ▸ hrun)) _ _ _
    · rfl
  have hstate : ((s₂.queue ps q).listEnded l rest st next).state ≠ .idle := by rwa [Queue.state_listEnded hgo]
  have hstall : s₃.stall ps = { (s₂.stall ps).setQueue q ((s.queue ps q).listEnded l rest st next) with moved := true } := by
    rw [hs₃, State.stall_moved hstate, hq₂]
  have hqueue : s₃.queue ps q = (s.queue ps q).listEnded l rest st next := by
    rw [State.queue, hstall]
    exact Stall.queue_setQueue_self _ (hq₂ ▸ hstate)
  have hcount := State.countedAt_perf (s := s₃) (ps := ps) (by rw [hstall]; exact Stall.queues_setQueue_ne_nil _ (hq₂ ▸ hstate))
    0x21 (some l.priv) (some q) none 1
  have hdone : s.listDone ps q st idx next = s₃.perf ps 0x21 (some l.priv) (some q) none 1 := by
    simp only [State.listDone, hlists, hs₃, hs₂, hs₁, Queue.listEnded]
  rw [hdone, State.queue_of_countedAt hcount, hqueue]

end Sys2Proof.Machine
end

section
/-! SUPPORT. The start of lists and commands: the header, the checks of a command, the context it starts in, and engines that wait (R102, R103, R109,
R117, R118). -/

namespace Sys2Proof.Machine

open Sys2Proof.Claims (atCommand noneStarted)

variable {s : State} {ps q : Nat}

/-! ### The start of a list (R102, R103) -/

theorem State.listStart_eq {l : QList} (hrun : (s.queue ps q).state = .running) (hlist : (s.queue ps q).lists.head? = some l)
    (hcount : (s.queue ps q).count = none) (hpass : s.passHeld ps q = false) (hpause : (s.queue ps q).pausing = false)
    (habort : (s.queue ps q).aborting = false) (halign : l.off % 64 = 0) (hroom : l.off < 0x400000) (hgood : s.scrGood ps l.off 64 = true) :
    s.listStart ps q =
      if headerStatus l.off (s.scrRec ps l.off) ≠ St.ok then
        (s.scrWriteLe ps (l.off + 8) 8 l.seq).listDone ps q (headerStatus l.off (s.scrRec ps l.off)) (rf (s.scrRec ps l.off) 4 15 0) .stopped
      else (s.scrWriteLe ps (l.off + 8) 8 l.seq).modQueue ps q (fun x =>
        { x with count := some (rf (s.scrRec ps l.off) 0 15 0), cmdIdx := rf (s.scrRec ps l.off) 4 15 0 }) := by
  have hok : headerOk l.off = true := decide_eq_true ⟨halign, hroom⟩
  simp [State.listStart, hrun, hlist, hcount, hpass, hpause, habort, hok, hgood]

/-! ### The checks of a command (R117) -/

/-- An update record that passes changes memory at most. -/
theorem State.updCheck_stalls {l : QList} {t : Stream} {v : Nat} (h : (s.updCheck ps q l t v).2 = St.ok) :
    (s.updCheck ps q l t v).1.stalls = s.stalls := by
  revert h
  unfold State.updCheck
  dsimp only
  split_ifs
  · exact fun _ => rfl
  · exact fun _ => rfl
  · exact fun _ => rfl
  · exact fun _ => rfl
  · exact fun h => absurd (show St.trainTied = St.ok from h) (by decide)
  · exact fun _ => State.memWrite_stalls ..

/-- So does a command's chain of extension records. -/
theorem State.xrecCheck_stalls {op xrec conv rows cols : Nat} {l : QList} {t : Stream} {transp : Bool} {mem fmt : Option Nat}
    (h : (s.xrecCheck ps q op l t xrec transp conv rows cols mem fmt).2.status = St.ok) :
    (s.xrecCheck ps q op l t xrec transp conv rows cols mem fmt).1.stalls = s.stalls := by
  revert h
  unfold State.xrecCheck
  dsimp only
  split
  · exact fun _ => rfl
  split
  · exact fun _ => rfl
  split
  · split_ifs <;> exact fun _ => rfl
  · split_ifs <;> exact fun _ => rfl
  · split_ifs <;> exact fun _ => rfl
  · split
    · exact fun _ => rfl
    split
    · rename_i hbad
      exact fun h => absurd h hbad
    · rename_i hgood
      exact fun _ => State.updCheck_stalls (not_not.mp hgood)
  · split_ifs <;> exact fun _ => rfl

theorem State.auxCheck_stalls {op idx cmd : Nat} {l : QList} {a : CmdArgs} (h : (s.auxCheck ps q op idx l cmd a).2.2 = St.ok) :
    (s.auxCheck ps q op idx l cmd a).1.stalls = s.stalls := by
  revert h
  unfold State.auxCheck
  dsimp only
  split
  · exact fun _ => rfl
  split
  · exact fun _ => rfl
  split
  · exact fun h => absurd (show St.spRecord = St.ok from h) (by decide)
  · exact fun _ => rfl

/-- A choice between results keeps the stalls where both do. -/
theorem ite_stalls {α : Type} {c : Prop} [Decidable c] {a b : State × α × Status} (ha : c → a.2.2 = St.ok → a.1.stalls = s.stalls)
    (hb : ¬ c → b.2.2 = St.ok → b.1.stalls = s.stalls) : (if c then a else b).2.2 = St.ok → (if c then a else b).1.stalls = s.stalls := by
  split
  · exact ha ‹_›
  · exact hb ‹_›

/-- A check whose status ends the command where it is not success. -/
theorem check_stalls {α : Type} {t : State} {x : α} {st : Status} {b : State × α × Status} (hb : st = St.ok → b.2.2 = St.ok → b.1.stalls = s.stalls) :
    (if st ≠ St.ok then (t, x, st) else b).2.2 = St.ok → (if st ≠ St.ok then (t, x, st) else b).1.stalls = s.stalls := by
  split
  · exact fun h => absurd h ‹_›
  · exact hb (not_not.mp ‹_›)

theorem State.checkCmd_stalls {idx cmd : Nat} {l : QList} (h : (s.checkCmd ps q l idx cmd).2.2 = St.ok) :
    (s.checkCmd ps q l idx cmd).1.stalls = s.stalls := by
  revert h
  unfold State.checkCmd
  dsimp only
  iterate 4
    apply ite_stalls
    · exact fun _ _ => rfl
    intro _
  apply check_stalls
  intro hxrec
  apply check_stalls
  intro _
  apply check_stalls
  intro _
  apply check_stalls
  intro haux
  have hkept := (State.auxCheck_stalls haux).trans (State.xrecCheck_stalls hxrec)
  iterate 2
    apply ite_stalls
    · exact fun _ _ => hkept
    intro _
  exact fun _ => hkept

/-! ### Commands start (R117, R118) -/

/-- The envelope of a command (R106). -/
def State.envAt (s : State) (ps : Nat) (l : QList) (idx : Nat) : Env := envOf (s.cmdNat ps l idx % 2 ^ 64)

/-- The context in which a command starts. -/
def newCtx (l : QList) (idx : Nat) (e : Env) : CmdCtx :=
  { idx := idx, off := l.off + 64 + 64 * idx, lst := l, waitEn := e.waitEn, waitEv := e.waitEv, waitVal := e.waitVal, postEn := e.postEn, postEv := e.postEv }

/-- A command that passes its checks starts behind those that have started. -/
theorem State.startCmd_eq {op n idx : Nat} {l : QList} (hat : atCommand s ps q op l n idx) (hnone : (s.queue ps q).ctxs = [])
    (hgood : s.scrGood ps (l.off + 64 + 64 * idx) 64 = true) {t u : State} {a : CmdArgs} {c : CmdCtx}
    (hcheck : s.checkCmd ps q l idx (s.cmdNat ps l idx) = (t, a, St.ok))
    (hbegin : t.beginCmd ps q (s.cmdNat ps l idx) (newCtx l idx (s.envAt ps l idx)) a = (u, c)) :
    s.startCmd ps q = u.modQueue ps q (fun x => { x with ctxs := x.ctxs ++ [c] }) := by
  obtain ⟨hrun, hlist, hcount, hidx, hmore, hpause, habort, -, -⟩ := hat
  have hlt : ¬ n ≤ idx := by omega
  have hstart : s.startCmd ps q =
      (t.beginCmd ps q (s.cmdNat ps l idx) (newCtx l idx (s.envAt ps l idx)) a).1.modQueue ps q (fun x =>
        { x with ctxs := x.ctxs ++ [(t.beginCmd ps q (s.cmdNat ps l idx) (newCtx l idx (s.envAt ps l idx)) a).2] }) := by
    simp [State.startCmd, newCtx, State.envAt, hrun, hlist, hcount, hidx, hnone, hpause, habort, hlt, hgood, hcheck]
  rw [hstart, hbegin]

theorem State.startCmd_stall {op n idx : Nat} {l : QList} (hat : atCommand s ps q op l n idx) (hnone : (s.queue ps q).ctxs = [])
    (hgood : s.scrGood ps (l.off + 64 + 64 * idx) 64 = true) {t u : State} {a : CmdArgs} {c : CmdCtx}
    (hcheck : s.checkCmd ps q l idx (s.cmdNat ps l idx) = (t, a, St.ok))
    (hbegin : t.beginCmd ps q (s.cmdNat ps l idx) (newCtx l idx (s.envAt ps l idx)) a = (u, c))
    {m : Map TReg} (hstall : u.stall ps = { s.stall ps with tregs := m }) :
    (s.startCmd ps q).mem = u.mem ∧
      (s.startCmd ps q).stall ps = Stall.setQueue { s.stall ps with tregs := m } q { s.queue ps q with ctxs := [c] } := by
  have hqueue : u.queue ps q = s.queue ps q := by
    rw [State.queue, hstall]
    rfl
  rw [State.startCmd_eq hat hnone hgood hcheck hbegin, State.modQueue, hqueue, hnone]
  refine ⟨rfl, ?_⟩
  rw [State.stall_setQueue, hstall]
  · rfl
  · rw [hat.1]
    nofun

theorem State.takeRec_stall (h : (s.stall ps).queues ≠ []) (off treg row0 : Nat) :
    ∃ m, (s.takeRec ps q off treg row0).1.stall ps = { s.stall ps with tregs := m } := by
  unfold State.takeRec
  dsimp only
  split_ifs
  · exact ⟨_, rfl⟩
  · exact ⟨_, rfl⟩
  · exact ⟨_, State.stall_setStall_of_queues h⟩

/-- A command that starts changes of its stall a row-progress record at most. -/
theorem State.beginCmd_stall (h : (s.stall ps).queues ≠ []) (cmd : Nat) (c : CmdCtx) (a : CmdArgs) :
    ∃ m, (s.beginCmd ps q cmd c a).1.stall ps = { s.stall ps with tregs := m } := by
  have htake : ∃ m, (if opTile a.op then s.takeRec ps q c.off a.treg a.row0 else (s, a.row0, false)).1.stall ps = { s.stall ps with tregs := m } := by
    split_ifs
    · exact State.takeRec_stall h c.off a.treg a.row0
    · exact ⟨_, rfl⟩
  obtain ⟨m, hm⟩ := htake
  refine ⟨m, ?_⟩
  rw [← hm]
  unfold State.beginCmd
  dsimp only
  split_ifs <;> rfl

theorem State.beginCmd_ctx (cmd : Nat) (c : CmdCtx) (a : CmdArgs) : ∃ es bad parts groups next held t0, (s.beginCmd ps q cmd c a).2 =
    { c with args := { a with ents := es, oobAt := bad }, parts := parts, groups := groups, next := next, holdsRec := held, t0 := t0 } :=
  ⟨_, _, _, _, _, _, _, rfl⟩

/-! ### Engines that wait -/

theorem State.advance_of_nil (h : (s.queue ps q).ctxs = []) : ∀ n, s.advance ps q n = s
  | 0 => rfl
  | n + 1 => by
    unfold State.advance
    simp only [h]
    cases (s.queue ps q).state <;> rfl

theorem State.advance_of_waiting {c : CmdCtx} (hrun : (s.queue ps q).state = .running) (h : (s.queue ps q).ctxs = [c]) (hfail : c.fail = none)
    (hwait : s.ctxReady ps c = false) : ∀ n, s.advance ps q n = s
  | 0 => rfl
  | n + 1 => by
    unfold State.advance
    simp only [hrun, h]
    simp [hfail, hwait]

theorem State.advance_of_consumed {c : CmdCtx} (hrun : (s.queue ps q).state = .running) (hpause : (s.queue ps q).pausing = false)
    (habort : (s.queue ps q).aborting = false) (h : (s.queue ps q).ctxs = [c]) (hfail : c.fail = none) (hready : s.ctxReady ps c = true)
    (hlast : c.groups ≤ c.next) (hmc : c.mcOut = 0) (n : Nat) : s.advance ps q (n + 1) = (s.finishCmd ps q c).advance ps q n := by
  have hdone : ¬ c.next < c.groups := Nat.not_lt.mpr hlast
  conv_lhs => unfold State.advance
  simp only [hrun, h]
  simp [hpause, habort, hfail, hready, hdone, hmc]

/-- What the engine of one queue does in a round of `kick`: data that waited lands, and consumption goes on. -/
def State.goOn (s : State) (ps q : Nat) : State :=
  let s := (s.queue ps q).ctxs.zipIdx.foldl (fun s c => if s.ctxReady ps c.1 then s.landWaiting ps q c.2 c.1 else s) s
  s.advance ps q (s.work ps q)

theorem State.kick_succ (s : State) (ps n : Nat) : s.kick ps (n + 1) = (((s.goOn ps 0).goOn ps 1).goOn ps 3).kick ps n := by
  simp only [State.kick, List.foldl_cons, List.foldl_nil, State.goOn]

theorem State.goOn_of_nil (h : (s.queue ps q).ctxs = []) : s.goOn ps q = s := by
  simp only [State.goOn, h, List.zipIdx_nil, List.foldl_nil, State.advance_of_nil h]

theorem State.goOn_of_waiting {c : CmdCtx} (hrun : (s.queue ps q).state = .running) (h : (s.queue ps q).ctxs = [c]) (hfail : c.fail = none)
    (hwait : s.ctxReady ps c = false) : s.goOn ps q = s := by
  simp only [State.goOn, h, List.zipIdx_cons, List.zipIdx_nil, List.foldl_cons, List.foldl_nil, hwait, Bool.false_eq_true, if_false,
    State.advance_of_waiting hrun h hfail hwait]

theorem State.kick_of_stuck (h : ∀ q ∈ [0, 1, 3], s.goOn ps q = s) : ∀ n, s.kick ps n = s
  | 0 => rfl
  | n + 1 => by
    rw [State.kick_succ, h 0 (by simp), h 1 (by simp), h 3 (by simp), State.kick_of_stuck h n]

theorem State.kickAll_of_stuck (h : ∀ q ∈ [0, 1, 3], s.goOn ps q = s) : s.kickAll ps = s.rearm :=
  congrArg State.rearm (State.kick_of_stuck h 13)

/-! ### The first word of a command -/

theorem readLe_mod (m : Map Byte) (k : Nat) : ∀ n a, readLe m a (n + k) % 256 ^ n = readLe m a n
  | 0, a => Nat.mod_one _
  | n + 1, a => by
    have hb := (Map.get zeroB m a).isLt
    have hstep : ∀ j, readLe m a (j + 1) = (Map.get zeroB m a).toNat + 256 * readLe m (a + 1) j := fun _ => rfl
    rw [Nat.add_right_comm, hstep, hstep, ← readLe_mod m k n (a + 1), Nat.pow_succ', Nat.mod_mul,
      show ((Map.get zeroB m a).toNat + 256 * readLe m (a + 1) (n + k)) % 256 = (Map.get zeroB m a).toNat by omega,
      show ((Map.get zeroB m a).toNat + 256 * readLe m (a + 1) (n + k)) / 256 = readLe m (a + 1) (n + k) by omega]

theorem State.cmdNat_mod (s : State) (ps : Nat) (l : QList) (idx : Nat) : s.cmdNat ps l idx % 2 ^ 64 = s.cmdWord ps l idx 0 :=
  readLe_mod _ 56 8 _

theorem State.envAt_eq (s : State) (ps : Nat) (l : QList) (idx : Nat) : s.envAt ps l idx = envOf (s.cmdWord ps l idx 0) :=
  congrArg envOf (s.cmdNat_mod ps l idx)

/-! ### The statement on the start of lists and commands -/

/-- A state whose stall has the registers of another's waits for the same events. -/
theorem State.ctxReady_congr {t : State} (h : (t.stall ps).csr = (s.stall ps).csr) (c : CmdCtx) : t.ctxReady ps c = s.ctxReady ps c := by
  have hscsr : ∀ o, t.scsr ps o = s.scsr ps o := fun o => congrArg (fun m => Map.get _ m o) h
  rw [State.ctxReady, State.ctxReady, State.evMet, State.evMet, hscsr]

/-- A command that passes its checks and whose wait is not met stays where it started. -/
theorem State.cmdStart_waits {op n idx : Nat} {l : QList} (hq : q ∈ [0, 1, 3]) (hat : atCommand s ps q op l n idx) (hnone : noneStarted s ps)
    (hgood : s.scrGood ps (l.off + 64 + 64 * idx) 64 = true) (hok : (s.checkCmd ps q l idx (s.cmdNat ps l idx)).2.2 = St.ok)
    (hen : (s.envAt ps l idx).waitEn = true)
    (hwait : s.evMet ps (s.envAt ps l idx).waitEv (s.envAt ps l idx).waitVal = false) :
    ∃ c, ((s.startCmd ps q).kickAll ps).queue ps q = { s.queue ps q with ctxs := [c] } ∧ c.idx = idx ∧ c.off = l.off + 64 + 64 * idx ∧ c.lst = l ∧
      c.fail = none ∧ c.postEn = (s.envAt ps l idx).postEn ∧ c.postEv = (s.envAt ps l idx).postEv ∧
      c.args.op = (s.checkCmd ps q l idx (s.cmdNat ps l idx)).2.1.op ∧ c.args.str = (s.checkCmd ps q l idx (s.cmdNat ps l idx)).2.1.str := by
  obtain ⟨⟨t, a, st⟩, hcheck⟩ : ∃ r, s.checkCmd ps q l idx (s.cmdNat ps l idx) = r := ⟨_, rfl⟩
  have hstalls := State.checkCmd_stalls hok
  rw [hcheck] at hok hstalls ⊢
  obtain rfl : st = St.ok := hok
  obtain ⟨⟨u, c⟩, hbegin⟩ : ∃ r, t.beginCmd ps q (s.cmdNat ps l idx) (newCtx l idx (s.envAt ps l idx)) a = r := ⟨_, rfl⟩
  obtain ⟨es, bad, parts, groups, next, held, t0, hc⟩ := State.beginCmd_ctx (s := t) (ps := ps) (q := q) (s.cmdNat ps l idx)
    (newCtx l idx (s.envAt ps l idx)) a
  have hrun := hat.1
  have hq₀ := State.queues_ne_nil hrun
  have ht : t.stall ps = s.stall ps := State.stall_congr hstalls ps
  obtain ⟨m, hm⟩ := State.beginCmd_stall (q := q) (by rwa [ht]) (s.cmdNat ps l idx) (newCtx l idx (s.envAt ps l idx)) a
  rw [hbegin] at hc hm
  rw [ht] at hm
  replace hc : c = _ := hc
  obtain ⟨-, hstall⟩ := State.startCmd_stall hat (hnone q hq) hgood hcheck hbegin hm
  obtain ⟨hself, hother⟩ := State.queue_of_setQueue hstall (by rw [hrun]; nofun)
  have hready : (s.startCmd ps q).ctxReady ps c = false := by
    rw [State.ctxReady_congr (s := s) (by rw [hstall]; rfl), hc]
    simp only [State.ctxReady, newCtx, hen, hwait, Bool.not_true, Bool.or_false]
  have hstuck : ∀ k ∈ [0, 1, 3], (s.startCmd ps q).goOn ps k = s.startCmd ps q := by
    intro k hk
    by_cases hkq : k = q
    · subst hkq
      exact State.goOn_of_waiting (c := c) (by rw [hself]; exact hrun) (by rw [hself]) (by rw [hc]; rfl) hready
    · exact State.goOn_of_nil ((congrArg Queue.ctxs (hother k hkq)).trans (hnone k hk))
  refine ⟨c, ?_, ?_⟩
  · rw [State.kickAll_of_stuck hstuck]
    exact hself
  · rw [hc]
    exact ⟨rfl, rfl, rfl, rfl, rfl, rfl, rfl, rfl⟩

/-- The header of a list decides how it starts, and a command whose wait is not met starts and stays. -/
theorem listStartReadsHeader : Claims.ListStartReadsHeader := by
  intro s ps q l
  refine ⟨fun hrun hlist hcount hpass hpause habort halign hroom hgood => ⟨fun hok => ?started, fun hbad => ?rejected⟩,
    fun hq n idx hat hnone hgood hok hen hwait => ?waits⟩
  case started =>
    show Host.Outcome.next (s.listStart ps q).rearm = _
    rw [State.listStart_eq hrun hlist hcount hpass hpause habort halign hroom hgood, if_neg (not_not.mpr hok)]
    rfl
  case rejected =>
    obtain ⟨rest, hlists⟩ := List.head?_eq_some_iff.mp hlist
    have hqueue : (s.scrWriteLe ps (l.off + 8) 8 l.seq).queue ps q = s.queue ps q := State.queue_scrWrite (State.queues_ne_nil hrun) _ _ _
    refine ⟨_, rfl, ?_⟩
    have hend : (s.listStart ps q).rearm.queue ps q = (s.queue ps q).listEnded l rest (headerStatus l.off (s.scrRec ps l.off)) .stopped := by
      show (s.listStart ps q).queue ps q = _
      rw [State.listStart_eq hrun hlist hcount hpass hpause habort halign hroom hgood, if_pos hbad,
        State.listDone_ends (by rw [hqueue, hrun]) (by rw [hqueue, hlists]) (by decide) (by decide), hqueue]
    rw [hend, hlists]
    exact ⟨Queue.state_listEnded (by decide) .., rfl, rfl, rfl⟩
  case waits =>
    obtain ⟨c, hqueue, hc⟩ := State.cmdStart_waits hq hat hnone hgood hok hen hwait
    obtain ⟨-, -, -, -, -, -, -, hpower, -⟩ := hat
    have hengine : ¬ (q = 2 ∨ q = 4) := by
      simp only [List.mem_cons, List.not_mem_nil, or_false] at hq
      omega
    have hexec : exec (.cmdStart ps q) s = .next ((s.startCmd ps q).kickAll ps) := by
      show execCmdStart ps q s = _
      rw [execCmdStart, if_neg (not_not.mpr hpower), if_neg hengine]
    exact ⟨_, c, hexec, congrArg Queue.ctxs hqueue, hc⟩

end Sys2Proof.Machine
end

section
/-! SUPPORT. NOP on every queue, and the statement on lists and NOP (R102, R103, R107 to R109). -/

namespace Sys2Proof.Machine

open Sys2Proof.Claims (atCommand noneStarted pastCommand)

variable {s : State} {ps q : Nat}

/-! ### A command that has nothing to move -/

/-- `t` is `s` for the queues, registers, scratch and memory that stall `ps` works with, but for the commands `cs` started at queue `q`. -/
structure State.startedAt (s : State) (ps q : Nat) (cs : List CmdCtx) (t : State) : Prop where
  self : t.queue ps q = { s.queue ps q with ctxs := cs }
  other : ∀ k ≠ q, t.queue ps k = s.queue ps k
  csr : (t.stall ps).csr = (s.stall ps).csr
  scratch : (t.stall ps).scratch = (s.stall ps).scratch
  mem : t.mem = s.mem

theorem State.startedAt_refl (h : (s.queue ps q).ctxs = []) : s.startedAt ps q [] s := ⟨by rw [← h], fun _ _ => rfl, rfl, rfl, rfl⟩

/-- A write of the commands of a queue in use. -/
theorem State.startedAt_setQueue {cs cs' : List CmdCtx} {t : State} (h : s.startedAt ps q cs t) (hrun : (s.queue ps q).state = .running) :
    s.startedAt ps q cs' (t.setQueue ps q { t.queue ps q with ctxs := cs' }) := by
  have hstate : ({ t.queue ps q with ctxs := cs' } : Queue).state ≠ .idle := by
    rw [h.self, hrun]
    nofun
  have hstall := State.stall_setQueue (s := t) (ps := ps) (q := q) hstate
  obtain ⟨hself, hother⟩ := State.queue_of_setQueue hstall hstate
  refine ⟨by rw [hself, h.self], fun k hk => (hother k hk).trans (h.other k hk), ?_, ?_, h.mem⟩
  · rw [hstall]
    exact h.csr
  · rw [hstall]
    exact h.scratch

/-- No data waits for a command without parts. -/
theorem State.landWaiting_of_nil {c : CmdCtx} {t : State} (h : s.startedAt ps q [c] t) (hrun : (s.queue ps q).state = .running) (hparts : c.parts = []) :
    s.startedAt ps q [c] (t.landWaiting ps q 0 c) := by
  have hctxs : (t.queue ps q).ctxs = [c] := by rw [h.self]
  have hc : { c with parts := [] } = c := by rw [← hparts]
  have hland : t.landWaiting ps q 0 c = t.setQueue ps q { t.queue ps q with ctxs := [c] } := by
    simp only [State.landWaiting, State.modCtx, State.modQueue, hparts, List.foldl_nil, hctxs, listMod, List.map_nil, hc]
  rw [hland]
  exact State.startedAt_setQueue h hrun

/-- A command that completes leaves its queue past it, with its event posted. -/
theorem State.cmdOk_pastCommand {op n idx e : Nat} {l : QList} {t : State} (hat : atCommand s ps q op l n idx) (hnone : noneStarted s ps)
    (h : s.startedAt ps q [] t) (post : Bool) (he : e < 32) (hwf : Map.wf (resetOf stallRegs) (s.stall ps).csr = true) :
    pastCommand s (t.cmdOk ps q post e) ps q idx ∧ (t.cmdOk ps q post e).mem = s.mem ∧ ((t.cmdOk ps q post e).stall ps).scratch = (s.stall ps).scratch ∧
    (post = true → (t.cmdOk ps q post e).scsr ps (0x300 + e * 8) = posted (s.scsr ps (0x300 + e * 8))) ∧ noneStarted (t.cmdOk ps q post e) ps := by
  obtain ⟨hrun, hlist, hcount, hidx, hmore, -, -, -, -⟩ := hat
  have hrun' : (t.queue ps q).state = .running := by rw [h.self]; exact hrun
  obtain ⟨hmem, m, hstall, hpost⟩ := State.cmdOk_passes (l := l) (n := n) (e := e) hrun' (by rw [h.self]; exact hlist) (by rw [h.self]; exact hcount)
    (by rw [h.self]; exact hidx ▸ hmore) post he
  have hself : (t.cmdOk ps q post e).queue ps q = { s.queue ps q with cmdIdx := idx + 1, prog := 0, ctxs := [] } := by
    rw [State.queue, hstall, ← hidx]
    refine (Stall.queue_passed_self (t := t.stall ps) hrun').trans ?_
    show { t.queue ps q with cmdIdx := (t.queue ps q).cmdIdx + 1, prog := 0 } = _
    rw [h.self]
  have hother : ∀ k ≠ q, (t.cmdOk ps q post e).queue ps k = s.queue ps k := fun k hk => by
    rw [State.queue, hstall]
    exact (Stall.queue_passed_of_ne (t.stall ps) hk).trans (h.other k hk)
  refine ⟨?_, hmem.trans h.mem, ?_, fun hp => ?_, fun k hk => ?_⟩
  · rw [pastCommand, hself]
    exact ⟨rfl, rfl, rfl, hrun, rfl⟩
  · rw [hstall]
    exact h.scratch
  · have hscsr : t.scsr ps (0x300 + e * 8) = s.scsr ps (0x300 + e * 8) := congrArg (fun m => Map.get _ m _) h.csr
    rw [← hscsr, ← hpost (by rwa [h.csr]) hp, State.scsr, hstall]
    rfl
  · by_cases hkq : k = q
    · rw [hkq, hself]
    · rw [hother k hkq, hnone k hk]

/-! ### NOP on the array and sync queues -/

theorem State.headCmd_eq {op n idx : Nat} {l : QList} (hat : atCommand s ps q op l n idx) : s.headCmd ps q = some (l, idx) := by
  obtain ⟨hrun, hlist, hcount, hidx, hmore, -, -, -, -⟩ := hat
  simp only [State.headCmd, hrun, hlist, hcount, hidx, if_pos (Nat.lt_of_succ_lt hmore)]

theorem State.unitOther_nop {n idx : Nat} {l : QList} (hq : q = 2 ∨ q = 4) (hat : atCommand s ps q 0 l n idx) (harr : (s.stall ps).arr.inflight = [])
    (hsync : (s.stall ps).sync = none) (hgood : s.scrGood ps (l.off + 64 + 64 * idx) 64 = true)
    (hres : resSet (s.cmdNat ps l idx) envFields = false)
    (hready : s.envReady ps (s.envAt ps l idx) = true) :
    s.unitOther ps q true = s.cmdOk ps q (s.envAt ps l idx).postEn (s.envAt ps l idx).postEv := by
  obtain ⟨-, -, -, -, -, hpause, habort, hpower, hop⟩ := id hat
  rw [State.envAt_eq] at hready ⊢
  have hnop : bits (s.cmdWord ps l idx 0) 7 0 = 0 := by
    rw [bits, Nat.shiftRight_zero]
    exact hop
  have hunit : s.unitReady ps q l idx = true := by
    rcases hq with rfl | rfl <;> simp [State.unitReady, hpause, habort, hpower, harr, hsync, hready]
  have hother : unitDefines q 0 = false := by rcases hq with rfl | rfl <;> rfl
  simp [State.unitOther, State.headCmd_eq hat, hnop, hunit, hother, hgood, hres]

theorem State.envAt_postEv_lt (s : State) (ps : Nat) (l : QList) (idx : Nat) : (s.envAt ps l idx).postEv < 32 := bits_lt _ 23 19

/-! ### NOP on the load, store and gather queues -/

/-- NOP passes the checks of R117 with its reserved fields zero. -/
theorem State.checkCmd_nop {cmd idx : Nat} {l : QList} (hop : rf cmd 0 7 0 = 0) (hres : resSet cmd envFields = false) :
    s.checkCmd ps q l idx cmd = (s, { op := 0 }, St.ok) := by
  simp [State.checkCmd, hop, opFields, opDefined, hres, firstFail]

/-- The context of a NOP: nothing to ask for, nothing to consume. -/
def nopCtx (l : QList) (idx t0 : Nat) (e : Env) : CmdCtx := { newCtx l idx e with t0 := t0 }

theorem State.beginCmd_nop (l : QList) (idx cmd : Nat) (e : Env) :
    s.beginCmd ps q cmd (newCtx l idx e) { op := 0 } = (s, nopCtx l idx s.clk e) := rfl

theorem State.startCmd_nop {n idx : Nat} {l : QList} (hat : atCommand s ps q 0 l n idx) (hnone : (s.queue ps q).ctxs = [])
    (hgood : s.scrGood ps (l.off + 64 + 64 * idx) 64 = true) (hres : resSet (s.cmdNat ps l idx) envFields = false) :
    s.startedAt ps q [nopCtx l idx s.clk (s.envAt ps l idx)] (s.startCmd ps q) := by
  obtain ⟨hrun, -, -, -, -, -, -, -, hop⟩ := id hat
  have hnop : rf (s.cmdNat ps l idx) 0 7 0 = 0 := by
    rw [← State.cmdNat_mod] at hop
    show s.cmdNat ps l idx >>> 0 % 2 ^ 8 = 0
    rw [Nat.shiftRight_zero]
    omega
  obtain ⟨hmem, hstall⟩ := State.startCmd_stall hat hnone hgood (State.checkCmd_nop hnop hres) (State.beginCmd_nop l idx _ _) (m := (s.stall ps).tregs) rfl
  obtain ⟨hself, hother⟩ := State.queue_of_setQueue hstall (by rw [hrun]; nofun)
  refine ⟨hself, hother, ?_, ?_, hmem⟩
  · rw [hstall]
    rfl
  · rw [hstall]
    rfl

/-- The engine of the queue takes a NOP whose wait is met: it completes, and nothing else has started. -/
theorem State.goOn_nop {idx t0 : Nat} {l : QList} {e : Env} {t : State} (h : s.startedAt ps q [nopCtx l idx t0 e] t) (hrun : (s.queue ps q).state = .running)
    (hpause : (s.queue ps q).pausing = false) (habort : (s.queue ps q).aborting = false) (hready : s.envReady ps e = true) :
    ∃ u, s.startedAt ps q [] u ∧ t.goOn ps q = (u.cmdOk ps q e.postEn e.postEv).advance ps q 7 := by
  have hctxs : (t.queue ps q).ctxs = [nopCtx l idx t0 e] := by rw [h.self]
  have hland := State.landWaiting_of_nil h hrun rfl
  have hnop : (t.ctxReady ps (nopCtx l idx t0 e)) = true := (State.ctxReady_congr h.csr _).trans hready
  have hnop' : ((t.landWaiting ps q 0 (nopCtx l idx t0 e)).ctxReady ps (nopCtx l idx t0 e)) = true := (State.ctxReady_congr hland.csr _).trans hready
  refine ⟨_, State.startedAt_setQueue hland hrun, ?_⟩
  have hwork : (t.landWaiting ps q 0 (nopCtx l idx t0 e)).work ps q = 8 := by
    rw [State.work, hland.self]
    rfl
  have hgo : t.goOn ps q = (t.landWaiting ps q 0 (nopCtx l idx t0 e)).advance ps q 8 := by
    simp only [State.goOn, hctxs, List.zipIdx_cons, List.zipIdx_nil, List.foldl_cons, List.foldl_nil, hnop, if_true, hwork]
  rw [hgo, State.advance_of_consumed (c := nopCtx l idx t0 e) (by rw [hland.self]; exact hrun) (by rw [hland.self]; exact hpause) (by rw [hland.self]; exact habort)
    (by rw [hland.self]) rfl hnop' (Nat.le_refl _) rfl]
  refine congrArg (fun u => State.advance u ps q 7) ?_
  show State.cmdOk ((t.landWaiting ps q 0 (nopCtx l idx t0 e)).modQueue ps q (fun x => { x with ctxs := x.ctxs.tail })) ps q e.postEn e.postEv = _
  rw [State.modQueue, hland.self]
  rfl

/-- One round over the engines where only queue `q` moves anything. -/
theorem State.kick_one {t u : State} (hq : q ∈ [0, 1, 3]) (hidle : ∀ k ∈ [0, 1, 3], k ≠ q → (t.queue ps k).ctxs = []) (hgo : t.goOn ps q = u)
    (hnone : noneStarted u ps) (n : Nat) : t.kick ps (n + 1) = u := by
  have hbefore : ∀ k ∈ [0, 1, 3], k ≠ q → t.goOn ps k = t := fun k hk hkq => State.goOn_of_nil (hidle k hk hkq)
  have hafter : ∀ k ∈ [0, 1, 3], u.goOn ps k = u := fun k hk => State.goOn_of_nil (hnone k hk)
  rw [State.kick_succ]
  simp only [List.mem_cons, List.not_mem_nil, or_false] at hq hbefore hafter
  have hstuck : u.kick ps n = u := State.kick_of_stuck (fun k hk => State.goOn_of_nil (hnone k hk)) n
  rcases hq with rfl | rfl | rfl
  · rw [hgo, hafter 1 (by decide), hafter 3 (by decide), hstuck]
  · rw [hbefore 0 (by decide) (by decide), hgo, hafter 3 (by decide), hstuck]
  · rw [hbefore 0 (by decide) (by decide), hbefore 1 (by decide) (by decide), hgo, hstuck]

theorem State.runCmd_nop {n idx : Nat} {l : QList} (hq : q ∈ [0, 1, 3]) (hat : atCommand s ps q 0 l n idx) (hnone : noneStarted s ps)
    (hgood : s.scrGood ps (l.off + 64 + 64 * idx) 64 = true) (hres : resSet (s.cmdNat ps l idx) envFields = false)
    (hready : s.envReady ps (s.envAt ps l idx) = true) (hwf : Map.wf (resetOf stallRegs) (s.stall ps).csr = true) :
    ∃ u, s.startedAt ps q [] u ∧
      s.runCmd ps q 0 = (u.cmdOk ps q (s.envAt ps l idx).postEn (s.envAt ps l idx).postEv).rearm := by
  obtain ⟨hrun, -, -, -, -, hpause, habort, hpower, hop⟩ := id hat
  obtain ⟨e, he⟩ : ∃ e, e = s.envAt ps l idx := ⟨_, rfl⟩
  have hstarted := State.startCmd_nop hat (hnone q hq) hgood hres
  rw [← he] at hready hstarted ⊢
  have hland := State.landWaiting_of_nil hstarted hrun rfl
  obtain ⟨u, hu, hgo⟩ := State.goOn_nop hland hrun hpause habort hready
  obtain ⟨-, -, -, -, hpassed⟩ := State.cmdOk_pastCommand hat hnone hu e.postEn (he.symm ▸ s.envAt_postEv_lt ps l idx : e.postEv < 32) hwf
  rw [State.advance_of_nil (hpassed q hq)] at hgo
  refine ⟨u, hu, ?_⟩
  have hkick := State.kick_one hq (fun k hk hkq => by rw [hland.other k hkq, hnone k hk]) hgo hpassed 12
  have hctxs : ((s.startCmd ps q).queue ps q).ctxs = [nopCtx l idx s.clk e] := by rw [hstarted.self]
  have hnop : (s.startCmd ps q).ctxReady ps (nopCtx l idx s.clk e) = true := (State.ctxReady_congr hstarted.csr _).trans hready
  have hparts : ((s.startCmd ps q).landWaiting ps q 0 (nopCtx l idx s.clk e)).runParts ps q 1 =
      (s.startCmd ps q).landWaiting ps q 0 (nopCtx l idx s.clk e) := by
    have hissue : ∀ t : State, t.ctxIssue ps (nopCtx l idx s.clk e) = none := fun _ => rfl
    simp only [State.runParts, hland.self, hissue]
  have hrunCmd : s.runCmd ps q 0 = ((s.startCmd ps q).landWaiting ps q 0 (nopCtx l idx s.clk e)).kickAll ps := by
    have hfront : ¬ (bits (s.cmdWord ps l idx 0) 7 0 ≠ 0 ∨ (s.queue ps q).pausing ∨ (s.queue ps q).aborting ∨ (s.stall ps).pstate ≠ .run) := by
      simp [bits, hop, hpause, habort, hpower]
    simp only [State.runCmd, State.headCmd_eq hat, if_neg hfront, if_pos (hnone q hq), hctxs, hnop]
    exact congrArg (State.kickAll · ps) hparts
  rw [hrunCmd, State.kickAll, hkick]

/-- NOP asks for nothing and consumes nothing, so that its queue passes it in one step. -/
theorem nopPostsAndPasses : Claims.NopPostsAndPasses := by
  intro s ps q n idx l hq hat hnone hempty harr hsync hgood hwf hres _ hwait
  have hready : s.envReady ps (s.envAt ps l idx) = true := by
    cases h : (s.envAt ps l idx).waitEn
    · simp only [State.envReady, h, Bool.not_false, Bool.true_or]
    · have hmet : s.evMet ps (s.envAt ps l idx).waitEv (s.envAt ps l idx).waitVal = true := hwait h
      simp only [State.envReady, hmet, Bool.or_true]
  have hdone : ∃ u, s.startedAt ps q [] u ∧ exec (.nop ps q) s = .next (u.cmdOk ps q (s.envAt ps l idx).postEn (s.envAt ps l idx).postEv).rearm := by
    by_cases hunit : q = 2 ∨ q = 4
    · refine ⟨s, State.startedAt_refl hempty, ?_⟩
      obtain ⟨-, -, -, -, hpassed⟩ := State.cmdOk_pastCommand hat hnone (State.startedAt_refl hempty) (s.envAt ps l idx).postEn (s.envAt_postEv_lt ps l idx) hwf
      show execNop ps q s = _
      rw [execNop, if_pos hunit, State.unitOther_nop hunit hat harr hsync hgood hres hready,
        State.kickAll_of_stuck fun k hk => State.goOn_of_nil (hpassed k hk)]
    · obtain ⟨u, hu, hrun⟩ := State.runCmd_nop (by simp only [List.mem_cons, List.not_mem_nil, or_false]; omega) hat hnone hgood hres hready hwf
      refine ⟨u, hu, ?_⟩
      show execNop ps q s = _
      rw [execNop, if_neg hunit, hrun]
  obtain ⟨u, hu, hexec⟩ := hdone
  obtain ⟨hpast, hmem, hscratch, hpost, -⟩ := State.cmdOk_pastCommand hat hnone hu (s.envAt ps l idx).postEn (s.envAt_postEv_lt ps l idx) hwf
  exact ⟨_, hexec, hpast, hmem, hscratch, hpost⟩

/-- Settles O15: a list starts by its header alone, and NOP completes once its wait is met. -/
theorem listsStartAndPost : Obligations.ListsStartAndPost := ⟨listStartReadsHeader, nopPostsAndPasses⟩

end Sys2Proof.Machine
end

section
/-! SUPPORT. Two engine commands that write main memory: conversion statistics on their way to the statistics table (R427 to R429). The stall
counts the conversions of LDTILE as its rows land and those of STTILE as its requests leave. A count that reaches 2^31 makes a fifth flush, which
waits until the oldest of the four in flight has added its counts to the table in memory. -/

namespace Sys2Proof.Machine

open Sys2Proof.Claims (atCommand lastGroup oneStarted moveCmds)

/-- The list of two commands that the queue runs. -/
def statsList : QList := { off := 0x100, priv := .kernel, task := 0, tenant := 0, seq := 1 }

/-- A command on one element between register 0 in format `fmt` and main memory at 0 in format `mfmt`. -/
def statsArgs (op mfmt fmt : Nat) : CmdArgs :=
  { op := op, str := { n0 := fmtBytes mfmt, elen := fmtBytes mfmt }, rows := 1, cols := 1, mfmt := mfmt, fmt := fmt }

/-- The one request of such a command. -/
def statsPart (mfmt : Nat) (st : PartSt) : Part :=
  { kind := .main, addr := 0, len := fmtBytes mfmt, pos := 0, plen := fmtBytes mfmt, grp := 0, last := 0, st := st }

def statsCtx (op mfmt fmt : Nat) (st : PartSt) : CmdCtx :=
  { idx := 0, off := 0x140, lst := statsList, waitEn := false, waitEv := 0, waitVal := 0, postEn := false, postEv := 0,
    args := statsArgs op mfmt fmt, parts := [statsPart mfmt st], groups := 1 }

/-- Queue `q` of stall 0 runs command `c`. STALL_TR_STATS is on with its table at 0x1000, the triple of BF16 stands one short of 2^31, and four
flushes of one conversion each are in flight (R428, R429). -/
def statsState (q : Nat) (c : CmdCtx) : State :=
  State.reset.setStall 0 {
    csr := [(0x1A20, 0x1001)], scratch := [(0x140, BitVec.ofNat 8 c.args.op)]
    queues := [(q, { state := .running, lists := [statsList], issued := 1, count := some 2, ctxs := [c] })]
    triples := [{ half := 0, lgrp := 0, fmt := 0, nconv := 2 ^ 31 - 1 }]
    flushing := List.replicate 4 { half := 0, lgrp := 0, fmt := 0, nconv := 1 } }

/-- LDTILE from FP32 to BF16 with its data landed. -/
def statsLoad : CmdCtx := statsCtx 0x01 2 0 .landed
/-- STTILE from FP32 to BF16 with its request still to be made. -/
def statsStore : CmdCtx := statsCtx 0x21 0 2 .todo

/-- The refutations stand at states that meet the safety invariant. -/
theorem statsState_sound : Safety.Sound (statsState 0 statsLoad) ∧ Safety.Sound (statsState 1 statsStore) :=
  ⟨⟨Laws.canonical_of (by decide +kernel), by decide +kernel⟩, ⟨Laws.canonical_of (by decide +kernel), by decide +kernel⟩⟩

/-- Main memory after a command. -/
def memAfter : Out → Map Byte
  | .next t => t.mem
  | _ => []

theorem statsLoad_flushes : memAfter (exec (.ldtile 0) (statsState 0 statsLoad)) = [(0x1000, 1)] := by decide +kernel

theorem statsStore_flushes : memAfter (exec (.slotGrant 0 [1] .clean) (statsState 1 statsStore)) = [(0x1000, 1)] := by decide +kernel

/-- Refutes O14: an LDTILE that converts may leave memory changed, since the conversion that it counts last can be the one that makes an earlier
flush of the statistics land in the table (R427 to R429). -/
theorem not_engineCommandConsumesAndCompletes : ¬ Obligations.EngineCommandConsumesAndCompletes := by
  unfold Obligations.EngineCommandConsumesAndCompletes
  intro h
  have hat : atCommand (statsState 0 statsLoad) 0 0 0x01 statsList 2 0 := by
    unfold atCommand
    decide +kernel
  have hlast : lastGroup (statsState 0 statsLoad) 0 0 0x01 statsLoad := by
    unfold lastGroup
    decide +kernel
  obtain ⟨t, hexec, -, -, -, hmem⟩ := h (.ldtile, 0, 0x01) List.mem_cons_self (statsState 0 statsLoad) 0 statsList 2 0 statsLoad hat hlast
  have hflushed : t.mem = [(0x1000, 1)] := (congrArg memAfter hexec).symm.trans statsLoad_flushes
  exact absurd (hflushed.symm.trans hmem) (by decide +kernel)

/-- Refutes O16: a slot granted to an STTILE that converts may leave memory changed in the same way, since the conversions of a store are counted
when its request is made (R427 to R429). -/
theorem not_requestSlots : ¬ Obligations.RequestSlots := by
  unfold Obligations.RequestSlots Claims.SlotsCarryRequestsAndData
  rintro ⟨h, -⟩
  have hone : oneStarted (statsState 1 statsStore) 0 1 statsStore := by
    unfold oneStarted
    decide +kernel
  have hgo : (statsState 1 statsStore).source 0 statsStore.args (statsPart 0 .todo) = .go .write [0, 0] := by decide +kernel
  obtain ⟨t, hexec, -, -, -, hmem⟩ := (h (statsState 1 statsStore) 0 1 0 statsStore (by decide) hone).1 (statsPart 0 .todo) .write [0, 0] rfl rfl
    (by decide) (by decide) hgo (by decide +kernel) (by decide)
  have hflushed : t.mem = [(0x1000, 1)] := (congrArg memAfter hexec).symm.trans statsStore_flushes
  exact absurd (hflushed.symm.trans hmem) (by decide +kernel)

end Sys2Proof.Machine
end

section
/-! SUPPORT. The debug view of tile storage within one row, and the writes of a stall's tile and array registers (R141, R148, R161, R168, R171, R206,
R281). -/

namespace Sys2Proof.Machine

variable {s : State} {ps off : Nat}

/-! ### The debug view (R141) -/

/-- A range within one row of 512 bytes touches that row alone. -/
theorem dbgRows_one {n : Nat} (hn : n ≠ 0) (h : off % 512 + n ≤ 512) :
    dbgRows off n = [(off / 65536, off % 65536 / 512, off % 512, n)] := by
  have hcount : (off + n - 1) / 512 - off / 512 + 1 = 1 := by omega
  have hreg : off / 512 * 512 / 65536 = off / 65536 := by omega
  have hrow : off / 512 * 512 % 65536 / 512 = off % 65536 / 512 := by omega
  have hlow : max off (off / 512 * 512) = off := by omega
  have hfirst : off - off / 512 * 512 = off % 512 := by omega
  have hlast : min (off + n) (off / 512 * 512 + 512) - off = n := by omega
  simp only [dbgRows, if_neg hn, hcount, List.range_one, List.map_singleton, Nat.add_zero, hreg, hrow, hlow, hfirst, hlast]

/-- Such a range begins at the byte of its register that its offset names. -/
theorem dbgRows_start (off : Nat) : off / 65536 * 65536 + off % 65536 / 512 * 512 + off % 512 = off := by omega

section
variable {n : Nat} (hn : n ≠ 0) (hin : off % 512 + n ≤ 512)
include hn

theorem State.tileDbgRead_beyond (hoff : 0x100000 ≤ off) (ecc : Ecc) : s.tileDbgRead ps off n ecc = (s, St.memRange, []) :=
  if_pos (by omega)

include hin

theorem State.tileDbgRead_row (hoff : off < 0x100000) (hgood : (s.stall ps).tileBad (off / 65536) (off % 65536 / 512) (off % 512) n = none) :
    s.tileDbgRead ps off n .clean = (s, St.ok,
      (List.range n).map (fun i => ((s.stall ps).tileRow (off / 65536) (off % 65536 / 512)).getD (off % 512 + i) 0)) := by
  have hroom : ¬ 0x100000 < off + n := by omega
  simp [State.tileDbgRead, dbgRows_one hn hin, State.tileEcc, hroom, hgood]

end

section
variable {d : List Byte} (hd : d ≠ []) (hin : off % 512 + d.length ≤ 512)
include hd

theorem State.tileDbgWrite_beyond (hoff : 0x100000 ≤ off) : s.tileDbgWrite ps off (d.map some) = (s, St.memRange) := by
  have hlen := List.length_pos_iff.mpr hd
  exact if_pos (by rw [List.length_map]; omega)

include hin

/-- Within one row the write's checks are those of its register, and the lanes are the row's. -/
theorem State.tileDbgWrite_row (hoff : off < 0x100000) : s.tileDbgWrite ps off (d.map some) =
    if ((s.stall ps).treg (off / 65536)).state = .unconf then (s, St.tileUnconf)
    else if (s.stall ps).owners (off / 65536) ≠ 0 then (s, St.tileBusy)
    else (s.setStall ps
      (if ((d.map some).take (((s.stall ps).treg (off / 65536)).rowLen - off % 512)).any Option.isSome then
        ((s.stall ps).tilePut (off / 65536) (off % 65536 / 512) (off % 512) (d.map some)).rowDone (off / 65536) (off % 65536 / 512)
      else s.stall ps), St.ok) := by
  have hroom : ¬ 0x100000 < off + d.length := by omega
  have hone := dbgRows_one (mt List.length_eq_zero_iff.mp hd) hin
  simp only [State.tileDbgWrite, List.length_map, if_neg hroom, hone, List.any_cons, List.any_nil, Bool.or_false, decide_eq_true_eq, List.foldl_cons,
    List.foldl_nil, dbgRows_start, Nat.sub_self, List.drop_zero]
  rw [List.take_of_length_le (l := d.map some) (by rw [List.length_map])]

/-- Bytes that begin below the row length reach the row. -/
theorem State.tileDbgWrite_free (hoff : off < 0x100000) (hconf : ((s.stall ps).treg (off / 65536)).state ≠ .unconf)
    (hfree : (s.stall ps).owners (off / 65536) = 0) (hrow : off % 512 < ((s.stall ps).treg (off / 65536)).rowLen) :
    s.tileDbgWrite ps off (d.map some) = (s.setStall ps
      (((s.stall ps).tilePut (off / 65536) (off % 65536 / 512) (off % 512) (d.map some)).rowDone (off / 65536) (off % 65536 / 512)), St.ok) := by
  have hsome : ((d.map some).take (((s.stall ps).treg (off / 65536)).rowLen - off % 512)).any Option.isSome = true := by
    obtain ⟨b, bs, rfl⟩ := List.exists_cons_of_ne_nil hd
    obtain ⟨k, hk⟩ := Nat.exists_eq_add_of_lt hrow
    rw [show ((s.stall ps).treg (off / 65536)).rowLen - off % 512 = k + 1 by omega]
    rfl
  rw [State.tileDbgWrite_row hd hin hoff, if_neg hconf, if_neg (not_not.mpr hfree), if_pos hsome]

end

theorem exec_tileDebugRead (hrun : (s.stall ps).pstate = .run) (p : Priv) (n : Nat) (ecc : Ecc) : exec (.tileDebugRead p ps off n ecc) s =
    .next ((s.tileDbgRead ps off n ecc).1.respond (s.tileDbgRead ps off n ecc).2.1 0 (s.tileDbgRead ps off n ecc).2.2) :=
  congrArg Host.Outcome.next (if_neg (not_not.mpr hrun))

theorem exec_tileDebugWrite (hrun : (s.stall ps).pstate = .run) (p : Priv) (d : List Byte) : exec (.tileDebugWrite p ps off d) s =
    .next ((s.tileDbgWrite ps off (d.map some)).1.respond (s.tileDbgWrite ps off (d.map some)).2) :=
  congrArg Host.Outcome.next (if_neg (not_not.mpr hrun))

theorem tileDebugView : Claims.TileDebugView := by
  intro s ps off p d hrun hd hin
  have hlen : d.length ≠ 0 := mt List.length_eq_zero_iff.mp hd
  refine ⟨fun hoff hgood => ?read, fun hoff hconf hfree hrow => ?written, fun hoff hunconf => ?unconf, fun hoff hconf howned => ?busy,
    fun hoff => ⟨?readBeyond, ?writeBeyond⟩⟩
  case read =>
    rw [exec_tileDebugRead hrun, State.tileDbgRead_row hlen hin hoff hgood]
    rfl
  case written =>
    rw [exec_tileDebugWrite hrun, State.tileDbgWrite_free hd hin hoff hconf hfree hrow]
    rfl
  case unconf =>
    rw [exec_tileDebugWrite hrun, State.tileDbgWrite_row hd hin hoff, if_pos hunconf]
    rfl
  case busy =>
    rw [exec_tileDebugWrite hrun, State.tileDbgWrite_row hd hin hoff, if_neg hconf, if_pos howned]
    rfl
  case readBeyond =>
    rw [exec_tileDebugRead hrun, State.tileDbgRead_beyond hlen hoff]
    rfl
  case writeBeyond =>
    rw [exec_tileDebugWrite hrun, State.tileDbgWrite_beyond hd hoff]
    rfl

/-! ### Registers of tile and array (R161, R168, R171, R206) -/

section
variable (hrun : (s.stall ps).pstate = .run)
include hrun

theorem exec_tprogWrite (p : Priv) (t : Nat) (v : Word) : exec (.tprogWrite p ps t v) s =
    .next ((s.tprogWrite p ps t v).1.respond (s.tprogWrite p ps t v).2) :=
  congrArg Host.Outcome.next (if_neg (not_not.mpr hrun))

theorem exec_arrMapWrite (p : Priv) (v : Word) : exec (.arrMapWrite p ps v) s =
    .next ((s.arrMapWrite p ps v).1.respond (s.arrMapWrite p ps v).2) :=
  congrArg Host.Outcome.next (if_neg (not_not.mpr hrun))

end

theorem tileAndArrayRegisters : Claims.TileAndArrayRegisters := by
  intro s ps t v p hrun
  refine ⟨fun hp hfree => ?progress, fun hp howned => ?busy, fun hp => ?privilege, fun hbad => ?bad, fun hgood hfly => ?inFlight,
    fun hgood hidle => ?mapped, fun coll => rfl⟩
  case progress =>
    rw [exec_tprogWrite hrun, State.tprogWrite, if_neg hp, if_neg (not_not.mpr hfree)]
    rfl
  case busy =>
    rw [exec_tprogWrite hrun, State.tprogWrite, if_neg hp, if_pos howned]
    rfl
  case privilege =>
    rw [exec_arrMapWrite hrun, State.arrMapWrite, if_pos hp]
    rfl
  case bad =>
    rw [exec_arrMapWrite hrun, State.arrMapWrite, if_neg (not_not.mpr rfl), if_pos hbad]
    rfl
  case inFlight =>
    rw [exec_arrMapWrite hrun, State.arrMapWrite, if_neg (not_not.mpr rfl), if_neg (by rw [hgood]; exact Bool.false_ne_true), if_pos hfly]
    rfl
  case mapped =>
    rw [exec_arrMapWrite hrun, State.arrMapWrite, if_neg (not_not.mpr rfl), if_neg (by rw [hgood]; exact Bool.false_ne_true),
      if_neg (not_not.mpr hidle)]
    rfl

/-- Settles O19: the debug view by the one row that its range touches, the registers by their checks in order. -/
theorem tileAndArrayAccess : Obligations.TileAndArrayAccess := ⟨tileDebugView, tileAndArrayRegisters⟩

end Sys2Proof.Machine
end

section
/-! SUPPORT. TCFG and TREL: the registers that a command selects, its checks, and what its success or failure leaves of the stall (R143 to R146). -/

namespace Sys2Proof.Machine

open Sys2Proof.Claims (arrayAt noneStarted pastCommand tilesBecome)

variable {s : State} {ps : Nat}

/-! ### Registers changed one by one -/

/-- Each register of a list is changed by a function of what it holds. -/
def Stall.eachTreg (st : Stall) (l : List Nat) (f : TReg → TReg) : Stall := l.foldl (fun st t => st.setTreg t (f (st.treg t))) st

theorem Stall.eachTreg_eq (f : TReg → TReg) : ∀ (l : List Nat) (st : Stall), ∃ m, st.eachTreg l f = { st with tregs := m }
  | [], st => ⟨st.tregs, rfl⟩
  | t :: l, st => by
    obtain ⟨m, hm⟩ := Stall.eachTreg_eq f l (st.setTreg t (f (st.treg t)))
    exact ⟨m, hm⟩

theorem Stall.treg_setTreg_self {st : Stall} (h : Map.wf (fun _ => ({} : TReg)) st.tregs = true) (t : Nat) (x : TReg) : (st.setTreg t x).treg t = x :=
  Map.get_set_self _ t x h

theorem Stall.treg_setTreg_of_ne (st : Stall) {t i : Nat} (x : TReg) (h : i ≠ t) : (st.setTreg t x).treg i = st.treg i :=
  Map.get_set_of_ne _ st.tregs x h

theorem Stall.treg_eachTreg (f : TReg → TReg) (i : Nat) : ∀ (l : List Nat) (st : Stall), l.Nodup → Map.wf (fun _ => ({} : TReg)) st.tregs = true →
    (st.eachTreg l f).treg i = if i ∈ l then f (st.treg i) else st.treg i
  | [], _, _, _ => rfl
  | t :: l, st, hl, h => by
    obtain ⟨hnot, hl⟩ := List.nodup_cons.mp hl
    have hrest := Stall.treg_eachTreg f i l (st.setTreg t (f (st.treg t))) hl (Map.wf_set _ t _ h)
    refine hrest.trans ?_
    by_cases hi : i = t
    · subst hi
      rw [if_neg hnot, if_pos List.mem_cons_self, Stall.treg_setTreg_self h]
    · simp only [Stall.treg_setTreg_of_ne st _ hi, List.mem_cons, hi, false_or]

/-! ### The command (R143 to R146) -/

/-- The registers that a TMASK selects. -/
def selectedTregs (tm : Nat) : List Nat := (List.range 16).filter (fun t => tm.testBit t)

theorem mem_selectedTregs {tm i : Nat} : i ∈ selectedTregs tm ↔ i < 16 ∧ tm.testBit i = true := by
  rw [selectedTregs, List.mem_filter, List.mem_range]

theorem nodup_selectedTregs (tm : Nat) : (selectedTregs tm).Nodup := List.nodup_range.filter _

/-- The shape that a TCFG gives is within the limits (R143). -/
abbrev shapeLegal (cmd : Nat) : Prop :=
  1 ≤ bits cmd 103 96 ∧ bits cmd 103 96 ≤ 128 ∧ bits cmd 127 124 ≤ 7 ∧ 1 ≤ bits cmd 122 112 ∧ bits cmd 122 112 ≤ maxCols (bits cmd 127 124) ∧
    (bits cmd 127 124 = 5 → bits cmd 122 112 % 2 = 0)

/-- A register as TCFG or TREL leaves it. -/
def tregAfter (cmd : Nat) (x : TReg) : TReg :=
  if rf cmd 0 7 0 = 0x70 then { state := .empty, rows := bits cmd 103 96, cols := bits cmd 122 112, fmt := bits cmd 127 124 }
  else { state := if x.state = .unconf then .unconf else .empty, rows := x.rows, cols := x.cols, fmt := x.fmt }

theorem tregAfter_tcfg {cmd : Nat} (hop : rf cmd 0 7 0 = 0x70) :
    tregAfter cmd = fun _ => { state := .empty, rows := bits cmd 103 96, cols := bits cmd 122 112, fmt := bits cmd 127 124 } :=
  funext fun _ => if_pos hop

theorem tregAfter_trel {cmd : Nat} (hop : rf cmd 0 7 0 = 0x71) :
    tregAfter cmd = fun x => { state := if x.state = .unconf then .unconf else .empty, rows := x.rows, cols := x.cols, fmt := x.fmt } :=
  funext fun _ => if_neg (by rw [hop]; decide)

/-- The first check of TCFG or TREL that fails. -/
def Stall.tcfgStatus (st : Stall) (cmd : Nat) : Status :=
  firstFail [(resSet cmd (envFields ++ arrFields (rf cmd 0 7 0)), St.reservedSet), (decide (bits cmd 79 64 = 0), St.badParam),
    (decide (rf cmd 0 7 0 = 0x70) && !decide (shapeLegal cmd), St.tileCfgInvalid),
    ((selectedTregs (bits cmd 79 64)).any (fun t => decide (st.owners t ≠ 0)), St.tileBusy)]

theorem State.runTcfg_eq (cmd : Nat) : s.runTcfg ps cmd =
    if (s.stall ps).tcfgStatus cmd ≠ St.ok then (s, (s.stall ps).tcfgStatus cmd)
    else (s.modStall ps (fun st => st.eachTreg (selectedTregs (bits cmd 79 64)) (tregAfter cmd)), St.ok) := by
  simp only [State.runTcfg, Stall.tcfgStatus, Stall.eachTreg, tregAfter, decide_eq_true_eq]
  rfl

section
variable {st : Stall} {cmd op : Nat} (hop : rf cmd 0 7 0 = op) (hres : resSet cmd (envFields ++ arrFields op) = false) (htm : bits cmd 79 64 ≠ 0)
include hop hres htm

theorem Stall.tcfgStatus_illegal (hcfg : op = 0x70) (hbad : ¬ shapeLegal cmd) : st.tcfgStatus cmd = St.tileCfgInvalid := by
  simp [Stall.tcfgStatus, firstFail, hop, hcfg ▸ hres, htm, hcfg, hbad]

theorem Stall.tcfgStatus_ok (hlegal : op = 0x70 → shapeLegal cmd)
    (hfree : ∀ i, i < 16 → (bits cmd 79 64).testBit i = true → st.owners i = 0) : st.tcfgStatus cmd = St.ok := by
  have hshape : (decide (op = 0x70) && !decide (shapeLegal cmd)) = false := by
    by_cases h : op = 0x70
    · rw [decide_eq_true (hlegal h), Bool.not_true, Bool.and_false]
    · rw [decide_eq_false h, Bool.false_and]
  have howned : (selectedTregs (bits cmd 79 64)).any (fun t => decide (st.owners t ≠ 0)) = false := by
    simp only [List.any_eq_false, decide_eq_true_eq, not_not, mem_selectedTregs]
    exact fun t ht => hfree t ht.1 ht.2
  simp only [Stall.tcfgStatus, firstFail, hop, hres, htm, hshape, howned, decide_false, Bool.false_eq_true, if_false]

end

/-! ### The array queue takes a command that runs alone -/

/-- The opcode of a command is in the first byte of its first word. -/
theorem State.opcode_of_arrayAt {op n idx : Nat} {l : QList} (hat : arrayAt s ps op l n idx) : rf (s.cmdNat ps l idx) 0 7 0 = op := by
  obtain ⟨⟨-, -, -, -, -, -, -, -, hop⟩, -⟩ := hat
  rw [← State.cmdNat_mod] at hop
  show s.cmdNat ps l idx >>> 0 % 2 ^ 8 = op
  rw [Nat.shiftRight_zero]
  omega

theorem State.arrTake_alone {op n idx : Nat} {l : QList} (hat : arrayAt s ps op l n idx) (hop : op = 0x70 ∨ op = 0x71) : s.arrTake ps op =
    if (s.runTcfg ps (s.cmdNat ps l idx)).2 ≠ St.ok then (s.runTcfg ps (s.cmdNat ps l idx)).1.cmdFail ps 2 (s.runTcfg ps (s.cmdNat ps l idx)).2
    else (s.runTcfg ps (s.cmdNat ps l idx)).1.cmdOk ps 2 (s.envAt ps l idx).postEn (s.envAt ps l idx).postEv := by
  obtain ⟨hcmd, -, -, -, hidle, hlost, hgood, hready⟩ := hat
  obtain ⟨-, -, hcount, -, hmore, hpause, habort, hpower, hword⟩ := id hcmd
  have hmore' : ¬ n ≤ idx := by omega
  have hcode : bits (s.cmdWord ps l idx 0) 7 0 = op := by
    rw [bits, Nat.shiftRight_zero]
    exact hword
  simp [State.arrTake, State.headCmd_eq hcmd, State.envAt_eq, hcount, hmore', hcode, hpause, habort, hpower, hidle, hlost, hgood, hready, hop]

@[simp] theorem State.stall_rearm (s : State) (ps : Nat) : s.rearm.stall ps = s.stall ps := rfl

@[simp] theorem State.queue_rearm (s : State) (ps q : Nat) : s.rearm.queue ps q = s.queue ps q := rfl

/-- Engines with nothing started do nothing. -/
theorem State.kickAll_of_noneStarted (h : noneStarted s ps) : s.kickAll ps = s.rearm :=
  State.kickAll_of_stuck fun q hq => State.goOn_of_nil (h q hq)

/-- A command of the array queue that changed tile registers alone passes. -/
theorem State.cmdOk_tregs {op n idx e : Nat} {l : QList} {u : State} {m : Map TReg} (hat : arrayAt s ps op l n idx)
    (hu : u.stall ps = { s.stall ps with tregs := m }) (post : Bool) (he : e < 32) :
    pastCommand s ((u.cmdOk ps 2 post e).kickAll ps) ps 2 idx ∧ (((u.cmdOk ps 2 post e).kickAll ps).stall ps).tile = (s.stall ps).tile ∧
      (((u.cmdOk ps 2 post e).kickAll ps).stall ps).tregs = m := by
  obtain ⟨⟨hrun, hlist, hcount, rfl, hmore, -⟩, hnone, -, hempty, -⟩ := hat
  have hq (k : Nat) : u.queue ps k = s.queue ps k := by
    rw [State.queue, hu]
    rfl
  obtain ⟨-, c, hstall, -⟩ := State.cmdOk_passes (s := u) (ps := ps) (q := 2) (by rw [hq, hrun]) (by rw [hq, hlist]) (by rw [hq, hcount]) (by rwa [hq]) post he
  rw [hu] at hstall
  have hself : (u.cmdOk ps 2 post e).queue ps 2 = { s.queue ps 2 with cmdIdx := (s.queue ps 2).cmdIdx + 1, prog := 0 } := by
    rw [State.queue, hstall]
    exact Stall.queue_passed_self hrun
  have hother {k : Nat} (hk : k ≠ 2) : (u.cmdOk ps 2 post e).queue ps k = s.queue ps k := by
    rw [State.queue, hstall]
    exact Stall.queue_passed_of_ne _ hk
  have hnone' : noneStarted (u.cmdOk ps 2 post e) ps := fun k hk => by
    rw [hother (by rintro rfl; simp at hk)]
    exact hnone k hk
  rw [State.kickAll_of_noneStarted hnone']
  rw [pastCommand, State.queue_rearm, State.stall_rearm, hself, hstall]
  refine ⟨?_, rfl, rfl⟩
  exact ⟨rfl, hempty, rfl, hrun, rfl⟩

variable {q : Nat}

/-- The stall once a list has ended otherwise than by success. -/
theorem State.stall_listDone {l : QList} {rest : List QList} {next : QState} (hrun : (s.queue ps q).state = .running)
    (hlists : (s.queue ps q).lists = l :: rest) (hidle : next ≠ .idle) (hgo : next ≠ .running) (st : Status) (idx : Nat) :
    ∃ c a b, (s.listDone ps q st idx next).stall ps =
      { (s.stall ps).setQueue q ((s.queue ps q).listEnded l rest st next) with moved := true, csr := c, scratch := a, scratchUe := b } := by
  obtain ⟨s₁, hs₁⟩ : ∃ t, t = s.listEvent ps l st := ⟨_, rfl⟩
  obtain ⟨s₂, hs₂⟩ : ∃ t, t = if headerOk l.off then s₁.scrWrite ps (l.off + 0x10) (leBytes 2 st.toNat ++ leBytes 2 idx) else s₁ := ⟨_, rfl⟩
  obtain ⟨s₃, hs₃⟩ : ∃ t, t = (s₂.modQueue ps q (·.listEnded l rest st next)).modStall ps (fun t => { t with moved := true }) := ⟨_, rfl⟩
  have hdone : s.listDone ps q st idx next = s₃.perf ps 0x21 (some l.priv) (some q) none 1 := by
    simp only [State.listDone, hlists, hs₃, hs₂, hs₁, Queue.listEnded]
  have hstall₁ : s₁.stall ps = s.stall ps := by rw [hs₁, State.stall_congr (State.listEvent_stalls ..)]
  have hstall₂ : ∃ a b, s₂.stall ps = { s.stall ps with scratch := a, scratchUe := b } := by
    rw [hs₂, ← hstall₁]
    split_ifs
    · exact ⟨_, _, State.stall_modStall (by rw [hstall₁]; exact State.queues_ne_nil hrun)⟩
    · exact ⟨_, _, rfl⟩
  obtain ⟨a, b, hstall₂⟩ := hstall₂
  have hq₂ : s₂.queue ps q = s.queue ps q := by
    rw [State.queue, hstall₂]
    rfl
  have hstate : ((s₂.queue ps q).listEnded l rest st next).state ≠ .idle := by rwa [Queue.state_listEnded hgo]
  have hstall₃ : s₃.stall ps = { (s₂.stall ps).setQueue q ((s.queue ps q).listEnded l rest st next) with moved := true } := by
    rw [hs₃, State.stall_moved hstate, hq₂]
  obtain ⟨c, hc, -⟩ := State.countedAt_perf (s := s₃) (ps := ps) (by rw [hstall₃]; exact Stall.queues_setQueue_ne_nil _ (hq₂ ▸ hstate))
    0x21 (some l.priv) (some q) none 1
  refine ⟨c, a, b, ?_⟩
  rw [hdone, hc, hstall₃, hstall₂]
  rfl

theorem Stall.queue_setQueue_of_ne (t : Stall) (x : Queue) {k : Nat} (h : k ≠ q) : (t.setQueue q x).queue k = t.queue k :=
  Map.get_set_of_ne _ t.queues x h

/-- With nothing started there is nothing to drop. -/
theorem State.stall_dropAll (hrun : (s.queue ps q).state = .running) (h : (s.queue ps q).ctxs = []) :
    (s.dropAll ps q).stall ps = (s.stall ps).setQueue q (s.queue ps q) := by
  have hdrop : s.dropAll ps q = s.setQueue ps q (s.queue ps q) := by
    simp only [State.dropAll, h, List.foldl_nil, State.modQueue]
    congr 1
    rw [← h]
  rw [hdrop, State.stall_setQueue (by rw [hrun]; nofun)]

/-- A command of the array queue that fails stops its queue with its list, and no tile register changes. -/
theorem State.cmdFail_array {op n idx : Nat} {l : QList} (hat : arrayAt s ps op l n idx) (st : Status) :
    (((s.cmdFail ps 2 st).kickAll ps).queue ps 2).state = .stopped ∧
      (((s.cmdFail ps 2 st).kickAll ps).queue ps 2).hist.head? = some (l.seq, st) ∧
      (((s.cmdFail ps 2 st).kickAll ps).stall ps).tregs = (s.stall ps).tregs := by
  obtain ⟨⟨hrun, hlist, -⟩, hnone, -, hempty, -⟩ := hat
  obtain ⟨rest, hlists⟩ := List.head?_eq_some_iff.mp hlist
  obtain ⟨u, hu⟩ : ∃ u, u = s.dropAll ps 2 := ⟨_, rfl⟩
  have hstall : u.stall ps = (s.stall ps).setQueue 2 (s.queue ps 2) := by rw [hu, State.stall_dropAll hrun hempty]
  obtain ⟨hself, hother⟩ := State.queue_of_setQueue hstall (by rw [hrun]; nofun)
  obtain ⟨c, a, b, hend⟩ := State.stall_listDone (s := u) (ps := ps) (q := 2) (next := .stopped) (by rw [hself, hrun]) (by rw [hself, hlists]) (by decide)
    (by decide) st (u.queue ps 2).cmdIdx
  have hstopped : ((u.queue ps 2).listEnded l rest st .stopped).state = .stopped := Queue.state_listEnded (by decide) ..
  have hfail : s.cmdFail ps 2 st = u.listDone ps 2 st (u.queue ps 2).cmdIdx .stopped := by rw [State.cmdFail, hu]
  have hqueue : (s.cmdFail ps 2 st).queue ps 2 = (u.queue ps 2).listEnded l rest st .stopped := by
    rw [hfail, State.queue, hend]
    exact Stall.queue_setQueue_self _ (by rw [hstopped]; nofun)
  have hnone' : noneStarted (s.cmdFail ps 2 st) ps := fun k hk => by
    have hne : k ≠ 2 := by rintro rfl; simp at hk
    have hkept : ((u.stall ps).setQueue 2 ((u.queue ps 2).listEnded l rest st .stopped)).queue k = u.queue ps k := Stall.queue_setQueue_of_ne _ _ hne
    rw [hfail, State.queue, hend]
    exact (congrArg Queue.ctxs (hkept.trans (hother k hne))).trans (hnone k hk)
  rw [State.kickAll_of_noneStarted hnone', State.queue_rearm, State.stall_rearm, hqueue, hstopped]
  refine ⟨rfl, rfl, ?_⟩
  rw [hfail, hend, hstall]
  rfl

/-! ### The statement -/

/-- TCFG or TREL with its checks met: each selected register changes, and the queue passes. -/
theorem State.arrTake_passes {op n idx : Nat} {l : QList} (hat : arrayAt s ps op l n idx) (hop : op = 0x70 ∨ op = 0x71)
    (hwf : Map.wf (fun _ => ({} : TReg)) (s.stall ps).tregs = true) (hok : (s.stall ps).tcfgStatus (s.cmdNat ps l idx) = St.ok) :
    pastCommand s ((s.arrTake ps op).kickAll ps) ps 2 idx ∧
      tilesBecome s ((s.arrTake ps op).kickAll ps) ps (bits (s.cmdNat ps l idx) 79 64) (tregAfter (s.cmdNat ps l idx)) ∧
      (((s.arrTake ps op).kickAll ps).stall ps).tile = (s.stall ps).tile := by
  obtain ⟨sel, hsel⟩ : ∃ sel, sel = selectedTregs (bits (s.cmdNat ps l idx) 79 64) := ⟨_, rfl⟩
  obtain ⟨m, hm⟩ := (s.stall ps).eachTreg_eq (tregAfter (s.cmdNat ps l idx)) sel
  have hrun : (s.queue ps 2).state = .running := hat.1.1
  have hstall : (s.modStall ps (fun st => st.eachTreg sel (tregAfter (s.cmdNat ps l idx)))).stall ps = { s.stall ps with tregs := m } := by
    rw [State.stall_modStall (by rw [hm]; exact State.queues_ne_nil hrun), hm]
  obtain ⟨hpast, htile, htregs⟩ := State.cmdOk_tregs hat hstall (s.envAt ps l idx).postEn (s.envAt_postEv_lt ps l idx)
  rw [State.arrTake_alone hat hop, State.runTcfg_eq, hok, if_neg (not_not.mpr rfl), if_neg (not_not.mpr rfl), ← hsel]
  refine ⟨hpast, fun i hi => ?_, htile⟩
  have hreg := Stall.treg_eachTreg (tregAfter (s.cmdNat ps l idx)) i sel (s.stall ps) (hsel ▸ nodup_selectedTregs _) hwf
  rw [hm] at hreg
  rw [Stall.treg, htregs]
  refine hreg.trans ?_
  simp only [hsel, mem_selectedTregs, hi, true_and]

/-- Settles O18: a command that passes its checks changes the registers that it selects one by one, and one that fails them changes none. -/
theorem tileConfiguration : Obligations.TileConfiguration := by
  intro s ps n idx l hwf cmd tm rows cols fmt legal hfree htm
  refine ⟨fun hat hres => ⟨fun hlegal => ?configured, fun hbad => ?invalid⟩, fun hat hres => ?released, fun i r hr => ?zero⟩
  case configured =>
    have hop : rf cmd 0 7 0 = 0x70 := State.opcode_of_arrayAt hat
    obtain ⟨hpast, htiles, htile⟩ := State.arrTake_passes hat (.inl rfl) hwf (Stall.tcfgStatus_ok hop hres htm (fun _ => hlegal) hfree)
    exact ⟨_, rfl, hpast, tregAfter_tcfg hop ▸ htiles, htile⟩
  case invalid =>
    have hop : rf cmd 0 7 0 = 0x70 := State.opcode_of_arrayAt hat
    have hstatus := Stall.tcfgStatus_illegal (st := s.stall ps) hop hres htm rfl hbad
    have htake : s.arrTake ps 0x70 = s.cmdFail ps 2 St.tileCfgInvalid := by
      have hfails : St.tileCfgInvalid ≠ St.ok := by decide
      rw [State.arrTake_alone hat (.inl rfl), State.runTcfg_eq, hstatus, if_pos hfails, if_pos hfails]
    obtain ⟨hstop, hhist, htregs⟩ := State.cmdFail_array hat St.tileCfgInvalid
    refine ⟨(s.cmdFail ps 2 St.tileCfgInvalid).kickAll ps, congrArg (fun t => Host.Outcome.next (State.kickAll t ps)) htake, hstop, hhist, fun i _ => ?_⟩
    rw [Stall.treg, htregs, id, ite_self]
    rfl
  case released =>
    have hop : rf cmd 0 7 0 = 0x71 := State.opcode_of_arrayAt hat
    obtain ⟨hpast, htiles, htile⟩ := State.arrTake_passes hat (.inr rfl) hwf (Stall.tcfgStatus_ok hop hres htm (fun h => by cases h) hfree)
    exact ⟨_, rfl, hpast, htile, tregAfter_trel hop ▸ htiles⟩
  case zero =>
    simp only [Stall.tileRow, hr, Bool.false_eq_true, and_false, if_false]

end Sys2Proof.Machine
end

section
/-! SUPPORT. Live sparing of columns and tile banks, and the array's self-test: what a sparing needs of a stall at rest, and what it leaves (R163, R541,
R543, R544). -/

namespace Sys2Proof.Machine

open Sys2Proof.Claims (restsFor noneStarted)

variable {s : State} {ps : Nat} {j : SpareJob}

/-! ### Reports reach the tack rooms' aggregation buffer alone (R540) -/

theorem State.report_tack (s : State) (r : ErrRec) : ∃ a n, s.report r = { s with tack := { s.tack with agg := a, lost := n } } := by
  unfold State.report
  split_ifs
  · exact ⟨_, _, rfl⟩
  · exact ⟨_, _, rfl⟩

theorem State.hostErr_tack (s : State) (v : Word) : ∃ k a n, s.hostErr v = { s with csr := k, tack := { s.tack with agg := a, lost := n } } := by
  unfold State.hostErr
  split_ifs
  · exact ⟨_, _, _, rfl⟩
  · obtain ⟨a, n, h⟩ := (s.orDev (hostifBase + 0x28) v).report_tack { status := St.ok, cls := 12, sev := 0, unit := 5, id := 0 }
    exact ⟨_, a, n, h⟩

theorem State.event_tack (s : State) (e : Event) :
    ∃ m k a n, s.event e = { s with sess := m, csr := k, tack := { s.tack with agg := a, lost := n } } := by
  unfold State.event
  dsimp only
  split_ifs
  · obtain ⟨k, a, n, h⟩ := ({ s with sess := s.sess.map fun p => (p.1, p.2.map (Sess.post e)) } : State).hostErr_tack 2
    exact ⟨_, k, a, n, h⟩
  · exact ⟨_, _, _, _, rfl⟩

/-! ### Fields of words -/

theorem getLsbD_setFld (w : Word) (hi lo v : Nat) {i : Nat} (h : i < 64) :
    (setFld w hi lo v).getLsbD i = if lo ≤ i ∧ i - lo < hi + 1 - lo then v.testBit (i - lo) else w.getLsbD i := by
  have hones : (2 ^ 64 - 1).testBit (i - lo) = true := by
    rw [Nat.testBit_two_pow_sub_one]
    exact decide_eq_true (by omega)
  rw [setFld, BitVec.getLsbD_or, BitVec.getLsbD_and, BitVec.getLsbD_not, getLsbD_place, getLsbD_place, hones]
  by_cases hlo : lo ≤ i <;> by_cases hhi : i - lo < hi + 1 - lo <;> simp [h, hlo, hhi]

theorem fld_setFld_self (w : Word) {hi lo : Nat} (h : hi < 64) (v : Nat) : fld (setFld w hi lo v) hi lo = v % 2 ^ (hi + 1 - lo) := by
  refine Nat.eq_of_testBit_eq fun i => ?_
  rw [testBit_fld, Nat.testBit_mod_two_pow]
  by_cases hi' : i < hi + 1 - lo
  · rw [getLsbD_setFld w hi lo v (by omega), Nat.add_sub_cancel_left, if_pos ⟨Nat.le_add_right _ _, hi'⟩]
  · simp [hi']

/-- A field above the one that was replaced. -/
theorem fld_setFld_above (w : Word) {hi lo hi' lo' : Nat} (h : hi' < lo) (hhi : hi < 64) (v : Nat) : fld (setFld w hi' lo' v) hi lo = fld w hi lo := by
  refine Nat.eq_of_testBit_eq fun i => ?_
  rw [testBit_fld, testBit_fld]
  by_cases hin : i < hi + 1 - lo
  · rw [getLsbD_setFld w hi' lo' v (by omega), if_neg (by omega)]
  · simp [hin]

/-! ### A job at a stall at rest -/

section
variable {k b : Nat}

theorem State.findJob_of_rests (h : restsFor s ps j) (hk : j.kind = k) (hb : j.sub = b) : s.findJob k ps b = some j := by
  obtain ⟨htodo, hps, -⟩ := h
  simp [State.findJob, htodo, hk, hb, hps]

theorem State.findJob_of_nil (h : s.tack.todo = []) : s.findJob k ps b = none := by
  rw [State.findJob, h]
  rfl

end

/-- Queues that are idle need no PAUSE. -/
theorem State.jobPause_idle {qs : List Nat} (hpaused : j.paused = []) (h : ∀ q ∈ qs, (s.queue j.ps q).state = .idle) :
    s.jobPause j qs = (s, { j with started := true, paused := [] }) := by
  have hnew : qs.filter (fun q => decide ((s.queue j.ps q).state = .running) && !(s.queue j.ps q).pausing) = [] :=
    List.filter_eq_nil_iff.mpr fun q hq => by simp [h q hq]
  have hquiet : qs.foldl (fun s q => s.queuePaused j.ps q) s = s :=
    List.foldlRecOn (motive := fun t => t = s) qs _ rfl fun t ht q hq => by
      subst ht
      simp [State.queuePaused, h q hq]
  simp only [State.jobPause, hnew, hpaused, List.foldl_nil, hquiet, List.append_nil, List.eraseDups_nil]

theorem State.jobQuiet_idle {qs : List Nat} (h : ∀ q ∈ qs, (s.queue ps q).state = .idle) : s.jobQuiet ps qs = true :=
  List.all_eq_true.mpr fun q hq => by simp [h q hq]

/-- The only sparing decided is done. -/
theorem State.dropJob_only {i : SpareJob} (h : s.tack.todo = [i]) (hsame : i.same j = true) : s.dropJob j = s.modTack fun t => { t with todo := [] } := by
  simp [State.dropJob, State.modTack, h, hsame]

theorem SpareJob.same_of_eq {i : SpareJob} (hk : i.kind = j.kind) (hp : i.ps = j.ps) (hs : i.sub = j.sub) : i.same j = true := by
  simp [SpareJob.same, hk, hp, hs]

/-- A sparing is done: `t` is `u` but for reports, registers of the device, arbiters and re-armed sources, with no sparing left to do. -/
structure State.SparedAs (u t : State) : Prop where
  todo : t.tack.todo = []
  needed : t.tack.needed = u.tack.needed
  stalls : t.stalls = u.stalls
  grooms : t.grooms = u.grooms
  nodes : t.nodes = u.nodes
  health : t.health = u.health
  lsMap : t.lsMap = u.lsMap
  mem : t.mem = u.mem

theorem State.sparedAs_errorEvent {i : SpareJob} (htodo : s.tack.todo = [i]) (hsame : i.same j = true) (r : ErrRec) :
    s.SparedAs ((s.errorEvent r).dropJob j) := by
  obtain ⟨m, k, a, n, hevent⟩ : ∃ m k a n, s.errorEvent r = { s with sess := m, csr := k, tack := { s.tack with agg := a, lost := n } } := s.event_tack _
  rw [State.dropJob_only (i := i) (by rw [hevent]; exact htodo) hsame, hevent]
  exact ⟨rfl, rfl, rfl, rfl, rfl, rfl, rfl, rfl⟩

/-- A stall's engines that have nothing started stay as they are. -/
theorem State.sparedAs_kickAll {t : State} (h : s.SparedAs t) (hnone : noneStarted s ps) : s.SparedAs (t.kickAll ps) := by
  have hnone' : noneStarted t ps := fun q hq => (congrArg Queue.ctxs (State.queue_congr h.stalls ps q)).trans (hnone q hq)
  rw [State.kickAll_of_noneStarted hnone']
  exact ⟨h.todo, h.needed, h.stalls, h.grooms, h.nodes, h.health, h.lsMap, h.mem⟩

/-- A stall that fails is to be moved whole. -/
theorem State.stallFails_only (htodo : s.tack.todo = [j]) :
    s.stallFails j = s.modTack fun t => { t with todo := [{ j with kind := 1, sub := 0, started := false }] } := by
  rw [State.stallFails, State.dropJob_only htodo (SpareJob.same_of_eq rfl rfl rfl)]
  simp [State.findJob, State.decideSpare, State.modTack]

/-! ### Columns (R173, R543) -/

/-- STALL_ARR_MAP with a column bypassed by the first free repair column. -/
def spareColumn (m : Word) (col : Nat) : Word := if bit m 10 then m ||| place 25 16 col ||| place 26 26 1 else setFld m 10 0 (col + 1024)

section
variable {m : Word} {col : Nat} (hcol : col < 514)
include hcol

theorem spareColumn_first (h : bit m 10 = false) :
    bit (spareColumn m col) 10 = true ∧ fld (spareColumn m col) 9 0 = col ∧ fld (spareColumn m col) 63 11 = fld m 63 11 := by
  have hset : spareColumn m col = setFld m 10 0 (col + 1024) := by simp [spareColumn, h]
  have hlow : fld (setFld m 10 0 (col + 1024)) 10 0 = col + 1024 := by
    rw [fld_setFld_self m (by decide)]
    omega
  rw [hset]
  refine ⟨?_, ?_, fld_setFld_above m (by decide) (by decide) _⟩
  · have hbit := testBit_fld (setFld m 10 0 (col + 1024)) 10 0 10
    have htop : (col + 1024).testBit 10 = true := by
      rw [Nat.add_comm]
      exact (Nat.testBit_two_pow_add_eq col 10).trans (by rw [Nat.testBit_lt_two_pow (Nat.lt_of_lt_of_le hcol (by decide)), Bool.not_false])
    rw [hlow, htop] at hbit
    exact hbit.symm
  · have hmod : fld (setFld m 10 0 (col + 1024)) 9 0 = fld (setFld m 10 0 (col + 1024)) 10 0 % 2 ^ 10 :=
      (Nat.mod_mod_of_dvd _ (by decide : 2 ^ 10 ∣ 2 ^ 11)).symm
    rw [hmod, hlow]
    omega

theorem spareColumn_second (h : bit m 10 = true) (hfree : fld m 25 16 = 0) :
    bit (spareColumn m col) 26 = true ∧ fld (spareColumn m col) 25 16 = col ∧ fld (spareColumn m col) 10 0 = fld m 10 0 := by
  have hset : spareColumn m col = m ||| place 25 16 col ||| place 26 26 1 := if_pos h
  rw [hset]
  refine ⟨?_, ?_, ?_⟩
  · rw [bit_or, bit_place_one (by decide), Bool.or_true]
  · rw [fld_or, fld_or, hfree, fld_place_self (by decide), fld_place_apart (.inr (by decide)), Nat.zero_or, Nat.or_zero]
    omega
  · rw [fld_or, fld_or, fld_place_apart (.inr (by decide)), fld_place_apart (.inr (by decide)), Nat.or_zero, Nat.or_zero]

end

theorem colsLeft_ne_zero {m : Word} (h : bit m 10 = false ∨ bit m 26 = false) : colsLeft m ≠ 0 := by
  rcases h with h | h <;> cases h' : bit m 10 <;> cases h'' : bit m 26 <;> simp_all [colsLeft, b2n]

theorem State.stall_setScsr_self (hwf : Map.wf (fun _ => ({} : Stall)) s.stalls = true) (o : Nat) (v : Word) :
    (s.setScsr ps o v).stall ps = { s.stall ps with csr := Map.set (resetOf stallRegs) (s.stall ps).csr o v } := State.stall_setStall_self hwf ps _

theorem wf_stallCsr (h : Safety.Canonical s) (ps : Nat) : Map.wf (resetOf stallRegs) (s.stall ps).csr = true := by
  have hok := h.inStalls ps
  simp only [Safety.stallOk, Bool.and_eq_true] at hok
  obtain ⟨⟨⟨-, hcsr⟩, -⟩, -⟩ := hok
  exact hcsr

/-- A register of a stall reads as it was written. -/
theorem State.scsr_setScsr_self (h : Safety.Canonical s) (o : Nat) (v : Word) : (s.setScsr ps o v).scsr ps o = v := by
  rw [State.scsr, State.stall_setScsr_self h.stalls]
  exact Map.get_set_self _ o v (wf_stallCsr h ps)

/-- A write of a stall's own parts beside its queues starts nothing. -/
theorem noneStarted_modStall (hwf : Map.wf (fun _ => ({} : Stall)) s.stalls = true) (hnone : noneStarted s ps) {f : Stall → Stall}
    (hf : (f (s.stall ps)).queues = (s.stall ps).queues) : noneStarted (s.modStall ps f) ps := fun q hq => by
  have hqueue : (s.modStall ps f).queue ps q = s.queue ps q := by
    rw [State.queue, State.modStall, State.stall_setStall_self hwf, Stall.queue, hf]
    rfl
  rw [hqueue, hnone q hq]

section
variable (hwf : Map.wf (fun _ => ({} : Stall)) s.stalls = true) (hrest : restsFor s ps j)
include hrest

/-- With both repair columns in use the stall has failed. -/
theorem State.columnSpare_none (hby : bypassed (s.scsr ps 0x1420) j.sub = false) (hleft : colsLeft (s.scsr ps 0x1420) = 0) :
    s.columnSpare j = s.modTack fun t => { t with todo := [{ j with kind := 1, sub := 0, started := false }] } := by
  obtain ⟨htodo, rfl, -⟩ := hrest
  rw [bypassed] at hby
  simp only [State.columnSpare, hby, hleft, Bool.false_eq_true, if_false, if_true, State.stallFails_only htodo]

include hwf

theorem State.columnSpare_spares (hby : bypassed (s.scsr ps 0x1420) j.sub = false) (hleft : colsLeft (s.scsr ps 0x1420) ≠ 0) :
    (s.setScsr ps 0x1420 (spareColumn (s.scsr ps 0x1420) j.sub)).SparedAs (s.columnSpare j) := by
  obtain ⟨htodo, rfl, hlong, hpaused, -, -, hnone, harr, -, hidle⟩ := hrest
  have hqueue : ∀ q ∈ [2], (s.queue j.ps q).state = .idle := fun q hq => hidle q (by simp at hq; omega)
  rw [bypassed] at hby
  simp only [State.columnSpare, hby, hleft, Bool.false_eq_true, if_false, State.jobPause_idle hpaused hqueue, State.jobQuiet_idle hqueue, harr,
    Bool.not_true, ne_eq, not_true, or_false, hlong]
  exact State.sparedAs_kickAll (State.sparedAs_errorEvent (s := s.setScsr j.ps 0x1420 (spareColumn (s.scsr j.ps 0x1420) j.sub)) htodo
    (SpareJob.same_of_eq rfl rfl rfl) _) (noneStarted_modStall hwf hnone rfl)

/-! ### Tile banks (R163) -/

omit hwf in
theorem State.bankSpare_none {k : Nat} (hbank : (s.stall ps).bank = some k) (hk : k ≠ j.sub) :
    s.bankSpare j = s.modTack fun t => { t with todo := [{ j with kind := 1, sub := 0, started := false }] } := by
  obtain ⟨htodo, rfl, -⟩ := hrest
  simp [State.bankSpare, hbank, hk, State.stallFails_only htodo]

theorem State.bankSpare_spares (hbank : (s.stall ps).bank = none) :
    (s.modStall ps (fun t => { t with bank := some j.sub })).SparedAs (s.bankSpare j) := by
  obtain ⟨htodo, rfl, -, hpaused, -, -, hnone, -, -, hidle⟩ := hrest
  have hqueue : ∀ q ∈ List.range 5, (s.queue j.ps q).state = .idle := fun q hq => hidle q (List.mem_range.mp hq)
  simp only [State.bankSpare, hbank, reduceCtorEq, Option.isSome_none, Bool.false_eq_true, if_false, State.jobPause_idle hpaused hqueue,
    State.jobQuiet_idle hqueue, Bool.not_true]
  exact State.sparedAs_kickAll (State.sparedAs_errorEvent (s := s.modStall j.ps (fun t => { t with bank := some j.sub })) htodo
    (SpareJob.same_of_eq rfl rfl rfl) _) (noneStarted_modStall hwf hnone rfl)

/-! ### The array's self-test (R541) -/

omit hwf in
theorem State.selfTest_eq (cols : List Nat) : s.selfTest j cols =
    (let u := s.modTack fun t => { t with todo := [] }
     let found := (cols.filter (· < 514)).eraseDups
     if found = [] ∨ colsLeft (s.scsr ps 0x1420) < found.length then
       u.decideSpare { j with kind := 1, sub := 0, started := false, paused := [] }
     else (found.foldl (fun s c => s.decideSpare { kind := 0, ps := ps, sub := c, status := j.status }) u).kickAll ps) := by
  obtain ⟨htodo, rfl, -, hpaused, -, -, -, -, -, hidle⟩ := hrest
  have hqueue : ∀ q ∈ [2], (s.queue j.ps q).state = .idle := fun q hq => hidle q (by simp at hq; omega)
  simp only [State.selfTest, State.jobPause_idle hpaused hqueue, State.jobQuiet_idle hqueue, Bool.not_true, Bool.false_eq_true, if_false,
    State.dropJob_only (i := j) (j := { j with started := true, paused := [] }) htodo (SpareJob.same_of_eq rfl rfl rfl)]
  rfl

omit hwf in
/-- A test that finds no column spares the stall. -/
theorem State.selfTest_nil : (s.selfTest j []).tack.todo = [{ j with kind := 1, sub := 0, started := false, paused := [] }] := by
  rw [State.selfTest_eq hrest]
  simp [State.decideSpare, State.modTack]

omit hwf in
/-- A test that finds one column spares it, with a repair column left. -/
theorem State.selfTest_one {c : Nat} (hc : c < 514) (hleft : colsLeft (s.scsr ps 0x1420) ≠ 0) :
    (s.selfTest j [c]).tack.todo = [{ kind := 0, ps := ps, sub := c, status := j.status }] := by
  have hfound : ([c].filter (· < 514)).eraseDups = [c] := by simp [hc, List.eraseDups_cons]
  have hroom : ¬ ([c] = [] ∨ colsLeft (s.scsr ps 0x1420) < [c].length) := by simp [hleft]
  rw [State.selfTest_eq hrest]
  obtain ⟨-, -, -, -, -, -, hnone, -⟩ := hrest
  simp only [hfound, if_neg hroom, List.foldl_cons, List.foldl_nil]
  rw [State.kickAll_of_noneStarted (by exact hnone)]
  rfl

end

end Sys2Proof.Machine
end

section
/-! SUPPORT. A stall that moves whole to a spare, and one that finds none: grooms, fences, health and the copy (R38, R49, R357, R469, R544, R545). -/

namespace Sys2Proof.Machine

open Sys2Proof.Claims (restsFor noneStarted netTidy)

variable {s : State} {ps x : Nat} {j : SpareJob}

/-! ### What the steps of a move leave as it was -/

theorem State.freezeStall_eq (s : State) (ps : Nat) (on : Bool) : ∃ m, s.freezeStall ps on = { s with arbs := m } := by
  refine List.foldlRecOn (motive := fun t : State => ∃ m, t = { s with arbs := m }) _ _ ⟨s.arbs, rfl⟩ ?_
  rintro t ⟨m, rfl⟩ b -
  exact ⟨_, rfl⟩

theorem State.stalls_trans {t u : State} (h : ∃ m, t = { s with stalls := m }) (h' : ∃ m, u = { t with stalls := m }) :
    ∃ m, u = { s with stalls := m } := by
  obtain ⟨m, rfl⟩ := h
  exact h'

theorem State.syncAnswer_eq (s : State) (ps : Nat) (st : Status) (w0 w1 : Word) (res : Bool) : ∃ m, s.syncAnswer ps st w0 w1 res = { s with stalls := m } :=
  ⟨_, rfl⟩

theorem State.serveObj_eq (o i : Nat) : ∀ (n : Nat) (s : State), ∃ m, s.serveObj o i n = { s with stalls := m }
  | 0, s => ⟨s.stalls, rfl⟩
  | n + 1, s => by
    unfold State.serveObj
    dsimp only
    split
    · exact ⟨s.stalls, rfl⟩
    split
    · exact ⟨s.stalls, rfl⟩
    split_ifs
    · exact State.stalls_trans (State.stalls_trans ⟨_, rfl⟩ (State.syncAnswer_eq ..)) (State.serveObj_eq o i n _)
    · exact ⟨s.stalls, rfl⟩

/-- Locks given up change stalls alone. -/
theorem State.abandon_eq (s : State) (hit : Nat → Bool) : ∃ m, s.abandon hit = { s with stalls := m } := by
  refine State.foldl_stalls _ (fun s p => State.foldl_stalls _ (fun s o => ?_) _ _) _ _
  split_ifs
  · exact State.stalls_trans ⟨_, rfl⟩ (State.serveObj_eq p.1 o.1 256 _)
  · exact ⟨s.stalls, rfl⟩

theorem State.fence_eq (s : State) (ps : Nat) (svc : Bool) : ∃ n, s.fence ps svc = { s with nodes := n } := by
  refine List.foldlRecOn (motive := fun t : State => ∃ n, t = { s with nodes := n }) _ _ ⟨s.nodes, rfl⟩ ?_
  rintro t ⟨m, rfl⟩ g -
  exact ⟨_, rfl⟩

/-! ### Fences (R49) -/

theorem netTidy_congr {t : State} (hn : t.nodes = s.nodes) (h : netTidy s) : netTidy t := by
  simp only [netTidy, State.node, hn] at h ⊢
  exact h

/-- A router closes. -/
def Node.closed (svc : Bool) (n : Node) : Node := { n.setReg 8 (setFld (n.reg 8) 1 0 (1 + 2 * b2n svc)) with fenced := true }

theorem State.fence_eq_foldl (s : State) (ps : Nat) (svc : Bool) :
    s.fence ps svc = (List.range 16).foldl (fun s g => s.modNode (ps * 16 + g) (Node.closed svc)) s := rfl

/-- Closing a router opens none. -/
theorem State.fenced_modNode_closed (h : netTidy s) (svc : Bool) (i : Nat) {k : Nat} (hk : (s.node k).fenced = true) :
    ((s.modNode i (Node.closed svc)).node k).fenced = true := by
  by_cases hik : k = i
  · rw [hik, State.node_modNode_self h]
    rfl
  · rw [State.node_modNode_of_ne s _ hik, hk]

/-- The 16 routers of a stall close. -/
theorem State.fence_spec (h : netTidy s) (ps : Nat) (svc : Bool) :
    netTidy (s.fence ps svc) ∧ ∀ g < 16, ((s.fence ps svc).node (ps * 16 + g)).fenced = true := by
  rw [State.fence_eq_foldl]
  obtain ⟨ht, hall⟩ := foldl_attains (f := fun (s : State) g => s.modNode (ps * 16 + g) (Node.closed svc)) (l := List.range 16) (P := netTidy)
    (Q := fun g t => (t.node (ps * 16 + g)).fenced = true) h
    (fun g _ t ht => netTidy_modNode ht _ fun _ hn => Safety.nodeOk_setReg hn _ _)
    (fun g _ t ht => by rw [State.node_modNode_self ht]; rfl)
    (fun g _ k _ _ t ht hq => State.fenced_modNode_closed ht svc _ hq)
  exact ⟨ht, fun g hg => hall g (List.mem_range.mpr hg)⟩

/-- Opening one stall's routers leaves those of another. -/
theorem State.node_unfence_of_ne (s : State) (hx : x ≠ ps) {g : Nat} (hg : g < 16) : (s.unfence x).node (ps * 16 + g) = s.node (ps * 16 + g) := by
  rw [State.unfence_eq_foldl]
  refine List.foldlRecOn (motive := fun t : State => t.node (ps * 16 + g) = s.node (ps * 16 + g)) _ _ rfl fun t ht k hk => ?_
  have hk := List.mem_range.mp hk
  rw [State.node_modNode_of_ne t _ (by omega), ht]

/-! ### Grooms -/

/-- The grooms of a stall move to another, one by one. -/
def State.moveGrooms (s : State) (ps x n : Nat) : State :=
  (List.range n).foldl (fun s g => (s.setGroom (x * 16 + g) (s.groom (ps * 16 + g))).setGroom (ps * 16 + g) {}) s

theorem State.moveGrooms_succ (s : State) (ps x n : Nat) : s.moveGrooms ps x (n + 1) =
    ((s.moveGrooms ps x n).setGroom (x * 16 + n) ((s.moveGrooms ps x n).groom (ps * 16 + n))).setGroom (ps * 16 + n) {} := by
  simp only [State.moveGrooms, List.range_succ, List.foldl_append, List.foldl_cons, List.foldl_nil]

theorem State.moveGrooms_eq (s : State) (ps x : Nat) : ∀ n, ∃ m, s.moveGrooms ps x n = { s with grooms := m }
  | 0 => ⟨s.grooms, rfl⟩
  | n + 1 => by
    obtain ⟨m, hm⟩ := State.moveGrooms_eq s ps x n
    rw [State.moveGrooms_succ, hm]
    exact ⟨_, rfl⟩

/-- After `n` of them, those have arrived and the others still stand where they were. -/
theorem State.groom_moveGrooms (hwf : Map.wf (fun _ => ({} : Groom)) s.grooms = true) (hx : x ≠ ps) : ∀ n ≤ 16,
    Map.wf (fun _ => ({} : Groom)) (s.moveGrooms ps x n).grooms = true ∧
    (∀ g < n, (s.moveGrooms ps x n).groom (x * 16 + g) = s.groom (ps * 16 + g)) ∧
    ∀ g, n ≤ g → g < 16 → (s.moveGrooms ps x n).groom (ps * 16 + g) = s.groom (ps * 16 + g)
  | 0, _ => ⟨hwf, fun g hg => absurd hg (Nat.not_lt_zero g), fun _ _ _ => rfl⟩
  | n + 1, hn => by
    obtain ⟨ht, harrived, hwaiting⟩ := State.groom_moveGrooms hwf hx n (by omega)
    rw [State.moveGrooms_succ]
    have hwf' := Map.wf_set _ (ps * 16 + n) ({} : Groom) (Map.wf_set _ (x * 16 + n) ((s.moveGrooms ps x n).groom (ps * 16 + n)) ht)
    refine ⟨hwf', fun g hg => ?_, fun g hg hlt => ?_⟩
    · rw [State.groom_setGroom_of_ne _ _ (by omega)]
      rcases Nat.lt_succ_iff_lt_or_eq.mp hg with hlt | rfl
      · rw [State.groom_setGroom_of_ne _ _ (by omega), harrived g hlt]
      · rw [State.groom_setGroom_self ht, hwaiting g (Nat.le_refl g) (by omega)]
    · rw [State.groom_setGroom_of_ne _ _ (by omega), State.groom_setGroom_of_ne _ _ (by omega), hwaiting g (by omega) hlt]

/-! ### The copy, the LS and the fences (R544) -/

/-- The pager's faults of a stall's queues, at the stall that it moves to. -/
def movedFaults (ps x : Nat) (l : List PFault) : List PFault :=
  l.map (fun f => match f.who with
    | .inl (p, q) => if p = ps then { f with who := .inl (x, q) } else f
    | .inr _ => f)

/-- Step 2 of R544: the stall and its grooms are copied. -/
@[irreducible] def State.copyStall (s : State) (ps x : Nat) : State := (s.setStall x ((s.stall ps).movedTo (s.stall x) false)).moveGrooms ps x 16

/-- Step 3 of R544: stall `x` takes the LS and the place of `ps`. -/
@[irreducible] def State.takeLs (s : State) (ps x ls : Nat) : State :=
  { (((s.setStall ps {}).setLs ls x).setHealth ps .failed).setHealth x .active with pfaults := movedFaults ps x s.pfaults }

/-- Steps 2 to 4 of R544: the copy, the LS and the fences. -/
def State.handOver (s : State) (ps x ls : Nat) : State := (((s.copyStall ps x).takeLs ps x ls).fence ps false).unfence x

theorem State.copyStall_eq (s : State) (ps x : Nat) : ∃ m, s.copyStall ps x =
    { s with stalls := Map.set (fun _ => {}) s.stalls x ((s.stall ps).movedTo (s.stall x) false), grooms := m } := by
  obtain ⟨m, hm⟩ := State.moveGrooms_eq (s.setStall x ((s.stall ps).movedTo (s.stall x) false)) ps x 16
  refine ⟨m, ?_⟩
  rw [State.copyStall, hm]
  simp only [State.setStall]

theorem State.takeLs_eq (s : State) (ps x ls : Nat) : s.takeLs ps x ls =
    { s with
      stalls := Map.set (fun _ => {}) s.stalls ps {}, lsMap := Map.set lsDflt s.lsMap ls x,
      health := Map.set healthDflt (Map.set healthDflt s.health ps .failed) x .active, pfaults := movedFaults ps x s.pfaults } := by
  rw [State.takeLs]
  simp only [State.setStall, State.setLs, State.setHealth]

theorem State.handOver_eq (s : State) (ps x ls : Nat) : ∃ n m, s.handOver ps x ls =
    { s with
      stalls := Map.set (fun _ => {}) (Map.set (fun _ => {}) s.stalls x ((s.stall ps).movedTo (s.stall x) false)) ps {},
      lsMap := Map.set lsDflt s.lsMap ls x, health := Map.set healthDflt (Map.set healthDflt s.health ps .failed) x .active,
      pfaults := movedFaults ps x s.pfaults, nodes := n, grooms := m } := by
  obtain ⟨n, hn⟩ := State.fence_eq ((s.copyStall ps x).takeLs ps x ls) ps false
  obtain ⟨n', hn'⟩ := State.unfence_eq (s := ((s.copyStall ps x).takeLs ps x ls).fence ps false) x
  obtain ⟨m, hm⟩ := State.copyStall_eq s ps x
  exact ⟨n', m, by rw [State.handOver, hn', hn, State.takeLs_eq, hm]⟩

section
variable {ls : Nat}

theorem State.handOver_tack : (s.handOver ps x ls).tack = s.tack := by
  obtain ⟨n, m, h⟩ := State.handOver_eq s ps x ls
  rw [h]

theorem State.handOver_mem : (s.handOver ps x ls).mem = s.mem := by
  obtain ⟨n, m, h⟩ := State.handOver_eq s ps x ls
  rw [h]

theorem State.psOf_handOver (hwf : Map.wf lsDflt s.lsMap = true) : (s.handOver ps x ls).psOf ls = x := by
  obtain ⟨n, m, h⟩ := State.handOver_eq s ps x ls
  have hlsMap : (s.handOver ps x ls).lsMap = Map.set lsDflt s.lsMap ls x := by rw [h]
  rw [State.psOf, hlsMap, Map.get_set_self _ _ _ hwf]

variable (hx : x ≠ ps)
include hx

theorem State.healthOf_handOver (hwf : Map.wf healthDflt s.health = true) :
    (s.handOver ps x ls).healthOf ps = .failed ∧ (s.handOver ps x ls).healthOf x = .active := by
  obtain ⟨n, m, h⟩ := State.handOver_eq s ps x ls
  have hhealth : (s.handOver ps x ls).health = Map.set healthDflt (Map.set healthDflt s.health ps .failed) x .active := by rw [h]
  rw [State.healthOf, State.healthOf, hhealth, Map.get_set_of_ne _ _ _ hx.symm, Map.get_set_self _ _ _ hwf, Map.get_set_self _ _ _ (Map.wf_set _ _ _ hwf)]
  exact ⟨rfl, rfl⟩

theorem State.stall_handOver (hwf : Map.wf (fun _ => ({} : Stall)) s.stalls = true) :
    (s.handOver ps x ls).stall x = (s.stall ps).movedTo (s.stall x) false := by
  obtain ⟨n, m, h⟩ := State.handOver_eq s ps x ls
  have hstalls : (s.handOver ps x ls).stalls =
      Map.set (fun _ => {}) (Map.set (fun _ => {}) s.stalls x ((s.stall ps).movedTo (s.stall x) false)) ps {} := by rw [h]
  rw [State.stall, hstalls, Map.get_set_of_ne _ _ _ hx, Map.get_set_self _ _ _ hwf]

theorem State.groom_handOver (hwf : Map.wf (fun _ => ({} : Groom)) s.grooms = true) {g : Nat} (hg : g < 16) :
    (s.handOver ps x ls).groom (x * 16 + g) = s.groom (ps * 16 + g) := by
  obtain ⟨n, hn⟩ := State.fence_eq ((s.copyStall ps x).takeLs ps x ls) ps false
  obtain ⟨n', hn'⟩ := State.unfence_eq (s := ((s.copyStall ps x).takeLs ps x ls).fence ps false) x
  obtain ⟨-, harrived, -⟩ := State.groom_moveGrooms (s := s.setStall x ((s.stall ps).movedTo (s.stall x) false)) hwf hx 16 (Nat.le_refl 16)
  have hgrooms : (s.handOver ps x ls).grooms = (s.copyStall ps x).grooms := by rw [State.handOver, hn', hn, State.takeLs_eq]
  rw [State.groom, hgrooms, State.copyStall]
  exact harrived g hg

theorem State.fenced_handOver (h : netTidy s) {g : Nat} (hg : g < 16) :
    ((s.handOver ps x ls).node (ps * 16 + g)).fenced = true ∧ ((s.handOver ps x ls).node (x * 16 + g)).fenced = false := by
  obtain ⟨m, hm⟩ := State.copyStall_eq s ps x
  have htidy : netTidy ((s.copyStall ps x).takeLs ps x ls) := netTidy_congr (by rw [State.takeLs_eq, hm]) h
  obtain ⟨hclosed, hshut⟩ := State.fence_spec htidy ps false
  obtain ⟨-, hopen⟩ := State.unfence_spec hclosed x
  refine ⟨?_, hopen g hg⟩
  rw [State.handOver, State.node_unfence_of_ne _ hx hg, hshut g hg]

end

/-! ### The sparing of a stall -/

/-- A job once the grooms and queues of its stall, which were at rest, are held. -/
def SpareJob.held (j : SpareJob) : SpareJob := { j with started := true, paused := [], halted := [] }

theorem State.lsOf_congr {t : State} (h : t.lsMap = s.lsMap) (ps : Nat) : t.lsOf ps = s.lsOf ps := by
  simp only [State.lsOf, State.psOf, h]

theorem State.moveStall_eq {ls : Nat} (hls : s.lsOf j.ps = some ls) (hlong : j.long = none) : s.moveStall j.held x false =
    ((((s.handOver j.ps x ls).errorEvent
      { status := j.status, cls := 0, sev := 1, unit := 1, id := j.ps, action := 2, cycle := (s.handOver j.ps x ls).clk }).dropJob
        j.held).freezeStall j.ps false).kickAll x := by
  have hlsMap : (s.copyStall j.ps x).lsMap = s.lsMap := by
    obtain ⟨m, hm⟩ := State.copyStall_eq s j.ps x
    rw [hm]
  have hlsOf : ((s.copyStall j.ps x).setStall j.ps {}).lsOf j.ps = some ls := by rw [← hls, State.lsOf_congr ((State.setStall_lsMap ..).trans hlsMap)]
  obtain ⟨u, hu⟩ : ∃ u, u = s.copyStall j.ps x := ⟨_, rfl⟩
  rw [State.handOver, ← hu, State.takeLs]
  rw [← hu] at hlsOf
  rw [State.copyStall, State.moveGrooms] at hu
  simp only [State.moveStall, SpareJob.held, ← hu, hlsOf, hlong, State.jobResume, State.longEnd, List.foldl_nil]
  rfl

theorem State.sparedAs_freezeStall {t : State} (h : s.SparedAs t) (ps : Nat) (on : Bool) : s.SparedAs (t.freezeStall ps on) := by
  obtain ⟨m, hm⟩ := State.freezeStall_eq t ps on
  rw [hm]
  exact ⟨h.todo, h.needed, h.stalls, h.grooms, h.nodes, h.health, h.lsMap, h.mem⟩

/-- With no spare left the stall is given up: a notice, its locks abandoned, its job ended (R357, R545). -/
def State.giveUp (s : State) (j : SpareJob) : State :=
  let s := s.spareNeeded 1 j.ps 0
  let s := match s.lsOf j.ps with | some ls => s.abandonLs ls | none => s
  (s.dropJob j).freezeStall j.ps false

theorem State.giveUp_eq {i : SpareJob} (htodo : s.tack.todo = [i]) (hsame : i.same j = true) : ∃ e k l m a n, s.giveUp j =
    { s with sess := e, csr := k, stalls := l, arbs := m,
             tack := { s.tack with needed := s.tack.needed ++ [(1, j.ps, 0)], todo := [], agg := a, lost := n } } := by
  obtain ⟨u, hu⟩ : ∃ u, u = s.spareNeeded 1 j.ps 0 := ⟨_, rfl⟩
  obtain ⟨v, hv⟩ : ∃ v, v = match u.lsOf j.ps with | some ls => u.abandonLs ls | none => u := ⟨_, rfl⟩
  obtain ⟨e, k, a, n, hneeded⟩ : ∃ e k a n, u =
      { s with sess := e, csr := k, tack := { s.tack with needed := s.tack.needed ++ [(1, j.ps, 0)], agg := a, lost := n } } := by
    rw [hu]
    exact State.event_tack { s with tack := { s.tack with needed := s.tack.needed ++ [(1, j.ps, 0)] } } _
  obtain ⟨l, hlocks⟩ : ∃ l, v = { u with stalls := l } := by
    rw [hv]
    split
    · exact State.abandon_eq u _
    · exact ⟨_, rfl⟩
  obtain ⟨m, hfree⟩ := State.freezeStall_eq (v.dropJob j) j.ps false
  refine ⟨e, k, l, m, a, n, ?_⟩
  have hgive : s.giveUp j = (v.dropJob j).freezeStall j.ps false := by rw [hv, hu, State.giveUp]
  rw [hgive, hfree, State.dropJob_only (i := i) (by rw [hlocks, hneeded]; exact htodo) hsame, hlocks, hneeded]
  rfl

theorem State.giveUp_spec {i : SpareJob} (htodo : s.tack.todo = [i]) (hsame : i.same j = true) : (s.giveUp j).tack.todo = [] ∧
    (s.giveUp j).tack.needed = s.tack.needed ++ [(1, j.ps, 0)] ∧ (s.giveUp j).health = s.health ∧ (s.giveUp j).nodes = s.nodes := by
  obtain ⟨e, k, l, m, a, n, h⟩ := State.giveUp_eq htodo hsame
  rw [h]
  exact ⟨rfl, rfl, rfl, rfl⟩

section
variable (hrest : restsFor s ps j) (hstart : j.started = false) (hreqs : s.reqs = []) (hhalt : ∀ g, g < 16 → (s.groom (ps * 16 + g)).halted = true)
include hrest hstart hreqs hhalt

/-- Grooms and queues at rest are held at once, and the stall moves or is given up. -/
theorem State.stallSpare_eq (lost : Bool) : s.stallSpare j lost =
    (spareFor (fun k => decide (s.healthOf k = .spare)) ps).elim ((((s.freezeStall ps true).setHealth ps .failed).fence ps false).giveUp j.held)
      (fun x => (s.freezeStall ps true).moveStall j.held x lost) := by
  obtain ⟨-, rfl, hlong, hpaused, -, -, -, -, -, hidle⟩ := hrest
  obtain ⟨m, hfreeze⟩ := State.freezeStall_eq s j.ps true
  have hrunning : (List.range 16).filter (fun g => !(s.groom (j.ps * 16 + g)).halted) = [] :=
    List.filter_eq_nil_iff.mpr fun g hg => by simp [hhalt g (List.mem_range.mp hg)]
  have hqueue : ∀ q ∈ List.range 5, ((s.freezeStall j.ps true).queue j.ps q).state = .idle := fun q hq => by
    rw [State.queue_congr (by rw [hfreeze])]
    exact hidle q (List.mem_range.mp hq)
  have hquiet : (s.freezeStall j.ps true).stallQuiet j.ps = true := by
    rw [hfreeze, State.stallQuiet, hreqs]
    rfl
  have hpause := State.jobPause_idle (j := { j with halted := [] }) hpaused hqueue
  have hhealth (k : Nat) : (s.freezeStall j.ps true).healthOf k = s.healthOf k := by rw [State.healthOf, State.healthOf, hfreeze]
  have hfresh : ¬ j.started = true := by simp [hstart]
  simp only [State.stallSpare, hrunning, if_neg hfresh, List.foldl_nil, hpause, State.jobQuiet_idle hqueue, hquiet, ne_eq, not_true, Bool.not_true,
    Bool.false_eq_true, or_false, if_false, hhealth]
  cases spareFor (fun k => decide (s.healthOf k = .spare)) j.ps with
  | some x => rfl
  | none =>
    simp only [Option.elim_none, State.giveUp, SpareJob.held, hlong, State.longEnd] <;> rfl

end

end Sys2Proof.Machine
end

section
/-! SUPPORT. The clauses of live sparing: the commands find their job, and what a column, a bank, a self-test and a stall's move leave (R163, R541,
R543 to R545). -/

namespace Sys2Proof.Machine

open Sys2Proof.Claims (restsFor noneStarted)

variable {s : State} {ps : Nat} {j : SpareJob}

/-! ### The commands at a stall at rest -/

section
variable {b : Nat} (hrest : restsFor s ps j)
include hrest

/-- The commands do not wait for it. -/
theorem runs_of_rests : ¬ ((s.stall ps).pstate ≠ .run ∨ s.tack.takeover = true) := by
  obtain ⟨-, -, -, -, htakeover, hrun, -⟩ := hrest
  simp [htakeover, hrun]

theorem exec_columnSpare (hk : j.kind = 0) (hb : j.sub = b) : exec (.columnSpare ps b) s = .next (s.columnSpare j) := by
  simp only [exec, execColumnSpare, if_neg (runs_of_rests hrest), State.findJob_of_rests hrest hk hb]

theorem exec_bankSpare (hk : j.kind = 2) (hb : j.sub = b) : exec (.bankSpare ps b) s = .next (s.bankSpare j) := by
  simp only [exec, execBankSpare, if_neg (runs_of_rests hrest), State.findJob_of_rests hrest hk hb]

theorem exec_arraySelfTest (hk : j.kind = 3) (hb : j.sub = 0) (cols : List Nat) : exec (.arraySelfTest ps cols) s = .next (s.selfTest j cols) := by
  simp only [exec, execArraySelfTest, if_neg (runs_of_rests hrest), State.findJob_of_rests hrest hk hb]

theorem exec_stallSpareMove (hk : j.kind = 1) (hb : j.sub = 0) (hactive : s.healthOf ps = .active) (lost : Bool) :
    exec (.stallSpareMove ps lost) s = .next (s.stallSpare j lost) := by
  obtain ⟨-, -, -, -, htakeover, hrun, -⟩ := id hrest
  simp only [exec, execStallSpareMove, State.findJob_of_rests hrest hk hb, hactive, htakeover, hrun, ne_eq, not_true, Bool.false_eq_true, or_self, if_false]

end

/-- With no sparing decided the commands do nothing. -/
theorem exec_sparing_of_nil (h : s.tack.todo = []) (ps : Nat) : exec (.columnSpare ps 0) s = .next s ∧ exec (.bankSpare ps 0) s = .next s ∧
    exec (.arraySelfTest ps []) s = .next s ∧ exec (.stallSpareMove ps false) s = .next s := by
  simp only [exec, execColumnSpare, execBankSpare, execArraySelfTest, execStallSpareMove, State.findJob_of_nil h, ite_self, and_self]

/-! ### A stall's move -/

theorem Map.get_movedTo_arrMap {a b : Stall} (h : Map.wf (resetOf stallRegs) a.csr = true) (lost : Bool) :
    Map.get (resetOf stallRegs) (a.movedTo b lost).csr 0x1420 = Map.get (resetOf stallRegs) b.csr 0x1420 := Map.get_set_self _ _ _ h

theorem netTidy_of_canonical (h : Safety.Canonical s) : Claims.netTidy s := ⟨h.nodes, h.inNodes⟩

/-- A stall at rest starts nothing at the stall that it moves to. -/
theorem noneStarted_handOver {x ls : Nat} (hwf : Map.wf (fun _ => ({} : Stall)) s.stalls = true) (hx : x ≠ ps) (hnone : noneStarted s ps) :
    noneStarted (s.handOver ps x ls) x := fun q hq => by
  have hqueue : (s.handOver ps x ls).queue x q = s.queue ps q := by
    rw [State.queue, State.stall_handOver hx hwf]
    rfl
  rw [hqueue, hnone q hq]

section
variable (hrest : restsFor s ps j) (hstart : j.started = false) (hreqs : s.reqs = []) (hhalt : ∀ g, g < 16 → (s.groom (ps * 16 + g)).halted = true)
include hrest hstart hreqs hhalt

/-- The stall moves whole: the arbiters' held places apart, it is handed over and the sparing is done. -/
theorem State.stallSpare_moves (h : Safety.Canonical s) {x ls : Nat} (hfree : spareFor (fun k => decide (s.healthOf k = .spare)) ps = some x)
    (hls : s.lsOf ps = some ls) (hx : x ≠ ps) : ∃ m, (({ s with arbs := m } : State).handOver ps x ls).SparedAs (s.stallSpare j false) := by
  obtain ⟨m, hm⟩ := State.freezeStall_eq s ps true
  refine ⟨m, ?_⟩
  rw [State.stallSpare_eq hrest hstart hreqs hhalt, hfree, Option.elim_some, hm]
  obtain ⟨htodo, rfl, hlong, -, -, -, hnone, -⟩ := hrest
  rw [State.moveStall_eq (s := { s with arbs := m }) hls hlong]
  have hdone := State.sparedAs_errorEvent (s := ({ s with arbs := m } : State).handOver j.ps x ls) (j := j.held) (i := j)
    ((congrArg Tack.todo State.handOver_tack).trans htodo) (SpareJob.same_of_eq rfl rfl rfl)
    { status := j.status, cls := 0, sev := 1, unit := 1, id := j.ps, action := 2, cycle := (({ s with arbs := m } : State).handOver j.ps x ls).clk }
  exact State.sparedAs_kickAll (State.sparedAs_freezeStall hdone _ _) (noneStarted_handOver (s := { s with arbs := m }) h.stalls hx hnone)

/-- What a stall's move leaves (R544). -/
theorem stallSpareMove_moves (h : Safety.Canonical s) (hk : j.kind = 1) (hb : j.sub = 0) (hactive : s.healthOf ps = .active) {x ls : Nat}
    (hfree : spareFor (fun k => decide (s.healthOf k = .spare)) ps = some x) (hls : s.lsOf ps = some ls) (hx : x ≠ ps) :
    ∃ t, exec (.stallSpareMove ps false) s = .next t ∧ t.tack.todo = [] ∧ t.healthOf ps = .failed ∧ t.healthOf x = .active ∧ t.psOf ls = x ∧
      t.stall x = (s.stall ps).movedTo (s.stall x) false ∧ (∀ g, g < 16 → t.groom (x * 16 + g) = s.groom (ps * 16 + g) ∧
        (t.node (ps * 16 + g)).fenced = true ∧ (t.node (x * 16 + g)).fenced = false) ∧ t.mem = s.mem := by
  obtain ⟨m, hdone⟩ := State.stallSpare_moves hrest hstart hreqs hhalt h hfree hls hx
  obtain ⟨hfailed, hserves⟩ := State.healthOf_handOver (s := { s with arbs := m }) (ls := ls) hx h.health
  have htidy : Claims.netTidy { s with arbs := m } := netTidy_congr (s := s) rfl (netTidy_of_canonical h)
  refine ⟨_, exec_stallSpareMove hrest hk hb hactive false, hdone.todo, ?_, ?_, ?_, ?_, fun g hg => ⟨?_, ?_, ?_⟩, ?_⟩
  · rw [State.healthOf, hdone.health]
    exact hfailed
  · rw [State.healthOf, hdone.health]
    exact hserves
  · rw [State.psOf, hdone.lsMap]
    exact State.psOf_handOver (s := { s with arbs := m }) h.lsMap
  · rw [State.stall, hdone.stalls]
    exact State.stall_handOver (s := { s with arbs := m }) hx h.stalls
  · rw [State.groom, hdone.grooms]
    exact State.groom_handOver (s := { s with arbs := m }) hx h.grooms hg
  · rw [State.node, hdone.nodes]
    exact (State.fenced_handOver (s := { s with arbs := m }) hx htidy hg).1
  · rw [State.node, hdone.nodes]
    exact (State.fenced_handOver (s := { s with arbs := m }) hx htidy hg).2
  · rw [hdone.mem]
    exact State.handOver_mem

/-- A stall with no spare left is FAILED and stays fenced, and the host is told (R545). -/
theorem stallSpareMove_gives_up (h : Safety.Canonical s) (hk : j.kind = 1) (hb : j.sub = 0) (hactive : s.healthOf ps = .active)
    (hfree : spareFor (fun k => decide (s.healthOf k = .spare)) ps = none) :
    ∃ t, exec (.stallSpareMove ps false) s = .next t ∧ t.tack.todo = [] ∧ t.healthOf ps = .failed ∧ t.tack.needed = s.tack.needed ++ [(1, ps, 0)] ∧
      ∀ g, g < 16 → (t.node (ps * 16 + g)).fenced = true := by
  obtain ⟨m, hfreeze⟩ := State.freezeStall_eq s ps true
  obtain ⟨u, hu⟩ : ∃ u, u = ({ s with arbs := m } : State).setHealth ps .failed := ⟨_, rfl⟩
  obtain ⟨v, hv⟩ : ∃ v, v = u.fence ps false := ⟨_, rfl⟩
  have hhealth : u.health = Map.set healthDflt s.health ps .failed := by rw [hu, State.setHealth]
  have htack : u.tack = s.tack := by rw [hu, State.setHealth]
  have hnodes : u.nodes = s.nodes := by rw [hu, State.setHealth]
  obtain ⟨-, hshut⟩ := State.fence_spec (netTidy_congr hnodes (netTidy_of_canonical h)) ps false
  obtain ⟨n, hfence⟩ := State.fence_eq u ps false
  rw [← hv] at hshut hfence
  have hrun : s.stallSpare j false = v.giveUp j.held := by
    rw [State.stallSpare_eq hrest hstart hreqs hhalt, hfree, Option.elim_none, hfreeze, ← hu, ← hv]
  have hexec := exec_stallSpareMove hrest hk hb hactive false
  obtain ⟨htodo, rfl, -⟩ := hrest
  have hvtack : v.tack = s.tack := by rw [hfence, ← htack]
  have hvhealth : v.health = u.health := by rw [hfence]
  obtain ⟨hdone, htold, hkept, hclosed⟩ := State.giveUp_spec (s := v) (j := j.held) (i := j) (by rw [hvtack, htodo]) (SpareJob.same_of_eq rfl rfl rfl)
  refine ⟨_, hexec, ?_⟩
  rw [hrun]
  refine ⟨hdone, ?_, ?_, fun g hg => ?_⟩
  · rw [State.healthOf, hkept, hvhealth, hhealth, Map.get_set_self _ _ _ h.health]
  · rw [htold, hvtack]
    rfl
  · rw [State.node, hclosed]
    exact hshut g hg

end

/-! ### Columns and banks -/

section
variable (h : Safety.Canonical s) (hrest : restsFor s ps j)
include h hrest

/-- A column spared: its map reads as it was written, and memory stays. -/
theorem columnSpare_spares (hk : j.kind = 0) {col : Nat} (hb : j.sub = col) (hby : bypassed (s.scsr ps 0x1420) col = false)
    (hleft : colsLeft (s.scsr ps 0x1420) ≠ 0) : ∃ t, exec (.columnSpare ps col) s = .next t ∧ t.tack.todo = [] ∧
      t.scsr ps 0x1420 = spareColumn (s.scsr ps 0x1420) col ∧ t.mem = s.mem := by
  subst hb
  have hdone := State.columnSpare_spares h.stalls hrest hby hleft
  refine ⟨_, exec_columnSpare hrest hk rfl, hdone.todo, ?_, hdone.mem⟩
  rw [State.scsr, State.stall_congr hdone.stalls]
  exact State.scsr_setScsr_self h _ _

theorem bankSpare_spares (hk : j.kind = 2) {b : Nat} (hb : j.sub = b) (hbank : (s.stall ps).bank = none) : ∃ t, exec (.bankSpare ps b) s = .next t ∧
    t.tack.todo = [] ∧ t.stall ps = { s.stall ps with bank := some b } := by
  subst hb
  have hdone := State.bankSpare_spares h.stalls hrest hbank
  refine ⟨_, exec_bankSpare hrest hk rfl, hdone.todo, ?_⟩
  rw [State.stall_congr hdone.stalls, State.modStall, State.stall_setStall_self h.stalls]

end

end Sys2Proof.Machine
end

section
/-! SUPPORT. Ageing: a monitor's entry, what a sample and a prediction do to it, and what a prediction below WARN_DAYS leaves (R547, R548). -/

namespace Sys2Proof.Machine

variable {s t u : State}

/-! ### A monitor's entry -/

theorem Tack.ageOf_mon (t : Tack) (m : Monitor) : (t.ageOf m).mon = m := by
  rw [Tack.ageOf]
  cases h : t.age.find? (fun u => decide (u.mon = m)) with
  | none => rfl
  | some u => simpa using List.find?_some h

/-- An entry that is listed is replaced where it stands. -/
theorem find?_replaceAge (u : AgeUnit) : ∀ l : List AgeUnit, l.any (fun x => decide (x.mon = u.mon)) = true →
    (l.map (fun x => if x.mon = u.mon then u else x)).find? (fun x => decide (x.mon = u.mon)) = some u
  | [], h => absurd h Bool.false_ne_true
  | x :: l, h => by
    by_cases hx : x.mon = u.mon
    · simp [hx]
    · have hl : l.any (fun x => decide (x.mon = u.mon)) = true := by simpa [hx] using h
      simpa [hx] using find?_replaceAge u l hl

theorem Tack.ageOf_setAge (t : Tack) {u : AgeUnit} {m : Monitor} (hu : u.mon = m) : (t.setAge u).ageOf m = u := by
  subst hu
  rw [Tack.setAge]
  split_ifs with h
  · rw [Tack.ageOf, find?_replaceAge u t.age h, Option.getD_some]
  · have hnone : t.age.find? (fun x => decide (x.mon = u.mon)) = none := List.find?_eq_none.mpr fun x hx hxu => h (List.any_eq_true.mpr ⟨x, hx, hxu⟩)
    rw [Tack.ageOf, List.find?_append, hnone, Option.none_or, List.find?_singleton, if_pos (decide_eq_true rfl), Option.getD_some]

theorem Tack.setAge_needed (t : Tack) (u : AgeUnit) : (t.setAge u).needed = t.needed := by
  rw [Tack.setAge]
  split_ifs <;> rfl

theorem AgeUnit.sample_mon (u : AgeUnit) (v w : Nat) : (u.sample v w).mon = u.mon := by
  rw [AgeUnit.sample]
  split_ifs <;> rfl

/-- The 24th sample of a day makes its mean. -/
theorem AgeUnit.sample_day (u : AgeUnit) (v w : Nat) (h : 23 ≤ u.cnt) :
    (u.sample v w).cnt = 0 ∧ ∃ age, (u.sample v w).means = ((age, u.sum + v) :: u.means).take 90 := by
  rw [AgeUnit.sample, if_neg (Nat.not_lt.mpr h)]
  exact ⟨rfl, _, rfl⟩

/-! ### The prediction -/

theorem AgeUnit.predict_le (u : AgeUnit) (b : Bool) : u.predict b ≤ 0xFFFF := by
  unfold AgeUnit.predict
  dsimp only
  split
  · cases b <;> decide
  · generalize (b || _) = atLimit
    split_ifs
    · exact Nat.zero_le _
    · exact Nat.le_refl _
    · exact Nat.le_refl _
    · exact Nat.zero_le _
    · exact Nat.min_le_left _ _

theorem AgeUnit.predict_limit (u : AgeUnit) : u.predict true = 0 := by
  unfold AgeUnit.predict
  dsimp only
  split
  · rfl
  · rw [Bool.true_or, if_pos rfl]

theorem AgeUnit.predict_fresh {u : AgeUnit} (h : u.means = []) : u.predict false = 0xFFFF := by
  unfold AgeUnit.predict
  rw [h]
  rfl

/-! ### What a notice and a sparing leave -/

/-- Memory, the monitors' entries and the notices given are those of `s`. -/
structure State.AgeKept (s t : State) : Prop where
  mem : t.mem = s.mem
  age : t.tack.age = s.tack.age
  needed : t.tack.needed = s.tack.needed

theorem State.AgeKept.trans (h : s.AgeKept t) (h' : t.AgeKept u) : s.AgeKept u :=
  ⟨h'.mem.trans h.mem, h'.age.trans h.age, h'.needed.trans h.needed⟩

theorem State.ageKept_setPort (s : State) (p : Nat) (x : Port) : s.AgeKept (s.setPort p x) := ⟨rfl, rfl, rfl⟩

theorem State.ageKept_linkErr (s : State) (p : Nat) (v : Word) : s.AgeKept (s.linkErr p v) := ⟨rfl, rfl, rfl⟩

theorem State.ageKept_reply (s : State) (n : Nat) (p : Packet) (st : Status) : s.AgeKept (s.reply n p st) := ⟨rfl, rfl, rfl⟩

theorem State.ageKept_startMig (s : State) (n a b : Nat) : s.AgeKept (s.startMig n a b) := ⟨rfl, rfl, rfl⟩

theorem State.ageKept_report (s : State) (r : ErrRec) : s.AgeKept (s.report r) := by
  obtain ⟨a, n, h⟩ := s.report_tack r
  rw [h]
  exact ⟨rfl, rfl, rfl⟩

theorem State.ageKept_dropReplay (s : State) (p : Nat) : s.AgeKept (s.dropReplay p) := by
  refine State.AgeKept.trans ?_ (State.ageKept_setPort _ _ _)
  refine List.foldlRecOn (motive := s.AgeKept) _ _ ⟨rfl, rfl, rfl⟩ fun t ht e _ => ht.trans ?_
  split_ifs
  · exact State.ageKept_reply _ _ _ _
  · exact ⟨rfl, rfl, rfl⟩

theorem State.ageKept_laneFail (s : State) (p l : Nat) : s.AgeKept (s.laneFail p l) := by
  have hreport (x : Port) (r : ErrRec) : s.AgeKept ((s.setPort p x).report r) := (s.ageKept_setPort p x).trans (State.ageKept_report _ r)
  unfold State.laneFail
  dsimp only
  generalize (if (s.port p).inUse.contains l = true then 2 else 1) = act
  split_ifs
  · exact ⟨rfl, rfl, rfl⟩
  · exact hreport _ _
  · exact ((hreport _ _).trans (State.ageKept_setPort _ _ _)).trans (State.ageKept_linkErr _ _ _)
  · exact ((hreport _ _).trans (State.ageKept_setPort _ _ _)).trans (State.ageKept_linkErr _ _ _)
  · exact ((hreport _ _).trans (State.ageKept_setPort _ _ _)).trans (State.ageKept_dropReplay _ _)

/-- A notice adds itself to those given. -/
theorem State.spareNeeded_spec (s : State) (unit id days : Nat) : (s.spareNeeded unit id days).mem = s.mem ∧
    (s.spareNeeded unit id days).tack.age = s.tack.age ∧ (s.spareNeeded unit id days).tack.needed = s.tack.needed ++ [(unit, id, days)] := by
  obtain ⟨m, k, a, n, h⟩ : ∃ m k a n, s.spareNeeded unit id days =
      { s with sess := m, csr := k, tack := { s.tack with needed := s.tack.needed ++ [(unit, id, days)], agg := a, lost := n } } :=
    State.event_tack { s with tack := { s.tack with needed := s.tack.needed ++ [(unit, id, days)] } } _
  rw [h]
  exact ⟨rfl, rfl, rfl⟩

/-! ### AGE_PREDICT -/

/-- In hardware mode a channel or a lane that ages is spared (R548). -/
def State.ageSpare (s : State) (m : Monitor) : State :=
  if s.hostMode 5 || s.hostMode 6 then s
  else
    match m with
    | .dram ch =>
      match s.spareChan (ch / 34) with
      | some t => if (s.chan ch).state = 0 then s.startMig (ch / 34) (ch % 34) t else s
      | none => s
    | .eye p l => if (s.port p).state = .up ∧ !(s.port p).spareUsed then s.laneFail p l else s
    | _ => s

theorem State.ageKept_ageSpare (s : State) (m : Monitor) : s.AgeKept (s.ageSpare m) := by
  unfold State.ageSpare
  split_ifs
  · exact ⟨rfl, rfl, rfl⟩
  cases m with
  | dram ch =>
    dsimp only
    split
    · split_ifs
      · exact State.ageKept_startMig ..
      · exact ⟨rfl, rfl, rfl⟩
    · exact ⟨rfl, rfl, rfl⟩
  | eye p l =>
    dsimp only
    split_ifs
    · exact State.ageKept_laneFail ..
    · exact ⟨rfl, rfl, rfl⟩
  | ring y => exact ⟨rfl, rfl, rfl⟩
  | hostEye p => exact ⟨rfl, rfl, rfl⟩
  | nand ch => exact ⟨rfl, rfl, rfl⟩
  | cap => exact ⟨rfl, rfl, rfl⟩

/-- A prediction is kept in the monitor's entry; below WARN_DAYS it gives a notice. -/
theorem State.agePredict_eq (s : State) (m : Monitor) : s.agePredict m =
    (let u := s.tack.ageOf m
     let d := u.predict (s.ageLimit m)
     let t := s.modTack (fun t => t.setAge { u with days := d, margin := u.marginOf })
     if fld (s.dcsr 0x48) 15 0 ≤ d then t else (t.spareNeeded m.unitOf.1 m.unitOf.2.1 d).ageSpare m) := by
  cases m <;> rfl

theorem State.agePredict_spec (s : State) (m : Monitor) :
    let d := (s.tack.ageOf m).predict (s.ageLimit m)
    (s.agePredict m).mem = s.mem ∧ ((s.agePredict m).tack.ageOf m).days = d ∧ (s.agePredict m).tack.needed =
      if fld (s.dcsr 0x48) 15 0 ≤ d then s.tack.needed else s.tack.needed ++ [(m.unitOf.1, m.unitOf.2.1, d)] := by
  intro d
  obtain ⟨u, hu⟩ : ∃ u : AgeUnit, u = { s.tack.ageOf m with days := d, margin := (s.tack.ageOf m).marginOf } := ⟨_, rfl⟩
  obtain ⟨t, ht⟩ : ∃ t, t = s.modTack (fun t => t.setAge u) := ⟨_, rfl⟩
  have hmem : t.mem = s.mem := by rw [ht, State.modTack]
  have htack : t.tack = s.tack.setAge u := by rw [ht, State.modTack]
  have hdays : (t.tack.ageOf m).days = d := by rw [htack, Tack.ageOf_setAge _ (by rw [hu]; exact Tack.ageOf_mon _ _), hu]
  have hneeded : t.tack.needed = s.tack.needed := by rw [htack, Tack.setAge_needed]
  have heq : s.agePredict m = if fld (s.dcsr 0x48) 15 0 ≤ d then t else (t.spareNeeded m.unitOf.1 m.unitOf.2.1 d).ageSpare m := by
    rw [State.agePredict_eq, ht, hu]
  rw [heq]
  split_ifs
  · exact ⟨hmem, hdays, hneeded⟩
  · obtain ⟨hkmem, hkage, hkneeded⟩ := (t.spareNeeded m.unitOf.1 m.unitOf.2.1 d).ageKept_ageSpare m
    obtain ⟨hnmem, hnage, hnneeded⟩ := t.spareNeeded_spec m.unitOf.1 m.unitOf.2.1 d
    refine ⟨by rw [hkmem, hnmem, hmem], ?_, by rw [hkneeded, hnneeded, hneeded]⟩
    rw [Tack.ageOf, hkage, hnage]
    exact hdays

/-! ### The clauses -/

theorem exec_ageSample (s : State) (m : Monitor) (v : Nat) : ∃ t, exec (.ageSample m v) s = .next t ∧ t.mem = s.mem ∧ t.stalls = s.stalls ∧
    t.tack.ageOf m = (s.tack.ageOf m).sample v s.pwr.degradedMs :=
  ⟨_, rfl, rfl, rfl, Tack.ageOf_setAge _ ((AgeUnit.sample_mon ..).trans (Tack.ageOf_mon ..))⟩

end Sys2Proof.Machine
end

section
/-! OBLIGATIONS. Live sparing and ageing (O52). -/

namespace Sys2Proof.Machine

open Sys2Proof.Claims (restsFor noneStarted)

variable {s : State} {ps : Nat} {j : SpareJob}

/-- The column clause: the first repair column that is free takes it, and with none free the stall is to be moved. -/
theorem columnSpare_clause (h : Safety.Canonical s) (col : Nat) (hcol : col < 514) (hk : j.kind = 0) (hb : j.sub = col) (hrest : restsFor s ps j) :
    let m := s.scsr ps 0x1420
    bypassed m col = false →
    (bit m 10 = false → ∃ t, exec (.columnSpare ps col) s = .next t ∧ t.tack.todo = [] ∧ bit (t.scsr ps 0x1420) 10 = true ∧
      fld (t.scsr ps 0x1420) 9 0 = col ∧ fld (t.scsr ps 0x1420) 63 11 = fld m 63 11 ∧ t.mem = s.mem) ∧
    (bit m 10 = true → bit m 26 = false → fld m 25 16 = 0 → ∃ t, exec (.columnSpare ps col) s = .next t ∧ t.tack.todo = [] ∧
      bit (t.scsr ps 0x1420) 26 = true ∧ fld (t.scsr ps 0x1420) 25 16 = col ∧ fld (t.scsr ps 0x1420) 10 0 = fld m 10 0) ∧
    (bit m 10 = true → bit m 26 = true → ∃ t, exec (.columnSpare ps col) s = .next t ∧
      t.tack.todo = [{ j with kind := 1, sub := 0, started := false }] ∧ t.stalls = s.stalls) := by
  intro m hby
  refine ⟨fun hfirst => ?_, fun hfirst hsecond hzero => ?_, fun hfirst hsecond => ?_⟩
  · obtain ⟨t, hexec, hdone, hmap, hmem⟩ := columnSpare_spares h hrest hk hb hby (colsLeft_ne_zero (.inl hfirst))
    obtain ⟨hset, hspared, hkept⟩ := spareColumn_first hcol hfirst
    exact ⟨t, hexec, hdone, by rw [hmap]; exact hset, by rw [hmap]; exact hspared, by rw [hmap]; exact hkept, hmem⟩
  · obtain ⟨t, hexec, hdone, hmap, -⟩ := columnSpare_spares h hrest hk hb hby (colsLeft_ne_zero (.inr hsecond))
    obtain ⟨hset, hspared, hkept⟩ := spareColumn_second hcol hfirst hzero
    exact ⟨t, hexec, hdone, by rw [hmap]; exact hset, by rw [hmap]; exact hspared, by rw [hmap]; exact hkept⟩
  · have hleft : colsLeft m = 0 := by simp [colsLeft, hfirst, hsecond, b2n]
    refine ⟨_, exec_columnSpare hrest hk hb, ?_⟩
    rw [State.columnSpare_none hrest (by rw [hb]; exact hby) hleft, State.modTack]
    exact ⟨rfl, rfl⟩

theorem bankSpare_clause (h : Safety.Canonical s) (b : Nat) (hk : j.kind = 2) (hb : j.sub = b) (hrest : restsFor s ps j) :
    ((s.stall ps).bank = none → ∃ t, exec (.bankSpare ps b) s = .next t ∧ t.tack.todo = [] ∧ (t.stall ps).bank = some b ∧
      (t.stall ps).tregs = (s.stall ps).tregs) ∧
    (∀ k, (s.stall ps).bank = some k → k ≠ b → ∃ t, exec (.bankSpare ps b) s = .next t ∧
      t.tack.todo = [{ j with kind := 1, sub := 0, started := false }]) := by
  refine ⟨fun hbank => ?_, fun k hbank hne => ⟨_, exec_bankSpare hrest hk hb, ?_⟩⟩
  · obtain ⟨t, hexec, hdone, hstall⟩ := bankSpare_spares h hrest hk hb hbank
    exact ⟨t, hexec, hdone, by rw [hstall], by rw [hstall]⟩
  · rw [State.bankSpare_none hrest hbank (by rw [hb]; exact hne), State.modTack]

theorem selfTest_clause (hk : j.kind = 3) (hb : j.sub = 0) (hrest : restsFor s ps j) :
    (∀ c, c < 514 → colsLeft (s.scsr ps 0x1420) ≠ 0 → ∃ t, exec (.arraySelfTest ps [c]) s = .next t ∧
      t.tack.todo = [{ kind := 0, ps := ps, sub := c, status := j.status }]) ∧
    (∃ t, exec (.arraySelfTest ps []) s = .next t ∧ ∃ k, t.tack.todo = [k] ∧ k.kind = 1 ∧ k.ps = ps ∧ k.sub = 0) := by
  refine ⟨fun c hc hleft => ⟨_, exec_arraySelfTest hrest hk hb [c], State.selfTest_one hrest hc hleft⟩,
    _, exec_arraySelfTest hrest hk hb [], _, State.selfTest_nil hrest, rfl, ?_, rfl⟩
  obtain ⟨-, hps, -⟩ := hrest
  exact hps

/-- A sample counts within the day, and the 24th ends it. -/
theorem ageSample_clause (s : State) (m : Monitor) (v : Nat) :
    let u := s.tack.ageOf m
    ∃ t, exec (.ageSample m v) s = .next t ∧ t.mem = s.mem ∧ t.stalls = s.stalls ∧
      (u.cnt < 23 → t.tack.ageOf m = { u with cnt := u.cnt + 1, sum := u.sum + v }) ∧
      (23 ≤ u.cnt → (t.tack.ageOf m).cnt = 0 ∧ ∃ age, (t.tack.ageOf m).means = ((age, u.sum + v) :: u.means).take 90) := by
  obtain ⟨t, hexec, hmem, hstalls, hage⟩ := exec_ageSample s m v
  refine ⟨t, hexec, hmem, hstalls, fun hday => ?_, fun hday => ?_⟩
  · rw [hage, AgeUnit.sample, if_pos hday]
  · rw [hage]
    exact AgeUnit.sample_day _ v _ hday

theorem agePredict_clause (s : State) (m : Monitor) :
    let u := s.tack.ageOf m
    let d := u.predict (s.ageLimit m)
    ∃ t, exec (.agePredict m) s = .next t ∧ t.mem = s.mem ∧ (t.tack.ageOf m).days = d ∧ d ≤ 0xFFFF ∧
      (s.ageLimit m = true → d = 0) ∧ (u.means = [] → s.ageLimit m = false → d = 0xFFFF) ∧
      (fld (s.dcsr 0x48) 15 0 ≤ d → t.tack.needed = s.tack.needed) ∧
      (d < fld (s.dcsr 0x48) 15 0 → t.tack.needed = s.tack.needed ++ [(m.unitOf.1, m.unitOf.2.1, d)]) := by
  intro u d
  obtain ⟨hmem, hdays, hneeded⟩ := s.agePredict_spec m
  refine ⟨s.agePredict m, rfl, hmem, hdays, u.predict_le _, fun hlim => ?_, fun hmeans hlim => ?_, fun hwarn => ?_, fun hwarn => ?_⟩
  · exact (congrArg u.predict hlim).trans u.predict_limit
  · exact (congrArg u.predict hlim).trans (AgeUnit.predict_fresh hmeans)
  · rw [hneeded, if_pos hwarn]
  · rw [hneeded, if_neg (Nat.not_le.mpr hwarn)]

/-- Settles O52: at a stall at rest each command of sparing runs to its end at once; a move hands the stall over field by field, and ageing keeps a
monitor's entry, memory and the notices apart from what a sparing changes. -/
theorem sparingAndAgeing : Obligations.SparingAndAgeing := by
  unfold Obligations.SparingAndAgeing
  intro s ps j h
  refine ⟨columnSpare_clause h, bankSpare_clause h, selfTest_clause,
    fun hk hb hstart hrest hactive hreqs hhalt => ⟨fun x ls hfree hls hx _ => ?_, fun hfree => ?_⟩,
    fun hnil => exec_sparing_of_nil hnil ps, ageSample_clause s, agePredict_clause s⟩
  · obtain ⟨t, hexec, hdone, hfailed, hserves, hls', hstall, hgroom, hmem⟩ :=
      stallSpareMove_moves hrest hstart hreqs hhalt h hk hb hactive hfree hls hx
    refine ⟨t, hexec, hdone, hfailed, hserves, hls', ?_, ?_, ?_, ?_, fun g hg => ?_, hmem⟩
    · rw [hstall]; rfl
    · rw [hstall]; rfl
    · rw [hstall]; rfl
    · rw [State.scsr, hstall]
      exact Map.get_movedTo_arrMap (wf_stallCsr h ps) false
    · obtain ⟨hmoved, hshut, hopen⟩ := hgroom g hg
      rw [hmoved]
      exact ⟨rfl, rfl, rfl, hshut, hopen⟩
  · exact stallSpareMove_gives_up hrest hstart hreqs hhalt h hk hb hactive hfree

end Sys2Proof.Machine
end

section
/-! SUPPORT. The array takes its commands: what its operations leave of the stall, and what each of the four commands puts in flight (R176, R182, R183,
R187, R192 to R196). -/

namespace Sys2Proof.Machine

open Sys2Proof.Claims (arrayAt arrayAccepts inFlight accRow noneStarted)

variable {s t : State} {ps : Nat}

/-! ### What the array changes of its stall -/

/-- At stall `ps`, `t` is `s` but for stall registers and the array, which is `a`; main memory is the same. -/
def State.arrayAs (s : State) (ps : Nat) (a : Arr) (t : State) : Prop :=
  t.mem = s.mem ∧ ∃ m, t.stall ps = { s.stall ps with csr := m, arr := a }

theorem State.arrayAs_refl (s : State) (ps : Nat) : s.arrayAs ps (s.stall ps).arr s := ⟨rfl, _, rfl⟩

theorem State.queues_of_arrayAs {a : Arr} (h : s.arrayAs ps a t) : (t.stall ps).queues = (s.stall ps).queues := by
  obtain ⟨-, m, hm⟩ := h
  rw [hm]

theorem State.queue_of_arrayAs {a : Arr} (h : s.arrayAs ps a t) (q : Nat) : t.queue ps q = s.queue ps q := by
  rw [State.queue, Stall.queue, State.queues_of_arrayAs h]
  rfl

theorem State.arr_of_arrayAs {a : Arr} (h : s.arrayAs ps a t) : (t.stall ps).arr = a := by
  obtain ⟨-, m, hm⟩ := h
  rw [hm]

section
variable {a : Arr} (hq : (s.stall ps).queues ≠ []) (h : s.arrayAs ps a t)
include hq h

theorem State.arrayAs_modArr (f : Arr → Arr) : s.arrayAs ps (f a) (t.modArr ps f) := by
  have hset := State.stall_modStall (s := t) (ps := ps) (f := fun st => { st with arr := f st.arr }) (by rwa [← State.queues_of_arrayAs h] at hq)
  obtain ⟨hmem, m, hm⟩ := h
  refine ⟨hmem, m, ?_⟩
  rw [State.modArr, hset, hm]

theorem State.arrayAs_setScsr (o : Nat) (v : Word) : s.arrayAs ps a (t.setScsr ps o v) := by
  have hset := State.stall_setScsr (s := t) (ps := ps) (by rwa [← State.queues_of_arrayAs h] at hq) o v
  obtain ⟨hmem, m, hm⟩ := h
  exact ⟨hmem, Map.set (resetOf stallRegs) (t.stall ps).csr o v, by rw [hset, hm]⟩

theorem State.arrayAs_bumpStall (o n : Nat) : s.arrayAs ps a (t.bumpStall ps o n) := by
  unfold State.bumpStall
  split_ifs
  · exact h
  · exact State.arrayAs_setScsr hq h _ _

/-- The rows fed count as wasted (R257). -/
theorem State.arrayAs_reclass (pr : Priv) : s.arrayAs ps { a with fed := [] } (t.reclass ps pr) := by
  have hperf := State.countedAt_perf (s := t) (ps := ps) (by rwa [← State.queues_of_arrayAs h] at hq) 0x04 (some pr) none none (t.stall ps).arr.undrained
  refine State.arrayAs_modArr hq (a := a) ?_ _
  obtain ⟨hmem, m, hm⟩ := h
  obtain ⟨m', hm', -⟩ := hperf
  exact ⟨(State.perf_mem ..).trans hmem, m', by rw [hm', hm]⟩

/-- A command is in flight behind the earlier ones, with its flags and its read post (R182, R187). -/
theorem State.arrayAs_arrLaunch (c : ArrCmd) (post : Option Nat) (flags : Nat) :
    s.arrayAs ps { a with inflight := a.inflight ++ [c] } (t.arrLaunch ps c post flags) := by
  have hflags : s.arrayAs ps a (if flags = 0 then t else t.orStall ps 0x1500 (BitVec.ofNat 64 flags)) := by
    split_ifs
    · exact h
    · exact State.arrayAs_setScsr hq h _ _
  cases post with
  | none => exact State.arrayAs_modArr hq hflags _
  | some e => exact State.arrayAs_modArr hq (State.arrayAs_setScsr hq hflags _ _) _

end

/-! ### The four commands (R183, R192 to R196) -/

theorem State.inflight_runFold (s : State) (ps : Nat) (z : ArrOp) (cols : List (List Nat)) (x : FoldRun) (nb mb : Nat) :
    (s.runFold ps z cols x nb mb).arr.inflight = x.arr.inflight := rfl

theorem State.inflight_runFolds (s : State) (ps : Nat) (z : ArrOp) (cols : List (List Nat)) : ∀ (l : List (Nat × Nat)) (x : FoldRun),
    (l.foldl (fun x f => s.runFold ps z cols x f.1 f.2) x).arr.inflight = x.arr.inflight
  | [], _ => rfl
  | f :: l, x => (State.inflight_runFolds s ps z cols l _).trans (s.inflight_runFold ps z cols x f.1 f.2)

theorem length_columns (rows : List (List Nat)) (k n : Nat) : (columns rows k n).length = n := by
  rw [columns, List.length_map, List.length_range]

section
variable (hq : (s.stall ps).queues ≠ []) (c : ArrCmd) (z : ArrOp)
include hq

theorem State.runMma_arrayAs : ∃ a c', s.arrayAs ps a (s.runMma ps c z) ∧ a.inflight = (s.stall ps).arr.inflight ++ [c'] ∧
    (c'.op = c.op ∧ c'.idx = c.idx ∧ c'.lst = c.lst) := by
  obtain ⟨u, hu⟩ : ∃ u, u = if z.acc then s else s.reclass ps c.lst.priv := ⟨_, rfl⟩
  obtain ⟨b, hb, hfly⟩ : ∃ b, s.arrayAs ps b u ∧ b.inflight = (s.stall ps).arr.inflight := by
    subst hu
    split_ifs
    · exact ⟨_, s.arrayAs_refl ps, rfl⟩
    · exact ⟨_, State.arrayAs_reclass hq (s.arrayAs_refl ps) _, rfl⟩
  rw [State.runMma]
  dsimp only
  rw [← hu]
  exact ⟨_, _, State.arrayAs_arrLaunch hq (State.arrayAs_bumpStall hq (State.arrayAs_modArr hq hb _) _ _) _ _ _,
    congrArg (· ++ [_]) ((State.inflight_runFolds ..).trans ((congrArg Arr.inflight (State.arr_of_arrayAs hb)).trans hfly)), ⟨rfl, rfl, rfl⟩⟩

theorem State.runAdrain_arrayAs : ∃ a c', s.arrayAs ps a (s.runAdrain ps c z) ∧ a.inflight = (s.stall ps).arr.inflight ++ [c'] ∧
    (c'.op = c.op ∧ c'.idx = c.idx ∧ c'.lst = c.lst) ∧ a.vrow = 0 ∧ a.held = none ∧
    c'.drains = ((List.range z.m).filter (fun i => (s.stall ps).arr.vrow.getLsbD i)).map (fun i =>
      { row := i, fold := 0, dst := z.dest 0 0 i 1 (accRow s ps i z.n) }) :=
  ⟨_, _, State.arrayAs_arrLaunch hq (State.arrayAs_modArr hq (s.arrayAs_refl ps) _) _ _ _, rfl, ⟨rfl, rfl, rfl⟩, rfl, rfl, rfl⟩

theorem State.runWsld_arrayAs : ∃ a c', s.arrayAs ps a (s.runWsld ps c z) ∧ a.inflight = (s.stall ps).arr.inflight ++ [c'] ∧
    (c'.op = c.op ∧ c'.idx = c.idx ∧ c'.lst = c.lst) ∧ c'.drains = c.drains ∧ a.held = some (z.k, z.n, z.fb) ∧ a.w.length = z.n :=
  ⟨_, _, State.arrayAs_arrLaunch hq (State.arrayAs_modArr hq (s.arrayAs_refl ps) _) _ _ _, rfl, ⟨rfl, rfl, rfl⟩, rfl, rfl, length_columns _ _ _⟩

theorem State.runWsmm_arrayAs : ∃ a c', s.arrayAs ps a (s.runWsmm ps c z) ∧ a.inflight = (s.stall ps).arr.inflight ++ [c'] ∧
    (c'.op = c.op ∧ c'.idx = c.idx ∧ c'.lst = c.lst) ∧ a.vrow = 0 ∧ a.int32 = decide (z.fa = 6) :=
  ⟨_, _, State.arrayAs_arrLaunch hq (State.arrayAs_modArr hq (State.arrayAs_reclass hq (s.arrayAs_refl ps) _) _) _ _ _, rfl, ⟨rfl, rfl, rfl⟩, rfl, rfl⟩

end

/-! ### A command is taken (R186, R187) -/

/-- The command that the array queue stands at, as it goes in flight. -/
def State.arrCmdAt (s : State) (ps op : Nat) (l : QList) (idx : Nat) (z : ArrOp) : ArrCmd :=
  { idx := idx, op := op, lst := l, postEn := (s.envAt ps l idx).postEn, postEv := (s.envAt ps l idx).postEv, reads := regsIn z.inputs
    writes := regsIn (z.outputs (s.stall ps).arr), ofmt := z.ofmt, dadd := z.dadd, t0 := s.aclk }

/-- What a command of the array does once it is taken, by its opcode. -/
def State.arrRun (s : State) (ps op : Nat) (c : ArrCmd) (z : ArrOp) : State :=
  match op with
  | 0x40 => s.runMma ps c z
  | 0x41 => s.runAdrain ps c z
  | 0x44 => s.runWsld ps c z
  | _ => s.runWsmm ps c z

variable {op n idx : Nat} {l : QList} {z : ArrOp}

/-- A command that is accepted runs at once: with nothing in flight no register waits for a drain. -/
theorem State.arrTake_accepted (h : arrayAccepts s ps op l n idx z) (hop : op ≠ 0x70 ∧ op ≠ 0x71) :
    s.arrTake ps op = s.arrRun ps op (s.arrCmdAt ps op l idx z) z := by
  obtain ⟨⟨hcmd, -, -, -, hidle, hlost, hgood, hready⟩, hok, hz, hue⟩ := h
  obtain ⟨-, -, hcount, -, hmore, hpause, habort, hpower, hword⟩ := id hcmd
  have hmore' : ¬ n ≤ idx := by omega
  have hcode : bits (s.cmdWord ps l idx 0) 7 0 = op := by
    rw [bits, Nat.shiftRight_zero]
    exact hword
  have hwrites : (s.stall ps).arr.toWrite = [] := by rw [Arr.toWrite, hidle, List.flatMap_nil]
  have hlatch : (s.stall ps).arr.drainPending = false := by rw [Arr.drainPending, hidle, List.any_nil]
  simp [State.arrTake, State.headCmd_eq hcmd, State.envAt_eq, hcount, hmore', hcode, hpause, habort, hpower, hidle, hlost, hgood, hready, hop, hok, hwrites,
    hlatch, ← hz, hue, State.arrCmdAt]
  rfl

/-- The command is then in flight alone. -/
theorem inFlight_of_arrayAs {a : Arr} {c : ArrCmd} (hat : arrayAt s ps op l n idx) (h : s.arrayAs ps a t)
    (hfly : a.inflight = (s.stall ps).arr.inflight ++ [c]) (hc : c.op = op ∧ c.idx = idx ∧ c.lst = l) : inFlight s t ps op idx l c := by
  obtain ⟨⟨-, -, -, hidx, -⟩, -, -, -, hidle, -⟩ := hat
  obtain ⟨hop, hcidx, hlst⟩ := hc
  rw [inFlight, State.queue_of_arrayAs h]
  obtain ⟨hmem, m, hm⟩ := h
  rw [hm, hfly, hidle]
  exact ⟨rfl, hop, hcidx, hlst, rfl, rfl, hmem, hidx⟩

/-- An accepted command goes in flight, with the array as its opcode leaves it. -/
theorem State.arrTake_inFlight {a : Arr} {c : ArrCmd} (h : arrayAccepts s ps op l n idx z) (hop : op ≠ 0x70 ∧ op ≠ 0x71)
    (has : s.arrayAs ps a (s.arrRun ps op (s.arrCmdAt ps op l idx z) z)) (hfly : a.inflight = (s.stall ps).arr.inflight ++ [c])
    (hc : c.op = op ∧ c.idx = idx ∧ c.lst = l) :
    ∃ t, (s.arrTake ps op).kickAll ps = t ∧ inFlight s t ps op idx l c ∧ (t.stall ps).arr = a := by
  rw [← State.arrTake_accepted h hop] at has
  obtain ⟨hat, -⟩ := h
  have hnone : noneStarted (s.arrTake ps op) ps := fun q hq => by
    rw [State.queue_of_arrayAs has]
    exact hat.2.1 q hq
  refine ⟨_, rfl, ?_⟩
  rw [State.kickAll_of_noneStarted hnone]
  exact ⟨inFlight_of_arrayAs hat has hfly hc, State.arr_of_arrayAs has⟩

theorem queues_of_arrayAccepts (h : arrayAccepts s ps op l n idx z) : (s.stall ps).queues ≠ [] := by
  obtain ⟨⟨⟨hrun, -⟩, -⟩, -⟩ := h
  exact State.queues_ne_nil hrun

theorem arrayTakesCommands : Claims.ArrayTakesCommands := by
  intro s ps n idx l z
  refine ⟨fun h => ?mma, fun h => ?adrain, fun h => ?wsld, fun h => ?wsmm⟩
  case mma =>
    obtain ⟨a, c, has, hfly, hc⟩ := State.runMma_arrayAs (queues_of_arrayAccepts h) (s.arrCmdAt ps 0x40 l idx z) z
    obtain ⟨t, ht, hin, -⟩ := State.arrTake_inFlight h (by decide) has hfly hc
    exact ⟨t, c, congrArg Host.Outcome.next ht, hin⟩
  case adrain =>
    obtain ⟨a, c, has, hfly, hc, hrow, hheld, hdrains⟩ := State.runAdrain_arrayAs (queues_of_arrayAccepts h) (s.arrCmdAt ps 0x41 l idx z) z
    obtain ⟨t, ht, hin, rfl⟩ := State.arrTake_inFlight h (by decide) has hfly hc
    exact ⟨t, c, congrArg Host.Outcome.next ht, hin, hrow, hheld, hdrains⟩
  case wsld =>
    obtain ⟨a, c, has, hfly, hc, hdrains, hheld, hw⟩ := State.runWsld_arrayAs (queues_of_arrayAccepts h) (s.arrCmdAt ps 0x44 l idx z) z
    obtain ⟨t, ht, hin, rfl⟩ := State.arrTake_inFlight h (by decide) has hfly hc
    exact ⟨t, c, congrArg Host.Outcome.next ht, hin, hdrains, hheld, hw⟩
  case wsmm =>
    obtain ⟨a, c, has, hfly, hc, hrow, hint⟩ := State.runWsmm_arrayAs (queues_of_arrayAccepts h) (s.arrCmdAt ps 0x45 l idx z) z
    obtain ⟨t, ht, hin, rfl⟩ := State.arrTake_inFlight h (by decide) has hfly hc
    exact ⟨t, c, congrArg Host.Outcome.next ht, hin, hrow, hint⟩

end Sys2Proof.Machine
end

section
/-! SUPPORT. Drained rows and completed commands of the array, and the statement on its execution (R182, R189, R192). -/

namespace Sys2Proof.Machine

open Sys2Proof.Claims (noneStarted tidy)

variable {s : State} {ps : Nat}

/-! ### Drained rows (R192) -/

/-- OFMT 0 without adding writes a value as it stands (R192). -/
theorem ArrCmd.drainValue_plain {c : ArrCmd} (hofmt : c.ofmt = 0) (hadd : c.dadd = false) (old v : Nat) : c.drainValue old v = (v, 0, .kept) := by
  simp [ArrCmd.drainValue, hofmt, hadd]

/-- A drained row as it stands: its values in FP32 or INT32, as many as its register row holds. -/
def Stall.plainRow (st : Stall) (int32 : Bool) (tr r : Nat) (vals : List Nat) : List Byte :=
  packCodes (cFmt 0 int32) (((st.rowCodes tr r (cFmt 0 int32) vals.length).zip vals).map (·.2))

/-- Such a row raises no flag and counts no conversion. -/
theorem State.drainDst_plain {c : ArrCmd} (hofmt : c.ofmt = 0) (hadd : c.dadd = false) (hwide : c.wide = false) (tr r : Nat) (vals : List Nat) :
    s.drainDst ps c (tr, r, vals) = s.modStall ps (fun st => st.rowWrite tr r ((s.stall ps).plainRow c.int32 tr r vals)) := by
  have hflags (l : List (Nat × Nat)) : (l.map (fun p => (p.2, 0, Narrow.kept))).foldl (fun f (x : Nat × Nat × Narrow) => f ||| x.2.1) 0 = 0 := by
    rw [List.foldl_map]
    exact List.foldl_fixed' (fun _ => Nat.zero_or 0) l
  simp [State.drainDst, ArrCmd.drainValue_plain hofmt hadd, hofmt, hwide, hflags, Stall.plainRow, Function.comp_def]

/-- The oldest command writes its next row, and nothing is read of the registers that it writes. -/
theorem State.drainRow_plain {c : ArrCmd} {rest : List ArrCmd} {d : DrainRow} {ds : List DrainRow} (hfly : (s.stall ps).arr.inflight = c :: rest)
    (hdrains : c.drains = d :: ds) (hadd : c.dadd = false) :
    s.drainRow ps .none = (d.dst.foldl (fun s x => s.drainDst ps c x) s).modArr ps (fun a =>
      { a with inflight := listMod a.inflight 0 (fun c => { c with drains := ds }) }) := by
  simp [State.drainRow, hfly, List.findIdx?_cons, hdrains, hadd]

/-! ### Completion (R189) -/

/-- A post ahead of a command's completion is the post of the completion. -/
theorem State.cmdOk_eq_of_post {l : QList} {rest : List QList} {q : Nat} (hq : (s.stall ps).queues ≠ []) (hlists : (s.queue ps q).lists = l :: rest)
    (e : Nat) : s.cmdOk ps q true e = (s.postEv ps e 1).cmdOk ps q false 0 := by
  have hqueue : (s.postEv ps e 1).queue ps q = s.queue ps q := State.queue_of_arrayAs (State.arrayAs_setScsr hq (s.arrayAs_refl ps) _ _) q
  simp only [State.cmdOk, hqueue, hlists, if_true, Bool.false_eq_true, if_false]

/-- A command that completes and is not the last of its list leaves the rest of the stall as it was, whatever event it posts. -/
theorem State.cmdOk_passed {l : QList} {n q : Nat} (hrun : (s.queue ps q).state = .running) (hlist : (s.queue ps q).lists.head? = some l)
    (hcount : (s.queue ps q).count = some n) (hmore : (s.queue ps q).cmdIdx + 1 < n) (post : Bool) (e : Nat) :
    (s.cmdOk ps q post e).mem = s.mem ∧ ∃ m, (s.cmdOk ps q post e).stall ps = Stall.passed { s.stall ps with csr := m } q := by
  cases post with
  | false =>
    obtain ⟨hmem, m, hm, -⟩ := State.cmdOk_passes hrun hlist hcount hmore false (e := 0) (by decide)
    exact ⟨hmem, m, hm⟩
  | true =>
    obtain ⟨rest, hlists⟩ := List.head?_eq_some_iff.mp hlist
    have hpost : s.arrayAs ps _ (s.postEv ps e 1) := State.arrayAs_setScsr (State.queues_ne_nil hrun) (s.arrayAs_refl ps) _ _
    have hqueue := State.queue_of_arrayAs hpost q
    obtain ⟨-, _, hstall⟩ := hpost
    obtain ⟨hmem, m, hm, -⟩ := State.cmdOk_passes (hqueue ▸ hrun) (hqueue ▸ hlist) (hqueue ▸ hcount) (hqueue ▸ hmore) false (e := 0) (by decide)
    rw [State.cmdOk_eq_of_post (State.queues_ne_nil hrun) hlists]
    exact ⟨hmem, m, by rw [hm, hstall]⟩

/-! ### The statement -/

section
variable {c : ArrCmd} {rest : List ArrCmd} (hpower : (s.stall ps).pstate = .run) (hnone : noneStarted s ps)
  (hfly : (s.stall ps).arr.inflight = c :: rest)
include hpower hnone hfly

theorem arrayDrainRowWrite_plain {row fold tr r : Nat} {vals : List Nat} {ds : List DrainRow} (htidy : tidy s ps)
    (hdrains : c.drains = { row := row, fold := fold, dst := [(tr, r, vals)] } :: ds) (hofmt : c.ofmt = 0) (hadd : c.dadd = false) (hwide : c.wide = false) :
    ∃ t, exec (.arrayDrainRowWrite ps .none) s = .next t ∧
      (t.stall ps).tile = ((s.stall ps).rowWrite tr r ((s.stall ps).plainRow c.int32 tr r vals)).tile ∧
      (t.stall ps).arr.inflight = { c with drains := ds } :: rest ∧ t.mem = s.mem := by
  obtain ⟨hwf, -⟩ := htidy
  obtain ⟨bs, hbs⟩ : ∃ bs, bs = (s.stall ps).plainRow c.int32 tr r vals := ⟨_, rfl⟩
  obtain ⟨f, hf⟩ : ∃ f : Arr → Arr, f = fun a => { a with inflight := listMod a.inflight 0 (fun c => { c with drains := ds }) } := ⟨_, rfl⟩
  have hrow : s.drainRow ps .none = (s.modStall ps (fun st => st.rowWrite tr r bs)).modArr ps f := by
    rw [State.drainRow_plain hfly hdrains hadd, List.foldl_cons, List.foldl_nil, State.drainDst_plain hofmt hadd hwide, hbs, hf]
  have hstall : (s.drainRow ps .none).stall ps = { (s.stall ps).rowWrite tr r bs with arr := f (s.stall ps).arr } := by
    rw [hrow, State.modArr, State.modStall, State.stall_setStall_self (Map.wf_set _ _ _ hwf), State.modStall, State.stall_setStall_self hwf]
    rfl
  have hnone' : noneStarted (s.drainRow ps .none) ps := fun q hq => by
    rw [State.queue, hstall]
    exact hnone q hq
  have hmem : (s.drainRow ps .none).mem = s.mem := by
    rw [hrow]
    rfl
  have hexec : exec (.arrayDrainRowWrite ps .none) s = .next (s.drainRow ps .none).rearm := by
    rw [← State.kickAll_of_noneStarted hnone']
    exact congrArg Host.Outcome.next (if_neg (not_not.mpr hpower))
  refine ⟨_, hexec, ?_, ?_, hmem⟩
  · rw [State.stall_rearm, hstall, hbs]
  · rw [State.stall_rearm, hstall, hf]
    show listMod (s.stall ps).arr.inflight 0 _ = _
    rw [hfly]
    rfl

theorem arrayCmdComplete_passes {l : QList} {n : Nat} (hdrains : c.drains = []) (hlist : (s.queue ps 2).lists.head? = some l)
    (hcount : (s.queue ps 2).count = some n) (hmore : (s.queue ps 2).cmdIdx + 1 < n) (hrun : (s.queue ps 2).state = .running) :
    ∃ t, exec (.arrayCmdComplete ps) s = .next t ∧ (t.stall ps).arr.inflight = rest ∧ (t.queue ps 2).cmdIdx = (s.queue ps 2).cmdIdx + 1 ∧
      (t.queue ps 2).lists = (s.queue ps 2).lists ∧ t.mem = s.mem := by
  obtain ⟨u, hu⟩ : ∃ u, u = s.modArr ps (fun a => { a with inflight := rest }) := ⟨_, rfl⟩
  have has : s.arrayAs ps { (s.stall ps).arr with inflight := rest } u := hu ▸ State.arrayAs_modArr (State.queues_ne_nil hrun) (s.arrayAs_refl ps) _
  have hqueue := State.queue_of_arrayAs has
  have hdone : s.arrComplete ps = u.cmdOk ps 2 c.postEn c.postEv := by
    simp only [State.arrComplete, hfly, hdrains, ne_eq, not_true_eq_false, if_false, hu]
  obtain ⟨hmem, m, hstall⟩ := State.cmdOk_passed (s := u) (ps := ps) (q := 2) (by rw [hqueue, hrun]) (by rw [hqueue, hlist]) (by rw [hqueue, hcount])
    (by rwa [hqueue]) c.postEn c.postEv
  rw [← hdone] at hmem hstall
  have hself : (s.arrComplete ps).queue ps 2 = { s.queue ps 2 with cmdIdx := (s.queue ps 2).cmdIdx + 1, prog := 0 } := by
    rw [State.queue, hstall, ← hqueue]
    exact Stall.queue_passed_self (t := { u.stall ps with csr := m }) ((congrArg Queue.state (hqueue 2)).trans hrun)
  have hnone' : noneStarted (s.arrComplete ps) ps := fun q hq => by
    have hne : q ≠ 2 := by rintro rfl; simp at hq
    rw [State.queue, hstall, Stall.queue_passed_of_ne _ hne]
    exact (congrArg Queue.ctxs (hqueue q)).trans (hnone q hq)
  have hexec : exec (.arrayCmdComplete ps) s = .next (s.arrComplete ps).rearm := by
    rw [← State.kickAll_of_noneStarted hnone']
    exact congrArg Host.Outcome.next (if_neg (not_not.mpr hpower))
  refine ⟨_, hexec, ?_, ?_, ?_, hmem.trans has.1⟩
  · rw [State.stall_rearm, hstall]
    exact congrArg Arr.inflight (State.arr_of_arrayAs has)
  · rw [State.queue_rearm, hself]
  · rw [State.queue_rearm, hself]

end

theorem arrayDrainsAndCompletes : Claims.ArrayDrainsAndCompletes :=
  fun _ _ _ _ hpower hnone htidy hfly =>
    ⟨fun _ _ _ _ _ _ hdrains hofmt hadd hwide => arrayDrainRowWrite_plain hpower hnone hfly htidy hdrains hofmt hadd hwide,
      fun _ _ hdrains hlist hcount hmore hrun => arrayCmdComplete_passes hpower hnone hfly hdrains hlist hcount hmore hrun⟩

/-- Settles O20: an accepted command changes its stall's registers and array alone, a drained row one row of tile storage, and a completed command
its queue. -/
theorem arrayExecution : Obligations.ArrayExecution := ⟨arrayTakesCommands, arrayDrainsAndCompletes⟩

end Sys2Proof.Machine
end

section
/-! SUPPORT. The spread of physical addresses over logical channels (R286): the low seven bits of the chunk number, folded with the bits above them. -/

namespace Sys2Proof.Machine

/-- What the chunk bits from bit 7 on add to the logical channel. -/
def spreadFold (h : Nat) : Nat := (h % 128) ^^^ (h / 2 ^ 7 % 128) ^^^ (h / 2 ^ 14 % 128) ^^^ (h / 2 ^ 21 % 32)

theorem spreadLc_eq_fold (pa : Nat) : spreadLc pa = (pa / 4096 % 128) ^^^ spreadFold (pa / 4096 / 128) := by
  simp only [spreadLc, spreadFold, Nat.div_div_eq_div_mul, Nat.xor_assoc]
  norm_num

theorem spreadFold_lt (h : Nat) : spreadFold h < 2 ^ 7 := by
  unfold spreadFold
  refine Nat.xor_lt_two_pow (Nat.xor_lt_two_pow (Nat.xor_lt_two_pow ?_ ?_) ?_) ?_ <;> omega

theorem spreadLc_lt (pa : Nat) : spreadLc pa < 128 := by
  rw [spreadLc_eq_fold]
  exact Nat.xor_lt_two_pow (n := 7) (Nat.mod_lt _ (by decide)) (spreadFold_lt _)

/-- Chunk `i` of a group of 128 goes to `i`, folded with the group. -/
theorem spreadLc_chunk (g : Nat) {i : Nat} (hi : i < 128) : spreadLc ((g * 128 + i) * 4096) = i ^^^ spreadFold g := by
  rw [spreadLc_eq_fold, Nat.mul_div_cancel _ (by decide), show (g * 128 + i) % 128 = i by omega, show (g * 128 + i) / 128 = g by omega]

theorem spreadLc_formula (pa : Nat) : spreadLc pa = ((pa >>> 12) &&& 0x7F) ^^^ (((pa >>> 12) >>> 7) &&& 0x7F) ^^^ (((pa >>> 12) >>> 14) &&& 0x7F) ^^^
    (((pa >>> 12) >>> 21) &&& 0x7F) ^^^ (((pa >>> 12) >>> 28) &&& 0x1F) := by
  have h7 (n : Nat) : n &&& 0x7F = n % 128 := Nat.and_two_pow_sub_one_eq_mod n 7
  have h5 (n : Nat) : n &&& 0x1F = n % 32 := Nat.and_two_pow_sub_one_eq_mod n 5
  simp only [h7, h5, Nat.shiftRight_eq_div_pow]
  rfl

theorem spreadCo_formula (pa : Nat) : spreadCo pa = (((pa >>> 12) >>> 7) <<< 12) ||| (pa &&& 0xFFF) := by
  have h12 : pa &&& 0xFFF = pa % 4096 := Nat.and_two_pow_sub_one_eq_mod pa 12
  rw [h12, ← Nat.shiftLeft_add_eq_or_of_lt (Nat.mod_lt pa (by decide)), Nat.shiftLeft_eq]
  simp only [Nat.shiftRight_eq_div_pow]
  rfl

/-- The offset gives the group and the place in the chunk, and folding the group once more gives the chunk in the group. -/
theorem unspread_spread (pa : Nat) : unspread (spreadLc pa) (spreadCo pa) = pa := by
  have hgroup : spreadCo pa / 4096 = pa / 4096 / 128 := by unfold spreadCo; omega
  have hplace : spreadCo pa % 4096 = pa % 4096 := by unfold spreadCo; omega
  have hstart : spreadLc (pa / 4096 / 128 * 128 * 4096) = spreadFold (pa / 4096 / 128) := by
    simpa using spreadLc_chunk (pa / 4096 / 128) (i := 0) (by decide)
  rw [unspread, hgroup, hplace, hstart, spreadLc_eq_fold, Nat.xor_assoc, Nat.xor_self, Nat.xor_zero]
  omega

/-- Settles O25: within a group of 128 chunks the channel is the chunk number folded with a constant of the group, so the chunk comes back. -/
theorem spreadIsOneToOne : Obligations.SpreadIsOneToOne := by
  refine ⟨fun pa => ⟨spreadLc_formula pa, spreadCo_formula pa⟩, fun g i j hi hj h => ?_, fun pa => ⟨unspread_spread pa, spreadLc_lt pa, fun n h => ?_⟩⟩
  · rw [spreadLc_chunk g hi, spreadLc_chunk g hj] at h
    exact Nat.xor_left_injective h
  · rw [Nat.pow_add] at h ⊢
    unfold spreadCo
    omega

end Sys2Proof.Machine
end

section
/-! SUPPORT. Main memory without errors: what the device's own units read and write there, and how little-endian words and longer ranges fall apart
into shorter ones (R3, R285, R290, R291). -/

namespace Sys2Proof.Machine

open Sys2Proof.Claims (soundMemory)

variable {s t : State}

/-! ### Ranges of bytes and numbers -/

theorem readBytes_add (m : Map Byte) (k : Nat) : ∀ n a : Nat, readBytes m a (n + k) = readBytes m a n ++ readBytes m (a + n) k
  | 0, a => by rw [Nat.zero_add]; rfl
  | n + 1, a => by
    rw [Nat.add_right_comm, readBytes, readBytes_add m k n (a + 1), Nat.add_right_comm a 1 n]
    rfl

theorem writeBytes_append (ys : List Byte) : ∀ (xs : List Byte) (m : Map Byte) (a : Nat),
    writeBytes m a (xs ++ ys) = writeBytes (writeBytes m a xs) (a + xs.length) ys
  | [], _, _ => rfl
  | x :: xs, m, a => by
    rw [List.length_cons, ← Nat.add_assoc, Nat.add_right_comm]
    exact writeBytes_append ys xs _ (a + 1)

/-- Part of a range is the range of that part. -/
theorem take_drop_readBytes (m : Map Byte) (a : Nat) {n i k : Nat} (h : i + k ≤ n) : ((readBytes m a n).drop i).take k = readBytes m (a + i) k := by
  obtain ⟨j, rfl⟩ := Nat.exists_eq_add_of_le h
  rw [readBytes_add, readBytes_add, List.append_assoc, List.drop_left' (length_readBytes m i a), List.take_left' (length_readBytes m k (a + i))]

theorem leNat_append (ys : List Byte) : ∀ xs : List Byte, leNat (xs ++ ys) = leNat xs + 256 ^ xs.length * leNat ys
  | [] => by rw [List.nil_append, leNat, List.length_nil, Nat.pow_zero, Nat.one_mul, Nat.zero_add]
  | x :: xs => by
    rw [List.cons_append, leNat, leNat_append ys xs, leNat, List.length_cons, Nat.pow_succ, Nat.mul_add, ← Nat.add_assoc, ← Nat.mul_assoc, Nat.mul_comm 256 (256 ^ _)]

theorem leNat_lt : ∀ bs : List Byte, leNat bs < 256 ^ bs.length
  | [] => Nat.one_pos
  | b :: bs => by
    have hb := b.isLt
    have hbs := leNat_lt bs
    rw [leNat, List.length_cons, Nat.pow_succ]
    omega

theorem leNat_leBytes : ∀ n v : Nat, leNat (leBytes n v) = v % 256 ^ n
  | 0, v => (Nat.mod_one v).symm
  | n + 1, v => by
    rw [leBytes, leNat, leNat_leBytes n, Nat.pow_succ', Nat.mod_mul, BitVec.toNat_ofNat]

theorem State.memLe_lt (s : State) (a n : Nat) : s.memLe a n < 256 ^ n := by
  have h := leNat_lt (readBytes s.mem a n)
  rwa [length_readBytes] at h

/-- A longer number is its low part and its high part. -/
theorem State.memLe_add (s : State) (a n k : Nat) : s.memLe a (n + k) = s.memLe a n + 256 ^ n * s.memLe (a + n) k := by
  show leNat _ = leNat _ + 256 ^ n * leNat _
  rw [readBytes_add, leNat_append, length_readBytes]

theorem bits_eq_div_mod (v hi lo : Nat) : bits v hi lo = v / 2 ^ lo % 2 ^ (hi + 1 - lo) := by rw [bits, Nat.shiftRight_eq_div_pow]

/-- The two halves of a word. -/
theorem State.bits_memLe_low (s : State) (a : Nat) : bits (s.memLe a 8) 31 0 = s.memLe a 4 := by
  have hlow := s.memLe_lt a 4
  rw [show 8 = 4 + 4 from rfl, State.memLe_add, bits_eq_div_mod]
  norm_num at hlow ⊢
  omega

theorem State.bits_memLe_high (s : State) (a : Nat) : bits (s.memLe a 8) 63 32 = s.memLe (a + 4) 4 := by
  have hlow := s.memLe_lt a 4
  have hhigh := s.memLe_lt (a + 4) 4
  rw [show 8 = 4 + 4 from rfl, State.memLe_add, bits_eq_div_mod]
  norm_num at hlow hhigh ⊢
  omega

/-! ### Bytes stored -/

/-- The state with bytes stored in main memory. -/
def State.stored (s : State) (a : Nat) (bs : List Byte) : State := { s with mem := writeBytes s.mem a bs }

@[simp] theorem State.memBytes_stored (s : State) (a : Nat) (bs : List Byte) : (s.stored a bs).memBytes = s.memBytes := rfl
@[simp] theorem State.loft_stored (s : State) (a : Nat) (bs : List Byte) : (s.stored a bs).loft = s.loft := rfl
@[simp] theorem State.dcsr_stored (s : State) (a : Nat) (bs : List Byte) (o : Nat) : (s.stored a bs).dcsr o = s.dcsr o := rfl

/-- Bytes stored behind the last ones. -/
theorem State.stored_stored (s : State) (a : Nat) (xs ys : List Byte) : (s.stored a xs).stored (a + xs.length) ys = s.stored a (xs ++ ys) :=
  congrArg (fun m => ({ s with mem := m } : State)) (writeBytes_append ys xs s.mem a).symm

theorem State.memLe_stored_self (h : Memory.wf s.mem = true) (a : Nat) {n v : Nat} (hv : v < 256 ^ n) : (s.stored a (leBytes n v)).memLe a n = v := by
  have hread := readBytes_writeBytes (leBytes n v) s.mem a h
  rw [length_leBytes] at hread
  show leNat (readBytes (writeBytes s.mem a (leBytes n v)) a n) = v
  rw [hread, leNat_leBytes, Nat.mod_eq_of_lt hv]

theorem State.memRead_stored_of_apart (h : Memory.wf s.mem = true) {a c n : Nat} {bs : List Byte} (hap : c + n ≤ a ∨ a + bs.length ≤ c) :
    (s.stored a bs).memRead c n = s.memRead c n := readBytes_writeBytes_of_disjoint bs s.mem a h n c hap

theorem State.memLe_stored_of_apart (h : Memory.wf s.mem = true) {a c n : Nat} {bs : List Byte} (hap : c + n ≤ a ∨ a + bs.length ≤ c) :
    (s.stored a bs).memLe c n = s.memLe c n := congrArg leNat (State.memRead_stored_of_apart h hap)

/-! ### Reads and writes without errors -/

/-- Soundness looks at the bytes, the uncorrectable blocks and the channels alone. -/
theorem soundMemory_of (h : soundMemory s) (hwf : Memory.wf t.mem = true) (hue : t.memUe = s.memUe) (hchans : t.chans = s.chans) : soundMemory t := by
  obtain ⟨-, hnone, hchan⟩ := h
  refine ⟨hwf, hue.trans hnone, fun pa => ?_⟩
  rw [← hchan pa, State.chanOk, State.chanOk, State.chanOf, State.chanOf]
  simp only [State.chan, hchans]

theorem soundMemory_stored (h : soundMemory s) (a : Nat) (bs : List Byte) : soundMemory (s.stored a bs) :=
  soundMemory_of h (Memory.wf_writeBytes bs s.mem a h.1) rfl rfl

theorem State.memGood_sound (h : soundMemory s) (a n : Nat) : s.memGood a n = true := by
  obtain ⟨-, hnone, hchan⟩ := h
  exact State.memGood_iff.mpr fun b _ => ⟨hnone ▸ List.not_mem_nil, hchan _⟩

theorem State.devRead_sound (h : soundMemory s) {a n : Nat} (hend : a + n ≤ s.memBytes) : s.devRead a n = (St.ok, s.memRead a n) := by
  rw [State.devRead, if_neg (Nat.not_lt.mpr hend), if_pos (State.memGood_sound h a n)]

theorem State.devWrite_sound (h : soundMemory s) {a : Nat} {bs : List Byte} (hend : a + bs.length ≤ s.memBytes) :
    s.devWrite a bs = (s.stored a bs, St.ok) := by
  obtain ⟨-, hnone, hchan⟩ := h
  have hkept : s.memWrite a bs = s.stored a bs := by
    rw [State.memWrite, hnone, List.filter_nil, ← hnone]
    rfl
  rw [State.devWrite, if_neg (Nat.not_lt.mpr hend)]
  simp [hnone, hchan, hkept]

end Sys2Proof.Machine
end

section
/-! SUPPORT. Loft reads: what a request for a page does, and the statement on them (R313, R314). -/

namespace Sys2Proof.Machine

open Sys2Proof.Claims (backed)

variable {s : State} {id a : Nat} {r : Req}

/-- A failed read is logged and reported, and changes nothing else. -/
theorem State.loftUe_eq (s : State) (la : Nat) : ∃ sh k, s.loftUe la = { s with sheds := sh, tack := k } := by
  obtain ⟨k, hk⟩ := State.detect_eq (s.elog (loftChanOf la / 4)
    { status := St.loftUe, chan := loftChanOf la % 4, loft := true, scrub := false, addr := la / 4096 * 4096 })
    St.loftUe 8 1 6 (loftChanOf la) 0 (la / 4096 * 4096 % 2 ^ 49) 0
  exact ⟨_, k, hk⟩

theorem State.loftFault_beyond {la : Nat} (h : loftEnd ≤ la) : s.loftFault la = St.memRange := if_pos h

theorem State.loftFault_unwritten {la : Nat} (hend : la < loftEnd) (hchan : (s.loftChan (la / 65536 % 16)).state ≠ 2) (hw : s.loftWritten la = false) :
    s.loftFault la = St.loftUnwritten := by
  rw [State.loftFault, if_neg (Nat.not_le.mpr hend), if_neg (show ¬ (s.loftChan (loftChanOf la)).state = 2 from hchan), hw]
  rfl

/-- The state in which one request waits for its page. -/
def State.pageAwaited (s : State) (id : Nat) (r : Req) : State := { s with pageReads := [(r.pa / 16384, [id])] }

section
variable (hreq : s.req id = some r) (hphase : r.phase = .endpoint) (hnone : s.pageReads = [])
include hreq hphase hnone

/-- With no page being read, a request starts the read of its own or is answered with what stops it. -/
theorem exec_loftRead (hloc : isGlobal r.addr = false) (hreg : localRegion r.addr = some (.loft a)) :
    exec (.loftRead id) s = .next (if s.loftFault r.pa = St.loftUe then (s.loftUe r.pa).answer id r St.loftUe []
      else if s.loftFault r.pa ≠ St.ok then s.answer id r (s.loftFault r.pa) [] else s.pageAwaited id r) := by
  show execLoftRead id s = _
  simp only [execLoftRead, hreq, hreg, hphase, hloc, hnone, List.any_nil, ne_eq, not_true_eq_false, Bool.false_eq_true, or_self, if_false, List.nil_append]
  split_ifs with hue
  · rw [hue]
  · rfl
  · rfl

theorem exec_loftRead_stopped (hloc : isGlobal r.addr = false) (hreg : localRegion r.addr = some (.loft a)) {st : Status} (hst : s.loftFault r.pa = st)
    (hue : st ≠ St.loftUe) (hok : st ≠ St.ok) : exec (.loftRead id) s = .next (backed s id r st []) := by
  rw [exec_loftRead hreq hphase hnone hloc hreg, hst, if_neg hue, if_pos hok]
  rfl

/-- The page of a waiting request has been read: it takes its bytes, or LOFT_UE where its unit failed. -/
theorem exec_loftPageReadDone (fails : List Nat) : exec (.loftPageReadDone (r.pa / 16384) fails) (s.pageAwaited id r) =
    .next (if fails.contains (r.pa / 4096 % 4) then (s.loftUe r.pa).answer id r St.loftUe [] else backed s id r St.ok (readBytes s.loft r.pa r.len)) := by
  have hdone : ({ s.pageAwaited id r with pageReads := (s.pageAwaited id r).pageReads.filter (fun x => x.1 ≠ r.pa / 16384) } : State) = s := by
    have hfilter : (s.pageAwaited id r).pageReads.filter (fun x => x.1 ≠ r.pa / 16384) = s.pageReads := by
      rw [hnone]
      simp [State.pageAwaited]
    rw [hfilter]
    rfl
  have hfind : (s.pageAwaited id r).pageReads.find? (fun p => p.1 = r.pa / 16384) = some (r.pa / 16384, [id]) := by simp [State.pageAwaited]
  show execLoftPageReadDone _ _ _ = _
  simp only [execLoftPageReadDone, hfind, hdone, List.foldl_cons, List.foldl_nil, hreq, hphase, ne_eq, not_true_eq_false, if_false]
  rfl

theorem exec_loftPageReadDone_failed : ∃ u, exec (.loftPageReadDone (r.pa / 16384) [r.pa / 4096 % 4]) (s.pageAwaited id r) = .next u ∧ u.pageReads = [] ∧
    u.loft = s.loft ∧ u.req id = some { r with phase := .back, pos := r.path.length - 1, status := St.loftUe, data := [] } := by
  have hexec := exec_loftPageReadDone hreq hphase hnone [r.pa / 4096 % 4]
  rw [if_pos (by simp)] at hexec
  obtain ⟨sh, k, hue⟩ := s.loftUe_eq r.pa
  refine ⟨_, hexec, ?_, ?_, State.req_setReq_some _ id _⟩
  · rw [hue]
    exact hnone
  · rw [hue]
    rfl

end

theorem loftReads : Claims.LoftReads := by
  intro s id a r hreq hphase hloc hreg hnone
  refine ⟨fun hok => ?starts, fun hend => ?beyond, fun hend hchan hw => ?unwritten, ?done, exec_loftPageReadDone_failed hreq hphase hnone⟩
  case starts =>
    rw [exec_loftRead hreq hphase hnone hloc hreg, hok]
    rfl
  case beyond => exact exec_loftRead_stopped hreq hphase hnone hloc hreg (State.loftFault_beyond hend) (by decide) (by decide)
  case unwritten => exact exec_loftRead_stopped hreq hphase hnone hloc hreg (State.loftFault_unwritten hend hchan hw) (by decide) (by decide)
  case done => exact exec_loftPageReadDone hreq hphase hnone []

end Sys2Proof.Machine
end

section
/-! SUPPORT. Loft jobs: the ring entry as a job, copies to and from the loft unit by unit, and the statement on loft reads and jobs (R315, R316). -/

namespace Sys2Proof.Machine

open Sys2Proof.Claims (answered soundMemory oneJob jobRan)

variable {s t : State} {j : LoftJob}

/-! ### One job in the ring -/

theorem State.jobReady_oneJob {op : Nat} (h : oneJob s j op) : s.jobReady j.idx op = some j := by
  obtain ⟨hjobs, hop, hres⟩ := h
  simp [State.jobReady, hjobs, hop, hres]

theorem State.jobEnd_oneJob (h : t.jobs = [j]) (st : Status) : t.jobEnd j.idx st = jobRan t j st := by
  simp [State.jobEnd, jobRan, h]

/-! ### Copies unit by unit -/

/-- `n` units of bytes programmed from a unit of a segment on. -/
def State.programmed (s : State) (la : Nat) (bs : List Byte) (n : Nat) : State :=
  { s with loft := writeBytes s.loft la bs }.setSeg (la / 2 ^ 30) (.opn (la % 2 ^ 30 / 65536 + n))

@[simp] theorem State.memRead_programmed (s : State) (la : Nat) (bs : List Byte) (n a k : Nat) : (s.programmed la bs n).memRead a k = s.memRead a k := rfl
@[simp] theorem State.memBytes_programmed (s : State) (la : Nat) (bs : List Byte) (n : Nat) : (s.programmed la bs n).memBytes = s.memBytes := rfl

/-- One unit programmed and then those behind it. -/
theorem State.programmed_programmed {la n : Nat} {xs : List Byte} (ys : List Byte) (hxs : xs.length = 65536) (hunit : la % 65536 = 0)
    (hseg : la % 2 ^ 30 + (n + 2) * 65536 ≤ 2 ^ 30) : (s.programmed la xs 1).programmed (la + 65536) ys (n + 1) = s.programmed la (xs ++ ys) (n + 2) := by
  have hsg : (la + 65536) / 2 ^ 30 = la / 2 ^ 30 := by omega
  have hwp : (la + 65536) % 2 ^ 30 / 65536 + (n + 1) = la % 2 ^ 30 / 65536 + (n + 2) := by omega
  have hloft := writeBytes_append ys xs s.loft la
  have hsegs := Map.set_set (fun _ => SegSt.erased) s.segs (la / 2 ^ 30) (v := .opn (la % 2 ^ 30 / 65536 + 1)) (w := .opn (la % 2 ^ 30 / 65536 + (n + 2)))
    nofun nofun
  rw [hxs] at hloft
  simp only [State.programmed, State.setSeg, hsg, hwp, hloft, hsegs]

theorem State.program_succ {pa la n : Nat} {bs : List Byte} (h : s.devRead pa 65536 = (St.ok, bs)) :
    s.program pa la (n + 1) = (s.programmed la bs 1).program (pa + 65536) (la + 65536) n := by
  simp only [State.program, h, ne_eq, not_true_eq_false, if_false, State.programmed]

theorem State.program_sound : ∀ (n : Nat) (s : State) (pa la : Nat), soundMemory s → la % 65536 = 0 → la % 2 ^ 30 + (n + 1) * 65536 ≤ 2 ^ 30 →
    pa + (n + 1) * 65536 ≤ s.memBytes → s.program pa la (n + 1) = (s.programmed la (s.memRead pa ((n + 1) * 65536)) (n + 1), St.ok)
  | 0, s, pa, la, h, _, _, hend => by
    rw [State.program_succ (State.devRead_sound h (by omega)), State.program, Nat.zero_add, Nat.one_mul]
  | n + 1, s, pa, la, h, hunit, hseg, hend => by
    obtain ⟨bs, hbs⟩ : ∃ bs, bs = s.memRead pa 65536 := ⟨_, rfl⟩
    have hread := State.devRead_sound h (a := pa) (n := 65536) (by omega)
    have hlen : bs.length = 65536 := hbs ▸ length_readBytes ..
    rw [← hbs] at hread
    rw [State.program_succ hread, State.program_sound n (s.programmed la bs 1) _ _ (soundMemory_of h h.1 rfl rfl) (by omega) (by omega) (by rw [State.memBytes_programmed]; omega),
      State.memRead_programmed, State.programmed_programmed _ hlen hunit (by omega), hbs, State.memRead, State.memRead, ← readBytes_add, State.memRead,
      Nat.add_comm 65536, ← Nat.succ_mul]

theorem State.copyOut_succ {pa la n : Nat} {bs : List Byte} (hok : s.loftFault la = St.ok) (hbs : readBytes s.loft la 65536 = bs)
    (hwrite : s.devWrite pa bs = (t, St.ok)) : s.copyOut la pa (n + 1) = t.copyOut (la + 65536) (pa + 65536) n := by
  simp only [State.copyOut, hok, hbs, hwrite, ne_eq, not_true_eq_false, if_false]

theorem State.copyOut_sound : ∀ (n : Nat) (s : State) (la pa : Nat), soundMemory s → (∀ i < n, s.loftFault (la + i * 65536) = St.ok) →
    pa + n * 65536 ≤ s.memBytes → s.copyOut la pa n = (s.stored pa (readBytes s.loft la (n * 65536)), St.ok)
  | 0, s, la, pa, _, _, _ => by
    rw [Nat.zero_mul]
    rfl
  | n + 1, s, la, pa, h, hok, hend => by
    obtain ⟨bs, hbs⟩ : ∃ bs, readBytes s.loft la 65536 = bs := ⟨_, rfl⟩
    have hlen : bs.length = 65536 := hbs ▸ length_readBytes ..
    have hfirst : s.loftFault la = St.ok := by simpa using hok 0 (Nat.succ_pos n)
    have hrest : ∀ i < n, (s.stored pa bs).loftFault (la + 65536 + i * 65536) = St.ok := fun i hi => by
      rw [Nat.add_assoc, Nat.add_comm 65536, ← Nat.succ_mul]
      exact hok (i + 1) (Nat.succ_lt_succ hi)
    rw [State.copyOut_succ hfirst hbs (State.devWrite_sound h (by omega)),
      State.copyOut_sound n (s.stored pa bs) _ _ (soundMemory_stored h _ _) hrest (by rw [State.memBytes_stored]; omega), State.loft_stored,
      ← hlen, State.stored_stored, hlen, ← hbs, ← readBytes_add, Nat.add_comm 65536, ← Nat.succ_mul]

/-! ### The ring (R315) -/

/-- With HEAD at TAIL no entry is taken. -/
theorem State.takeJobs_level (h : s.ljHead % 2 ^ 32 = fld (s.dcsr (shedBase 0 + 0x610)) 31 0) : ∀ n, s.takeJobs n = s
  | 0 => rfl
  | _ + 1 => if_neg fun hgo => hgo.2.1 h

/-- The words of a ring entry. -/
def State.ljWord (s : State) (idx k : Nat) : Nat := s.memLe (s.ljEntry idx + 8 * k) 8

/-- An entry that a copy fills in as R315 asks. -/
def State.copyEntry (s : State) (idx : Nat) : Prop :=
  s.ljWord idx 0 % 256 ∈ [1, 2] ∧ bits (s.ljWord idx 0) 15 10 = 0 ∧ bits (s.ljWord idx 0) 63 32 = 0 ∧ s.ljWord idx 1 % 65536 = 0 ∧
  0 < s.ljWord idx 3 ∧ s.ljWord idx 3 ≤ 16384 ∧ s.ljWord idx 1 + s.ljWord idx 3 * 65536 ≤ loftEnd ∧ s.ljWord idx 2 % 65536 = 0 ∧ s.ljWord idx 2 < 2 ^ 45

/-- The words of the entry as its read delivers them. -/
theorem State.leNat_ljEntry (s : State) (idx : Nat) {k : Nat} (hk : k < 8) :
    leNat (((s.memRead (s.ljEntry idx) 64).drop (8 * k)).take 8) = s.ljWord idx k := by
  rw [State.memRead, take_drop_readBytes s.mem (s.ljEntry idx) (by omega)]
  rfl

/-- No field of such an entry is cut short, and none of its reserved bits is set. -/
theorem State.fields_copyEntry {idx : Nat} (h : s.copyEntry idx) :
    bits (s.ljWord idx 0) 3 0 = s.ljWord idx 0 % 256 ∧ bits (s.ljWord idx 1) 47 0 = s.ljWord idx 1 ∧ bits (s.ljWord idx 2) 44 0 = s.ljWord idx 2 ∧
    bits (s.ljWord idx 3) 31 0 = s.ljWord idx 3 ∧ bits (s.ljWord idx 0) 7 4 = 0 ∧ bits (s.ljWord idx 1) 63 48 = 0 ∧ bits (s.ljWord idx 2) 63 45 = 0 ∧
    bits (s.ljWord idx 3) 63 32 = 0 := by
  obtain ⟨hop, -, -, -, hpos, hmax, hlast, -, hpaEnd⟩ := h
  rw [List.mem_pair] at hop
  unfold loftEnd at hlast
  simp only [bits_eq_div_mod]
  refine ⟨?_, ?_, ?_, ?_, ?_, ?_, ?_, ?_⟩ <;> omega

theorem State.ljParse_sound (h : soundMemory s) {idx : Nat} (hend : s.ljEntry idx + 64 ≤ s.memBytes) (hentry : s.copyEntry idx) :
    s.ljParse idx = { idx := idx, op := s.ljWord idx 0 % 256, la := s.ljWord idx 1, pa := s.ljWord idx 2, units := s.ljWord idx 3 } := by
  obtain ⟨hop, hla, hpa, hn, hop', hla', hpa', hn'⟩ := State.fields_copyEntry hentry
  obtain ⟨hcopy, h15, h63, hunit, hpos, hmax, hlast, hpaUnit, -⟩ := hentry
  rw [List.mem_pair] at hcopy
  unfold State.ljParse
  rw [State.devRead_sound h hend]
  simp only [s.leNat_ljEntry idx (show 0 < 8 by decide), s.leNat_ljEntry idx (show 1 < 8 by decide), s.leNat_ljEntry idx (show 2 < 8 by decide),
    s.leNat_ljEntry idx (show 3 < 8 by decide), hop, hla, hpa, hn, hop', hla', hpa', hn', h15, h63, hunit, hpaUnit]
  generalize s.ljWord idx 0 % 256 = op at *
  simp
  omega

/-- One entry is taken when TAIL stands one ahead of HEAD. -/
theorem State.takeJobs_one (hjobs : s.jobs = []) (hsize : fld (s.dcsr (shedBase 0 + 0x608)) 12 0 ≠ 0)
    (htail : fld (s.dcsr (shedBase 0 + 0x610)) 31 0 = (s.ljHead + 1) % 2 ^ 32) (n : Nat) :
    s.takeJobs (n + 1) = { s with jobs := [s.ljParse s.ljHead], ljHead := (s.ljHead + 1) % 2 ^ 32 } := by
  have hgo : fld (s.dcsr (shedBase 0 + 0x608)) 12 0 ≠ 0 ∧ s.ljHead % 2 ^ 32 ≠ fld (s.dcsr (shedBase 0 + 0x610)) 31 0 ∧ s.jobs.length < 32 :=
    ⟨hsize, by omega, by rw [hjobs]; decide⟩
  rw [State.takeJobs, if_pos hgo, State.takeJobs_level, hjobs, List.nil_append]
  exact (Nat.mod_mod _ _).trans htail.symm

/-- A tail write that makes one entry available takes it. -/
theorem exec_ljTailWrite_takes {v : Word} {p : Priv} (h : soundMemory s) (hp : p ≠ .task) (hjobs : s.jobs = []) (hsize : fld (s.dcsr (shedBase 0 + 0x608)) 12 0 ≠ 0)
    (hv : fld v 31 0 = (s.ljHead + 1) % 2 ^ 32) (hend : s.ljEntry s.ljHead + 64 ≤ s.memBytes) (hcsr : Map.wf devReset s.csr = true)
    (hentry : s.copyEntry s.ljHead) : ∃ t, exec (.ljTailWrite p v) s = .next t ∧ t.resp = { status := St.ok } ∧ t.ljHead = (s.ljHead + 1) % 2 ^ 32 ∧ t.mem = s.mem ∧
      t.jobs = [{ idx := s.ljHead, op := s.ljWord s.ljHead 0 % 256, la := s.ljWord s.ljHead 1, pa := s.ljWord s.ljHead 2, units := s.ljWord s.ljHead 3 }] := by
  obtain ⟨u, hu⟩ : ∃ u, u = s.setDcsr (shedBase 0 + 0x610) (place 31 0 (fld v 31 0)) := ⟨_, rfl⟩
  have htail : fld (u.dcsr (shedBase 0 + 0x610)) 31 0 = (s.ljHead + 1) % 2 ^ 32 := by
    rw [hu, State.dcsr_setDcsr_self hcsr, fld_place_self (by decide), hv, Nat.mod_mod]
  have hother : ∀ o, o ≠ shedBase 0 + 0x610 → u.dcsr o = s.dcsr o := fun o ho => hu ▸ State.dcsr_setDcsr_of_ne _ ho
  have hat : u.ljEntry s.ljHead = s.ljEntry s.ljHead := by
    rw [State.ljEntry, State.ljEntry, hother _ (by decide), hother _ (by decide)]
  have hword : u.ljWord s.ljHead = s.ljWord s.ljHead := by
    funext k
    rw [State.ljWord, State.ljWord, hat, hu]
    rfl
  have hu' : u.jobs = [] ∧ u.ljHead = s.ljHead ∧ u.memBytes = s.memBytes ∧ u.mem = s.mem ∧ soundMemory u := by
    subst hu
    exact ⟨hjobs, rfl, rfl, rfl, soundMemory_of h h.1 rfl rfl⟩
  obtain ⟨hujobs, huhead, hubytes, humem, husound⟩ := hu'
  have hparse := State.ljParse_sound husound (idx := s.ljHead) (by rw [hat, hubytes]; exact hend) (by rw [State.copyEntry, hword]; exact hentry)
  have hrun := State.takeJobs_one hujobs (by rw [hother _ (by decide)]; exact hsize) (huhead ▸ htail) 31
  rw [huhead, hparse, hword] at hrun
  have hexec : exec (.ljTailWrite p v) s = .next ((u.takeJobs 32).respond St.ok) := by
    show execLjTailWrite p v s = _
    rw [execLjTailWrite, State.ljTail, if_neg hp, hu]
  rw [hrun] at hexec
  exact ⟨_, hexec, rfl, rfl, humem, rfl⟩

/-! ### The jobs (R316) -/

section
variable (hjob : oneJob s j 1)
include hjob

theorem exec_loftWrite_writes {wp : Nat} (h : soundMemory s) (hwp : (s.seg (j.la / 2 ^ 30)).wptr = some wp) (hat : wp = j.la % 2 ^ 30 / 65536) (hunit : j.la % 65536 = 0)
    (hpos : 0 < j.units) (hseg : wp + j.units ≤ 16384) (hend : j.pa + j.units * 65536 ≤ s.memBytes) :
    exec (.loftWrite j.idx none) s = .next (jobRan (s.programmed j.la (s.memRead j.pa (j.units * 65536)) j.units) j St.ok) := by
  obtain ⟨n, hn⟩ := Nat.exists_eq_add_of_lt hpos
  rw [Nat.zero_add] at hn
  have hroom : j.la % 2 ^ 30 + (n + 1) * 65536 ≤ 2 ^ 30 := by omega
  have hlast : j.pa + (n + 1) * 65536 ≤ s.memBytes := by rwa [hn] at hend
  have hprog := State.program_sound n s j.pa j.la h hunit hroom hlast
  rw [← hn] at hprog
  have hplace : ¬ (wp ≠ j.la % 2 ^ 30 / 65536 ∨ 16384 < wp + j.units) := by omega
  show execLoftWrite j.idx none s = _
  simp only [execLoftWrite, State.jobReady_oneJob hjob, hwp, if_neg hplace, hprog, if_true]
  rw [State.jobEnd_oneJob]
  exact hjob.1

theorem exec_loftWrite_misplaced (hwp : (s.seg (j.la / 2 ^ 30)).wptr ≠ some (j.la % 2 ^ 30 / 65536)) :
    exec (.loftWrite j.idx none) s = .next (jobRan s j St.loftSegState) := by
  show execLoftWrite j.idx none s = _
  simp only [execLoftWrite, State.jobReady_oneJob hjob]
  cases hw : (s.seg (j.la / 2 ^ 30)).wptr with
  | none => exact congrArg _ (State.jobEnd_oneJob hjob.1 _)
  | some wp =>
    have hne : wp ≠ j.la % 2 ^ 30 / 65536 := fun he => hwp (he ▸ hw)
    dsimp only
    rw [if_pos (.inl hne), State.jobEnd_oneJob hjob.1]

theorem exec_loftWrite_retires {wp f : Nat} (hwp : (s.seg (j.la / 2 ^ 30)).wptr = some wp) (hat : wp = j.la % 2 ^ 30 / 65536) (hseg : wp + j.units ≤ 16384)
    (hnone : (s.loftChan f).reserve = 0) : exec (.loftWrite j.idx (some f)) s = .next (jobRan ((s.setLoftChan f { s.loftChan f with
      state := max (s.loftChan f).state 1 }).setSeg (j.la / 2 ^ 30) .retired) j St.loftReserveOut) := by
  have hplace : ¬ (wp ≠ j.la % 2 ^ 30 / 65536 ∨ 16384 < wp + j.units) := by omega
  show execLoftWrite j.idx (some f) s = _
  simp only [execLoftWrite, State.jobReady_oneJob hjob, hwp, if_neg hplace, State.reserve, hnone, if_true, Bool.false_eq_true, if_false]
  rw [State.jobEnd_oneJob]
  exact hjob.1

end

theorem exec_loftJobRead_reads (h : soundMemory s) (hjob : oneJob s j 2) (hok : ∀ i < j.units, s.loftFault (j.la + i * 65536) = St.ok)
    (hend : j.pa + j.units * 65536 ≤ s.memBytes) : ∃ t, exec (.loftJobRead j.idx) s = .next t ∧
      t.mem = writeBytes s.mem j.pa (readBytes s.loft j.la (j.units * 65536)) ∧ t.jobs = [{ j with res := some St.ok }] ∧ t.loft = s.loft := by
  have hexec : exec (.loftJobRead j.idx) s = .next (jobRan (s.stored j.pa (readBytes s.loft j.la (j.units * 65536))) j St.ok).rearm := by
    show execLoftJobRead j.idx s = _
    simp only [execLoftJobRead, State.jobReady_oneJob hjob, State.copyOut_sound j.units s j.la j.pa h hok hend]
    rw [State.jobEnd_oneJob]
    exact hjob.1
  exact ⟨_, hexec, rfl, rfl, rfl⟩

theorem exec_loftErase_erases (hjob : oneJob s j 3) (herased : s.seg (j.la / 2 ^ 30) ≠ .erased) (hretired : s.seg (j.la / 2 ^ 30) ≠ .retired) :
    exec (.loftErase j.idx) s = .next (jobRan { s.setSeg (j.la / 2 ^ 30) .erased with loft := s.loft.filter (fun p => decide (p.1 / 2 ^ 30 ≠ j.la / 2 ^ 30)) } j St.ok) := by
  show execLoftErase j.idx s = _
  simp only [execLoftErase, State.jobReady_oneJob hjob]
  rw [← State.jobEnd_oneJob (t := { s.setSeg (j.la / 2 ^ 30) .erased with loft := s.loft.filter (fun p => decide (p.1 / 2 ^ 30 ≠ j.la / 2 ^ 30)) }) hjob.1]

theorem exec_loftErase_refused (hjob : oneJob s j 3) (hseg : s.seg (j.la / 2 ^ 30) = .erased ∨ s.seg (j.la / 2 ^ 30) = .retired) :
    exec (.loftErase j.idx) s = .next (jobRan s j St.loftSegState) := by
  show execLoftErase j.idx s = _
  rcases hseg with hseg | hseg <;> simp only [execLoftErase, State.jobReady_oneJob hjob, hseg, State.jobEnd_oneJob hjob.1]

theorem exec_loftSeal_seals {wp : Nat} (hjob : oneJob s j 4) (hseg : s.seg (j.la / 2 ^ 30) = .opn wp) :
    exec (.loftSeal j.idx) s = .next (jobRan (s.setSeg (j.la / 2 ^ 30) .sealed) j St.ok) := by
  show execLoftSeal j.idx s = _
  simp only [execLoftSeal, State.jobReady_oneJob hjob, hseg]
  rw [State.jobEnd_oneJob]
  exact hjob.1

theorem exec_loftSeal_refused (hjob : oneJob s j 4) (hseg : ∀ wp, s.seg (j.la / 2 ^ 30) ≠ .opn wp) :
    exec (.loftSeal j.idx) s = .next (jobRan s j St.loftSegState) := by
  show execLoftSeal j.idx s = _
  simp only [execLoftSeal, State.jobReady_oneJob hjob]
  rw [← State.jobEnd_oneJob hjob.1]

/-- A finished job's entry takes DONE and STATUS. -/
theorem exec_loftJobDone_posts {st : Status} (h : soundMemory s) (hjobs : s.jobs = [j]) (hres : j.res = some st)
    (hlevel : s.ljHead % 2 ^ 32 = fld (s.dcsr (shedBase 0 + 0x610)) 31 0) (hend : s.ljEntry j.idx + 64 ≤ s.memBytes) :
    ∃ t, exec (.loftJobDone j.idx) s = .next t ∧ t.jobs = [] ∧ t.mem = writeBytes s.mem (s.ljEntry j.idx)
      (leBytes 4 (s.memLe (s.ljEntry j.idx) 4 % 256 + 256 + bits (s.memLe (s.ljEntry j.idx) 4) 15 9 * 512 + st.toNat * 65536)) := by
  have hfind : s.jobs.find? (fun x => x.idx = j.idx) = some j := by simp [hjobs]
  have hfilter : s.jobs.filter (fun x => x.idx ≠ j.idx) = [] := by simp [hjobs]
  obtain ⟨bs, hbs⟩ : ∃ bs, leBytes 4 (s.memLe (s.ljEntry j.idx) 4 % 256 + 256 + bits (s.memLe (s.ljEntry j.idx) 4) 15 9 * 512 + st.toNat * 65536) = bs := ⟨_, rfl⟩
  have hwrite := State.devWrite_sound h (a := s.ljEntry j.idx) (bs := bs) (by rw [← hbs, length_leBytes]; omega)
  have hexec : exec (.loftJobDone j.idx) s = .next (({ s.stored (s.ljEntry j.idx) bs with jobs := [] } : State).takeJobs 32) := by
    show execLoftJobDone j.idx s = _
    simp only [execLoftJobDone, hfind, hres, hbs, hwrite]
    rw [← hfilter]
    rfl
  have hstay := State.takeJobs_level (s := { s.stored (s.ljEntry j.idx) bs with jobs := [] }) hlevel 32
  rw [hexec, hbs, hstay]
  exact ⟨_, rfl, rfl, rfl⟩

theorem loftJobs : Claims.LoftJobs := by
  intro s h
  refine ⟨?tail, fun v => rfl, ?write, fun j hjob hok hend => exec_loftJobRead_reads h hjob hok hend,
    fun j hjob => ⟨exec_loftErase_erases hjob, exec_loftErase_refused hjob⟩,
    fun j hjob => ⟨fun wp hseg => exec_loftSeal_seals hjob hseg, exec_loftSeal_refused hjob⟩,
    fun j st hjobs hres hlevel hend => exec_loftJobDone_posts h hjobs hres hlevel hend⟩
  case tail =>
    intro v p hp hjobs hsize hv _ hend hcsr a w hop h15 h63 hla hpos hmax hlast hpa hpaEnd
    exact exec_ljTailWrite_takes h hp hjobs hsize hv hend hcsr ⟨hop, h15, h63, hla, hpos, hmax, hlast, hpa, hpaEnd⟩
  case write =>
    exact fun j hjob => ⟨fun wp hwp hat hunit hpos hseg hend => by
        subst hat
        exact exec_loftWrite_writes hjob h hwp rfl hunit hpos hseg hend, exec_loftWrite_misplaced hjob,
      fun wp f hwp hat hseg hnone => exec_loftWrite_retires hjob hwp hat hseg hnone⟩

/-- Settles O29: a page that is read answers the requests in it, and a job runs alone on its segment and copies unit by unit. -/
theorem loftAccess : Obligations.LoftAccess := ⟨loftReads, loftJobs⟩

end Sys2Proof.Machine
end

section
/-! SUPPORT. Translation: what counting a miss leaves of its stall, walks under a change of the stalls, and the statement on misses, walks, leaves and
invalidation (R299 to R302). -/

namespace Sys2Proof.Machine

open Sys2Proof.Claims (answered leafEntry)

variable {s t : State} {ps id : Nat} {r : Req}

/-! ### What counting leaves of a stall -/

/-- The stalls are canonical, and stall `ps` is as it was but for its registers. -/
def State.registersAt (s : State) (ps : Nat) (t : State) : Prop :=
  Map.wf (fun _ => ({} : Stall)) t.stalls = true ∧ ∃ m, t.stall ps = { s.stall ps with csr := m }

theorem State.registersAt_setScsr (h : s.registersAt ps t) (o : Nat) (v : Word) : s.registersAt ps (t.setScsr ps o v) := by
  obtain ⟨hwf, m, hm⟩ := h
  exact ⟨Map.wf_set _ _ _ hwf, Map.set (resetOf stallRegs) (t.stall ps).csr o v, by rw [State.setScsr, State.modStall, State.stall_setStall_self hwf, hm]⟩

theorem State.registersAt_bumpStall (h : s.registersAt ps t) (o n : Nat) : s.registersAt ps (t.bumpStall ps o n) := by
  unfold State.bumpStall
  split_ifs
  · exact h
  · exact State.registersAt_setScsr h o _

theorem State.registersAt_perfAdd : ∀ (fuel : Nat) (t : State) (n k : Nat), s.registersAt ps t → s.registersAt ps (t.perfAdd ps fuel n k)
  | 0, _, _, _, h => h
  | fuel + 1, t, n, k, h => by
    have hset := State.registersAt_setScsr h (0x1C48 + n * 0x10) (place 47 0 (fld (t.scsr ps (0x1C48 + n * 0x10)) 47 0 + k))
    unfold State.perfAdd
    dsimp only
    split_ifs
    · exact hset
    · exact State.registersAt_perfAdd fuel _ _ _ hset
    · exact State.registersAt_setScsr hset _ _

theorem State.registersAt_perf (h : s.registersAt ps t) (code : Nat) (pr : Option Priv) (x a : Option Nat) (k : Nat) :
    s.registersAt ps (t.perf ps code pr x a k) := by
  unfold State.perf
  split_ifs
  · exact h
  · refine List.foldlRecOn _ _ h fun u hu n _ => ?_
    split_ifs
    · exact State.registersAt_perfAdd 8 u n k hu
    · exact hu

theorem State.bumpStall_eq (s : State) (ps o n : Nat) : ∃ m, s.bumpStall ps o n = { s with stalls := m } := by
  unfold State.bumpStall
  split_ifs
  · exact ⟨s.stalls, rfl⟩
  · exact ⟨_, rfl⟩

/-! ### What a walk looks at -/

/-- Main memory, its channels and the stored registers are the same. -/
def State.sameTables (s t : State) : Prop := t.mem = s.mem ∧ t.memUe = s.memUe ∧ t.chans = s.chans ∧ t.capLog2 = s.capLog2 ∧ t.csr = s.csr

section
variable (h : s.sameTables t)
include h

theorem State.memGood_congr : t.memGood = s.memGood := by
  obtain ⟨-, hue, hchans, -⟩ := h
  funext a n
  simp only [State.memGood, State.chanOk, State.chanOf, State.chan, hue, hchans]

theorem State.memLe_congr : t.memLe = s.memLe := by
  funext a n
  rw [State.memLe, State.memLe, h.1]

theorem State.memBytes_congr : t.memBytes = s.memBytes := by
  obtain ⟨-, -, -, hcap, -⟩ := h
  rw [State.memBytes, State.memBytes, hcap]

theorem State.dcsr_congr : t.dcsr = s.dcsr := by
  obtain ⟨-, -, -, -, hcsr⟩ := h
  funext o
  rw [State.dcsr, State.dcsr, hcsr]

theorem State.devRead_congr : t.devRead = s.devRead := by
  funext a n
  rw [State.devRead, State.devRead, State.memGood_congr h, State.memBytes_congr h, State.memRead, State.memRead, h.1]

theorem State.walkLevels_congr (va : Nat) (loft : Bool) (ue : Option Nat) : t.walkLevels va loft ue = s.walkLevels va loft ue := by
  funext l
  induction l with
  | zero => rfl
  | succ l ih =>
    funext table
    rw [State.walkLevels, State.walkLevels, State.memGood_congr h, State.memLe_congr h, State.memBytes_congr h, ih]

/-- The definition is put in as a function of the state: applied to a state, its evaluation by the kernel would go through the address of the table. -/
theorem State.walk_congr : t.walk = s.walk := by
  obtain ⟨f, hf⟩ : ∃ f, f = State.walk := ⟨_, rfl⟩
  rw [← hf]
  delta State.walk at hf
  funext task va ue
  rw [hf]
  beta_reduce
  rw [State.devRead_congr h, State.dcsr_congr h, State.memBytes_congr h, State.walkLevels_congr h]

theorem State.leafCheck_congr (v lg va : Nat) (p : Priv) (w : Bool) : t.leafCheck v lg va p w = s.leafCheck v lg va p w := by
  rw [State.leafCheck, State.leafCheck, State.memBytes_congr h]

end

/-! ### Misses and walks (R300) -/

/-- A request and its stall once the walk of its page has started. -/
def State.walkStarted (s : State) (id : Nat) (r : Req) : State :=
  (s.setReq id (some { r with phase := .walking })).modStall r.src.ps (fun t => { t with misses := t.misses ++ [(r.task, r.addr / 65536, [id])] })

theorem State.xlatWalk_starts (hmiss : s.xlate r.src.ps r.task r.addr r.priv r.op.isWrite = .miss) (hnone : (s.stall r.src.ps).misses = [])
    (hroom : s.walksTo (s.lsNum r.src.ps % 4) < 80) : s.xlatWalk id r =
      ((s.walkStarted id r).bumpStall r.src.ps 0x1800 1).perf r.src.ps 0x40 (some r.priv) none (some r.addr) 1 := by
  simp only [State.xlatWalk, hmiss, hnone, List.any_nil, Bool.false_eq_true, if_false, List.length_nil, hroom]
  rfl

theorem exec_xlatWalk_starts (hreq : s.req id = some r) (hsrc : r.src ≠ .gone) (hwf : Map.wf (fun _ => ({} : Stall)) s.stalls = true) (hphase : r.phase = .issued)
    (hwin : r.window = true) (hmiss : s.xlate r.src.ps r.task r.addr r.priv r.op.isWrite = .miss) (hnone : (s.stall r.src.ps).misses = [])
    (hroom : s.walksTo (s.lsNum r.src.ps % 4) < 80) : ∃ u, exec (.xlatWalk id) s = .next u ∧ u.req id = some { r with phase := .walking } ∧
      (u.stall r.src.ps).misses = [(r.task, r.addr / 65536, [id])] ∧ (u.stall r.src.ps).xbuf = (s.stall r.src.ps).xbuf ∧ u.mem = s.mem := by
  obtain ⟨w, hw⟩ : ∃ w, w = s.walkStarted id r := ⟨_, rfl⟩
  have hexec : exec (.xlatWalk id) s = .next ((w.bumpStall r.src.ps 0x1800 1).perf r.src.ps 0x40 (some r.priv) none (some r.addr) 1) := by
    show execXlatWalk id s = _
    simp only [execXlatWalk, hreq, if_pos (show r.phase = .issued ∧ r.window = true ∧ r.src ≠ .gone from ⟨hphase, hwin, hsrc⟩), State.xlatWalk_starts hmiss hnone hroom, hw]
  have hstart : w.stall r.src.ps = { s.stall r.src.ps with misses := [(r.task, r.addr / 65536, [id])] } := by
    rw [hw, State.walkStarted, State.modStall, State.stall_setStall_self (by exact hwf), State.stall_setReq, hnone]
    rfl
  obtain ⟨-, m, hm⟩ := State.registersAt_perf (State.registersAt_bumpStall (s := w) (ps := r.src.ps) ⟨hw ▸ Map.wf_set _ _ _ hwf, _, rfl⟩ 0x1800 1) 0x40 (some r.priv)
    none (some r.addr) 1
  obtain ⟨m', hbump⟩ := w.bumpStall_eq r.src.ps 0x1800 1
  refine ⟨_, hexec, ?_, ?_, ?_, ?_⟩
  · rw [State.req, State.perf_reqs, hbump, hw]
    exact State.req_setReq_some s id _
  · rw [hm, hstart]
  · rw [hm, hstart]
  · rw [State.perf_mem, hbump, hw]
    rfl

/-- The state once the only walk of a stall is over. -/
def State.walkOver (s : State) (ps : Nat) : State := s.modStall ps (fun t => { t with misses := [] })

/-- What the end of a walk makes of its request: a fault ends it, and a leaf that passes the checks is marked and installed. -/
def State.walkEnds (s : State) (id : Nat) (r : Req) : Walk → State
  | .fault st at_ =>
    if st = St.memWalkUe then (s.uncorrectable St.memWalkUe (at_ / 64) false false).endReq id r st else s.endReq id r st
  | .leaf at_ v lg =>
    if (s.leafCheck v lg r.addr r.priv r.op.isWrite).1 ≠ St.ok then s.endReq id r (s.leafCheck v lg r.addr r.priv r.op.isWrite).1
    else ((s.markLeaf at_ v r.op.isWrite).modStall r.src.ps (fun t => t.install (leafEntry r v lg))).setReq id (some { r with phase := .issued })

section
variable (hreq : s.req id = some r) (hmisses : (s.stall r.src.ps).misses = [(r.task, r.addr / 65536, [id])])
include hreq hmisses

/-- A walk for one request ends as the tables say. The walk stands as any function of the state here: the kernel would evaluate it. -/
theorem exec_xlatWalkComplete {w : Walk} (hwalk : s.walk r.task r.addr none = w) :
    exec (.xlatWalkComplete id none) s = .next ((s.walkOver r.src.ps).walkEnds id r w) := by
  have hover : s.modStall r.src.ps (fun t => { t with misses := t.misses.filter (fun x => x.1 ≠ r.task || x.2.1 ≠ r.addr / 65536) }) = s.walkOver r.src.ps := by
    simp only [State.walkOver, State.modStall, hmisses]
    simp
  have hsame : s.sameTables (s.walkOver r.src.ps) := ⟨rfl, rfl, rfl, rfl, rfl⟩
  obtain ⟨f, hf⟩ : ∃ f, f = State.walk := ⟨_, rfl⟩
  have hend : f (s.walkOver r.src.ps) r.task r.addr none = w := by rw [hf, State.walk_congr hsame, hwalk]
  show execXlatWalkComplete id none s = _
  unfold execXlatWalkComplete
  rw [← hf]
  simp only [hreq, hmisses, List.find?_cons, List.head?_cons, decide_true, List.tail_cons, List.foldl_nil, hover, hend]
  cases w <;> rfl

theorem exec_xlatWalkComplete_leaf (hwf : Map.wf (fun _ => ({} : Stall)) s.stalls = true) {at_ v lg pa : Nat}
    (hwalk : s.walk r.task r.addr none = .leaf at_ v lg) (hcheck : s.leafCheck v lg r.addr r.priv r.op.isWrite = (St.ok, pa)) :
    ∃ u, exec (.xlatWalkComplete id none) s = .next u ∧ u.req id = some { r with phase := .issued } ∧
      (u.stall r.src.ps).xbuf.head? = some (leafEntry r v lg) ∧
      u.mem = (if v ||| 16 ||| (if r.op.isWrite then 32 else 0) = v then s.mem
        else writeBytes s.mem at_ (leBytes 8 (v ||| 16 ||| (if r.op.isWrite then 32 else 0)))) := by
  obtain ⟨o, ho⟩ : ∃ o, o = s.walkOver r.src.ps := ⟨_, rfl⟩
  have hpass : (o.leafCheck v lg r.addr r.priv r.op.isWrite).1 = St.ok := by
    rw [ho, State.leafCheck_congr (s := s) (t := s.walkOver r.src.ps) ⟨rfl, rfl, rfl, rfl, rfl⟩, hcheck]
  have hmark : (o.markLeaf at_ v r.op.isWrite).stalls = o.stalls := by
    unfold State.markLeaf
    dsimp only
    split_ifs <;> rfl
  have hexec := exec_xlatWalkComplete hreq hmisses hwalk
  rw [← ho, State.walkEnds, if_neg (not_not_intro hpass)] at hexec
  refine ⟨_, hexec, State.req_setReq_some _ id _, ?_, ?_⟩
  · rw [State.stall_setReq, State.modStall, State.stall_setStall_self]
    · rfl
    · rw [hmark, ho]
      exact Map.wf_set _ _ _ hwf
  · show (o.markLeaf at_ v r.op.isWrite).mem = _
    unfold State.markLeaf
    dsimp only
    split_ifs <;> rw [ho] <;> rfl

theorem exec_xlatWalkComplete_fault (hsrc : r.src ≠ .gone) (hwf : Map.wf (fun _ => ({} : Stall)) s.stalls = true) {st : Status} {at_ : Nat}
    (hwalk : s.walk r.task r.addr none = .fault st at_) (hue : st ≠ St.memWalkUe) (hst : pagerServes st = false) :
    ∃ u, exec (.xlatWalkComplete id none) s = .next u ∧ u.mem = s.mem ∧ (u.stall r.src.ps).xbuf = (s.stall r.src.ps).xbuf ∧
      u.req id = some { r with phase := .arrived, status := st, data := [] } := by
  have hexec := exec_xlatWalkComplete hreq hmisses hwalk
  rw [State.walkEnds, if_neg hue, State.endReq_arrives hsrc hst] at hexec
  refine ⟨_, hexec, rfl, ?_, State.req_setReq_some _ id _⟩
  rw [State.stall_setReq, State.walkOver, State.modStall, State.stall_setStall_self hwf]

end

/-! ### Invalidation (R301) -/

/-- A stall without the buffer entries that an invalidation names. -/
def Stall.dropped (x : Stall) (hits : XEntry → Bool) : Stall := { x with xbuf := x.xbuf.filter fun e => !hits e }

/-- Dropping entries in a list of stalls drops them in each of its stalls, and no other part of the state changes. -/
theorem State.foldl_dropped (hits : XEntry → Bool) (l : List (Nat × Stall)) : ∀ s : State, Map.wf (fun _ => ({} : Stall)) s.stalls = true →
    ∃ m, l.foldl (fun s p => s.modStall p.1 (fun t => t.dropped hits)) s = { s with stalls := m } ∧
      ∀ ps, (Map.get (fun _ => ({} : Stall)) m ps).xbuf = if ps ∈ l.map Prod.fst then (s.stall ps).xbuf.filter (fun e => !hits e) else (s.stall ps).xbuf := by
  induction l with
  | nil => exact fun s _ => ⟨s.stalls, rfl, fun _ => rfl⟩
  | cons p l ih =>
    intro s hwf
    obtain ⟨m, hm, hxbuf⟩ := ih (s.modStall p.1 (fun t => t.dropped hits)) (Map.wf_set _ _ _ hwf)
    refine ⟨m, hm, fun ps => (hxbuf ps).trans ?_⟩
    by_cases hps : ps = p.1
    · subst hps
      rw [State.modStall, State.stall_setStall_self hwf]
      simp [Stall.dropped]
    · have hother : (s.modStall p.1 (fun t => t.dropped hits)).stall ps = s.stall ps := Map.get_set_of_ne (fun _ => ({} : Stall)) s.stalls _ hps
      simp only [hother, List.map_cons, List.mem_cons, hps, false_or]

/-- A stall that is not listed has an empty buffer. -/
theorem State.xbuf_of_unlisted (hwf : Map.wf (fun _ => ({} : Stall)) s.stalls = true) {ps : Nat} (h : ps ∉ s.stalls.map Prod.fst) : (s.stall ps).xbuf = [] := by
  by_contra hne
  have hmem : (ps, s.stall ps) ∈ s.stalls := (Map.mem_iff_get hwf).mpr ⟨rfl, fun he => hne (congrArg Stall.xbuf he)⟩
  exact h (List.mem_map_of_mem hmem)

/-- An invalidation drops every buffer entry that it names, and changes nothing else but the stalls. -/
theorem State.xinvStart_eq (hwf : Map.wf (fun _ => ({} : Stall)) s.stalls = true) (scope task va pages : Nat) :
    ∃ m x, s.xinvStart scope task va pages = { s with stalls := m, xinv := some x } ∧ ∀ ps, (Map.get (fun _ => ({} : Stall)) m ps).xbuf =
      (s.stall ps).xbuf.filter fun e => !xinvHits scope task va pages e.task e.va e.lg := by
  obtain ⟨m, hm, hxbuf⟩ := State.foldl_dropped (fun e => xinvHits scope task va pages e.task e.va e.lg) s.stalls s hwf
  obtain ⟨x, hx⟩ : ∃ x, s.xinvStart scope task va pages = { s.stalls.foldl (fun s p => s.modStall p.1
      (fun t => t.dropped fun e => xinvHits scope task va pages e.task e.va e.lg)) s with xinv := some x } := ⟨_, rfl⟩
  refine ⟨m, x, by rw [hx, hm], fun ps => (hxbuf ps).trans ?_⟩
  split_ifs with hin
  · rfl
  · rw [State.xbuf_of_unlisted hwf hin, List.filter_nil]

section
variable {n : Nat} {v : Word} {p : Priv} (hp : p ≠ .task)
include hp

theorem exec_xinvStart_badParam (h : fld v 1 0 = 3 ∨ (fld v 1 0 = 2 ∧ fld v 63 32 = 0)) :
    exec (.xinvStart p n v) s = .next (answered s St.badParam 0 []) := by
  show execXinvStart p n v s = _
  rw [execXinvStart, State.xinvWrite, if_neg hp, if_pos h]
  rfl

variable (hscope : fld v 1 0 ≠ 3) (hpages : fld v 1 0 = 2 → fld v 63 32 ≠ 0)
include hscope hpages

theorem exec_xinvStart_busy (hbusy : s.xinv ≠ none) : exec (.xinvStart p n v) s = .next (answered s St.memXinvBusy 0 []) := by
  show execXinvStart p n v s = _
  rw [execXinvStart, State.xinvWrite, if_neg hp, if_neg (not_or_intro hscope fun h => hpages h.1 h.2), if_pos (Option.isSome_iff_ne_none.mpr hbusy)]
  rfl

theorem exec_xinvStart_drops (hwf : Map.wf (fun _ => ({} : Stall)) s.stalls = true) (hfree : s.xinv = none) : ∃ u, exec (.xinvStart p n v) s = .next u ∧
    u.resp = { status := St.ok } ∧ u.xinv.isSome = true ∧ u.mem = s.mem ∧ ∀ ps, (u.stall ps).xbuf = (s.stall ps).xbuf.filter
      (fun e => !xinvHits (fld v 1 0) (fld v 31 16) (fld (s.dcsr (shedBase 0 + 0x18)) 48 16 * 65536) (fld v 63 32) e.task e.va e.lg) := by
  obtain ⟨m, x, hm, hxbuf⟩ := State.xinvStart_eq hwf (fld v 1 0) (fld v 31 16) (fld (s.dcsr (shedBase 0 + 0x18)) 48 16 * 65536) (fld v 63 32)
  have hexec : exec (.xinvStart p n v) s = .next (answered { s with stalls := m, xinv := some x } St.ok 0 []) := by
    show execXinvStart p n v s = _
    rw [execXinvStart, State.xinvWrite, if_neg hp, if_neg (not_or_intro hscope fun h => hpages h.1 h.2), hfree, hm]
    rfl
  exact ⟨_, hexec, rfl, rfl, rfl, hxbuf⟩

end

theorem exec_xinvComplete_clears {x : Xinv} (hx : s.xinv = some x) (hdone : ∀ i ∈ x.waits, ∀ q, s.req i = some q → q.live = false) :
    exec .xinvComplete s = .next { s with xinv := none } := by
  have hall : x.waits.all (fun i => match s.req i with | some r => !r.live | none => true) = true := by
    refine List.all_eq_true.mpr fun i hi => ?_
    cases hreq : s.req i with
    | none => rfl
    | some q => exact congrArg not (hdone i hi q hreq)
  show execXinvComplete s = _
  rw [execXinvComplete, State.xinvSettle, hx]
  exact congrArg Host.Outcome.next (if_pos hall)

/-- Settles O26: a miss waits in its stall for a walk, the leaf comes back marked and installed, and an invalidation empties every buffer of its scope. -/
theorem translationAndInvalidation : Obligations.TranslationAndInvalidation := by
  intro s id r hreq hsrc hwf
  refine ⟨⟨?miss, ?walk⟩, ?invalidation, fun x hx hdone => exec_xinvComplete_clears hx hdone⟩
  case miss => exact fun hphase hwin hmiss hnone hroom => exec_xlatWalk_starts hreq hsrc hwf hphase hwin hmiss hnone hroom
  case walk =>
    exact fun _ hmisses => ⟨fun at_ v lg pa hwalk hcheck => exec_xlatWalkComplete_leaf hreq hmisses hwf hwalk hcheck,
      fun st at_ hwalk hue hst => exec_xlatWalkComplete_fault hreq hmisses hsrc hwf hwalk hue hst⟩
  case invalidation =>
    exact fun n v p hp => ⟨exec_xinvStart_badParam hp, exec_xinvStart_busy hp, fun hscope hpages hfree => exec_xinvStart_drops hp hscope hpages hwf hfree⟩

end Sys2Proof.Machine
end

section
/-! SUPPORT. The pager: frames from a tenant's pool, and the statement on faults it serves (R305, R306, R309). -/

namespace Sys2Proof.Machine

open Sys2Proof.Claims (soundMemory apart atPager poolAt)

variable {s t : State} {k at_ v fr : Nat} {f : PFault}

/-! ### Faults at hand -/

theorem State.openFault_atPager (h : atPager s k f) : s.openFault k = some f := by
  obtain ⟨hf, hserved, hk, htakeover, hmode⟩ := h
  simp [State.openFault, hf, hserved, hk, htakeover, hmode]

theorem getElem?_listMod {α : Type} (g : α → α) : ∀ (l : List α) (i : Nat), (listMod l i g)[i]? = l[i]?.map g
  | [], _ => rfl
  | _ :: _, 0 => rfl
  | _ :: l, i + 1 => getElem?_listMod g l i

/-- What a service leaves of its fault and of memory. -/
theorem State.pfaults_served (h : atPager s k f) (hf : t.pfaults = s.pfaults) (st : Status) : (t.served k st).pfaults[k]? = some { f with served := some st } := by
  rw [State.served, getElem?_listMod, hf, h.1]
  rfl

@[simp] theorem State.memLe_served (st : Status) (a n : Nat) : (s.served k st).memLe a n = s.memLe a n := rfl
@[simp] theorem State.memRead_served (st : Status) (a n : Nat) : (s.served k st).memRead a n = s.memRead a n := rfl

/-! ### The pool (R305) -/

theorem State.leNat_memRead (s : State) (a : Nat) {n i l : Nat} (h : i + l ≤ n) : leNat (((s.memRead a n).drop i).take l) = s.memLe (a + i) l :=
  congrArg leNat (take_drop_readBytes s.mem a h)

theorem State.pop_one (h : soundMemory s) (hfr : fr ≠ 0) (hend : fr + 8 ≤ s.memBytes) : s.pop fr 1 = ([fr], s.memLe fr 8, St.ok) := by
  simp only [State.pop, hfr, if_false, State.devRead_sound h hend, ne_eq, not_true_eq_false]
  rfl

/-- USED, LIMIT and FREE_TOP of a tenant's entry, as an allocation reads them. -/
def State.poolUsed (s : State) (tenant : Nat) : Nat := bits (s.memLe (s.ttEntry tenant) 8) 63 32
def State.poolLimit (s : State) (tenant : Nat) : Nat := bits (s.memLe (s.ttEntry tenant) 8) 31 0
def State.poolTop (s : State) (tenant : Nat) : Nat := bits (s.memLe (s.ttEntry tenant + 16) 8) 44 16 * 65536

section
variable {tenant top : Nat} {limit : Bool} {unserved : Status} (h : soundMemory s) (hend : s.ttEntry tenant + 32 ≤ s.memBytes)
include h hend

/-- An allocation of one frame. The reads and the pool stand as any functions of the state in its proof: the kernel would evaluate them. -/
theorem State.alloc_page : s.alloc tenant 16 limit unserved =
    if limit = true ∧ s.poolLimit tenant < s.poolUsed tenant + 1 then (St.memQuota, ⟨[], 0, 0, 0⟩)
    else if (s.pop (s.poolTop tenant) 1).2.2 ≠ St.ok then ((s.pop (s.poolTop tenant) 1).2.2, ⟨[], 0, 0, 0⟩)
    else (St.ok, ⟨(s.pop (s.poolTop tenant) 1).1, (s.pop (s.poolTop tenant) 1).2.1,
      (s.pop (s.poolTop tenant) 1).1.foldl min ((s.pop (s.poolTop tenant) 1).1.headD 0), s.poolUsed tenant + 1⟩) := by
  have hread := State.devRead_sound h hend
  have hw0 : leNat (((s.memRead (s.ttEntry tenant) 32).drop (8 * 0)).take 8) = s.memLe (s.ttEntry tenant) 8 := by
    rw [State.leNat_memRead s _ (by decide), Nat.mul_zero, Nat.add_zero]
  have hw2 : leNat (((s.memRead (s.ttEntry tenant) 32).drop (8 * 2)).take 8) = s.memLe (s.ttEntry tenant + 16) 8 := by
    rw [State.leNat_memRead s _ (by decide)]
  unfold State.alloc State.poolLimit State.poolUsed State.poolTop
  generalize State.devRead = rd at *
  generalize State.pop = pp at *
  generalize s.memRead (s.ttEntry tenant) 32 = bs at *
  rw [hread]
  simp only [hw0, hw2, ne_eq, not_true_eq_false, if_false, if_true]
  simp

/-- Within LIMIT the pool decides. -/
theorem State.alloc_frame (hlimit : limit = true → s.poolUsed tenant + 1 ≤ s.poolLimit tenant) (hpop : s.pop (s.poolTop tenant) 1 = ([fr], top, St.ok)) :
    s.alloc tenant 16 limit unserved = (St.ok, ⟨[fr], top, fr, s.poolUsed tenant + 1⟩) := by
  rw [State.alloc_page h hend, if_neg fun hl => Nat.not_lt.mpr (hlimit hl.1) hl.2, hpop]
  simp

/-- With LIMIT reached, or without a free frame, there is none. -/
theorem State.alloc_quota (hnone : limit = true ∧ s.poolLimit tenant < s.poolUsed tenant + 1 ∨ s.poolTop tenant = 0) :
    (s.alloc tenant 16 limit unserved).1 = St.memQuota := by
  rw [State.alloc_page h hend]
  split_ifs with hover hpop
  · rfl
  · rw [hnone.resolve_left hover]
    rfl
  · rw [hnone.resolve_left hover] at hpop
    exact absurd (show St.memQuota = St.ok from not_not.mp hpop) (by decide)

end

end Sys2Proof.Machine
end

section
/-! SUPPORT. The pager puts a page into its frame: memory after a service, and the two services that map one (R306, R309). -/

namespace Sys2Proof.Machine

open Sys2Proof.Claims (soundMemory apart atPager poolAt)

variable {s t : State} {k at_ v fr : Nat} {f : PFault}

/-! ### A page is placed (R306, R309) -/

/-- Memory after a service: the frame's bytes, the leaf, and the tenant's USED and FREE_TOP at its entry `e`. -/
def State.pagePlaced (s : State) (e fr at_ leaf used top : Nat) (data : List Byte) : State :=
  (((s.stored fr data).stored at_ (leBytes 8 leaf)).stored (e + 4) (leBytes 4 used)).stored (e + 16) (leBytes 8 top)

section
variable {tenant : Nat} (h : soundMemory s) (hentry : s.ttEntry tenant + 32 ≤ s.memBytes)
include h hentry

/-- The tenant's entry takes USED and FREE_TOP. The definition is put in as a function of the state, and its writes stand as any function: the kernel
would evaluate them. -/
theorem State.setPool_sound (used top : Nat) : s.setPool tenant used top =
    (s.stored (s.ttEntry tenant + 4) (leBytes 4 used)).stored (s.ttEntry tenant + 16) (leBytes 8 (top / 65536 * 65536)) := by
  have w1 := State.devWrite_sound h (a := s.ttEntry tenant + 4) (bs := leBytes 4 used) (by rw [length_leBytes]; omega)
  have w2 := State.devWrite_sound (soundMemory_stored h (s.ttEntry tenant + 4) (leBytes 4 used)) (a := s.ttEntry tenant + 16)
    (bs := leBytes 8 (top / 65536 * 65536)) (by rw [length_leBytes, State.memBytes_stored]; omega)
  obtain ⟨pool, hpool⟩ : ∃ pool, pool = State.setPool := ⟨_, rfl⟩
  obtain ⟨dw, hdw⟩ : ∃ dw, dw = State.devWrite := ⟨_, rfl⟩
  rw [← hpool]
  delta State.setPool at hpool
  rw [← hdw] at w1 w2 hpool
  rw [hpool]
  beta_reduce
  dsimp only
  rw [w1]
  dsimp only
  rw [w2]

theorem State.pagerPlace_sound {leaf top used : Nat} {data : List Byte} (hdata : fr + data.length ≤ s.memBytes) (hleaf : at_ + 8 ≤ s.memBytes) :
    s.pagerPlace tenant ⟨[fr], top, fr, used⟩ at_ leaf data = (s.pagePlaced (s.ttEntry tenant) fr at_ leaf used (top / 65536 * 65536) data, St.ok) := by
  have h1 := soundMemory_stored h fr data
  have w1 := State.devWrite_sound h hdata
  have w2 := State.devWrite_sound h1 (a := at_) (bs := leBytes 8 leaf) (by rwa [length_leBytes, State.memBytes_stored])
  have hat : ((s.stored fr data).stored at_ (leBytes 8 leaf)).ttEntry tenant = s.ttEntry tenant := by
    rw [State.ttEntry, State.ttEntry, State.dcsr_stored, State.dcsr_stored]
  have w3 := State.setPool_sound (tenant := tenant) (soundMemory_stored h1 at_ (leBytes 8 leaf)) (by simpa only [hat, State.memBytes_stored] using hentry) used top
  rw [hat] at w3
  obtain ⟨dw, hdw⟩ : ∃ dw, dw = State.devWrite := ⟨_, rfl⟩
  unfold State.pagerPlace State.pagePlaced
  rw [← hdw] at w1 w2 ⊢
  dsimp only
  rw [w1]
  dsimp only
  rw [if_neg (not_not_intro rfl), w2]
  dsimp only
  rw [if_neg (not_not_intro rfl), w3]

end

section
variable {e leaf used top : Nat} {data : List Byte} (h : soundMemory s) (hlen : data.length = 65536) (hef : apart e 32 fr 65536) (haf : apart at_ 8 fr 65536)
  (hea : apart e 32 at_ 8)
include h hlen hef haf hea

/-- What a placed page reads as: its leaf, its bytes, and the tenant's entry. -/
theorem State.reads_pagePlaced (hleaf : leaf < 2 ^ 64) (hused : used < 2 ^ 32) (htop : top < 2 ^ 64) : (s.pagePlaced e fr at_ leaf used top data).memLe at_ 8 = leaf ∧
    (s.pagePlaced e fr at_ leaf used top data).memRead fr 65536 = data ∧ (s.pagePlaced e fr at_ leaf used top data).memLe e 4 = s.memLe e 4 ∧
    (s.pagePlaced e fr at_ leaf used top data).memLe (e + 4) 4 = used ∧ (s.pagePlaced e fr at_ leaf used top data).memLe (e + 16) 8 = top := by
  have h0 := h.1
  have h1 := (soundMemory_stored h fr data).1
  have h2 := (soundMemory_stored (soundMemory_stored h fr data) at_ (leBytes 8 leaf)).1
  have h3 := (soundMemory_stored (soundMemory_stored (soundMemory_stored h fr data) at_ (leBytes 8 leaf)) (e + 4) (leBytes 4 used)).1
  unfold apart at hef haf hea
  have hdata : (s.stored fr data).memRead fr 65536 = data := by
    rw [← hlen]
    exact readBytes_writeBytes data s.mem fr h0
  unfold State.pagePlaced
  refine ⟨?_, ?_, ?_, ?_, ?_⟩
  · rw [State.memLe_stored_of_apart h3 (by rw [length_leBytes]; omega), State.memLe_stored_of_apart h2 (by rw [length_leBytes]; omega),
      State.memLe_stored_self h1 at_ hleaf]
  · rw [State.memRead_stored_of_apart h3 (by rw [length_leBytes]; omega), State.memRead_stored_of_apart h2 (by rw [length_leBytes]; omega),
      State.memRead_stored_of_apart h1 (by rw [length_leBytes]; omega), hdata]
  · rw [State.memLe_stored_of_apart h3 (by rw [length_leBytes]; omega), State.memLe_stored_of_apart h2 (by rw [length_leBytes]; omega),
      State.memLe_stored_of_apart h1 (by rw [length_leBytes]; omega), State.memLe_stored_of_apart h0 (by rw [hlen]; omega)]
  · rw [State.memLe_stored_of_apart h3 (by rw [length_leBytes]; omega), State.memLe_stored_self h2 _ hused]
  · exact State.memLe_stored_self h3 _ htop

end

/-! ### The two services -/

theorem exec_pagerDemandAlloc_maps (hat : atPager s k f) (hwalk : s.walk f.task f.va none = .leaf at_ v 16) (htier : bits v 7 6 = 2) (hst : f.status = St.memDemand)
    {a : Alloc} (halloc : s.alloc f.tenant 16 true St.memDemand = (St.ok, a)) {data : List Byte} (hdata : List.replicate (2 ^ 16) 0 = data)
    (hplace : s.pagerPlace f.tenant a at_ (leafWith v 0 a.base) data = (t, St.ok)) : exec (.pagerDemandAlloc k) s = .next (t.served k St.ok) := by
  have hgo : ¬ (bits v 7 6 ≠ 2 ∨ f.status ≠ St.memDemand) := by simp [htier, hst]
  show execPagerDemandAlloc k s = _
  unfold execPagerDemandAlloc
  obtain ⟨wk, hwk⟩ : ∃ wk, wk = State.walk := ⟨_, rfl⟩
  obtain ⟨al, hal⟩ : ∃ al, al = State.alloc := ⟨_, rfl⟩
  rw [← hwk] at hwalk ⊢
  rw [← hal] at halloc ⊢
  obtain ⟨pl, hpl⟩ : ∃ pl, pl = State.pagerPlace := ⟨_, rfl⟩
  rw [← hpl] at hplace ⊢
  rw [State.openFault_atPager hat]
  dsimp only
  rw [hwalk]
  dsimp only
  rw [if_neg hgo, halloc]
  dsimp only
  rw [if_neg (not_not_intro rfl), hdata, hplace]

theorem exec_pagerDemandAlloc_left (hat : atPager s k f) (hwalk : s.walk f.task f.va none = .leaf at_ v 16) (htier : bits v 7 6 = 2) (hst : f.status = St.memDemand)
    {st : Status} (halloc : (s.alloc f.tenant 16 true St.memDemand).1 = st) (hne : st ≠ St.ok) : exec (.pagerDemandAlloc k) s = .next (s.served k st) := by
  have hgo : ¬ (bits v 7 6 ≠ 2 ∨ f.status ≠ St.memDemand) := by simp [htier, hst]
  obtain ⟨⟨x, a⟩, hx⟩ : ∃ x, s.alloc f.tenant 16 true St.memDemand = x := ⟨_, rfl⟩
  rw [hx] at halloc
  obtain rfl : x = st := halloc
  show execPagerDemandAlloc k s = _
  unfold execPagerDemandAlloc
  obtain ⟨wk, hwk⟩ : ∃ wk, wk = State.walk := ⟨_, rfl⟩
  obtain ⟨al, hal⟩ : ∃ al, al = State.alloc := ⟨_, rfl⟩
  rw [← hwk] at hwalk ⊢
  rw [← hal] at hx ⊢
  rw [State.openFault_atPager hat]
  dsimp only
  rw [hwalk]
  dsimp only
  rw [if_neg hgo, hx]
  dsimp only
  rw [if_pos hne]

/-- The leaf of a recalled page: A set and D clear. -/
def recalledLeaf (n : Nat) : Nat := n - bits n 5 5 * 32 - bits n 4 4 * 16 + 16

theorem State.loftPage_one {la : Nat} (hok : s.loftFault la = St.ok) : s.loftPage la (2 ^ 16 / 65536) = (St.ok, readBytes s.loft la 65536) := by
  rw [show 2 ^ 16 / 65536 = 0 + 1 from rfl, State.loftPage, hok, State.loftPage, if_neg (not_not_intro rfl)]
  exact congrArg (Prod.mk St.ok) (List.append_nil _)

theorem exec_pagerRecall_maps (hat : atPager s k f) (hwalk : s.walk f.task f.va none = .leaf at_ v 16) (htier : bits v 7 6 = 1) (hst : f.status = St.memEvicted)
    {a : Alloc} (halloc : s.alloc f.tenant 16 false St.memEvicted = (St.ok, a)) {data : List Byte}
    (hloft : s.loftPage (bits v 63 16 * 65536) (2 ^ 16 / 65536) = (St.ok, data))
    (hplace : s.pagerPlace f.tenant a at_ (recalledLeaf (leafWith v 0 a.base)) data = (t, St.ok)) : exec (.pagerRecall k) s = .next (t.served k St.ok) := by
  have hgo : ¬ (bits v 7 6 ≠ 1 ∨ f.status ≠ St.memEvicted) := by simp [htier, hst]
  show execPagerRecall k s = _
  unfold execPagerRecall
  obtain ⟨wk, hwk⟩ : ∃ wk, wk = State.walk := ⟨_, rfl⟩
  obtain ⟨al, hal⟩ : ∃ al, al = State.alloc := ⟨_, rfl⟩
  obtain ⟨pl, hpl⟩ : ∃ pl, pl = State.pagerPlace := ⟨_, rfl⟩
  obtain ⟨lp, hlp⟩ : ∃ lp, lp = State.loftPage := ⟨_, rfl⟩
  rw [← hwk] at hwalk ⊢
  rw [← hal] at halloc ⊢
  rw [← hpl] at hplace ⊢
  rw [← hlp] at hloft ⊢
  unfold recalledLeaf at hplace
  rw [State.openFault_atPager hat]
  dsimp only
  rw [hwalk]
  dsimp only
  rw [if_neg hgo, halloc]
  dsimp only
  rw [if_neg (not_not_intro rfl), hloft]
  dsimp only
  rw [if_neg (not_not_intro rfl), hplace]

theorem exec_pagerRecall_left (hat : atPager s k f) (hwalk : s.walk f.task f.va none = .leaf at_ v 16) (htier : bits v 7 6 = 1) (hst : f.status = St.memEvicted)
    {st : Status} (halloc : (s.alloc f.tenant 16 false St.memEvicted).1 = st) (hne : st ≠ St.ok) : exec (.pagerRecall k) s = .next (s.served k st) := by
  have hgo : ¬ (bits v 7 6 ≠ 1 ∨ f.status ≠ St.memEvicted) := by simp [htier, hst]
  obtain ⟨⟨x, a⟩, hx⟩ : ∃ x, s.alloc f.tenant 16 false St.memEvicted = x := ⟨_, rfl⟩
  rw [hx] at halloc
  obtain rfl : x = st := halloc
  show execPagerRecall k s = _
  unfold execPagerRecall
  obtain ⟨wk, hwk⟩ : ∃ wk, wk = State.walk := ⟨_, rfl⟩
  obtain ⟨al, hal⟩ : ∃ al, al = State.alloc := ⟨_, rfl⟩
  obtain ⟨pl, hpl⟩ : ∃ pl, pl = State.pagerPlace := ⟨_, rfl⟩
  obtain ⟨lp, hlp⟩ : ∃ lp, lp = State.loftPage := ⟨_, rfl⟩
  rw [← hwk] at hwalk ⊢
  rw [← hal] at hx ⊢
  rw [← hpl, ← hlp, State.openFault_atPager hat]
  dsimp only
  rw [hwalk]
  dsimp only
  rw [if_neg hgo, hx]
  dsimp only
  rw [if_pos hne]

/-! ### The statement on faults served -/

theorem leafWith_frame (v : Nat) {fr n : Nat} (hfr : n * 65536 = fr) : leafWith v 0 fr = v % 64 + bits v 15 8 * 256 + fr := by
  unfold leafWith
  omega

theorem recalledLeaf_leafWith (v : Nat) {fr n : Nat} (hfr : n * 65536 = fr) : recalledLeaf (leafWith v 0 fr) = v % 16 + 16 + bits v 15 8 * 256 + fr := by
  have hb := bits_lt v 15 8
  rw [leafWith_frame v hfr, recalledLeaf, bits_eq_div_mod _ 5, bits_eq_div_mod _ 4]
  norm_num at hb ⊢
  omega

@[simp] theorem State.pfaults_pagePlaced (s : State) (e fr at_ leaf used top : Nat) (data : List Byte) :
    (s.pagePlaced e fr at_ leaf used top data).pfaults = s.pfaults := rfl

/-- What a page that has been placed means for its fault, its leaf and the pool. -/
theorem served_pagePlaced {leaf : Nat} {data : List Byte} (hat : atPager s k f) (h : soundMemory s) (hpool : poolAt s f at_ v fr) (hlen : data.length = 65536)
    (hleaf : leaf < 2 ^ 64) (hused : s.poolUsed f.tenant + 1 < 2 ^ 32)
    (ht : t = (s.pagePlaced (s.ttEntry f.tenant) fr at_ leaf (s.poolUsed f.tenant + 1) (s.memLe fr 8 / 65536 * 65536) data).served k St.ok) :
    t.pfaults[k]? = some { f with served := some St.ok } ∧ t.memLe at_ 8 = leaf ∧ t.memRead fr 65536 = data ∧
      bits (t.memLe (s.ttEntry f.tenant) 8) 63 32 = bits (s.memLe (s.ttEntry f.tenant) 8) 63 32 + 1 ∧
      bits (t.memLe (s.ttEntry f.tenant) 8) 31 0 = bits (s.memLe (s.ttEntry f.tenant) 8) 31 0 ∧
      t.memLe (s.ttEntry f.tenant + 16) 8 = s.memLe fr 8 / 65536 * 65536 := by
  obtain ⟨-, -, -, -, hef, haf, hea, -⟩ := hpool
  have htop : s.memLe fr 8 / 65536 * 65536 < 2 ^ 64 := lt_of_le_of_lt (Nat.div_mul_le_self _ _) (s.memLe_lt fr 8)
  obtain ⟨rleaf, rdata, rlow, rused, rtop⟩ := State.reads_pagePlaced h hlen hef haf hea hleaf hused htop
  subst ht
  refine ⟨State.pfaults_served hat (State.pfaults_pagePlaced ..) _, ?_, ?_, ?_, ?_, ?_⟩
  · rw [State.memLe_served, rleaf]
  · rw [State.memRead_served, rdata]
  · rw [State.bits_memLe_high, State.memLe_served, rused, State.poolUsed]
  · rw [State.bits_memLe_low, State.bits_memLe_low, State.memLe_served, rlow]
  · rw [State.memLe_served, rtop]

/-- The frame on top of the tenant's pool, and the frame behind it. -/
theorem State.pop_poolAt (h : soundMemory s) (hpool : poolAt s f at_ v fr) : s.pop (s.poolTop f.tenant) 1 = ([fr], s.memLe fr 8, St.ok) := by
  obtain ⟨-, -, htop, hne, -, -, -, -, hend, -⟩ := hpool
  rw [State.poolTop, htop]
  exact State.pop_one h hne (by omega)

theorem State.pagerPlace_poolAt (h : soundMemory s) (hpool : poolAt s f at_ v fr) {data : List Byte} (hlen : data.length = 65536) (leaf top used : Nat) :
    s.pagerPlace f.tenant ⟨[fr], top, fr, used⟩ at_ leaf data = (s.pagePlaced (s.ttEntry f.tenant) fr at_ leaf used (top / 65536 * 65536) data, St.ok) := by
  obtain ⟨-, -, -, -, -, -, -, hentry, hend, hleaf⟩ := hpool
  exact State.pagerPlace_sound h hentry (by rwa [hlen]) hleaf

end Sys2Proof.Machine
end

section
/-! SUPPORT. The statement on faults served. -/

namespace Sys2Proof.Machine

open Sys2Proof.Claims (soundMemory apart atPager poolAt)

/-- A leaf of low bits below 2^16 and a frame below 2^45 fits its entry. -/
theorem leaf_lt {low x n : Nat} (hlow : low < 64) : low + bits x 15 8 * 256 + bits n 44 16 * 65536 < 2 ^ 64 := by
  have hb := bits_lt x 15 8
  have hn := bits_lt n 44 16
  norm_num at hb hn ⊢
  omega

theorem State.poolLimit_lt (s : State) (tenant : Nat) : s.poolLimit tenant < 2 ^ 32 := bits_lt _ 31 0

theorem pagerServesFaults : Claims.PagerServesFaults := by
  intro s k f at_ v fr hat h
  refine ⟨fun hpool htier hst hlimit => ?alloc, fun hpool htier hst hloft hused => ?fromLoft,
    fun hwalk hend => ⟨fun htier hst hnone => ?overLimit, fun htier hst hnone => ?noFrame⟩⟩
  case alloc =>
    obtain ⟨hwalk, -, hfr, -, -, -, -, hentry, -⟩ := id hpool
    obtain ⟨data, hdata⟩ : ∃ data, List.replicate (2 ^ 16) (0 : Byte) = data := ⟨_, rfl⟩
    have hlen : data.length = 65536 := hdata ▸ List.length_replicate
    have halloc := State.alloc_frame (limit := true) (unserved := St.memDemand) h hentry (fun _ => hlimit) (State.pop_poolAt h hpool)
    have hplace := State.pagerPlace_poolAt h hpool hlen (leafWith v 0 fr) (s.memLe fr 8) (s.poolUsed f.tenant + 1)
    have hleaf : v % 64 + bits v 15 8 * 256 + fr < 2 ^ 64 := hfr ▸ leaf_lt (Nat.mod_lt v (by decide))
    refine ⟨_, exec_pagerDemandAlloc_maps hat hwalk htier hst halloc hdata hplace, ?_⟩
    rw [leafWith_frame v hfr]
    obtain ⟨hfault, hmem, hread, hpoolAfter⟩ := served_pagePlaced hat h hpool hlen hleaf (lt_of_le_of_lt hlimit (s.poolLimit_lt f.tenant)) rfl
    exact ⟨hfault, hmem, hread.trans hdata.symm, hpoolAfter⟩
  case fromLoft =>
    obtain ⟨hwalk, -, hfr, -, -, -, -, hentry, -⟩ := id hpool
    obtain ⟨data, hdata⟩ : ∃ data, readBytes s.loft (bits v 63 16 * 65536) 65536 = data := ⟨_, rfl⟩
    have hlen : data.length = 65536 := hdata ▸ length_readBytes ..
    have halloc := State.alloc_frame (limit := false) (unserved := St.memEvicted) h hentry nofun (State.pop_poolAt h hpool)
    have hplace := State.pagerPlace_poolAt h hpool hlen (recalledLeaf (leafWith v 0 fr)) (s.memLe fr 8) (s.poolUsed f.tenant + 1)
    have hleaf : v % 16 + 16 + bits v 15 8 * 256 + fr < 2 ^ 64 := hfr ▸ leaf_lt (by omega)
    refine ⟨_, exec_pagerRecall_maps hat hwalk htier hst halloc (hdata ▸ State.loftPage_one hloft) hplace, ?_⟩
    rw [recalledLeaf_leafWith v hfr]
    obtain ⟨hfault, hmem, hread, hpoolAfter⟩ := served_pagePlaced hat h hpool hlen hleaf hused rfl
    exact ⟨hfault, hmem, hread.trans hdata.symm, hpoolAfter⟩
  case overLimit =>
    have halloc := State.alloc_quota (limit := true) (unserved := St.memDemand) h hend
      (hnone.imp (And.intro rfl) fun h0 => by rw [State.poolTop, h0, Nat.zero_mul])
    exact exec_pagerDemandAlloc_left hat hwalk htier hst halloc (by decide)
  case noFrame =>
    have halloc := State.alloc_quota (limit := false) (unserved := St.memEvicted) h hend (.inr (by rw [State.poolTop, hnone, Nat.zero_mul]))
    exact exec_pagerRecall_left hat hwalk htier hst halloc (by decide)

end Sys2Proof.Machine
end

section
/-! SUPPORT. The pager ends a service and a move; the parts of a move leave the page that waits in MOVING as it is (R303, R308). -/

namespace Sys2Proof.Machine

open Sys2Proof.Claims (soundMemory apart atPager poolAt)

variable {s t u : State} {k at_ v lg : Nat} {f : PFault}

/-! ### The end of a service (R304, R306) -/

/-- A groom access whose fault the pager has finished with: issued again, or arrived with the status. -/
def Req.paged (r : Req) (st : Status) : Req :=
  if st = St.ok then { r with phase := .issued, status := St.ok } else { r with phase := .arrived, status := st, data := [] }

theorem exec_pagerServiceDone_access {id : Nat} {r : Req} {st : Status} (hf : s.pfaults[k]? = some f) (hserved : f.served = some st) (hwho : f.who = .inr id)
    (hreq : s.req id = some r) (hphase : r.phase = .paging) (hsrc : r.src ≠ .gone) :
    exec (.pagerServiceDone k) s = .next (({ s with pfaults := dropAt s.pfaults k } : State).setReq id (some (r.paged st))) := by
  have hlater : ({ s with pfaults := dropAt s.pfaults k } : State).req id = some r := hreq
  show execPagerServiceDone k s = _
  unfold execPagerServiceDone Req.paged
  rw [hf]
  dsimp only
  rw [hserved]
  dsimp only
  rw [hwho]
  dsimp only
  rw [hlater]
  dsimp only
  rw [if_neg (not_not_intro hphase), if_neg hsrc]
  split_ifs <;> rfl

/-! ### Moves (R303) -/

section
variable (hat : atPager s k f) (hst : f.status = St.memMoving) (hwalk : s.walk f.task f.va none = .leaf at_ v lg)
include hat hst hwalk

theorem exec_pagerMoveComplete_over (htier : bits v 7 6 ≠ 3) : exec (.pagerMoveComplete k) s = .next (s.served k St.ok) := by
  show execPagerMoveComplete k s = _
  unfold execPagerMoveComplete
  obtain ⟨wk, hwk⟩ : ∃ wk, wk = State.walk := ⟨_, rfl⟩
  obtain ⟨fm, hfm⟩ : ∃ fm, fm = State.finishMove := ⟨_, rfl⟩
  rw [← hwk] at hwalk ⊢
  rw [← hfm, State.openFault_atPager hat]
  dsimp only
  rw [if_neg (not_not_intro hst), hwalk]
  dsimp only
  rw [if_pos htier]

theorem exec_pagerMoveComplete_moves (hnone : s.evicting = none) (htier : bits v 7 6 = 3) (hmove : s.finishMove f.tenant at_ v lg = (u, St.ok)) :
    exec (.pagerMoveComplete k) s = .next (u.served k St.ok) := by
  show execPagerMoveComplete k s = _
  unfold execPagerMoveComplete
  obtain ⟨wk, hwk⟩ : ∃ wk, wk = State.walk := ⟨_, rfl⟩
  obtain ⟨fm, hfm⟩ : ∃ fm, fm = State.finishMove := ⟨_, rfl⟩
  rw [← hwk] at hwalk ⊢
  rw [← hfm] at hmove ⊢
  rw [State.openFault_atPager hat]
  dsimp only
  rw [if_neg (not_not_intro hst), hwalk]
  dsimp only
  rw [if_neg (not_not_intro htier), hmove, hnone]
  dsimp only
  rw [if_neg fun h => Bool.false_ne_true h.1, if_neg (not_not_intro rfl), if_neg Bool.false_ne_true]

end

/-! ### Eviction (R308) -/

theorem State.evicting_memWrite (s : State) (a : Nat) (bs : List Byte) : (s.memWrite a bs).evicting = s.evicting := rfl

theorem State.evicting_foldl {α : Type} {g : State → α → State} (hg : ∀ s x, (g s x).evicting = s.evicting) (l : List α) :
    ∀ s : State, (l.foldl g s).evicting = s.evicting := by
  induction l with
  | nil => exact fun _ => rfl
  | cons x l ih => exact fun s => (ih (g s x)).trans (hg s x)

@[simp] theorem State.evicting_devWrite (s : State) (a : Nat) (bs : List Byte) : (s.devWrite a bs).1.evicting = s.evicting := by
  unfold State.devWrite
  dsimp only
  split_ifs
  · rfl
  · rfl
  · refine State.evicting_foldl ?_ _ s
    exact fun _ _ => rfl

theorem State.evicting_invalidatePage (s : State) (task va lg : Nat) : (s.invalidatePage task va lg).evicting = s.evicting := by
  have hstart : (s.xinvStart 2 task va (2 ^ lg / 65536)).evicting = s.evicting := by
    refine State.evicting_foldl ?_ s.stalls s
    exact fun _ _ => rfl
  rw [State.invalidatePage, State.xinvSettle]
  split
  · split_ifs <;> exact hstart
  · exact hstart

theorem State.evicting_program (n : Nat) : ∀ (s : State) (pa la : Nat), (s.program pa la n).1.evicting = s.evicting := by
  induction n with
  | zero => exact fun _ _ _ => rfl
  | succ n ih =>
    intro s pa la
    obtain ⟨⟨st, bs⟩, hread⟩ : ∃ x, s.devRead pa 65536 = x := ⟨_, rfl⟩
    rw [State.program, hread]
    dsimp only
    split_ifs
    · rfl
    · exact ih _ _ _

theorem State.evicting_push : ∀ (l : List Nat) (s : State) (top : Nat), (s.push top l).1.evicting = s.evicting
  | [], _, _ => rfl
  | _ :: l, s, top => (State.evicting_devWrite _ _ _).trans (State.evicting_push l s top)

theorem State.evicting_setPool (s : State) (tenant used top : Nat) : (s.setPool tenant used top).evicting = s.evicting := by
  obtain ⟨pool, hpool⟩ : ∃ pool, pool = State.setPool := ⟨_, rfl⟩
  obtain ⟨dw, hdw⟩ : ∃ dw, dw = State.devWrite := ⟨_, rfl⟩
  have hwrite : ∀ s a bs, (dw s a bs).1.evicting = s.evicting := by rw [hdw]; exact State.evicting_devWrite
  rw [← hpool]
  delta State.setPool at hpool
  rw [← hdw] at hpool
  rw [hpool]
  exact (hwrite ..).trans (hwrite ..)

theorem State.evicting_finishMove (s : State) (tenant at_ v lg : Nat) : (s.finishMove tenant at_ v lg).1.evicting = s.evicting := by
  obtain ⟨dw, hdw⟩ : ∃ dw, dw = State.devWrite := ⟨_, rfl⟩
  obtain ⟨pg, hpg⟩ : ∃ pg, pg = State.program := ⟨_, rfl⟩
  obtain ⟨ps, hps⟩ : ∃ ps, ps = State.push := ⟨_, rfl⟩
  obtain ⟨sp, hsp⟩ : ∃ sp, sp = State.setPool := ⟨_, rfl⟩
  have h1 : ∀ s a bs, (dw s a bs).1.evicting = s.evicting := by rw [hdw]; exact State.evicting_devWrite
  have h2 : ∀ s pa la n, (pg s pa la n).1.evicting = s.evicting := by rw [hpg]; exact fun s pa la n => State.evicting_program n s pa la
  have h3 : ∀ s top l, (ps s top l).1.evicting = s.evicting := by rw [hps]; exact fun s top l => State.evicting_push l s top
  have h4 : ∀ s tenant used top, (sp s tenant used top).evicting = s.evicting := by rw [hsp]; exact State.evicting_setPool
  unfold State.finishMove
  rw [← hdw, ← hpg, ← hps, ← hsp]
  dsimp only
  split_ifs
  · rfl
  · exact h2 ..
  · exact (h1 ..).trans (h2 ..)
  · exact (h4 ..).trans ((h3 ..).trans ((h1 ..).trans ((h1 ..).trans (h2 ..))))

end Sys2Proof.Machine
end

section
/-! SUPPORT. Eviction of a page (R308). -/

namespace Sys2Proof.Machine

open Sys2Proof.Claims (soundMemory apart atPager poolAt)

variable {s u : State} {tenant tk at_ v lg va : Nat}

/-- The state with a page marked MOVING and its translations dropped (R308 steps 1 and 2). -/
def State.markedMoving (s : State) (tk at_ v lg va : Nat) : State :=
  (s.devWrite at_ (leBytes 8 (leafWith v 3 (bits v 63 16 * 65536)))).1.invalidatePage tk va lg

theorem State.evicting_markedMoving (s : State) (tk at_ v lg va : Nat) : (s.markedMoving tk at_ v lg va).evicting = s.evicting :=
  (State.evicting_invalidatePage ..).trans (State.evicting_devWrite ..)

/-- USED is no longer above LOW: eviction ends. -/
theorem State.evict_enough (n : Nat) (hnone : s.evicting = none)
    (hused : bits (s.memLe (s.ttEntry tenant) 8) 63 32 ≤ bits (s.memLe (s.ttEntry tenant + 8) 8) 63 32) : s.evict tenant n = s := by
  cases n with
  | zero => rfl
  | succ n =>
    rw [State.evict, hnone]
    dsimp only
    rw [if_pos (.inr hused)]

/-- A page that waits in MOVING keeps eviction while an invalidation is busy. -/
theorem State.evict_waits (n : Nat) (hmove : s.evicting.isSome = true) (hbusy : s.xinv.isSome = true) : s.evict tenant n = s := by
  obtain ⟨m, hm⟩ := Option.isSome_iff_exists.mp hmove
  cases n with
  | zero => rfl
  | succ n =>
    rw [State.evict, hm]
    dsimp only
    rw [if_pos (.inr hbusy)]

/-- The state with a page that waits in MOVING, or with none. -/
def State.waiting (s : State) (m : Option Evict) : State := { s with evicting := m }

theorem State.evict_marks (n : Nat) (hnone : s.evicting = none) (hfree : s.xinv = none)
    (hlow : bits (s.memLe (s.ttEntry tenant + 8) 8) 63 32 < bits (s.memLe (s.ttEntry tenant) 8) 63 32)
    (hold : oldest (s.evictable tenant) = some (tk, at_, v, lg, va)) (hla : bits (s.memLe (s.ttEntry tenant + 0x18) 8) 47 0 ≠ 0)
    (hroom : bits (s.memLe (s.ttEntry tenant + 0x18) 8) 47 0 % 2 ^ 30 + 2 ^ lg ≤ 2 ^ 30) :
    s.evict tenant (n + 1) = ((s.markedMoving tk at_ v lg va).waiting (some { tenant := tenant, at_ := at_, v := v, lg := lg })).evict tenant n := by
  have hgo : ¬ (s.xinv.isSome = true ∨ bits (s.memLe (s.ttEntry tenant) 8) 63 32 ≤ bits (s.memLe (s.ttEntry tenant + 8) 8) 63 32) := by
    rw [hfree]
    exact not_or_intro Bool.false_ne_true (Nat.not_le.mpr hlow)
  rw [State.evict, hnone]
  dsimp only
  rw [if_neg hgo, hold]
  dsimp only
  rw [if_neg (not_or_intro hla (Nat.not_lt.mpr hroom)), State.markedMoving, State.waiting]

theorem State.evict_moves (n : Nat) (hfree : s.xinv = none) (hnone : s.evicting = none) (hmove : s.finishMove tenant at_ v lg = (u, St.ok)) :
    (s.waiting (some { tenant := tenant, at_ := at_, v := v, lg := lg })).evict tenant (n + 1) = u.evict tenant n := by
  have hback (m : Option Evict) : ({ s.waiting m with evicting := none } : State) = s := by
    rw [← hnone]
    rfl
  have hevicting (m : Option Evict) : (s.waiting m).evicting = m := rfl
  have hgo (m : Option Evict) : ¬ (tenant ≠ tenant ∨ (s.waiting m).xinv.isSome = true) := by
    rw [State.waiting, hfree]
    exact not_or_intro (not_not_intro rfl) Bool.false_ne_true
  rw [State.evict, hevicting]
  dsimp only
  rw [if_neg (hgo _), hback, hmove]
  dsimp only
  rw [if_pos rfl]

section
variable (hread : (s.devRead (s.ttEntry tenant) 32).1 = St.ok) (hmode : s.hostMode 0 = false) (htakeover : s.tack.takeover = false) (hstopped : s.evictStopped = [])
include hread hmode htakeover hstopped

/-- Eviction runs when a page waits in MOVING or USED is above HIGH; no tenant's eviction had stopped. -/
theorem exec_pagerEvict_runs (hwork : s.evicting.isNone = false ∨ bits (s.memLe (s.ttEntry tenant + 8) 8) 31 0 < bits (s.memLe (s.ttEntry tenant) 8) 63 32) :
    exec (.pagerEvict tenant) s = .next (s.evict tenant 32768) := by
  have hnone : (if bits (s.memLe (s.ttEntry tenant + 0x18) 8) 47 0 = 0 then s
      else { s with evictStopped := s.evictStopped.filter (· ≠ tenant) }) = s := by
    rw [hstopped, List.filter_nil, ← hstopped]
    exact ite_self s
  have hbusy : (s.evicting.isNone && decide (bits (s.memLe (s.ttEntry tenant) 8) 63 32 ≤ bits (s.memLe (s.ttEntry tenant + 8) 8) 31 0)) = false := by
    rcases hwork with hwait | hhigh
    · rw [hwait, Bool.false_and]
    · rw [decide_eq_false (Nat.not_le.mpr hhigh), Bool.and_false]
  have hgo : ¬ ((s.devRead (s.ttEntry tenant) 32).1 ≠ St.ok ∨ s.hostMode 0 = true ∨ s.tack.takeover = true ∨ (s.evicting.isNone &&
      decide (bits (s.memLe (s.ttEntry tenant) 8) 63 32 ≤ bits (s.memLe (s.ttEntry tenant + 8) 8) 31 0)) = true) := by
    rw [hread, hmode, htakeover, hbusy]
    decide
  obtain ⟨ev, hev⟩ : ∃ ev, ev = State.evict := ⟨_, rfl⟩
  obtain ⟨rd, hrd⟩ : ∃ rd, rd = State.devRead := ⟨_, rfl⟩
  show execPagerEvict tenant s = _
  unfold execPagerEvict
  rw [← hrd] at hgo ⊢
  rw [← hev]
  dsimp only
  rw [hnone, if_neg hgo]

theorem exec_pagerEvict_waits (hmove : s.evicting.isSome = true) (hbusy : s.xinv.isSome = true) : exec (.pagerEvict tenant) s = .next s := by
  obtain ⟨m, hm⟩ := Option.isSome_iff_exists.mp hmove
  rw [exec_pagerEvict_runs hread hmode htakeover hstopped (.inl (by rw [hm]; rfl)), State.evict_waits 32768 hmove hbusy]

end

theorem exec_pagerEvict_moves (h : soundMemory s) (hentry : s.ttEntry tenant + 32 ≤ s.memBytes) (hmode : s.hostMode 0 = false) (htakeover : s.tack.takeover = false)
    (hstopped : s.evictStopped = []) (hnone : s.evicting = none) (hfree : s.xinv = none)
    (hhigh : bits (s.memLe (s.ttEntry tenant + 8) 8) 31 0 < bits (s.memLe (s.ttEntry tenant) 8) 63 32)
    (hlow : bits (s.memLe (s.ttEntry tenant + 8) 8) 63 32 < bits (s.memLe (s.ttEntry tenant) 8) 63 32)
    (hold : oldest (s.evictable tenant) = some (tk, at_, v, lg, va)) (hla : bits (s.memLe (s.ttEntry tenant + 0x18) 8) 47 0 ≠ 0)
    (hroom : bits (s.memLe (s.ttEntry tenant + 0x18) 8) 47 0 % 2 ^ 30 + 2 ^ lg ≤ 2 ^ 30) (hsettled : (s.markedMoving tk at_ v lg va).xinv = none)
    (hmove : (s.markedMoving tk at_ v lg va).finishMove tenant at_ v lg = (u, St.ok))
    (hused : bits (u.memLe (u.ttEntry tenant) 8) 63 32 ≤ bits (u.memLe (u.ttEntry tenant + 8) 8) 63 32) : exec (.pagerEvict tenant) s = .next u := by
  have hread : (s.devRead (s.ttEntry tenant) 32).1 = St.ok := by rw [State.devRead_sound h hentry]
  have hmarked : (s.markedMoving tk at_ v lg va).evicting = none := (State.evicting_markedMoving ..).trans hnone
  have hdone : u.evicting = none := by
    have hkept := State.evicting_finishMove (s.markedMoving tk at_ v lg va) tenant at_ v lg
    rw [hmove] at hkept
    exact hkept.trans hmarked
  rw [exec_pagerEvict_runs hread hmode htakeover hstopped (.inr hhigh), State.evict_marks 32767 hnone hfree hlow hold hla hroom,
    State.evict_moves 32766 hsettled hmarked hmove, State.evict_enough 32766 hdone hused]

end Sys2Proof.Machine
end

section
/-! SUPPORT. The ager (R307). -/

namespace Sys2Proof.Machine

open Sys2Proof.Claims (soundMemory apart)

variable {s t : State} {tk j at_ v lg va : Nat}

/-! ### The leaves of a task -/

section
variable (h : s.sameTables t)
include h

theorem State.leaves_congr (l : Nat) : ∀ table va : Nat, t.leaves l table va = s.leaves l table va := by
  induction l with
  | zero => exact fun _ _ => rfl
  | succ l ih =>
    intro table va
    obtain ⟨⟨lo, n, lg⟩, hbits⟩ : ∃ x, levelBits (l + 1) = x := ⟨_, rfl⟩
    rw [State.leaves, State.leaves, hbits]
    simp only [State.memLe_congr h, State.memGood_congr h, ih]

theorem State.taskLeaves_congr (tk : Nat) : t.taskLeaves tk = s.taskLeaves tk := by
  simp only [State.taskLeaves, State.memLe_congr h, State.dcsr_congr h, State.leaves_congr h]

end

/-- A leaf comes with the value of its entry. -/
theorem State.memLe_of_mem_leaves (l : Nat) : ∀ (table va : Nat) (x : Nat × Nat × Nat × Nat), x ∈ s.leaves l table va → x.2.1 = s.memLe x.1 8 := by
  induction l with
  | zero => exact fun _ _ _ hx => absurd hx List.not_mem_nil
  | succ l ih =>
    intro table va x hx
    obtain ⟨⟨lo, n, lg⟩, hbits⟩ : ∃ x, levelBits (l + 1) = x := ⟨_, rfl⟩
    rw [State.leaves, hbits] at hx
    obtain ⟨i, -, hi⟩ := List.mem_flatMap.mp hx
    dsimp only at hi
    split_ifs at hi
    · exact absurd hi List.not_mem_nil
    · exact absurd hi List.not_mem_nil
    · rw [List.mem_singleton.mp hi]
    · exact ih _ _ x hi

theorem State.memLe_of_mem_taskLeaves {x : Nat × Nat × Nat × Nat} (hx : x ∈ s.taskLeaves tk) : x.2.1 = s.memLe x.1 8 := by
  rw [State.taskLeaves] at hx
  split_ifs at hx
  · exact absurd hx List.not_mem_nil
  · exact State.memLe_of_mem_leaves _ _ _ x (List.mem_filter.mp hx).1

/-- The table of address spaces; the ager walks those of its valid entries. -/
def State.astBase (s : State) : Nat := fld (s.dcsr (shedBase 0 + 8)) 44 20 * 2 ^ 20

theorem State.taskLeaves_invalid (hodd : s.memLe (s.astBase + j * 8) 8 % 2 = 0) : s.taskLeaves j = [] := by
  rw [State.taskLeaves]
  exact if_pos (.inl hodd)

/-! ### One task aged (R307) -/

def State.agedTask (s : State) (tk : Nat) : State := (s.taskLeaves tk).foldl (fun s x =>
  if bits x.2.1 7 6 = 0 then (s.devWrite x.1 (leBytes 8 (aged (s.memLe x.1 8)))).1 else s) s

theorem State.agedTask_invalid (hodd : s.memLe (s.astBase + j * 8) 8 % 2 = 0) : s.agedTask j = s := by
  rw [State.agedTask, State.taskLeaves_invalid hodd, List.foldl_nil]

theorem State.agedTask_leaf (h : soundMemory s) (hend : at_ + 8 ≤ s.memBytes) (hleaves : s.taskLeaves tk = [(at_, v, lg, va)]) (htier : bits v 7 6 = 0) :
    s.agedTask tk = s.stored at_ (leBytes 8 (aged v)) := by
  have hv : v = s.memLe at_ 8 := State.memLe_of_mem_taskLeaves (x := (at_, v, lg, va)) (by rw [hleaves]; exact List.mem_singleton_self _)
  have hwrite := State.devWrite_sound h (a := at_) (bs := leBytes 8 (aged v)) (by rwa [length_leBytes])
  rw [State.agedTask, hleaves, List.foldl_cons, List.foldl_nil, if_pos htier, ← hv, hwrite]

theorem State.foldl_agedTask_invalid {l : List Nat} (hodd : ∀ j ∈ l, s.memLe (s.astBase + j * 8) 8 % 2 = 0) : l.foldl State.agedTask s = s := by
  induction l with
  | nil => rfl
  | cons j l ih =>
    rw [List.foldl_cons, State.agedTask_invalid (hodd j List.mem_cons_self)]
    exact ih fun i hi => hodd i (List.mem_cons_of_mem j hi)

/-- With one valid task of one leaf, the ager changes that leaf alone. -/
theorem State.foldl_agedTask_leaf {n : Nat} (h : soundMemory s) (htk : tk < n) (hodd : ∀ j < n, j ≠ tk → s.memLe (s.astBase + j * 8) 8 % 2 = 0)
    (hapart : apart s.astBase (n * 8) at_ 8) (hend : at_ + 8 ≤ s.memBytes) (hleaves : s.taskLeaves tk = [(at_, v, lg, va)]) (htier : bits v 7 6 = 0) :
    (List.range n).foldl State.agedTask s = s.stored at_ (leBytes 8 (aged v)) := by
  obtain ⟨l, r, hrange⟩ := List.append_of_mem (List.mem_range.mpr htk)
  have hnodup : (l ++ tk :: r).Nodup := hrange ▸ List.nodup_range
  have hlt : ∀ j ∈ l ++ tk :: r, j < n := fun j hj => List.mem_range.mp (hrange ▸ hj)
  obtain ⟨hleft, hright⟩ : tk ∉ l ∧ tk ∉ r := by
    have hmid := List.nodup_middle.mp hnodup
    exact not_or.mp fun hmem => (List.nodup_cons.mp hmid).1 (List.mem_append.mpr hmem)
  have hbefore : ∀ j ∈ l, s.memLe (s.astBase + j * 8) 8 % 2 = 0 := fun j hj =>
    hodd j (hlt j (List.mem_append_left _ hj)) fun he => hleft (he ▸ hj)
  have hafter : ∀ j ∈ r, (s.stored at_ (leBytes 8 (aged v))).memLe (s.astBase + j * 8) 8 % 2 = 0 := by
    intro j hj
    have hjn := hlt j (List.mem_append_right _ (List.mem_cons_of_mem tk hj))
    rw [State.memLe_stored_of_apart h.1 (by unfold apart at hapart; rw [length_leBytes]; omega)]
    exact hodd j hjn fun he => hright (he ▸ hj)
  rw [hrange, List.foldl_append, State.foldl_agedTask_invalid hbefore, List.foldl_cons, State.agedTask_leaf h hend hleaves htier]
  exact State.foldl_agedTask_invalid hafter

/-! ### The pass -/

theorem exec_agerPass_runs (hmode : fld (s.dcsr (shedBase 0 + 0x30)) 7 0 ≠ 0) (hfree : s.xinv = none) :
    exec .agerPass s = .next ((List.range 65536).foldl State.agedTask (s.xinvStart 0 0 0 0)) := by
  have hgo : ¬ (fld (s.dcsr (shedBase 0 + 0x30)) 7 0 = 0 ∨ s.xinv.isSome = true) := by
    rw [hfree]
    exact not_or_intro hmode Bool.false_ne_true
  obtain ⟨tasks, htasks⟩ : ∃ tasks, tasks = List.range 65536 := ⟨_, rfl⟩
  show execAgerPass s = _
  unfold execAgerPass
  rw [if_neg hgo, ← htasks]
  rfl

theorem exec_agerPass_ages (h : soundMemory s) (hmode : fld (s.dcsr (shedBase 0 + 0x30)) 7 0 ≠ 0) (hfree : s.xinv = none) (htk : tk < 65536)
    (hwf : Map.wf (fun _ => ({} : Stall)) s.stalls = true) (hodd : ∀ j < 65536, j ≠ tk → s.memLe (s.astBase + j * 8) 8 % 2 = 0)
    (hapart : apart s.astBase 524288 at_ 8) (hend : at_ + 8 ≤ s.memBytes) (hleaves : s.taskLeaves tk = [(at_, v, lg, va)]) (htier : bits v 7 6 = 0) :
    ∃ t, exec .agerPass s = .next t ∧ t.mem = writeBytes s.mem at_ (leBytes 8 (aged v)) ∧ ∀ ps, (t.stall ps).xbuf = [] := by
  obtain ⟨m, x, hstart, hxbuf⟩ := State.xinvStart_eq hwf 0 0 0 0
  obtain ⟨u, hu⟩ : ∃ u : State, u = { s with stalls := m, xinv := some x } := ⟨_, rfl⟩
  have hsame : s.sameTables u := by
    rw [hu]
    exact ⟨rfl, rfl, rfl, rfl, rfl⟩
  have hbase : u.astBase = s.astBase := by rw [State.astBase, State.astBase, State.dcsr_congr hsame]
  have hempty (ps : Nat) : (u.stall ps).xbuf = [] := by
    have hkept := hxbuf ps
    simp only [xinvHits, Bool.not_true, List.filter_false] at hkept
    rw [hu]
    exact hkept
  have hage := State.foldl_agedTask_leaf (s := u) (tk := tk) (n := 65536) (at_ := at_) (v := v) (lg := lg) (va := va)
    (soundMemory_of h (by rw [hsame.1]; exact h.1) hsame.2.1 hsame.2.2.1) htk
    (by rw [hbase, State.memLe_congr hsame]; exact hodd) (by rw [hbase]; exact hapart) (by rwa [State.memBytes_congr hsame])
    ((State.taskLeaves_congr hsame tk).trans hleaves) htier
  refine ⟨_, exec_agerPass_runs hmode hfree, ?_⟩
  rw [hstart, ← hu, hage]
  exact ⟨by rw [State.stored, hsame.1], hempty⟩

end Sys2Proof.Machine
end

section
/-! SUPPORT. The leaf after a pass, and the statement on the pager. -/

namespace Sys2Proof.Machine

open Sys2Proof.Claims (soundMemory apart atPager)

/-! ### A leaf aged (R307) -/

theorem aged_facts (v : Nat) : bits (aged v) 4 4 = 0 ∧ bits (aged v) 15 9 = (if bits v 4 4 = 1 then 0 else min 127 (bits v 15 9 + 1)) ∧
    aged v % 16 = v % 16 ∧ aged v / 65536 = v / 65536 := by
  have hage : bits v 15 9 = v / 512 % 128 := bits_eq_div_mod v 15 9
  have hused : bits v 4 4 = v / 16 % 2 := bits_eq_div_mod v 4 4
  rw [bits_eq_div_mod (aged v) 4 4, bits_eq_div_mod (aged v) 15 9]
  norm_num
  unfold aged
  split_ifs <;> omega

theorem pagerEndsMovesAndAges : Claims.PagerEndsMovesAndAges := by
  intro s k f
  refine ⟨?access, ?stale, ?moves, ?evicts, ?ages, aged_facts⟩
  case access => exact fun _ _ _ => exec_pagerServiceDone_access
  case stale => exact fun _ _ _ => exec_pagerMoveComplete_over
  case moves => exact fun at_ v lg u hat hst hnone hwalk htier hmove => exec_pagerMoveComplete_moves hat hst hwalk hnone htier hmove
  case evicts => exact fun _ _ _ _ _ _ _ => ⟨exec_pagerEvict_moves, exec_pagerEvict_waits⟩
  case ages => exact fun _ _ _ _ _ => exec_agerPass_ages

/-- Settles O30: each service comes down to one frame of the pool and one leaf, and each end of a service, move, eviction or pass to the state it leaves. -/
theorem pager : Obligations.Pager := ⟨pagerServesFaults, pagerEndsMovesAndAges⟩

end Sys2Proof.Machine
end
